-- ==== Sys2Proof/Word.lean ====
section
/-! DEFINITION. The words of the hub: 32-bit registers (R24) and bytes. -/

namespace Sys2Proof

/-- A register (R24). -/
abbrev Word := BitVec 32

/-- A byte of a frame, of a value or of a message. -/
abbrev Byte := BitVec 8

end Sys2Proof
end

