-- ==== Sys2Proof/Syntax.lean ====
section
/-! DEFINITION. The commands of the hub: one constructor for each row of the spec's table of operations and events, and
the data they carry. -/

namespace Sys2Proof

/-- An agent identifier (R44). -/
abbrev Agent := BitVec 16

/-- A lane (R54). -/
abbrev LaneId := Fin 22

/-- A link: ring sides AE, AW, BE, BW are 0 to 3, the stitch ports to peers 1 to 3 are 4 to 6. -/
abbrev LinkId := Fin 7

/-- A port engine (R268). -/
abbrev EngineId := Fin 128

/-- A port bank. -/
abbrev BankId := Fin 8

/-- The outcome code of an access (R34, R255). -/
inductive Code where
  | ok | domainOff | absent | reservedOffset | notOwner | keyLocked | islandRefused | unsupported
  | unreachable | discarded | targetBusy | deviceError | duplicate | notReady | sideEffectRefused
  deriving DecidableEq, Repr

/-- The number of an outcome code. -/
def Code.num : Code → Nat
  | .ok => 0 | .domainOff => 1 | .absent => 2 | .reservedOffset => 3 | .notOwner => 4 | .keyLocked => 5
  | .islandRefused => 6 | .unsupported => 7 | .unreachable => 8 | .discarded => 9 | .targetBusy => 10
  | .deviceError => 11 | .duplicate => 12 | .notReady => 13 | .sideEffectRefused => 14

/-- The outcome code of a number; 0xF is reserved and reads as OK here. -/
def Code.ofNum : Nat → Code
  | 1 => .domainOff | 2 => .absent | 3 => .reservedOffset | 4 => .notOwner | 5 => .keyLocked | 6 => .islandRefused
  | 7 => .unsupported | 8 => .unreachable | 9 => .discarded | 10 => .targetBusy | 11 => .deviceError
  | 12 => .duplicate | 13 => .notReady | 14 => .sideEffectRefused | _ => .ok

/-- The three types of an access (page 0x00F, R52). -/
inductive AccessKind where
  | read | posted | nonPosted
  deriving DecidableEq, Repr


/-- What the Gleaner finds of a cell (R197 to R199): in order, orphaned, or on the free list twice or while linked. -/
inductive CellFinding where
  | inOrder | orphaned | doubled
  deriving DecidableEq, Repr
/-- How one bus transaction of a controller engine ended (R294 to R298, R304). -/
inductive BusResult where
  | ok | nak | pec | stuck
  deriving DecidableEq, Repr

/-- How a CAN attempt failed (R319, R329, R333): arbitration lost, or an error with its code (1 stuff, 2 form, 3
acknowledge, 4 bit 1, 5 bit 0, 6 CRC), its phase, whether it is a bit error in the data field, whether ISO 11898-1 exempts
it from the count, and whether transmitter delay compensation failed. -/
inductive CanFail where
  | arbitration
  | error (code : Fin 7) (dataPhase inData exempt tdc : Bool)
  deriving DecidableEq, Repr

/-- What a CAN receiver finds (R310, R325): a valid frame, or a recessive res bit of an FD frame. -/
inductive CanRx where
  | good
  | recessiveRes
  deriving DecidableEq, Repr

/-- What resets the PCIe island (R396). -/
inductive PcieReset where
  | perst | hot | flr | flrDone | linkDown
  deriving DecidableEq, Repr

/-- The base address registers of the endpoint (R393, R394). -/
inductive HostBar where
  | bar0 | bar2 | bar4
  deriving DecidableEq, Repr

/-- What ends the attachment's state (R413): a bus reset, with whether the host chirped (R412), or the loss of VBUS. -/
inductive UsbReset where
  | bus (chirps : Bool)
  | vbusLost
  deriving DecidableEq, Repr

/-- Why the inlet turns off without a fault (R438, R446). -/
inductive LossCause where
  | under | over | reverse
  deriving DecidableEq, Repr

/-- The faults of a branch fuse (R451). -/
inductive FuseCause where
  | timer | fastTrip | rampTimeout
  deriving DecidableEq, Repr

/-- A command: an operation on the hub or an event at its balls, one constructor for each row of the spec's table. -/
inductive Instr where
  /-- REGISTER_WRITE: A write to a register that has no row of its own is checked for ownership, domain, readiness and byte enables and then performed or discarded with an outcome code (R24). -/
  | registerWrite (a : Agent) (np : Bool) (p : BitVec 9) (w : BitVec 10) (be : BitVec 4) (v : Word)
  /-- READ_CLEAR: A read of an RCL register returns its value and clears it, or reloads it with the present value for extreme trackers (R27). -/
  | readClear (a : Agent) (p : BitVec 9) (w : BitVec 10)
  /-- LATCHING_LO_READ: A read of a _LO register latches the matching _HI register in the same access (R119). -/
  | latchingLoRead (a : Agent) (p : BitVec 9) (w : BitVec 10)
  /-- COUNTER_CLEAR: A CNT_CLEAR command zeroes the non-RCL counters of its page and keeps a count that falls in the same cycle (R202). -/
  | counterClear (a : Agent) (p : BitVec 9)
  /-- EVT_FORCE: A write of 1 to an EVT_FORCE bit sets the matching EVT_STATUS bit (R28). -/
  | evtForce (a : Agent) (p : BitVec 9) (v : Word)
  /-- SOFT_RESET: A write of SOFT_RESET returns the block's Kept = No registers to Factory and refuses block accesses until done (R31). -/
  | softReset (a : Agent) (p : BitVec 9)
  /-- SOFT_RESET_DONE: The block reset finishes within 10 µs and SOFT_RESET reads 0 again (R31). -/
  | softResetDone (p : BitVec 9)
  /-- POWER_REQ: A write of PAGE_CTRL.POWER_REQ in any page of a domain writes it for the whole domain and requests the domain on or off (R30). -/
  | powerReq (a : Agent) (p : BitVec 9) (on : Bool)
  /-- OWNER_CLAIM: A write of 0x0000_C1A1 takes the owner token if it is free, increments GEN and clears the grant slots (R46). -/
  | ownerClaim (a : Agent) (v : Word)
  /-- OWNER_RELEASE: A write of 0x0000_0E1E by the owner frees the token; from any other agent it is discarded with NOT_OWNER (R47). -/
  | ownerRelease (a : Agent) (v : Word)
  /-- RECLAIM_NONCE_NEW: A write of RECLAIM_CTRL.NONCE_NEW starts the production of a new reclaim nonce (R48). -/
  | reclaimNonceNew (a : Agent)
  /-- RECLAIM_NONCE_READY: The new reclaim nonce is available within 1 ms (R48). -/
  | reclaimNonceReady
  /-- RECLAIM_GO: A write of RECLAIM_CTRL.GO starts the check of RECLAIM_SIG against the owner key (R48). -/
  | reclaimGo (a : Agent)
  /-- RECLAIM_CHECK_DONE: Within 5 ms the signature check ends; a pass gives the token to the agent and sets DONE, a fail sets FAIL (R48). -/
  | reclaimCheckDone
  /-- RECLAIM_NONCE_EXPIRY: A reclaim nonce becomes invalid 10 s after it was produced (R48). -/
  | reclaimNonceExpiry
  /-- AFL_POP: A read of AFL_POP returns the oldest access fault entry, removes it and loads its address and time registers (R52). -/
  | aflPop (a : Agent)
  /-- DIE_LINK_WORD: A word crosses the die-to-die link and is checked; a failure is resent once, and a second failure raises DIE_LINK_ERROR and retrains (R6). -/
  | dieLinkWord (fails : Fin 3)
  /-- DIE_LINK_RETRAIN_DONE: The die-to-die link completes its retraining within 2 µs (R6). -/
  | dieLinkRetrainDone
  /-- KEEPALIVE_TIMEOUT: With no keep-alive word for 1 µs the power and field die detects link loss and drives every field output to its safe level within 2 µs (R7). -/
  | keepaliveTimeout
  /-- DIE_LINK_UP: When the die-to-die link comes up the power and field die starts its keep-alive watch and reports any latched DIE_LINK_LOST (R8). -/
  | dieLinkUp
  /-- CHANNEL_TRANSFER: A transaction crosses a handshake channel whole, or is refused whole (R11). -/
  | channelTransfer (p : BitVec 9) (d : Option (Fin 19))
  /-- CRYSTAL_LOCK: The AON ring oscillator locks to the 25 MHz crystal and the other islands may start (R13). -/
  | crystalLock
  /-- CRYSTAL_LOCK_TIMEOUT: Without lock 5 ms after the AON supply is valid, every island but AON stays stopped and crystal absent is reported (R13). -/
  | crystalLockTimeout
  /-- DOMAIN_SWITCH_REQUEST: A write of PD_REQ registers on- and off-requests for domains, refusing those that break R14 or R460 (R459). -/
  | domainSwitchRequest (a : Agent) (v : Word)
  /-- DOMAIN_SWITCH_START: With no switch in progress and 20 µs since the last, the hub takes up the next pending request and tests R14 (R459). -/
  | domainSwitchStart
  /-- DOMAIN_OFF_CHANNELS_IDLE: Once every channel into the island has been idle for one crossing, the island stops and its rail opens within 5 µs (R12). -/
  | domainOffChannelsIdle
  /-- DOMAIN_OFF_IDLE_TIMEOUT: A channel not idle within 10 µs refuses the switch-off, reported with reason 3 (R12). -/
  | domainOffIdleTimeout
  /-- DOMAIN_ON_DONE: An on-switch brings up rail and clock within 50 µs, clears DOMAIN_OFF and starts the restore of the domain's pages (R459). -/
  | domainOnDone
  /-- LINK_ENABLE: A write of PAGE_CTRL.ENABLE 1 of a ring side or stitch port checks R57 and R60 and starts its lanes (R105). -/
  | linkEnable (a : Agent) (k : LinkId)
  /-- LINK_DISABLE: A write of ENABLE 0 returns the link to DISABLED and its lanes to electrical idle (R105). -/
  | linkDisable (a : Agent) (k : LinkId)
  /-- SIGNAL_DETECT: Input amplitude above squelch for 100 ns moves a lane from WAIT_SIGNAL to CDR_ACQUIRE and starts the training timer (R67). -/
  | signalDetect (l : LaneId)
  /-- CDR_LOCK: Clock recovery locks and the lane enters BLOCK_ALIGN (R67). -/
  | cdrLock (l : LaneId)
  /-- BLOCK_LOCK: With AUTO_ALIGN 1, 64 consecutive valid sync headers hold the slip position and move the lane to DESKEW (R67). -/
  | blockLock (l : LaneId) (good : BitVec 16) (bad : BitVec 16)
  /-- LOCK_HERE: With AUTO_ALIGN 0 a write of LOCK_HERE holds the slip position and moves the lane to DESKEW (R67). -/
  | lockHere (a : Agent) (l : LaneId)
  /-- BIT_SLIP: A write of BIT_SLIP moves the receive block boundary one UI later and clears ALIGN_STAT (R70). -/
  | bitSlip (a : Agent) (l : LaneId)
  /-- ALIGNMENT_MARKER: A block at a marker position is checked, counted on error, used for deskew and polarity, and three missing markers return the lane to DESKEW (R64). -/
  | alignmentMarker (l : LaneId) (block : BitVec 64) (bip : BitVec 8) (arrival : BitVec 16) (good : BitVec 16) (bad : BitVec 16)
  /-- LOCK_LOST: 16 invalid sync headers within 64 in UP count LOCK_LOSS and return the lane to BLOCK_ALIGN (R67). -/
  | lockLost (l : LaneId) (good : BitVec 16) (bad : BitVec 16)
  /-- SQUELCH_IN_UP: Loss of signal in UP enters RX_IDLE when idle is expected, and otherwise sets LANE_DOWN and returns to WAIT_SIGNAL (R67). -/
  | squelchInUp (l : LaneId)
  /-- SQUELCH_IN_TRAINING: Input below squelch for 100 ns during training stops the timer and returns the lane to WAIT_SIGNAL (R67). -/
  | squelchInTraining (l : LaneId)
  /-- TRAIN_TIMEOUT: Expiry of the training timer counts TRAIN_FAIL, reloads the Kept equaliser values and returns the lane to WAIT_SIGNAL (R67). -/
  | trainTimeout (l : LaneId)
  /-- RETRAIN: A write of LANE_CMD.RETRAIN discards retained state and sends the lane to CDR_ACQUIRE (R67). -/
  | retrain (a : Agent) (l : LaneId)
  /-- RX_IDLE_SIGNAL_RETURN: Signal returning in RX_IDLE before the idle timer expires moves the lane to FAST_EXIT (R67). -/
  | rxIdleSignalReturn (l : LaneId)
  /-- FAST_EXIT_LIMIT_EXPIRY: The idle timer reaching FAST_EXIT_LIMIT discards retained state and returns the lane to WAIT_SIGNAL (R67). -/
  | fastExitLimitExpiry (l : LaneId)
  /-- FAST_EXIT_COMPLETE: Boundary mark, 16 valid headers and a matching marker return the lane to UP and count IDLE_EXIT (R76). -/
  | fastExitComplete (l : LaneId)
  /-- FAST_EXIT_FAIL: 1 µs in FAST_EXIT without completion counts FAST_EXIT_FAIL and sends the lane to CDR_ACQUIRE (R67). -/
  | fastExitFail (l : LaneId)
  /-- TEST_MODE_SET: A write of TEST_MODE 1 while the side is disabled enters TEST, and is otherwise ignored with TEST_REFUSED (R77). -/
  | testModeSet (a : Agent) (l : LaneId)
  /-- TEST_MODE_CLEAR: Clearing TEST_MODE stops the PRBS generator and checker and returns the lane to DISABLED (R67). -/
  | testModeClear (a : Agent) (l : LaneId)
  /-- IDLE_REQ_SET: Setting IDLE_REQ makes the transmitter finish its block and enter electrical idle within 4 block times (R75). -/
  | idleReqSet (a : Agent) (l : LaneId)
  /-- IDLE_REQ_CLEAR: Clearing IDLE_REQ sends the 64-UI training burst followed by an alignment marker on every lane (R75). -/
  | idleReqClear (a : Agent) (l : LaneId)
  /-- EQ_BOUNDS_WRITE: A write of EQ_BOUNDS or EQ_BOUNDS2 is refused with BOUNDS_REFUSED if a minimum exceeds its maximum, else applied and out-of-bound values move to the nearest bound (R73). -/
  | eqBoundsWrite (a : Agent) (l : LaneId) (second : Bool) (v : Word)
  /-- PRBS_CHECKER_LOCK: After 64 consecutive error-free bits following the seed the checker sets CHK_LOCKED and starts counting (R78). -/
  | prbsCheckerLock (l : LaneId)
  /-- PRBS_LOCK_LOST: 32 errors within 64 bits clear CHK_LOCKED, set PRBS_LOCK_LOST and reseed the checker (R78). -/
  | prbsLockLost (l : LaneId) (bits : BitVec 48) (errs : BitVec 32)
  /-- PRBS_SNAP: A write of PRBS_CTRL.SNAP copies the bit and error counters to PRBS_BITS and PRBS_ERR (R79). -/
  | prbsSnap (a : Agent) (l : LaneId) (bits : BitVec 48) (errs : BitVec 32)
  /-- PRBS_CLEAR: A write of PRBS_CTRL.CLEAR zeroes the PRBS counters and PRBS_LOCK_LOST (R79). -/
  | prbsClear (a : Agent) (l : LaneId)
  /-- INJ_ONE: A write of PRBS_CTRL.INJ_ONE inverts one transmitted bit (R80). -/
  | injOne (a : Agent) (l : LaneId)
  /-- EYE_GO: A write of EYE_CTRL.GO starts a scan point while HOLD is 1 and BUSY is 0, and is otherwise ignored with EYE_REFUSED (R83). -/
  | eyeGo (a : Agent) (l : LaneId)
  /-- EYE_DONE: A scan point ends after 2^DWELL bits, sets DONE and EYE_DONE and stores the mismatch count (R83). -/
  | eyeDone (l : LaneId) (count : BitVec 64)
  /-- CONTROL_FLIT_DEADLINE: With no control flit sent for 250 ns the transmitter sends one whatever its load (R88). -/
  | controlFlitDeadline (k : LinkId)
  /-- IDLE: A received IDLE control symbol is filler and acts as a good control symbol for loss detection (R89). -/
  | idle (k : LinkId) (bytes : BitVec 56)
  /-- ACK: A received ACK frees the replay buffer up to SEQ and clears REPLAY_STALL when space is freed (R108). -/
  | ack (k : LinkId) (bytes : BitVec 56)
  /-- NAK: A received NAK stops new data flits and starts a replay with REPLAY from the NAK's SEQ within 150 ns (R111). -/
  | nak (k : LinkId) (bytes : BitVec 56)
  /-- REPLAY: A received REPLAY resets the receiver's numbering or, with a later SEQ, is a sequence gap answered by a new NAK (R110). -/
  | replay (k : LinkId) (bytes : BitVec 56)
  /-- STATUS: A received STATUS symbol updates the partner's receiver state, including RX_UP and LP_REQ (R118). -/
  | status (k : LinkId) (bytes : BitVec 56)
  /-- INIT: A received INIT records the partner identity toward entry to ACTIVE and checks stitch partner identity (R105). -/
  | init (k : LinkId) (bytes : BitVec 56)
  /-- INIT_ACK: A received INIT_ACK matching the own INIT counts toward entry to ACTIVE (R105). -/
  | initAck (k : LinkId) (bytes : BitVec 56)
  /-- PING: A received PING is answered with a PONG in the first control flit after it (R106). -/
  | ping (k : LinkId) (bytes : BitVec 56)
  /-- PONG: A received PONG gives a round-trip measurement toward RTT_NS (R105). -/
  | pong (k : LinkId) (bytes : BitVec 56) (rtt : BitVec 32)
  /-- LANES_UP: Every lane of the side in UP moves the link to INIT, sends INIT and starts the 100 µs INIT timer (R105). -/
  | lanesUp (k : LinkId)
  /-- INIT_TIMEOUT: Expiry of the INIT timer takes the link DOWN with cause INIT_TIMEOUT (R105). -/
  | initTimeout (k : LinkId)
  /-- LINK_DOWN: A received LINK_DOWN symbol, or a lane leaving UP, takes the link DOWN, returns the replay buffer and starts the hold-off (R116). -/
  | linkDown (k : LinkId) (symbol : Option (BitVec 56))
  /-- SILENCE_TIMEOUT: No good control symbol for 1 µs takes the link DOWN with cause SILENCE (R116). -/
  | silenceTimeout (k : LinkId)
  /-- LINK_RESET: A write of LINK_CTRL.LINK_RESET takes the link DOWN with cause SOFTWARE (R105). -/
  | linkReset (a : Agent) (k : LinkId)
  /-- HOLDOFF_EXPIRY: At the end of the hold-off the link enters INIT if every lane is UP, else LANES (R106). -/
  | holdoffExpiry (k : LinkId)
  /-- REPLAY_TIMEOUT: Expiry of the replay timer replays from the oldest buffered flit, and after REPLAY_LIMIT replays takes the link DOWN (R113). -/
  | replayTimeout (k : LinkId)
  /-- FRAME_HEADER: A received header flit is checked; a good header starts delivery or the transit path, and a bad one is counted and NAKed (R94). -/
  | frameHeader (k : LinkId) (header : List Byte) (since : BitVec 4) (unsent : BitVec 4)
  /-- FRAME_END: The last flit of a frame arrives and the frame is judged good, stomped or bad, then delivered, queued or discarded (R99). -/
  | frameEnd (k : LinkId) (flits : BitVec 4) (area : List Byte) (tail : List Byte) (badSync : Bool) (at_ : BitVec 80)
  /-- EGRESS_SELECT: When an egress point can take a frame it takes the oldest eligible frame of the highest-priority urgent, then bulk, list (R183). -/
  | egressSelect (point : Fin 139) (unsent : BitVec 4) (ecc : Option (BitVec 17 × Bool)) (residence : BitVec 64)
  /-- LP_REQ_WRITE: Setting LINK_CTRL.LP_REQ sends LP_ENTER; clearing it in LP_IDLE starts the exit (R117). -/
  | lpReqWrite (a : Agent) (k : LinkId) (on : Bool)
  /-- LP_ENTER: A received LP_ENTER is agreed with LP_ENTER or refused with LP_DENY; on agreement both ends set IDLE_REQ (R117). -/
  | lpEnter (k : LinkId) (bytes : BitVec 56)
  /-- LP_DENY: A received LP_DENY sets LP_REFUSED in the requester's page (R117). -/
  | lpDeny (k : LinkId) (bytes : BitVec 56)
  /-- LP_IDLE_EXIT: Every lane back in UP after fast exit returns the link to ACTIVE; a failed exit takes it DOWN with LP_EXIT_FAIL (R105). -/
  | lpIdleExit (k : LinkId)
  /-- LP_STATUS_INTERVAL: In LP_IDLE the hub exits and exchanges STATUS at the configured interval (R118). -/
  | lpStatusInterval (k : LinkId)
  /-- CLAIM: A received CLAIM better than the best seen is recorded and restarts the settle timer (R132). -/
  | claim (k : Fin 4) (payload : List Byte)
  /-- CLAIM_RESEND: A hub in DISCOVER resends its CLAIM every 250 µs (R132). -/
  | claimResend
  /-- SETTLE_TIMER_EXPIRY: At the end of the settle timer the best credential holder sends POSITION tokens and the others start the token timer (R131). -/
  | settleTimerExpiry
  /-- POSITION: A received POSITION token records the hub's count and is forwarded, or returned as a dead end, or ends at the master (R133). -/
  | position (k : Fin 4) (payload : List Byte)
  /-- TOKEN_TIMER_EXPIRY: Token timer expiry returns to DISCOVER and counts a restart, or in ANNOUNCE builds the route table (R131). -/
  | tokenTimerExpiry
  /-- RING_INFO: A received RING_INFO gives the hub its position and it sends ANNOUNCE within 10 µs (R135). -/
  | ringInfo (k : Fin 4) (payload : List Byte)
  /-- ANNOUNCE: A received ANNOUNCE fills the route entry, resets sequence state and may raise NODE_CONFLICT; the last one builds the route table (R136). -/
  | announce (k : Fin 4) (payload : List Byte)
  /-- ASSIGN_NODE: A received ASSIGN_NODE gives a lead hub with no valid node the assigned node number (R136). -/
  | assignNode (k : Fin 4) (payload : List Byte)
  /-- MASTER_BEACON_SEND: The master sends MASTER_BEACON every 1 ms (R137). -/
  | masterBeaconSend
  /-- MASTER_BEACON: A received beacon is compared with the own cycle values, and one from a foreign master starts the comparison of masters (R137). -/
  | masterBeacon (k : Fin 4) (payload : List Byte)
  /-- BEACON_LOST: BEACON_MISS periods without a beacon set BEACON_LOST and send CLAIM, keeping positions (R137). -/
  | beaconLost
  /-- REDISCOVER: A write of RING_CMD.REDISCOVER sends CLAIM and discards positions (R131). -/
  | rediscover (a : Agent)
  /-- WRAP_NOTICE: A received WRAP_NOTICE updates REACHABLE and may trigger steering or data-ring failover at the master (R155). -/
  | wrapNotice (k : Fin 4) (payload : List Byte)
  /-- UNWRAP_NOTICE: A received UNWRAP_NOTICE restores reachability and leads the master to unsteer the break (R158). -/
  | unwrapNotice (k : Fin 4) (payload : List Byte)
  /-- ROUTE_UPDATE: A received ROUTE_UPDATE sets or clears STEERED and DIR for destinations past the break and starts a fence (R156). -/
  | routeUpdate (k : Fin 4) (payload : List Byte)
  /-- DATA_RING_SWITCH: A received DATA_RING_SWITCH changes the active data ring under a fence (R159). -/
  | dataRingSwitch (k : Fin 4) (payload : List Byte)
  /-- FENCE_RELEASE: FENCE_NS after a route change the held frames for the destination are released in order (R157). -/
  | fenceRelease (key : Fin 1028)
  /-- UNWRAP_HOLD_EXPIRY: A failed link continuously ACTIVE for UNWRAP_HOLD sends UNWRAP_NOTICE and starts the unwrap (R158). -/
  | unwrapHoldExpiry (k : Option (Fin 4))
  /-- UNWRAP_STOP: FENCE_NS after the unsteer or the notice, X stops wrapping and fences frames for the restored link (R158). -/
  | unwrapStop (k : Fin 4)
  /-- ROUTE_STEER: A ROUTE_STEER write with GO sets DIR and STEERED of an entry and applies the fence, or is discarded while the PATH policy acts (R165). -/
  | routeSteer (a : Agent) (v : Word)
  /-- E2E_ENTRY_EXPIRY: A per-source sequence entry is cleared after 100 ms without a frame from that source (R154). -/
  | e2eEntryExpiry (node : BitVec 8) (hub : BitVec 2) (cls : Fin 3)
  /-- DUP_AGE_EXPIRY: A duplicate filter entry older than DUP_AGE is freed and counted (R149). -/
  | dupAgeExpiry (node : BitVec 8) (hub : BitVec 2) (seq : BitVec 16)
  /-- SCHED_FIRE: At an entry's fire time a signal bundle of eligible directory entries is assembled and sent, dual-sent if enabled (R145). -/
  | schedFire (i : Fin 4096) (cycle : BitVec 64) (skipped : Bool) (lateNs : BitVec 32)
  /-- SCHED_STORE: SCHED_CMD.STORE writes the staged schedule entry or refuses it with SCHED_INVALID (R144). -/
  | schedStore (a : Agent)
  /-- SCHED_LOAD: SCHED_CMD.LOAD reads the active or staged schedule entry into SCHED_W0 to W3 (R143). -/
  | schedLoad (a : Agent)
  /-- RESERVE_WRITE: A write of RESERVE_URGENT or RESERVE_COMPL making their sum exceed 65,536 is ignored with RESERVE_REFUSED (R180). -/
  | reserveWrite (a : Agent) (compl : Bool) (v : Word)
  /-- PROFILE_BOUNDS_WRITE: A write setting CM_MIN above CM_MAX is ignored with PROFILE_REFUSED, else CM_THRESH moves into bounds under act mode (R182). -/
  | profileBoundsWrite (a : Agent) (p : Fin 16) (max : Bool) (v : Word)
  /-- PORT_DOWN: An engine going down starts its hold window and sets PORT_HELD (R186). -/
  | portDown (e : EngineId)
  /-- HOLD_WINDOW_EXPIRY: At the end of the hold window every queued frame of the engine is discarded and counted, and the Gleaner verifies the freed cells (R188). -/
  | holdWindowExpiry (e : EngineId)
  /-- PORT_UP: An engine coming up within its window drains its queues in the order of R183 (R187). -/
  | portUp (e : EngineId)
  /-- CAP_DATA_READ: A read of CAP_DATA returns the next word of the current mirror record and frees it after the last word (R196). -/
  | capDataRead (a : Agent)
  /-- CAP_FLUSH: MIRROR_CMD.CAP_FLUSH frees every mirror record held (R196). -/
  | capFlush (a : Agent)
  /-- GLEANER_CELL_CHECK: The Gleaner checks the next cell when the metadata port is idle, reclaiming it or raising FREE_LIST_ERR (R197). -/
  | gleanerCellCheck (finding : CellFinding)
  /-- GLEANER_VERIFY: Within 1 ms of a hold discard the Gleaner checks the freed cells and counts a pass or failure (R200). -/
  | gleanerVerify (ok : Bool)
  /-- GLEAN_BOUNDS_WRITE: A write of GLEAN_BOUNDS with the minimum above the maximum is refused with BOUNDS_REFUSED (R201). -/
  | gleanBoundsWrite (a : Agent) (v : Word)
  /-- DIR_WRITE_W0: A write to W0 of a staged directory entry validates the whole entry and is accepted or refused with a reason (R209). -/
  | dirWriteW0 (a : Agent) (i : Fin 16384) (v : Word)
  /-- DIR_WRITE_W123: A write to W1 to W3 of a staged entry is accepted only while its staged ROLE is 0b00 (R209). -/
  | dirWriteW123 (a : Agent) (i : Fin 16384) (w : Fin 3) (v : Word)
  /-- SOURCE_UPDATE: A publish binding delivers a new sample or validity; VERSION advances, the mirror is written and the entry becomes pending (R212). -/
  | sourceUpdate (i : Fin 16384) (value : List Byte) (valid : Bool) (ts : BitVec 64)
  /-- MIN_GAP_EXPIRY: MIN_GAP_US after its last event bundle a pending entry becomes eligible (R213). -/
  | minGapExpiry (i : Fin 16384)
  /-- EVENT_BUNDLE_ASSEMBLY: When no bundle of the class and PRIO is waiting, a new multicast event bundle of eligible pending entries is assembled (R214). -/
  | eventBundleAssembly (bulk : Bool) (prio : Fin 8)
  /-- HOST_PUBLISH_WRITE: A host write to a value slot publishes a host-sourced value, or is discarded with UNSUPPORTED (R217). -/
  | hostPublishWrite (a : Agent) (off : BitVec 20) (data : List Byte)
  /-- CONFLICT_NOTICE_SEND: A subscriber sends a CONFLICT_NOTICE to the owner and master at most once per destination per 1 ms (R226). -/
  | conflictNoticeSend (dst : Fin 1024)
  /-- CONFLICT_NOTICE: A received CONFLICT_NOTICE is counted and raises OWNERSHIP_CONFLICT at the owner or master at most once per ms (R227). -/
  | conflictNotice (src : Fin 1024) (payload : List Byte)
  /-- FRESHNESS_TIMEOUT: An entry not updated within its freshness timeout becomes STALE (R221). -/
  | freshnessTimeout (i : Fin 16384)
  /-- CHG_POP: A read of CHG_POP returns and removes the oldest index of the change queue (R224). -/
  | chgPop (a : Agent)
  /-- RESYNC_ALL: MIRROR_CMD.RESYNC_ALL sets RESYNC in every mirror entry (R222). -/
  | resyncAll (a : Agent)
  /-- SUPERSEDED_CLEAR: MIRROR_CMD.SUPERSEDED_CLEAR zeroes every SUPERSEDED field (R238). -/
  | supersededClear (a : Agent)
  /-- MIRROR_READ: A host read of a value slot, metadata entry or latch slot returns one consistent instant within 200 ns (R229). -/
  | mirrorRead (a : Agent) (off : BitVec 20) (len : BitVec 10)
  /-- LATCH_ARM: LATCH_CMD.ARM arms a latch and sends ARM, or is refused with ARM_REFUSED (R233). -/
  | latchArm (a : Agent)
  /-- LATCH_CANCEL: LATCH_CMD.CANCEL sends a CANCEL for the latch key (R234). -/
  | latchCancel (a : Agent)
  /-- ARM: A received ARM arms its key or replaces its time, or answers a RESULT with MISSED (R234). -/
  | arm (src : Fin 1024) (payload : List Byte)
  /-- CANCEL: A received latch CANCEL removes its key if the latch has not fired (R234). -/
  | cancel (src : Fin 1024) (payload : List Byte)
  /-- LATCH_FIRE: At LATCH_TIME every bank and the signal plane sample the latch-enabled publish entries (R235). -/
  | latchFire (key : BitVec 18) (at_ : BitVec 64)
  /-- RESULT_SEND: Within 20 µs of the latch time the hub sends its RESULT frames, the last with LAST set (R236). -/
  | resultSend (key : BitVec 18)
  /-- FIELD_LATCH_EVALUATE: 1 µs after LATCH_TIME the front-end rebuilds each field input level at the latch time (R347). -/
  | fieldLatchEvaluate (key : BitVec 18)
  /-- RESULT: A received latch RESULT writes its records to the latch slots of entries with LATCH_EN (R237). -/
  | result (src : Fin 1024) (payload : List Byte)
  /-- HOST_BAR4_READ: A host read through BAR4 is split into RA_READ requests with slots, or performed locally (R241). -/
  | hostBar4Read (off : BitVec 34) (len : BitVec 13)
  /-- HOST_BAR4_WRITE: A host write through BAR4 is sent as a posted RA_WRITE_POSTED, broadcast under R40 for node 255 (R241). -/
  | hostBar4Write (off : BitVec 34) (data : List Byte)
  /-- CP_GO: A write of CP_CTRL.GO sends an RA_WRITE_NP with CMD, or is ignored with CP_REFUSED while BUSY (R261). -/
  | cpGo (a : Agent) (p : Fin 4)
  /-- RA_READ: A received read request is checked and performed in units in its region or queued to the engine's downstream queue (R245). -/
  | raRead (src : Fin 1024) (prio : Fin 8) (tag : BitVec 16) (aux : BitVec 16) (payload : List Byte)
  /-- RA_WRITE_POSTED: A received posted write is performed, or refused with an RA_FAR_ERROR to its source (R253). -/
  | raWritePosted (src : Fin 1024) (mcast : Bool) (aux : BitVec 16) (payload : List Byte)
  /-- RA_WRITE_NP: A received non-posted write with CMD is decided against the command record and answered with a completion (R262). -/
  | raWriteNp (src : Fin 1024) (prio : Fin 8) (tag : BitVec 16) (aux : BitVec 16) (payload : List Byte)
  /-- RA_COMPLETION: A received completion is matched to its slot and returned to its source, or logged as late or orphaned (R251). -/
  | raCompletion (src : Fin 1024) (tag : BitVec 16) (aux : BitVec 16) (payload : List Byte)
  /-- RA_FAR_ERROR: A received far error enters the requester's far-error log (R253). -/
  | raFarError (src : Fin 1024) (aux : BitVec 16) (payload : List Byte)
  /-- READ_DISCARD_EXPIRY: Expiry of a slot's read discard timer releases the slot and gives its source outcome DISCARDED (R250). -/
  | readDiscardExpiry (slot : BitVec 8)
  /-- FEL_POP: A read of FEL_POP returns and removes the oldest far error and loads its registers (R266). -/
  | felPop (a : Agent)
  /-- ORL_POP: A read of ORL_POP returns and removes the oldest orphaned read and loads its registers and data (R266). -/
  | orlPop (a : Agent)
  /-- CLEAR_ALL: CR_CMD.CLEAR_ALL clears the command record (R263). -/
  | clearAll (a : Agent)
  /-- ENGINE_ENABLE: A write of ENABLE 1 to an engine page is accepted and the engine comes up, or is refused with a reason in ENG_STATUS.REFUSE (R271). -/
  | engineEnable (a : Agent) (e : EngineId)
  /-- ENGINE_DISABLE: A write of ENABLE 0 takes the engine down (R185). -/
  | engineDisable (a : Agent) (e : EngineId)
  /-- CELL_CFG_WRITE: A CELL_CFG write is applied, or its assignment fields refused with CELL_REFUSED when disallowed or touching an enabled engine (R274). -/
  | cellCfgWrite (a : Agent) (c : Fin 320) (v : Word)
  /-- VIO_CHANGE: A VDDIO measurement entering or leaving a window updates VIO_OK, sets VIO_MISMATCH and may raise VIO_LOST (R272). -/
  | vioChange (g : BankId) (meas : BitVec 2)
  /-- CLK80_UNLOCK: The bank's 80 MHz serial clock losing lock clears CLK80_LOCK and raises CLK80_UNLOCK (R269). -/
  | clk80Unlock (b : BankId)
  /-- POLL_TICK: A poll tick marks due publish slots and counts a skipped earlier tick as POLL_LATE (R281). -/
  | pollTick (e : EngineId)
  /-- CONTROLLER_BOUNDARY: At a message or transaction boundary a controller engine takes its next work in priority order (R280). -/
  | controllerBoundary (e : EngineId)
  /-- DOWNSTREAM_UNIT: The engine performs one unit of a downstream access as one bus transaction and completes or fails it (R303). -/
  | downstreamUnit (e : EngineId) (losses : BitVec 4) (r : BusResult) (data : List Byte)
  /-- RAW_PORT_TAKE: An engine takes a RAW_PORT frame, transmitting it, placing it in the receive buffer, or discarding it as refused (R284). -/
  | rawPortTake (e : EngineId)
  /-- RAW_RECORD: An unclaimed received message becomes a raw record in the receive buffer or a forwarded RAW_PORT frame (R283). -/
  | rawRecord (e : EngineId) (flags : Byte) (rkind : Byte) (at_ : BitVec 64) (data : List Byte)
  /-- RX_DATA_READ: A read of RX_DATA returns the next word of the current raw record and frees it after the last word (R284). -/
  | rxDataRead (a : Agent) (e : EngineId)
  /-- RX_FLUSH: ENG_CMD.RX_FLUSH empties the engine's receive buffer (R307). -/
  | rxFlush (a : Agent) (e : EngineId)
  /-- TX_DATA: A write of TX_DATA appends one word to the staging area, or is refused with RAW_REFUSED when full (R284). -/
  | txData (a : Agent) (e : EngineId) (v : Word)
  /-- TX_COMMIT: A write of TX_COMMIT forms a raw record from staged bytes and admits it as a RAW_PORT frame of action 0 (R284). -/
  | txCommit (a : Agent) (e : EngineId) (len : Byte) (rkind : Byte)
  /-- TX_STAGE_CLEAR: ENG_CMD.TX_STAGE_CLEAR empties the staging area (R307). -/
  | txStageClear (a : Agent) (e : EngineId)
  /-- UART_CHARACTER: A received UART character is sampled by majority, checked for parity and framing, and appended to the message (R287). -/
  | uartCharacter (e : EngineId) (ch : BitVec 9) (parity : Bool) (framing : Bool) (driving : Bool) (at_ : BitVec 64)
  /-- UART_IDLE_GAP: An idle gap of IDLE_BITS bit times ends the received message (R288). -/
  | uartIdleGap (e : EngineId)
  /-- UART_BREAK: A low level longer than a whole character is received as a break and ends the message (R287). -/
  | uartBreak (e : EngineId)
  /-- UART_TRANSMIT: The engine transmits one message, driving DE with its lead and lag and observing turnaround and CTS (R289). -/
  | uartTransmit (e : EngineId)
  /-- SEND_BREAK: ENG_CMD.SEND_BREAK sends a break of BREAK_BITS at the next message boundary (R290). -/
  | sendBreak (a : Agent) (e : EngineId)
  /-- SPI_TRANSACTION: An SPI controller transaction asserts its select, clocks its bytes and releases the select (R292). -/
  | spiTransaction (e : EngineId) (data : List Byte) (at_ : BitVec 64)
  /-- SPI_TARGET_SELECT: An SPI target transaction from chip select assert to release matches its command and yields a value, a raw record or an error (R293). -/
  | spiTargetSelect (e : EngineId) (data : List Byte) (at_ : BitVec 64)
  /-- I2C_TRANSACTION: An I²C controller transaction is performed with retry on lost arbitration and bus recovery if SDA is stuck (R294). -/
  | i2cTransaction (e : EngineId) (losses : BitVec 4) (r : BusResult) (data : List Byte) (at_ : BitVec 64)
  /-- I2C_TARGET_ACCESS: A controller access to the engine as target is answered from a binding, a kept answer or by stretching (R296). -/
  | i2cTargetAccess (e : EngineId) (own : Bool) (reg : BitVec 16) (write : Bool) (data : List Byte) (pecOk : Bool) (at_ : BitVec 64)
  /-- CTRL_STRETCH_LIMIT: A target stretching SCL beyond CTRL_STRETCH_US ends the controller transaction with STOP and DEVICE_ERROR (R295). -/
  | ctrlStretchLimit (e : EngineId) (at_ : BitVec 64)
  /-- TGT_STRETCH_LIMIT: At TGT_STRETCH_US the target releases SCL and NAKs the address byte (R296). -/
  | tgtStretchLimit (e : EngineId)
  /-- KEPT_ANSWER_EXPIRY: A kept I²C target answer not collected before its read discard timer expires goes to the orphaned-read log (R264). -/
  | keptAnswerExpiry (e : EngineId)
  /-- SMBUS_TIMEOUT: SCL held low for 25 ms makes a controller send STOP and a target reset its interface (R298). -/
  | smbusTimeout (e : EngineId) (at_ : BitVec 64)
  /-- SMBALERT: A falling edge on SMBALERT sets SMBALERT and, with ALERT_ARA, reads the Alert Response Address (R298). -/
  | smbalert (e : EngineId)
  /-- BUS_RECOVER: ENG_CMD.BUS_RECOVER clocks SCL until SDA is high and sends STOP, setting BUS_STUCK if it stays low (R297). -/
  | busRecover (a : Agent) (e : EngineId) (stuck : Bool)
  /-- DISCRETE_EDGE: A discrete level held for FILTER is accepted, counted, timestamped and published (R299). -/
  | discreteEdge (e : EngineId) (line : Fin 4) (level : Bool) (at_ : BitVec 64)
  /-- PWM_PERIOD_START: At each period start the PWM engine applies duties that arrived in time (R300). -/
  | pwmPeriodStart (e : EngineId) (late : BitVec 4)
  /-- ENCODER_TRANSITION: A filtered A or B transition changes the count, or counts ENC_ERR when both change together (R301). -/
  | encoderTransition (e : EngineId) (a : Bool) (b : Bool) (at_ : BitVec 64)
  /-- ENCODER_INDEX: A rising edge of Z copies the count to ENC_INDEX_COUNT and may zero it (R301). -/
  | encoderIndex (e : EngineId) (at_ : BitVec 64)
  /-- ENC_PRESET: A write of ENC_PRESET sets the encoder count (R307). -/
  | encPreset (a : Agent) (e : EngineId) (v : Word)
  /-- CAN_TX_ATTEMPT: The engine starts a transmission attempt with the candidate that would win arbitration (R318). -/
  | canTxAttempt (e : EngineId)
  /-- CAN_FRAME_SENT: A frame passing its end-of-frame without error is counted, timestamped and removed from the transmit set (R320). -/
  | canFrameSent (e : EngineId) (tdcv : BitVec 7) (at_ : BitVec 64)
  /-- CAN_ATTEMPT_FAILED: Lost arbitration or an error ends an attempt, updates counters and schedules a retry (R319). -/
  | canAttemptFailed (e : EngineId) (why : CanFail)
  /-- CAN_FRAME_RECEIVED: A valid received frame is counted and taken by matching publish slots or becomes a raw record (R325). -/
  | canFrameReceived (e : EngineId) (out : CanRx) (ident : BitVec 29) (ide : Bool) (fdf : Bool) (brs : Bool) (esi : Bool) (dlc : BitVec 4) (data : List Byte) (at_ : BitVec 64)
  /-- CAN_REMOTE_FRAME: A received remote frame makes matching RTR_ANSWER slots pending or becomes a raw record (R326). -/
  | canRemoteFrame (e : EngineId) (ident : BitVec 29) (ide : Bool) (dlc : BitVec 4) (at_ : BitVec 64)
  /-- CAN_CYCLE_TIMER: Every CYCLE_US a subscribe binding becomes pending with its newest value (R317). -/
  | canCycleTimer (e : EngineId) (slot : Fin 32)
  /-- RESTART: CAN_CMD.RESTART in bus-off clears TEC and REC and starts bus integration (R331). -/
  | restart (a : Agent) (e : EngineId)
  /-- INTEGRATION_DONE: After 128 runs of 11 recessive bits the engine enters error active and is up (R331). -/
  | integrationDone (e : EngineId)
  /-- ENABLE_INTEGRATION_DONE: After 11 recessive bits following enable the engine takes part in bus traffic (R332). -/
  | enableIntegrationDone (e : EngineId)
  /-- ABORT_TX: CAN_CMD.ABORT_TX empties the raw buffer at the end of the attempt in progress (R321). -/
  | abortTx (a : Agent) (e : EngineId)
  /-- PAIR_FAILOVER: The active engine of a pair going down makes the standby active with the transmit set within 10 µs (R336). -/
  | pairFailover (e : EngineId)
  /-- PAIR_SWAP: CAN_CMD.PAIR_SWAP exchanges roles when allowed, or is ignored with PAIR_SWAP_REFUSED (R337). -/
  | pairSwap (a : Agent) (e : EngineId)
  /-- CAN_STATUS_READ: A read of CAN_STATUS sets LEC and DLEC to 7 and clears ended condition flags (R340). -/
  | canStatusRead (a : Agent) (e : EngineId)
  /-- FIELD_INPUT_ACCEPT: A field input level held for FILTER_US is accepted, counted, timestamped and published (R344). -/
  | fieldInputAccept (i : Fin 64) (level : Bool) (at_ : BitVec 64)
  /-- FIN_INV_WRITE: A write changing INV flips the accepted level at once as a source update without counting an edge (R344). -/
  | finInvWrite (a : Agent) (i : Fin 64) (inv : Bool)
  /-- WIRE_BREAK: Input current below 0.35 mA for 20 ms takes the input down with WIRE_BREAK (R348). -/
  | wireBreak (i : Fin 64) (present : Bool)
  /-- INPUT_OVERVOLT: Input voltage above 32 V for 1 ms takes the input down with OVERVOLT (R348). -/
  | inputOvervolt (i : Fin 64) (present : Bool)
  /-- FIN_FAULT_CLEAR: A write of 1 to a FIN_FAULT bit clears it when no cause holds, else sets CLEAR_REFUSED (R349). -/
  | finFaultClear (a : Agent) (i : Fin 64)
  /-- FOUT_SET_WRITE: A write of FOUT_SET drives the outputs whose SRC is 0 (R350). -/
  | foutSetWrite (a : Agent) (v : Word)
  /-- OUTPUT_LIMIT_EXPIRY: An output in current limit for LIM_T × 100 µs turns off and latches OVERCURRENT (R352). -/
  | outputLimitExpiry (o : Fin 32)
  /-- OUTPUT_SHORT: An on output pulled below 3 V turns off within 10 µs and latches OVERCURRENT (R352). -/
  | outputShort (o : Fin 32)
  /-- OUTPUT_THERMAL: An output channel reaching 150 °C turns off within 10 µs and latches THERMAL (R353). -/
  | outputThermal (o : Fin 32) (present : Bool)
  /-- AGGREGATE_SHED: The output current sum above 6,000 mA for AGG_MS sheds one output and latches SHED (R354). -/
  | aggregateShed (currents : List (BitVec 12))
  /-- SHED_NEXT: Every 100 µs one further output is shed until the sum is at or below 5,500 mA (R354). -/
  | shedNext (currents : List (BitVec 12))
  /-- FOUT_FAULT_CLEAR: A write of 1 to a FOUT_FAULT bit clears the latch when its cause is gone, else sets CLEAR_REFUSED (R355). -/
  | foutFaultClear (a : Agent) (o : Fin 32)
  /-- OPEN_ON: An on output carrying less than 5 mA for 10 ms sets OPEN_ON (R356). -/
  | openOn (o : Fin 32)
  /-- OPEN_OFF: An off output whose voltage stays above 6 V for 10 ms sets OPEN_OFF (R356). -/
  | openOff (o : Fin 32)
  /-- P_FREQ_WRITE: A write of Pc_FREQ changes the prime clock's trim at the next tick (R362). -/
  | pFreqWrite (a : Agent) (c : Fin 2) (v : Word)
  /-- P_ADJ_WRITE: A write of Pc_ADJ sets a pending phase adjustment, replacing any still pending (R363). -/
  | pAdjWrite (a : Agent) (c : Fin 2) (v : Word)
  /-- SET: Pc_CMD.SET steps the prime clock at the next tick, or is refused with SET_REFUSED in a running servo state (R364). -/
  | set (a : Agent) (c : Fin 2)
  /-- UNIT_STROBE: Every 1,024 ns each local time unit compares its count with the strobe, trims, and steps if off by more than 4 ns (R367). -/
  | unitStrobe
  /-- TIME_SNAP: TIME_CMD.SNAP captures prime 0, prime 1 and a chosen unit at one tick (R389). -/
  | timeSnap (a : Agent) (u : Fin 32)
  /-- PDELAY_REQ_SEND: Every 2^LOG_PDELAY s each active port sends a Pdelay_Req (R372). -/
  | pdelayReqSend (k : LinkId) (t1 : BitVec 80)
  /-- PDELAY_REQ: A received Pdelay_Req is answered with a Pdelay_Resp carrying turnaround and RATE_DEV (R372). -/
  | pdelayReq (k : LinkId) (payload : List Byte) (turnaround : BitVec 64)
  /-- PDELAY_RESP: A received Pdelay_Resp gives one loop measurement and updates LINK_DELAY (R373). -/
  | pdelayResp (k : LinkId) (payload : List Byte) (t4 : BitVec 80)
  /-- PDELAY_ANSWER_TIMEOUT: An answer missing after 100 µs is counted, and three misses clear PDELAY_OK (R372). -/
  | pdelayAnswerTimeout (k : LinkId)
  /-- SYNC_SEND: The grandmaster sends a Sync every 2^LOG_SYNC s on each active port (R374). -/
  | syncSend
  /-- SYNC: A received Sync is forwarded with correction on the opposite side and offered for selection (R374). -/
  | sync (k : LinkId) (payload : List Byte) (at_ : BitVec 80) (residence : BitVec 64)
  /-- SYNC_WAIT_EXPIRY: SYNC_WAIT_US after the first copy the hub selects one copy and measures the offset (R375). -/
  | syncWaitExpiry (residence : BitVec 64)
  /-- ANNOUNCE_SEND: Every 2^LOG_ANNOUNCE s a capable hub sends an Announce (R377). -/
  | announceSend
  /-- PTP_ANNOUNCE: A received PTP Announce is forwarded and enters the best master clock comparison (R377). -/
  | ptpAnnounce (k : LinkId) (payload : List Byte)
  /-- ANNOUNCE_TIMEOUT: ANNOUNCE_TIMEOUT intervals without a better Announce make a capable hub grandmaster (R382). -/
  | announceTimeout
  /-- SYNC_LOSS_TIMEOUT: No usable Sync for 3 intervals moves LOCKED to HOLDOVER (R382). -/
  | syncLossTimeout
  /-- HOLDOVER_EXPIRY: HOLDOVER_MS without usable Sync clears TIME_VALID and returns to LISTEN (R382). -/
  | holdoverExpiry
  /-- RATE_RATIO_MEASUREMENT: Every 1.048576 ms each port measures its rate ratio and the syntonisation term is updated (R378). -/
  | rateRatioMeasurement (k : LinkId) (ratio : Word)
  /-- PPS_EDGE: An active edge at TIME_PPS_IN aligns prime 1 and qualifies the reference (R379). -/
  | ppsEdge (interval : Option (BitVec 40))
  /-- PPS_ABSENT_TIMEOUT: 2 s without a PPS edge clears PPS_OK (R379). -/
  | ppsAbsentTimeout
  /-- REF10_CHANGE: The 10 MHz input entering or leaving ±100 ppm sets or clears REF10_OK (R379). -/
  | ref10Change (ok : Bool) (term : Word)
  /-- PPS_OUT_START: TIME_PPS_OUT goes high when the chosen prime's nanoseconds pass PPS_OUT_COMP (R381). -/
  | ppsOutStart
  /-- PPS_OUT_END: The PPS output pulse ends after WIDTH_US or at a step of its clock (R381). -/
  | ppsOutEnd
  /-- MEAS_POP: A read of MEAS_POP returns and removes the oldest measurement and loads its registers (R384). -/
  | measPop (a : Agent)
  /-- TXTS_POP: A read of TXTS_POP returns and removes the oldest transmit timestamp and loads its registers (R387). -/
  | txtsPop (a : Agent)
  /-- TXTS_OVERFLOW_CLEAR: A write of 1 to OVERFLOW clears it while the queue holds fewer than 32 entries (R388). -/
  | txtsOverflowClear (a : Agent)
  /-- TXTS_FLUSH: TIME_CMD.TXTS_FLUSH empties the transmit timestamp queue (R388). -/
  | txtsFlush (a : Agent)
  /-- PCIE_MEM_READ: A host memory read to a BAR is checked and completed, or answered with Unsupported Request (R393). -/
  | pcieMemRead (bar : HostBar) (off : BitVec 34) (len : BitVec 10)
  /-- PCIE_MEM_WRITE: A host memory write to a BAR is checked and carried out, or answered with Unsupported Request (R393). -/
  | pcieMemWrite (bar : HostBar) (off : BitVec 34) (data : List Byte) (enables : List Bool)
  /-- PCIE_CONFIG_REQUEST: A configuration request is answered from the configuration space, with retry status until ready (R394). -/
  | pcieConfigRequest (write : Bool) (dword : BitVec 10) (be : BitVec 4) (data : Word)
  /-- PCIE_RESET: PERST#, hot reset, FLR, loss of DL_Active or PCIE switch-off resets the PCIe island and returns vectors to IDLE (R396). -/
  | pcieReset (cause : PcieReset)
  /-- PCIE_LINK_UP: The link reaching DL_Active sets LINK_UP and lets pending vectors issue (R396). -/
  | pcieLinkUp (speed : BitVec 2) (width : BitVec 2) (reversed : Bool) (inverted : BitVec 4)
  /-- RETRAIN_PCIE: PCIE_CMD.RETRAIN retrains the PCIe link (R406). -/
  | retrainPcie (a : Agent)
  /-- SOURCE_LIVE: A source becoming live moves its idle vector to PENDING, starts coalescing and drives nINT balls (R401). -/
  | sourceLive (n : Fin 128)
  /-- COAL_TIMER_EXPIRY: The coalescing timer reaching COAL_US issues the MSI-X message or sets PBA or MSIX_HELD (R401). -/
  | coalTimerExpiry (v : Fin 64)
  /-- MSIX_UNMASK: Clearing a mask, or enabling MSI-X or bus mastering, issues a held vector's message (R401). -/
  | msixUnmask (v : Option (Fin 64)) (a : Agent)
  /-- VEC_ACK: A write of 1 to a VEC_ACK bit, after earlier writes take effect, returns the vector to IDLE or PENDING (R402). -/
  | vecAck (a : Agent) (high : Bool) (bits : Word)
  /-- USB_ATTACH: With USB on, ENABLE set and VBUS valid for 10 ms the hub connects its D+ pull-up (R411). -/
  | usbAttach
  /-- DISCONNECT: USB_CMD.DISCONNECT disconnects the pull-up for 100 ms (R411). -/
  | disconnect (a : Agent)
  /-- DISCONNECT_END: 100 ms after DISCONNECT the pull-up reconnects (R411). -/
  | disconnectEnd
  /-- BUS_RESET: A bus reset, disconnect or VBUS loss abandons control transfers, clears address and configuration and runs speed detection (R413). -/
  | busReset (cause : UsbReset)
  /-- USB_SUSPEND: 3 ms of bus idle enters suspend in the USB island (R428). -/
  | usbSuspend
  /-- USB_RESUME: A host resume ends suspend or L1 and pending notifications follow (R431). -/
  | usbResume
  /-- LPM: An LPM transaction is answered with ACK and L1 entry, or NYET (R429). -/
  | lpm (remoteWake : Bool)
  /-- REMOTE_WAKE: A suspended hub with wake enabled and something pending drives K for WAKE_K_MS after 5 ms idle (R430). -/
  | remoteWake
  /-- WAKE_RETRY: No resume within 100 ms of a wake counts WAKE_IGNORED and signals again up to WAKE_RETRIES (R430). -/
  | wakeRetry
  /-- USB_OVERCURRENT: An OCN ball low for OC_FILTER_MS switches the port power off and raises USB_OVERCURRENT (R409). -/
  | usbOvercurrent (p : Fin 3)
  /-- SET_PORT_POWER: A host PORT_POWER request drives the port's PWREN ball (R409). -/
  | setPortPower (p : Fin 3) (on : Bool)
  /-- CMD: A CMD vendor request is checked, then queued, recorded as duplicate or ignored when already held (R417). -/
  | cmd (wIndex : BitVec 16) (data : List Byte)
  /-- CMD_NAK_TIMEOUT: NAKing a CMD or RESULT data stage for CMD_NAK_MS ends with STALL or returns the entry as it stands (R421). -/
  | cmdNakTimeout (result : Bool)
  /-- RESULT_REQUEST: A RESULT vendor request returns the matching results entry, NAKing while it executes (R420). -/
  | resultRequest (wIndex : BitVec 16) (wValue : BitVec 16) (wLength : BitVec 16)
  /-- INFO: An INFO vendor request returns the 16-byte status (R415). -/
  | info (wIndex : BitVec 16) (wLength : BitVec 16)
  /-- EVT_ACK: An EVT_ACK vendor request acknowledges the USB notification as VEC_ACK does a vector (R425). -/
  | evtAck (wIndex : BitVec 16)
  /-- MGMT_COMMAND_EXECUTE: The management function executes the next queued command as a local or bridged access (R418). -/
  | mgmtCommandExecute
  /-- MGMT_COMMAND_DONE: A command completes and its results entry takes STATE 3 with outcome and data (R419). -/
  | mgmtCommandDone
  /-- RESULTS_CLEAR: MF_CMD.RESULTS_CLEAR clears the results table (R419). -/
  | resultsClear (a : Agent)
  /-- USB_NOTIFY_TIMER: The notification coalescing timer reaching USB_COAL_US queues a notification packet on EP1 IN (R425). -/
  | usbNotifyTimer
  /-- CONSOLE_OUT_PACKET: A packet on a console OUT endpoint is gathered into a raw record, sent on a short packet or 240 bytes (R423). -/
  | consoleOutPacket (k : Fin 4) (data : List Byte)
  /-- CON_IDLE_EXPIRY: CON_IDLE_US without a packet ends and sends the gathered console record (R423). -/
  | conIdleExpiry (k : Fin 4)
  /-- CONSOLE_IN_DRAIN: A console drains a record of its mailbox engine onto its IN endpoint (R424). -/
  | consoleInDrain (k : Fin 4)
  /-- SET_LINE_CODING: SET_LINE_CODING stores the line coding in CON_LINE without changing any engine (R424). -/
  | setLineCoding (k : Fin 4) (rate : Word) (rest : BitVec 24)
  /-- SOF: A received SOF is timestamped on unit 14 and may enter the capture queue (R426). -/
  | sof (frame : BitVec 11)
  /-- SOF_MISSED: A gap between SOFs longer than the limit counts SOF_MISSED (R426). -/
  | sofMissed
  /-- SOF_CAP_POP: A read of SOF_CAP_POP returns and removes the oldest captured SOF and loads its time (R427). -/
  | sofCapPop (a : Agent)
  /-- POWER_DIE_RESET_EXIT: The power die supply above 7.0 V takes it out of reset and the inlet reads CRETRY (R434). -/
  | powerDieResetExit (cretry : BitVec 12)
  /-- POWER_DIE_RESET_ENTRY: The power die supply below 6.5 V resets the die, holding gates off and PGOOD low (R434). -/
  | powerDieResetEntry
  /-- INSERT_DELAY_EXPIRY: The window met for INSERT_MS starts charging the gate and enters RAMP (R438). -/
  | insertDelayExpiry
  /-- HS_OUT_GOOD: HS_OUT good in RAMP starts the PG count, or returns to ON when PGOOD was kept from HOLD (R438). -/
  | hsOutGood
  /-- RAMP_TIMEOUT: 500 ms in RAMP without HS_OUT good is a fault (R438). -/
  | rampTimeout
  /-- PG_COUNT_DONE: The PG count reaching PG_MS releases PGOOD and enters ON (R441). -/
  | pgCountDone
  /-- FAULT_TIMER_EXPIRY: The inlet fault timer expiring pulls the gate off within 1 µs as a fault (R440). -/
  | faultTimerExpiry
  /-- FAST_TRIP: A sense voltage above twice ILIM pulls the gate off within 1 µs as a fault (R440). -/
  | fastTrip
  /-- WINDOW_LOST: Loss of the input window or reverse current turns the gate off, entering INSERT or HOLD (R438). -/
  | windowLost (cause : LossCause)
  /-- HOLD_RECOVER: The window met again in HOLD with HS_VIN above HS_OUT recharges the gate (R438). -/
  | holdRecover
  /-- HOLD_OUT_LOW: HS_OUT below OUT_LOW in HOLD drops PGOOD and enters INSERT (R438). -/
  | holdOutLow
  /-- COOLDOWN_END: CRETRY falling to 0.20 V ends the cool-down and enters INSERT (R443). -/
  | cooldownEnd
  /-- RETRY_COUNT_RESET: PGOOD released for 1 s returns RETRY_COUNT to 0 (R444). -/
  | retryCountReset (b : Option (Fin 8))
  /-- HS_CYCLE: A write of HS_CYCLE with KEY 0x0C1C turns the inlet off for OFF_MS (R447). -/
  | hsCycle (a : Agent) (v : Word)
  /-- HS_CYCLE_OFF_EXPIRY: At the end of OFF_MS the inlet restarts through INSERT (R447). -/
  | hsCycleOffExpiry
  /-- HS_WINDOW_WRITE: A write of HS_WINDOW or HS_LEVELS breaking the level relations is refused with WINDOW_REFUSED (R439). -/
  | hsWindowWrite (a : Agent) (levels : Bool) (v : Word)
  /-- PFW: HS_VIN below PFW_LEVEL for 2 samples sets PFW_ACTIVE, warns the Seed store and starts the warning commit (R448). -/
  | pfw
  /-- PFW_END: HS_VIN above PFW_LEVEL + PFW_HYST for 1 ms ends the warning, records VIN_DIP_MIN and thaws the store (R448). -/
  | pfwEnd (lowest : BitVec 16)
  /-- RAIL_DIP: A logic rail below its reset level for 1 µs resets the domains it feeds and records RAIL_DIP (R449). -/
  | railDip (rail : Fin 6) (mv : BitVec 12)
  /-- RAIL_RECOVER: A rail returning above its reset level lets its domains switch on again (R466). -/
  | railRecover (rail : Fin 6)
  /-- FUSE_START: A fuse whose start conditions hold starts its ramp, one at a time and STAGGER_MS apart (R450). -/
  | fuseStart (b : Fin 8)
  /-- FUSE_POWER_GOOD: FUSE_OUT near FSUP without limit for 1 ms sets POWER_GOOD (R450). -/
  | fusePowerGood (b : Fin 8)
  /-- FUSE_FAULT: A fuse timer expiry, fast trip or 100 ms ramp timeout turns the fuse off and latches or cools it (R451). -/
  | fuseFault (b : Fin 8) (cause : FuseCause)
  /-- FUSE_COOL_EXPIRY: COOL_MS after a fuse fault the fuse starts again (R451). -/
  | fuseCoolExpiry (b : Fin 8)
  /-- FSUP_WINDOW_CHANGE: FSUP leaving its window or PGOOD falling turns every fuse off and raises FSUP_FAULT (R452). -/
  | fsupWindowChange (met : Bool)
  /-- FUSE_FAULT_CLEAR: A write of 1 to a FUSE_FAULT bit clears a latched fuse while FSUP is in window, else sets CLEAR_REFUSED (R453). -/
  | fuseFaultClear (a : Agent) (b : Fin 8)
  /-- METER_AVG_BLOCK: At the end of each block of 2^AVG_LOG samples MTR_AVG is updated (R456). -/
  | meterAvgBlock
  /-- ENERGY_CLEAR: MTR_CMD.ENERGY_CLEAR zeroes the selected energy accumulators (R457). -/
  | energyClear (a : Agent) (mask : BitVec 9)
  /-- AON_POWER_ON: VDD_AON becoming valid resets every logic-die domain, frees the token and starts bring-up (R464). -/
  | aonPowerOn (dip : Bool) (pos : Fin 4) (norestore : Bool)
  /-- NRESET: nRESET held low for 1 µs acts as AON power-on and straps are sampled at release (R464). -/
  | nreset (pos : Fin 4) (norestore : Bool)
  /-- HUB_RESET: BRINGUP_CMD with KEY 0x5EED and HUB_RESET by the owner commits the journal and resets the hub within 400 µs (R623). -/
  | hubReset (a : Agent) (v : Word) (pos : Fin 4) (norestore : Bool)
  /-- PAGE_RESTORE: A page's Kept registers are written from the active image and the journal, then RESTORED or FACTORY is set (R475). -/
  | pageRestore (p : BitVec 9)
  /-- PAGE_READY: A page whose domain, restore and start-up work are complete sets READY (R469). -/
  | pageReady (p : BitVec 9) (missing : Bool)
  /-- ADAPT_RECORD: A value changed by hardware or Ralusk is journalled at most once per ADAPT_S (R480). -/
  | adaptRecord (p : BitVec 9) (w : BitVec 10) (v : Word)
  /-- COMMIT_TIMER: COMMIT_MS after the previous commit the store commits the buffered records (R481). -/
  | commitTimer
  /-- COMMIT: SEED_CMD.COMMIT commits the buffered records, or is refused while frozen (R481). -/
  | commit (a : Agent)
  /-- JOURNAL_COMMIT_DONE: A commit finishes writing its records to the active bank and may trigger compaction (R481). -/
  | journalCommitDone
  /-- COMPACT: SEED_CMD.COMPACT, or the bank reaching COMPACT_AT, starts a compaction into the inactive image (R482). -/
  | compact (a : Agent)
  /-- COMPACT_DONE: A compaction writes its header, makes the new image active and erases the old bank (R482). -/
  | compactDone
  /-- ADOPT: SEED_CMD.ADOPT writes an image of the live Kept values and starts journalling (R479). -/
  | adopt (a : Agent)
  /-- FAULT_BATCH: The fault messages reaching the collector in one AON cycle are processed in order, logged, latched and reacted to (R492). -/
  | faultBatch
  /-- PERSIST_WRITE: A buffered persistent log entry is written to the Seed store within 20 µs (R506). -/
  | persistWrite
  /-- HUB_FATAL_RESET: An S4 fault with HUB_RESET commits the journal and resets the hub within 400 µs (R510). -/
  | hubFatalReset (pos : Fin 4) (norestore : Bool)
  /-- CLR_GO: A write of CLR_CTRL.GO asks the source whether the entry's cause persists (R508). -/
  | clrGo (a : Agent) (n : Fin 128)
  /-- CLEAR_DECIDED: Within 20 µs the clear is decided; the entry clears and safe states release, or REFUSED is set (R508). -/
  | clearDecided
  /-- THR_CLEAR_ALL: THR_CTRL.CLEAR_ALL applies the clear to every active entry and records the counts (R509). -/
  | thrClearAll (a : Agent)
  /-- FF_CLEAR: THR_CTRL.FF_CLEAR empties the first-fault record (R497). -/
  | ffClear (a : Agent)
  /-- SAFE_FORCE: A write of THR_CTRL.SAFE_FORCE forces or releases the hub's safe state (R503). -/
  | safeForce (a : Agent) (on : Bool)
  /-- POLICY_MODE_WRITE: A write of POLICY_MODE changes a policy's mode at its next decision within 1 ms (R516). -/
  | policyModeWrite (a : Agent) (v : Word)
  /-- HALT: A write of RALUSK_CTRL.HALT enters or leaves HALTED (R534). -/
  | halt (a : Agent) (v : Bool)
  /-- WATCHDOG_MISS: A missed 100 ms Ralusk watchdog restarts Ralusk, and the third restart in 60 s halts it (R534). -/
  | watchdogMiss
  /-- RALUSK_LOADED: Ralusk firmware finishes starting and enters RUN (R533). -/
  | raluskLoaded
  /-- EQ_PERIOD: Every EQ_PERIOD_S the EQ policy scans CTLE or VGA codes and moves one code at most (R519). -/
  | eqPeriod (l : LaneId) (below : BitVec 64) (here : BitVec 64) (above : BitVec 64)
  /-- PATH_HOLD_EXPIRY: PATH_HOLD_MS after a WRAP_NOTICE the master steers a still-standing break (R520). -/
  | pathHoldExpiry (ring : Fin 2) (x : Fin 1024)
  /-- CM_PERIOD: Every CM_PERIOD_US the CM policy lowers, raises or keeps each profile's CM_THRESH (R521). -/
  | cmPeriod
  /-- SHED_IDLE_EXPIRY: A domain idle for SHED_IDLE_S is requested off by the POWER policy (R522). -/
  | shedIdleExpiry (d : Fin 19)
  /-- LP_IDLE_EXPIRY: A ring side without frames for LP_IDLE_MS gets LP_REQ from the POWER policy (R522). -/
  | lpIdleExpiry (k : Fin 4)
  /-- THERMAL_RATE_DWELL: Junction at or above THERM_RATE_C for 1 s stages the lower rate here and at the partner and requests an epoch (R523). -/
  | thermalRateDwell (junction : BitVec 14)
  /-- THERMAL_RESTORE_DWELL: Junction below the hysteresis for 60 s stages the full rate back by epoch (R523). -/
  | thermalRestoreDwell (junction : BitVec 14)
  /-- SERVO_SUMMARY: Once per second SERVO logs a SUMMARY entry (R526). -/
  | servoSummary
  /-- CANPAIR_HOLD_EXPIRY: A TEC excess held for CAN_SWAP_HOLD makes the CANPAIR policy write PAIR_SWAP (R528). -/
  | canpairHoldExpiry (k : Fin 64)
  /-- EPOCH_REQUEST: EP_CMD.REQUEST sends a REQUEST to the master or completes at once with a refusal (R543). -/
  | epochRequest (a : Agent)
  /-- EPOCH_CANCEL: EP_CMD.CANCEL sends CANCEL while the request is waiting (R549). -/
  | epochCancel (a : Agent)
  /-- DISCARD_STAGED: EP_CMD.DISCARD_STAGED copies every active value into its staged copy within 100 µs (R539). -/
  | discardStaged (a : Agent)
  /-- REQUEST: The master answers a received REQUEST with a refusing RESULT or sends PREPARE (R544). -/
  | request (src : Fin 1024) (payload : List Byte)
  /-- PREPARE: A hub in scope votes on a received PREPARE and enters PREPARED on READY (R545). -/
  | prepare (src : Fin 1024) (payload : List Byte)
  /-- VOTE: The master records a received VOTE and sends COMMIT when all are READY or ABORT on refusal (R546). -/
  | vote (src : Fin 1024) (payload : List Byte)
  /-- EPOCH_GUARD_EXPIRY: T − GUARD_US without every vote aborts the epoch with NO_VOTE (R546). -/
  | epochGuardExpiry
  /-- DECISION_RESEND: The master resends its COMMIT or ABORT 10 µs apart, three times in all (R546). -/
  | decisionResend
  /-- COMMIT_EPOCH: A received epoch COMMIT moves a PREPARED hub to COMMITTED and arms its pages (R547). -/
  | commitEpoch (src : Fin 1024) (payload : List Byte)
  /-- ABORT_EPOCH: A received epoch ABORT returns a PREPARED hub to IDLE and sets ABORTED (R547). -/
  | abortEpoch (src : Fin 1024) (payload : List Byte)
  /-- EPOCH_RESULT: A received epoch RESULT completes the requester's request with its outcome (R546). -/
  | epochResult (src : Fin 1024) (payload : List Byte)
  /-- EPOCH_CANCEL_RECEIVED: The master receiving CANCEL before COMMIT aborts with CANCELLED (R549). -/
  | epochCancelReceived (src : Fin 1024) (payload : List Byte)
  /-- EPOCH_SWITCH: At time T each committed hub makes every staged value active and sets EPOCH_NUM; undecided hubs raise EPOCH_UNDECIDED (R540). -/
  | epochSwitch
  /-- DIGEST_RECOMPUTE_DONE: Within 5 ms of a change the active, staged and page digests are recomputed (R553). -/
  | digestRecomputeDone
  /-- DIGEST_BEACON_SEND: Every 1 ms a hub in RUN sends its DIGEST_BEACON to the master (R554). -/
  | digestBeaconSend
  /-- DIGEST_BEACON: The master compares a received beacon with the expected digest and epoch and sets MISMATCH (R555). -/
  | digestBeacon (src : Fin 1024) (payload : List Byte)
  /-- BEACON_MISSING_TIMEOUT: No beacon from a valid hub for 3 ms sets its MISSING bit (R555). -/
  | beaconMissingTimeout (i : Fin 1024)
  /-- START: UPD_CMD.START checks R562, erases the spare slot and forwards START to peers (R564). -/
  | start (a : Agent)
  /-- ERASE_DONE: Erase done at the hub and every peer opens the stream buffer (R568). -/
  | eraseDone
  /-- UPD_DATA: A write of UPD_DATA appends 4 bytes to the stream, or ends staging with OVERRUN when no space (R565). -/
  | updData (a : Agent) (v : Word)
  /-- STREAM_COMPLETE: The full stream received runs the manifest checks, completes the spare slot and enters STAGED (R566). -/
  | streamComplete (readBack : Bool)
  /-- ACTIVATE: UPD_CMD.ACTIVATE commits at once or runs the two-phase commit with peers (R569). -/
  | activate (a : Agent)
  /-- ARM_UPDATE: UPD_CMD.ARM sends PREPARE with ARM and enters ARMED once every peer is READY (R572). -/
  | armUpdate (a : Agent)
  /-- ABORT: UPD_CMD.ABORT sends ABORT to peers, empties the slot and returns to IDLE (R568). -/
  | abort (a : Agent)
  /-- CONFIRM: UPD_CMD.CONFIRM makes the trial slot active on every hub of the group, or is refused with PEER (R575). -/
  | confirm (a : Agent)
  /-- REJECT: UPD_CMD.REJECT rolls the group back to the previous slot (R576). -/
  | reject (a : Agent)
  /-- UPDATE_START_RECEIVED: A peer receiving START runs its own erase and stages the stream (R570). -/
  | updateStartReceived (k : LinkId) (payload : List Byte)
  /-- UPDATE_DATA_RECEIVED: A peer receiving DATA appends the stream bytes at their offset (R570). -/
  | updateDataReceived (k : LinkId) (payload : List Byte)
  /-- UPDATE_PREPARE: A peer receiving PREPARE tests R562 and votes within 200 µs (R569). -/
  | updatePrepare (k : LinkId) (payload : List Byte)
  /-- UPDATE_VOTE: The lead records a peer's vote and commits when all are READY, or aborts on refusal (R569). -/
  | updateVote (k : LinkId) (payload : List Byte)
  /-- UPDATE_VOTE_TIMEOUT: 1 ms without every peer vote makes the lead send ABORT (R569). -/
  | updateVoteTimeout
  /-- UPDATE_COMMIT_RECEIVED: A peer receiving COMMIT commits and schedules its reset after DELAY_US (R573). -/
  | updateCommitReceived (k : LinkId) (payload : List Byte)
  /-- UPDATE_ABORT_RECEIVED: A peer receiving ABORT returns to STAGED or IDLE (R568). -/
  | updateAbortReceived (k : LinkId) (payload : List Byte)
  /-- PEER_PREPARED_TIMEOUT: A peer in PREPARED without COMMIT or ABORT for 20 ms returns to STAGED (R571). -/
  | peerPreparedTimeout
  /-- ACT_DELAY_EXPIRY: ACT_DELAY_MS after its commit the hub resets with cause 6 (R573). -/
  | actDelayExpiry (pos : Fin 4) (norestore : Bool)
  /-- TRIAL_READY: A received TRIAL_READY records a peer's trial readiness and slot, rolling back on a wrong slot (R575). -/
  | trialReady (k : LinkId) (payload : List Byte)
  /-- UPDATE_CONFIRM_RECEIVED: A peer receiving CONFIRM makes its trial slot active (R575). -/
  | updateConfirmReceived (k : LinkId) (payload : List Byte)
  /-- UPDATE_REJECT_RECEIVED: A peer receiving REJECT rolls back and resets (R576). -/
  | updateRejectReceived (k : LinkId) (payload : List Byte)
  /-- AUTO_CONFIRM_EXPIRY: With AUTO_CONFIRM, 10 s of group trial-readiness confirms the update (R575). -/
  | autoConfirmExpiry
  /-- CONFIRM_S_EXPIRY: CONFIRM_S since the trial boot without confirmation rolls the group back (R576). -/
  | confirmSExpiry
  /-- PROGRAM: OTP_CMD with PROGRAM programs a one-time record, or is refused with a reason (R583). -/
  | program (a : Agent) (sel : BitVec 8)
  /-- REVOKE: OTP_CMD with REVOKE sets a revoke bit, or is refused with a reason (R583). -/
  | revoke (a : Agent) (sel : BitVec 8)
  /-- OTP_DONE: A one-time command finishes within 50 ms and sets DONE, raising OTP_PROGRAM_FAIL on a bad read-back (R583). -/
  | otpDone (readBack : Bool)
  /-- ATTEST_GO: ATTEST_CTRL.GO signs the attestation digest with the device identity key (R584). -/
  | attestGo (a : Agent)
  /-- ATTEST_DONE: Within 5 ms the attestation signature appears in ATTEST_SIG (R584). -/
  | attestDone
  /-- OPEN_NONCE_NEW: OPEN_CTRL.NONCE_NEW produces a new opening nonce, or is refused while the random source fails (R587). -/
  | openNonceNew (a : Agent)
  /-- GO_KEY: OPEN_CTRL.GO_KEY checks OPEN_SIG and opens access by key within 5 ms (R587). -/
  | goKey (a : Agent)
  /-- GO_PASS: OPEN_CTRL.GO_PASS compares the passcode and opens access or counts a failure (R588). -/
  | goPass (a : Agent)
  /-- CLOSE: OPEN_CTRL.CLOSE returns access to CLOSED (R589). -/
  | close (a : Agent)
  /-- OPEN_TIMER_EXPIRY: Expiry of the open timer returns access to CLOSED (R589). -/
  | openTimerExpiry
  /-- LOCK: A write of SEC_LOCK.LOCK sets OWNER_LOCK (R590). -/
  | lock (a : Agent)
  /-- UNLOCK: A write of SEC_LOCK.UNLOCK clears OWNER_LOCK while access is open (R590). -/
  | unlock (a : Agent)
  /-- TRNG_FAIL: The random source failing its health test raises TRNG_FAIL (R587). -/
  | trngFail (failing : Bool)
  /-- RUN: Setting CH_CTRL.RUN with access open starts the Chaff injectors, at once or at CH_START (R591). -/
  | run (a : Agent) (v : Word)
  /-- STOP_ALL: CH_CTRL.STOP_ALL clears RUN and stops every unit within 1 µs (R591). -/
  | stopAll (a : Agent)
  /-- RUN_S_EXPIRY: Expiry of RUN_S clears RUN (R591). -/
  | runSExpiry
  /-- CH_START_REACHED: Fabric time reaching CH_START makes a pending RUN take effect (R591). -/
  | chStartReached
  /-- FI_GO: FI_CMD.GO injects FI_MSG into an island's fault queue, or refuses it with INJECT_REFUSED (R593). -/
  | fiGo (a : Agent) (v : Word)
  /-- JTAG_INSTRUCTION: Loading EXTEST, CLAMP or HIGHZ gives the boundary register the balls and raises JTAG_CONTROL (R595). -/
  | jtagInstruction (code : BitVec 8)
  /-- CLK80_LOCK: The bank's 80 MHz serial clock regains lock and CLK80_LOCK returns to 1 (R269). -/
  | clk80Lock (b : BankId)
  /-- CLOCK_LOST: An island's clock fails in operation and the island raises CLOCK_LOST (S4) with its island number (R496). -/
  | clockLost (i : Fin 19)
  /-- AON_PARITY: A parity error found in an AON page raises AON_PARITY (S4) (R496). -/
  | aonParity (p : BitVec 9) (off : BitVec 12)
  /-- CORE_SLICE_FAIL: A switch core slice fails and raises CORE_SLICE_FAIL (S4) (R496). -/
  | coreSliceFail (slice : Fin 2)
  /-- PD_HOT: PD_TEMP rises above 140 °C, which sets PD_HOT and raises the S2 fault (R463). -/
  | pdHot (temp : BitVec 11)
  /-- THERMAL_OVER: The junction temperature rises above the top of the grade's range and THERMAL_OVER (S2) is raised (R524). -/
  | thermalOver (junction : BitVec 14)
  /-- INLET_WINDOW_MET: HS_VIN enters the input window, which starts the insertion count in INSERT (R438). -/
  | inletWindowMet
  /-- CURRENT_LIMIT_ENTRY: The inlet or fuse sense voltage reaches ILIM, so IN_LIMIT sets, the fault timer starts and the PG count returns to 0; falling below the limit stops and resets the timer (R440). -/
  | currentLimitEntry (which : Option (Fin 8)) (limited : Bool)
  /-- OUTPUT_CURRENT_LIMIT: A field output's current reaches its limit, so IN_LIMIT sets and the LIM_T timer starts; the timer resets when the current falls below the limit (R352). -/
  | outputCurrentLimit (o : Fin 32) (inLimit : Bool)
  /-- OPEN_LOAD_END: The open-load condition of an output ends and OPEN_ON or OPEN_OFF clears (R356). -/
  | openLoadEnd (o : Fin 32) (off : Bool)
  /-- CAN_RX_ERROR: An error detected while receiving on the CAN bus raises REC and may change the error state and set ERR_WARN (R329). -/
  | canRxError (e : EngineId) (code : Fin 7) (dataPhase : Bool) (byEight : Bool)
  /-- UART_CTS_CHANGE: The CTS line becomes active or inactive, which lets a waiting character start or holds it back (R290). -/
  | uartCtsChange (e : EngineId) (active : Bool)
  /-- USB_PORT_CONNECT_CHANGE: A device attaches to or detaches from downstream port 2, 3 or 4, which updates the port status and sets PORT_CHANGE (R409). -/
  | usbPortConnectChange (p : Fin 3) (speed : Option (Fin 3))
  /-- SET_CONFIGURATION: The host sets the configuration, which sets CONFIGURED and enables the consoles and notifications (R433). -/
  | setConfiguration (address : BitVec 7) (on : Bool)
  /-- DEVICE_REMOTE_WAKEUP: The host sets or clears the DEVICE_REMOTE_WAKEUP feature, which sets or clears REMOTE_WAKE_EN (R430). -/
  | deviceRemoteWakeup (on : Bool)
  /-- METER_SAMPLE: Every 10 µs the meters sample each channel, update MTR_LAST, MTR_MIN and MTR_MAX, and add energy, setting ENERGY_WRAP on wrap (R454). -/
  | meterSample (vin : Word) (vout : Word) (inlet : Word) (fsup : Word) (branch : List Word)
  /-- DATA_RING_FAILBACK: Once the configured data ring has held at most one break for UNWRAP_HOLD, it becomes active again under a fence (R159). -/
  | dataRingFailback
  deriving DecidableEq, Repr

end Sys2Proof
end

