-- ==== Sys2Proof/WellFormed.lean ====
section
/-! DEFINITION. The operands that a command can carry beyond what their types say: lengths of what arrives at the balls. -/

namespace Sys2Proof

/-- A payload of a frame holds at most 256 bytes (R91). -/
def fitsFrame (p : List Byte) : Bool := decide (p.length ≤ 256)

/-- The command is one that can be given to the hub: a header flit of 24 bytes and a tail of 8 (R92, R97), payloads of at
most 256 bytes (R91), values of 1 to 32 bytes (R206), a record's data of at most 240 (R282), CAN data of at most 64 (R324),
currents of the 32 outputs (R354), 8 branches (R455), a byte enable for each byte written (R393). -/
def Instr.wf : Instr → Bool
  | .registerWrite .. => true
  | .readClear .. => true
  | .latchingLoRead .. => true
  | .counterClear .. => true
  | .evtForce .. => true
  | .softReset .. => true
  | .softResetDone .. => true
  | .powerReq .. => true
  | .ownerClaim .. => true
  | .ownerRelease .. => true
  | .reclaimNonceNew .. => true
  | .reclaimNonceReady => true
  | .reclaimGo .. => true
  | .reclaimCheckDone => true
  | .reclaimNonceExpiry => true
  | .aflPop .. => true
  | .dieLinkWord .. => true
  | .dieLinkRetrainDone => true
  | .keepaliveTimeout => true
  | .dieLinkUp => true
  | .channelTransfer .. => true
  | .crystalLock => true
  | .crystalLockTimeout => true
  | .domainSwitchRequest .. => true
  | .domainSwitchStart => true
  | .domainOffChannelsIdle => true
  | .domainOffIdleTimeout => true
  | .domainOnDone => true
  | .linkEnable .. => true
  | .linkDisable .. => true
  | .signalDetect .. => true
  | .cdrLock .. => true
  | .blockLock .. => true
  | .lockHere .. => true
  | .bitSlip .. => true
  | .alignmentMarker .. => true
  | .lockLost .. => true
  | .squelchInUp .. => true
  | .squelchInTraining .. => true
  | .trainTimeout .. => true
  | .retrain .. => true
  | .rxIdleSignalReturn .. => true
  | .fastExitLimitExpiry .. => true
  | .fastExitComplete .. => true
  | .fastExitFail .. => true
  | .testModeSet .. => true
  | .testModeClear .. => true
  | .idleReqSet .. => true
  | .idleReqClear .. => true
  | .eqBoundsWrite .. => true
  | .prbsCheckerLock .. => true
  | .prbsLockLost .. => true
  | .prbsSnap .. => true
  | .prbsClear .. => true
  | .injOne .. => true
  | .eyeGo .. => true
  | .eyeDone .. => true
  | .controlFlitDeadline .. => true
  | .idle .. => true
  | .ack .. => true
  | .nak .. => true
  | .replay .. => true
  | .status .. => true
  | .init .. => true
  | .initAck .. => true
  | .ping .. => true
  | .pong .. => true
  | .lanesUp .. => true
  | .initTimeout .. => true
  | .linkDown .. => true
  | .silenceTimeout .. => true
  | .linkReset .. => true
  | .holdoffExpiry .. => true
  | .replayTimeout .. => true
  | .frameHeader _ header _ _ => header.length == 24
  | .frameEnd _ _ area tail _ _ => area.length ≤ 256 && tail.length == 8
  | .egressSelect .. => true
  | .lpReqWrite .. => true
  | .lpEnter .. => true
  | .lpDeny .. => true
  | .lpIdleExit .. => true
  | .lpStatusInterval .. => true
  | .claim _ payload => fitsFrame payload
  | .claimResend => true
  | .settleTimerExpiry => true
  | .position _ payload => fitsFrame payload
  | .tokenTimerExpiry => true
  | .ringInfo _ payload => fitsFrame payload
  | .announce _ payload => fitsFrame payload
  | .assignNode _ payload => fitsFrame payload
  | .masterBeaconSend => true
  | .masterBeacon _ payload => fitsFrame payload
  | .beaconLost => true
  | .rediscover .. => true
  | .wrapNotice _ payload => fitsFrame payload
  | .unwrapNotice _ payload => fitsFrame payload
  | .routeUpdate _ payload => fitsFrame payload
  | .dataRingSwitch _ payload => fitsFrame payload
  | .fenceRelease .. => true
  | .unwrapHoldExpiry .. => true
  | .unwrapStop .. => true
  | .routeSteer .. => true
  | .e2eEntryExpiry .. => true
  | .dupAgeExpiry .. => true
  | .schedFire .. => true
  | .schedStore .. => true
  | .schedLoad .. => true
  | .reserveWrite .. => true
  | .profileBoundsWrite .. => true
  | .portDown .. => true
  | .holdWindowExpiry .. => true
  | .portUp .. => true
  | .capDataRead .. => true
  | .capFlush .. => true
  | .gleanerCellCheck .. => true
  | .gleanerVerify .. => true
  | .gleanBoundsWrite .. => true
  | .dirWriteW0 .. => true
  | .dirWriteW123 .. => true
  | .sourceUpdate _ value _ _ => 1 ≤ value.length && value.length ≤ 32
  | .minGapExpiry .. => true
  | .eventBundleAssembly .. => true
  | .hostPublishWrite _ _ data => 1 ≤ data.length && data.length ≤ 256
  | .conflictNoticeSend .. => true
  | .conflictNotice _ payload => fitsFrame payload
  | .freshnessTimeout .. => true
  | .chgPop .. => true
  | .resyncAll .. => true
  | .supersededClear .. => true
  | .mirrorRead .. => true
  | .latchArm .. => true
  | .latchCancel .. => true
  | .arm _ payload => fitsFrame payload
  | .cancel _ payload => fitsFrame payload
  | .latchFire .. => true
  | .resultSend .. => true
  | .fieldLatchEvaluate .. => true
  | .result _ payload => fitsFrame payload
  | .hostBar4Read .. => true
  | .hostBar4Write _ data => 1 ≤ data.length && data.length ≤ 256
  | .cpGo .. => true
  | .raRead _ _ _ _ payload => fitsFrame payload
  | .raWritePosted _ _ _ payload => fitsFrame payload
  | .raWriteNp _ _ _ _ payload => fitsFrame payload
  | .raCompletion _ _ _ payload => fitsFrame payload
  | .raFarError _ _ payload => fitsFrame payload
  | .readDiscardExpiry .. => true
  | .felPop .. => true
  | .orlPop .. => true
  | .clearAll .. => true
  | .engineEnable .. => true
  | .engineDisable .. => true
  | .cellCfgWrite .. => true
  | .vioChange .. => true
  | .clk80Unlock .. => true
  | .pollTick .. => true
  | .controllerBoundary .. => true
  | .downstreamUnit _ _ _ data => data.length ≤ 240
  | .rawPortTake .. => true
  | .rawRecord _ _ _ _ data => data.length ≤ 240
  | .rxDataRead .. => true
  | .rxFlush .. => true
  | .txData .. => true
  | .txCommit .. => true
  | .txStageClear .. => true
  | .uartCharacter .. => true
  | .uartIdleGap .. => true
  | .uartBreak .. => true
  | .uartTransmit .. => true
  | .sendBreak .. => true
  | .spiTransaction _ data _ => data.length ≤ 256
  | .spiTargetSelect _ data _ => data.length ≤ 256
  | .i2cTransaction _ _ _ data _ => data.length ≤ 256
  | .i2cTargetAccess _ _ _ _ data _ _ => data.length ≤ 256
  | .ctrlStretchLimit .. => true
  | .tgtStretchLimit .. => true
  | .keptAnswerExpiry .. => true
  | .smbusTimeout .. => true
  | .smbalert .. => true
  | .busRecover .. => true
  | .discreteEdge .. => true
  | .pwmPeriodStart .. => true
  | .encoderTransition .. => true
  | .encoderIndex .. => true
  | .encPreset .. => true
  | .canTxAttempt .. => true
  | .canFrameSent .. => true
  | .canAttemptFailed .. => true
  | .canFrameReceived _ _ _ _ _ _ _ _ data _ => data.length ≤ 64
  | .canRemoteFrame .. => true
  | .canCycleTimer .. => true
  | .restart .. => true
  | .integrationDone .. => true
  | .enableIntegrationDone .. => true
  | .abortTx .. => true
  | .pairFailover .. => true
  | .pairSwap .. => true
  | .canStatusRead .. => true
  | .fieldInputAccept .. => true
  | .finInvWrite .. => true
  | .wireBreak .. => true
  | .inputOvervolt .. => true
  | .finFaultClear .. => true
  | .foutSetWrite .. => true
  | .outputLimitExpiry .. => true
  | .outputShort .. => true
  | .outputThermal .. => true
  | .aggregateShed currents => currents.length == 32
  | .shedNext currents => currents.length == 32
  | .foutFaultClear .. => true
  | .openOn .. => true
  | .openOff .. => true
  | .pFreqWrite .. => true
  | .pAdjWrite .. => true
  | .set .. => true
  | .unitStrobe => true
  | .timeSnap .. => true
  | .pdelayReqSend .. => true
  | .pdelayReq _ payload _ => fitsFrame payload
  | .pdelayResp _ payload _ => fitsFrame payload
  | .pdelayAnswerTimeout .. => true
  | .syncSend => true
  | .sync _ payload _ _ => fitsFrame payload
  | .syncWaitExpiry .. => true
  | .announceSend => true
  | .ptpAnnounce _ payload => fitsFrame payload
  | .announceTimeout => true
  | .syncLossTimeout => true
  | .holdoverExpiry => true
  | .rateRatioMeasurement .. => true
  | .ppsEdge .. => true
  | .ppsAbsentTimeout => true
  | .ref10Change .. => true
  | .ppsOutStart => true
  | .ppsOutEnd => true
  | .measPop .. => true
  | .txtsPop .. => true
  | .txtsOverflowClear .. => true
  | .txtsFlush .. => true
  | .pcieMemRead .. => true
  | .pcieMemWrite _ _ data enables => 1 ≤ data.length && data.length ≤ 256 && enables.length == data.length
  | .pcieConfigRequest .. => true
  | .pcieReset .. => true
  | .pcieLinkUp .. => true
  | .retrainPcie .. => true
  | .sourceLive .. => true
  | .coalTimerExpiry .. => true
  | .msixUnmask .. => true
  | .vecAck .. => true
  | .usbAttach => true
  | .disconnect .. => true
  | .disconnectEnd => true
  | .busReset .. => true
  | .usbSuspend => true
  | .usbResume => true
  | .lpm .. => true
  | .remoteWake => true
  | .wakeRetry => true
  | .usbOvercurrent .. => true
  | .setPortPower .. => true
  | .cmd _ data => data.length ≤ 1024
  | .cmdNakTimeout .. => true
  | .resultRequest .. => true
  | .info .. => true
  | .evtAck .. => true
  | .mgmtCommandExecute => true
  | .mgmtCommandDone => true
  | .resultsClear .. => true
  | .usbNotifyTimer => true
  | .consoleOutPacket _ data => data.length ≤ 512
  | .conIdleExpiry .. => true
  | .consoleInDrain .. => true
  | .setLineCoding .. => true
  | .sof .. => true
  | .sofMissed => true
  | .sofCapPop .. => true
  | .powerDieResetExit .. => true
  | .powerDieResetEntry => true
  | .insertDelayExpiry => true
  | .hsOutGood => true
  | .rampTimeout => true
  | .pgCountDone => true
  | .faultTimerExpiry => true
  | .fastTrip => true
  | .windowLost .. => true
  | .holdRecover => true
  | .holdOutLow => true
  | .cooldownEnd => true
  | .retryCountReset .. => true
  | .hsCycle .. => true
  | .hsCycleOffExpiry => true
  | .hsWindowWrite .. => true
  | .pfw => true
  | .pfwEnd .. => true
  | .railDip .. => true
  | .railRecover .. => true
  | .fuseStart .. => true
  | .fusePowerGood .. => true
  | .fuseFault .. => true
  | .fuseCoolExpiry .. => true
  | .fsupWindowChange .. => true
  | .fuseFaultClear .. => true
  | .meterAvgBlock => true
  | .energyClear .. => true
  | .aonPowerOn .. => true
  | .nreset .. => true
  | .hubReset .. => true
  | .pageRestore .. => true
  | .pageReady .. => true
  | .adaptRecord .. => true
  | .commitTimer => true
  | .commit .. => true
  | .journalCommitDone => true
  | .compact .. => true
  | .compactDone => true
  | .adopt .. => true
  | .faultBatch => true
  | .persistWrite => true
  | .hubFatalReset .. => true
  | .clrGo .. => true
  | .clearDecided => true
  | .thrClearAll .. => true
  | .ffClear .. => true
  | .safeForce .. => true
  | .policyModeWrite .. => true
  | .halt .. => true
  | .watchdogMiss => true
  | .raluskLoaded => true
  | .eqPeriod .. => true
  | .pathHoldExpiry .. => true
  | .cmPeriod => true
  | .shedIdleExpiry .. => true
  | .lpIdleExpiry .. => true
  | .thermalRateDwell .. => true
  | .thermalRestoreDwell .. => true
  | .servoSummary => true
  | .canpairHoldExpiry .. => true
  | .epochRequest .. => true
  | .epochCancel .. => true
  | .discardStaged .. => true
  | .request _ payload => fitsFrame payload
  | .prepare _ payload => fitsFrame payload
  | .vote _ payload => fitsFrame payload
  | .epochGuardExpiry => true
  | .decisionResend => true
  | .commitEpoch _ payload => fitsFrame payload
  | .abortEpoch _ payload => fitsFrame payload
  | .epochResult _ payload => fitsFrame payload
  | .epochCancelReceived _ payload => fitsFrame payload
  | .epochSwitch => true
  | .digestRecomputeDone => true
  | .digestBeaconSend => true
  | .digestBeacon _ payload => fitsFrame payload
  | .beaconMissingTimeout .. => true
  | .start .. => true
  | .eraseDone => true
  | .updData .. => true
  | .streamComplete .. => true
  | .activate .. => true
  | .armUpdate .. => true
  | .abort .. => true
  | .confirm .. => true
  | .reject .. => true
  | .updateStartReceived _ payload => fitsFrame payload
  | .updateDataReceived _ payload => fitsFrame payload
  | .updatePrepare _ payload => fitsFrame payload
  | .updateVote _ payload => fitsFrame payload
  | .updateVoteTimeout => true
  | .updateCommitReceived _ payload => fitsFrame payload
  | .updateAbortReceived _ payload => fitsFrame payload
  | .peerPreparedTimeout => true
  | .actDelayExpiry .. => true
  | .trialReady _ payload => fitsFrame payload
  | .updateConfirmReceived _ payload => fitsFrame payload
  | .updateRejectReceived _ payload => fitsFrame payload
  | .autoConfirmExpiry => true
  | .confirmSExpiry => true
  | .program .. => true
  | .revoke .. => true
  | .otpDone .. => true
  | .attestGo .. => true
  | .attestDone => true
  | .openNonceNew .. => true
  | .goKey .. => true
  | .goPass .. => true
  | .close .. => true
  | .openTimerExpiry => true
  | .lock .. => true
  | .unlock .. => true
  | .trngFail .. => true
  | .run .. => true
  | .stopAll .. => true
  | .runSExpiry => true
  | .chStartReached => true
  | .fiGo .. => true
  | .jtagInstruction .. => true
  | .clk80Lock .. => true
  | .clockLost .. => true
  | .aonParity .. => true
  | .coreSliceFail .. => true
  | .pdHot .. => true
  | .thermalOver .. => true
  | .inletWindowMet => true
  | .currentLimitEntry .. => true
  | .outputCurrentLimit .. => true
  | .openLoadEnd .. => true
  | .canRxError .. => true
  | .uartCtsChange .. => true
  | .usbPortConnectChange .. => true
  | .setConfiguration .. => true
  | .deviceRemoteWakeup .. => true
  | .meterSample _ _ _ _ branch => branch.length == 8
  | .dataRingFailback => true

end Sys2Proof
end

