-- ==== Sys2Proof/Decode.lean ====
section
/-! DEFINITION. The commands that a word spells: the spec's table gives no row any bits, so no word spells one. -/

namespace Sys2Proof

/-- The command that `w` spells in `nbits` bits of the table: none, for the table gives its rows no bits. -/
def decodeTableWord (_nbits _w : Nat) : Option Instr := none

end Sys2Proof
end

