-- ==== Sys2Proof/Config.lean ====
section
/-! DEFINITION. What one part fixes, and the free values. A free value has no body: nothing can be proved about which
value it is. -/

namespace Sys2Proof.Config

/-- The unique identifier of the part (R1, page 0x000); the spec gives it per part. DESIGN CHOICE, log entry 1. -/
def uid : Nat := 0

/-- The grade code of STEPPING [15:8], 0x01 XI, 0x02 XE (R2); the model is of an XI part. DESIGN CHOICE, log entry 1. -/
def grade : Nat := 1

/-- PD_INFO, the trim table version, per part. DESIGN CHOICE, log entry 1. -/
def trimVersion : Nat := 0

/-- The HS_RANGE straps, 0 to 3 (R436), hard-wired on the board. DESIGN CHOICE, log entry 1. -/
def hsRange : Nat := 0

/-- A word the spec leaves open, the n-th that the machine draws. -/
opaque freeWord : Nat → Word

/-- A byte the spec leaves open: byte `i` of the n-th draw (a nonce, a signature). -/
opaque freeByte : Nat → Nat → Byte

/-- The PRIO of ARM, CANCEL and RESULT frames: the spec gives one to CONFLICT_NOTICE alone (R226, R232). -/
opaque latchPrio : Fin 8

/-- How many bytes, less 1, an I²C target asks of a remote source: the spec gives a SKIND 3 slot no length (R277, R264). -/
opaque targetBytes : Fin 240

/-- Where the spec states a quotient without its rounding: it is rounded up. -/
opaque roundUp : Int → Int → Bool

/-- The device identity private key (R581, R584), and the number that an ECDSA signature draws at random (FIPS 186-5). -/
opaque deviceKey : Nat
opaque signNonce : Nat → Nat

/-- Update key 0 of the part, byte `i` of its 96 (R581). -/
opaque updateKey : Nat → Byte

/-- LTSSM state codes of PCIE_STATUS (R406 names the field alone): 0 Detect, 1 L0, 2 Recovery, 3 Hot Reset. -/
opaque ltssm : Fin 4 → Fin 64

/-- VERSION of a part of the shipped slot, by its kind (R561), and the bytes of a firmware slot that R473 and R561 do not
lay out: the slot, the offset. -/
opaque partVersion : Nat → Word
opaque slotByte : Nat → Nat → Byte

/-- Configuration words that the PCI Express specification lays down and R394 does not give. -/
opaque pciWord : Nat → Word

end Sys2Proof.Config
end

