-- ==== Sys2Proof/Machine/Bits.lean ====
section
/-! DEFINITION. Bit fields, byte order and the check codes of the spec (R91, R93, R98), all by structural recursion. -/

namespace Sys2Proof.Machine

/-- Field [lo + w - 1 : lo] of a number. -/
def bitsOf (x lo w : Nat) : Nat := x / 2 ^ lo % 2 ^ w

/-- `x` with field [lo + w - 1 : lo] replaced by `v`. -/
def bitsPut (x lo w v : Nat) : Nat :=
  x % 2 ^ lo + (v % 2 ^ w) * 2 ^ lo + x / 2 ^ (lo + w) * 2 ^ (lo + w)

/-- Bit `i` of a number. -/
def bitOf (x i : Nat) : Bool := x.testBit i

/-- The number whose bits `w - 1 .. 0` are those of `x` complemented. -/
def notW (w x : Nat) : Nat := 2 ^ w - 1 - x % 2 ^ w

/-- 1 for true. -/
def b2n (b : Bool) : Nat := if b then 1 else 0

/-- Two's complement reading of a field of `w` bits. -/
def signedOf (w x : Nat) : Int :=
  let y := x % 2 ^ w
  if 2 * y < 2 ^ w then (y : Int) else (y : Int) - (2 ^ w : Nat)

/-- The field of `w` bits that holds an integer in two's complement. -/
def ofSigned (w : Nat) (i : Int) : Nat := (i % ((2 ^ w : Nat) : Int)).toNat

/-- A counter field of `w` bits after `n` more counts: it saturates at all ones. -/
def satAdd (w x n : Nat) : Nat := Nat.min (x + n) (2 ^ w - 1)

/-- A value held between two limits. -/
def clamp (lo hi x : Nat) : Nat := Nat.max lo (Nat.min hi x)

/-- The little-endian number of a byte list. -/
def leNat : List Byte → Nat
  | [] => 0
  | b :: bs => b.toNat + 256 * leNat bs

/-- `n` bytes, little-endian. -/
def leBytes : Nat → Nat → List Byte
  | 0, _ => []
  | n + 1, x => BitVec.ofNat 8 x :: leBytes n (x / 256)

/-- The big-endian number of a byte list. -/
def beNat (bs : List Byte) : Nat := leNat bs.reverse

/-- `n` bytes, big-endian. -/
def beBytes (n x : Nat) : List Byte := (leBytes n x).reverse

/-- `n` bytes of a list from `i` on, padded with zeros. -/
def bytesAt (bs : List Byte) (i n : Nat) : List Byte :=
  let t := (bs.drop i).take n
  t ++ List.replicate (n - t.length) 0

/-- A list with entries from `i` on replaced; entries beyond the end are dropped. -/
def overlay {α : Type} (xs : List α) (i : Nat) (ys : List α) : List α :=
  xs.take i ++ (ys.take (xs.length - i)) ++ xs.drop (i + ys.length)

/-- Put a number into a list that lacks it. -/
def addNew (k : Nat) (l : List Nat) : List Nat := if l.contains k then l else l ++ [k]

/-- A quotient rounded to one of the two whole numbers beside it: which of them, the spec leaves open. DESIGN CHOICE,
log entry 22. -/
def roundFree (n d : Int) : Int := n / d + (if n % d = 0 then 0 else if Config.roundUp n d then 1 else 0)

/-- A quotient rounded to the nearest whole number; a tie falls to a side the spec leaves open. -/
def roundNear (n d : Int) : Int :=
  if 2 * (n % d) < d then n / d else if d < 2 * (n % d) then n / d + 1 else n / d + (if Config.roundUp n d then 1 else 0)

/-- The number filed under a key of a sparse table; 0 where none is. -/
def look (k : Nat) : List (Nat × Nat) → Nat
  | [] => 0
  | (j, v) :: t => if j = k then v else look k t

/-- File a number under a key; 0 removes the entry. -/
def file (k v : Nat) (l : List (Nat × Nat)) : List (Nat × Nat) :=
  let r := l.filter fun e => e.1 != k
  if v = 0 then r else (k, v) :: r

/-- The entry of a key in a sparse table; an unlisted key holds the default. -/
def tabGet {α : Type} (dflt : α) (k : Nat) : List (Nat × α) → α
  | [] => dflt
  | (j, v) :: t => if j = k then v else tabGet dflt k t

/-- Insert an entry in key order. -/
def tabInsert {α : Type} (k : Nat) (v : α) : List (Nat × α) → List (Nat × α)
  | [] => [(k, v)]
  | (j, w) :: t => if j < k then (j, w) :: tabInsert k v t else (k, v) :: (j, w) :: t

/-- Write an entry of a sparse table in key order; an entry equal to the default is not listed. -/
def tabSet {α : Type} [DecidableEq α] (dflt : α) (k : Nat) (v : α) (l : List (Nat × α)) : List (Nat × α) :=
  let r := l.filter fun e => e.1 != k
  if v = dflt then r else tabInsert k v r

/-- One step of a CRC of `w` bits, most significant bit first. -/
def crcBitMsb (w poly c : Nat) (b : Bool) : Nat :=
  let top := (c / 2 ^ (w - 1)) % 2
  let c' := (c * 2) % 2 ^ w
  if (top == 1) != b then Nat.xor c' poly else c'

/-- The bits of a byte, most significant first. -/
def byteBitsMsb (b : Byte) : List Bool := (List.range 8).map fun i => b.toNat.testBit (7 - i)

/-- A CRC over bytes, most significant bit of each byte first. -/
def crcMsb (w poly init : Nat) (bs : List Byte) : Nat :=
  bs.foldl (fun c b => (byteBitsMsb b).foldl (crcBitMsb w poly) c) init

/-- One step of a reflected CRC. -/
def crcBitLsb (poly c : Nat) : Nat := if c % 2 = 1 then Nat.xor (c / 2) poly else c / 2

/-- One byte of a reflected CRC. -/
def crcByteLsb (poly c : Nat) (b : Byte) : Nat :=
  (List.range 8).foldl (fun c _ => crcBitLsb poly c) (Nat.xor c b.toNat)

/-- CRC-32C (R98): reflected, polynomial 0x1EDC6F41, initial value and final inversion all ones. -/
def crc32c (bs : List Byte) : Nat := Nat.xor (bs.foldl (crcByteLsb 0x82F63B78) 0xFFFFFFFF) 0xFFFFFFFF

end Sys2Proof.Machine
end

