-- ==== Sys2Proof/Machine/Crypto.lean ====
section
/-! DEFINITION. The digests and signatures that the spec names by their standards: SHA-256 and SHA-384 of FIPS 180-4 (R551,
R560, R584, R586, R588), ECDSA on curve P-384 of FIPS 186-5 (R560, R583, R584, R586). -/

namespace Sys2Proof.Machine

open Sys2Proof (Byte)

/-! ### SHA-2 -/

/-- The round constants of the 64-bit members; the 32-bit ones are their high halves. -/
def shaConsts : List Nat :=
  [0x428A2F98D728AE22, 0x7137449123EF65CD, 0xB5C0FBCFEC4D3B2F, 0xE9B5DBA58189DBBC, 0x3956C25BF348B538,
   0x59F111F1B605D019, 0x923F82A4AF194F9B, 0xAB1C5ED5DA6D8118, 0xD807AA98A3030242, 0x12835B0145706FBE,
   0x243185BE4EE4B28C, 0x550C7DC3D5FFB4E2, 0x72BE5D74F27B896F, 0x80DEB1FE3B1696B1, 0x9BDC06A725C71235,
   0xC19BF174CF692694, 0xE49B69C19EF14AD2, 0xEFBE4786384F25E3, 0x0FC19DC68B8CD5B5, 0x240CA1CC77AC9C65] ++
  [0x2DE92C6F592B0275, 0x4A7484AA6EA6E483, 0x5CB0A9DCBD41FBD4, 0x76F988DA831153B5, 0x983E5152EE66DFAB,
   0xA831C66D2DB43210, 0xB00327C898FB213F, 0xBF597FC7BEEF0EE4, 0xC6E00BF33DA88FC2, 0xD5A79147930AA725,
   0x06CA6351E003826F, 0x142929670A0E6E70, 0x27B70A8546D22FFC, 0x2E1B21385C26C926, 0x4D2C6DFC5AC42AED,
   0x53380D139D95B3DF, 0x650A73548BAF63DE, 0x766A0ABB3C77B2A8, 0x81C2C92E47EDAEE6, 0x92722C851482353B] ++
  [0xA2BFE8A14CF10364, 0xA81A664BBC423001, 0xC24B8B70D0F89791, 0xC76C51A30654BE30, 0xD192E819D6EF5218,
   0xD69906245565A910, 0xF40E35855771202A, 0x106AA07032BBD1B8, 0x19A4C116B8D2D0C8, 0x1E376C085141AB53,
   0x2748774CDF8EEB99, 0x34B0BCB5E19B48A8, 0x391C0CB3C5C95A63, 0x4ED8AA4AE3418ACB, 0x5B9CCA4F7763E373,
   0x682E6FF3D6B2B8A3, 0x748F82EE5DEFB2FC, 0x78A5636F43172F60, 0x84C87814A1F0AB72, 0x8CC702081A6439EC] ++
  [0x90BEFFFA23631E28, 0xA4506CEBDE82BDE9, 0xBEF9A3F7B2C67915, 0xC67178F2E372532B, 0xCA273ECEEA26619C,
   0xD186B8C721C0C207, 0xEADA7DD6CDE0EB1E, 0xF57D4F7FEE6ED178, 0x06F067AA72176FBA, 0x0A637DC5A2C898A6,
   0x113F9804BEF90DAE, 0x1B710B35131C471B, 0x28DB77F523047D84, 0x32CAAB7B40C72493, 0x3C9EBE0A15C9BEBC,
   0x431D67C49C100D4C, 0x4CC5D4BECB3E42B6, 0x597F299CFC657E2A, 0x5FCB6FAB3AD6FAEC, 0x6C44198C4A475817]

/-- The first chaining value of SHA-256, and of SHA-384. -/
def sha256Init : List Nat :=
  [0x6A09E667, 0xBB67AE85, 0x3C6EF372, 0xA54FF53A, 0x510E527F, 0x9B05688C, 0x1F83D9AB, 0x5BE0CD19]
def sha384Init : List Nat :=
  [0xCBBB9D5DC1059ED8, 0x629A292A367CD507, 0x9159015A3070DD17, 0x152FECD8F70E5939,
   0x67332667FFC00B31, 0x8EB44A8768581511, 0xDB0C2E0D64F98FA7, 0x47B5481DBEFA4FA4]

/-- Rotate a word of `w` bits right. -/
def rotr (w x n : Nat) : Nat := Nat.lor (x / 2 ^ n) (x * 2 ^ (w - n) % 2 ^ w)

/-- Two rotations and a third, or a shift for the last, combined. -/
def shaMix (w a b c : Nat) (shift : Bool) (x : Nat) : Nat :=
  Nat.xor (Nat.xor (rotr w x a) (rotr w x b)) (if shift then x / 2 ^ c else rotr w x c)

/-- The four mixing functions of a member: of the state, then of the message. -/
def shaBig0 (w : Nat) : Nat → Nat := if w = 32 then shaMix 32 2 13 22 false else shaMix 64 28 34 39 false
def shaBig1 (w : Nat) : Nat → Nat := if w = 32 then shaMix 32 6 11 25 false else shaMix 64 14 18 41 false
def shaSmall0 (w : Nat) : Nat → Nat := if w = 32 then shaMix 32 7 18 3 true else shaMix 64 1 8 7 true
def shaSmall1 (w : Nat) : Nat → Nat := if w = 32 then shaMix 32 17 19 10 true else shaMix 64 19 61 6 true

/-- One round on the eight working words, with round constant plus message word `kw`. -/
def shaRound (w : Nat) (v : List Nat) (kw : Nat) : List Nat :=
  let x (i : Nat) : Nat := v.getD i 0
  let ch := Nat.xor (Nat.land (x 4) (x 5)) (Nat.land (notW w (x 4)) (x 6))
  let maj := Nat.xor (Nat.xor (Nat.land (x 0) (x 1)) (Nat.land (x 0) (x 2))) (Nat.land (x 1) (x 2))
  let t1 := x 7 + shaBig1 w (x 4) + ch + kw
  let t2 := shaBig0 w (x 0) + maj
  [(t1 + t2) % 2 ^ w, x 0, x 1, x 2, (x 3 + t1) % 2 ^ w, x 4, x 5, x 6]

/-- `n` rounds: the working words, and the next sixteen words of the message schedule. -/
def shaRounds (w : Nat) : List Nat → List Nat → List Nat → List Nat
  | [], _, v => v
  | k :: ks, m, v =>
    let g (i : Nat) : Nat := m.getD i 0
    let next := (shaSmall1 w (g 14) + g 9 + shaSmall0 w (g 1) + g 0) % 2 ^ w
    shaRounds w ks (m.drop 1 ++ [next]) (shaRound w v (k + g 0))

/-- One block into the chaining value. -/
def shaBlock (w : Nat) (h : List Nat) (block : List Byte) : List Nat :=
  let ks := if w = 32 then (shaConsts.take 64).map (· / 2 ^ 32) else shaConsts
  let m := (List.range 16).map fun i => beNat (bytesAt block (w / 8 * i) (w / 8))
  (List.zip h (shaRounds w ks m h)).map fun x => (x.1 + x.2) % 2 ^ w

/-- The padded message. -/
def shaPad (w : Nat) (bs : List Byte) : List Byte :=
  let zeros := (2 * w - (bs.length + 1 + w / 4) % (2 * w)) % (2 * w)
  bs ++ [(0x80 : Byte)] ++ List.replicate zeros 0 ++ beBytes (w / 4) (8 * bs.length)

/-- The chaining value after a message. -/
def sha (w : Nat) (init : List Nat) (bs : List Byte) : List Nat :=
  let p := shaPad w bs
  (List.range (p.length / (2 * w))).foldl (fun h i => shaBlock w h (bytesAt (p.drop (2 * w * i)) 0 (2 * w))) init

/-- SHA-256: 32 bytes. PRESUMED, log entry 42. -/
def sha256 (bs : List Byte) : List Byte := (sha 32 sha256Init bs).flatMap (beBytes 4)

/-- SHA-384: 48 bytes. -/
def sha384 (bs : List Byte) : List Byte := ((sha 64 sha384Init bs).take 6).flatMap (beBytes 8)

/-! ### ECDSA on P-384 -/

/-- The field, the order of the base point, the coefficient b. -/
def p384 : Nat := 2 ^ 384 - 2 ^ 128 - 2 ^ 96 + 2 ^ 32 - 1
def n384 : Nat :=
  0xFFFFFFFFFFFFFFFFFFFFFFFFFFFFFFFFFFFFFFFFFFFFFFFFC7634D81F4372DDF581A0DB248B0A77AECEC196ACCC52973
def b384 : Nat :=
  0xB3312FA7E23EE7E4988E056BE3F82D19181D9C6EFE8141120314088F5013875AC656398D8A2ED19D2A85C8EDD3EC2AEF

/-- A point; `none` is the point at infinity. -/
abbrev Point := Option (Nat × Nat)

/-- The base point. -/
def g384 : Point := some
  (0xAA87CA22BE8B05378EB1C71EF320AD746E1D3B628BA79B9859F741E082542A385502F25DBF55296C3A545E3872760AB7,
   0x3617DE4A96262C6F5D9E98BF9292DC29F8F41DBD289A147CE9DA3113B5F0B8C00A60B1CE1D7E819D7A431D7C90EA0E5F)

/-- b ^ e modulo m, e below 2^384. -/
def powMod (m b e : Nat) : Nat :=
  (List.range 384).foldr (fun i x => let q := x * x % m; if e.testBit i then q * b % m else q) 1

/-- The inverse modulo a prime. -/
def invMod (m x : Nat) : Nat := powMod m (x % m) (m - 2)

/-- The point is on the curve. -/
def onCurve (x y : Nat) : Bool :=
  decide (x < p384) && decide (y < p384) && y * y % p384 == (x * x * x + (p384 - 3) * x + b384) % p384

/-- The sum of two points. -/
def pointAdd (a b : Point) : Point :=
  match a, b with
  | none, q => q
  | q, none => q
  | some (x1, y1), some (x2, y2) =>
    if x1 = x2 ∧ (y1 + y2) % p384 = 0 then none
    else
      let l := if x1 = x2 then (3 * x1 * x1 + (p384 - 3)) * invMod p384 (2 * y1) % p384
        else (y2 + p384 - y1) * invMod p384 (x2 + p384 - x1) % p384
      let x3 := (l * l + 2 * p384 - x1 - x2) % p384
      some (x3, (l * (x1 + p384 - x3) + p384 - y1) % p384)

/-- k times a point. -/
def pointMul (k : Nat) (a : Point) : Point :=
  (List.range 384).foldr (fun i q => let d := pointAdd q q; if k.testBit i then pointAdd d a else d) none

/-- A signature (r, s) of a message holds under a public key. PRESUMED, log entry 42. -/
def ecdsaHolds (key : Nat × Nat) (msg : List Byte) (r s : Nat) : Bool :=
  if r = 0 ∨ n384 ≤ r ∨ s = 0 ∨ n384 ≤ s then false
  else
    let w := invMod n384 s
    match pointAdd (pointMul (beNat (sha384 msg) * w % n384) g384) (pointMul (r * w % n384) (some key)) with
    | none => false
    | some (x, _) => x % n384 == r

/-- Sign a message with private key `d` and secret number `k`. PRESUMED, log entry 42. -/
def ecdsaSign (d k : Nat) (msg : List Byte) : Nat × Nat :=
  let r := match pointMul k g384 with
    | none => 0
    | some (x, _) => x % n384
  (r, invMod n384 k * ((beNat (sha384 msg) + r * d) % n384) % n384)

/-- A public key as it is stored: X then Y, 48 bytes each, big-endian. -/
def keyOfBytes (bs : List Byte) : Nat × Nat := (beNat (bytesAt bs 0 48), beNat (bytesAt bs 48 48))
def keyToBytes (a : Point) : List Byte :=
  match a with
  | none => List.replicate 96 0
  | some (x, y) => beBytes 48 x ++ beBytes 48 y

/-- A signature block (R560, R586): r then s, big-endian. -/
def sigHolds (key : List Byte) (msg block : List Byte) : Bool :=
  ecdsaHolds (keyOfBytes key) msg (beNat (bytesAt block 0 48)) (beNat (bytesAt block 48 48))

end Sys2Proof.Machine
end

