-- ==== Sys2Proof/Machine/Names.lean ====
section
/-! DEFINITION. The names of the registers, of their fields (spec chapters 2 to 21, the register tables) and of the
event bits (the event tables of the same chapters). A register is a field of 32 bits. -/

namespace Sys2Proof.Machine

/-- A field of a register: the page offset of the register, the lowest bit, the width. -/
structure Fld where
  off : Nat
  lo : Nat
  w : Nat
  deriving DecidableEq, Repr

namespace R

def PAGE_STATUS : Fld := ⟨0x008, 0, 32⟩
def PAGE_STATUS_READY : Fld := ⟨0x008, 0, 1⟩
def PAGE_STATUS_RESTORED : Fld := ⟨0x008, 3, 1⟩
def PAGE_STATUS_FACTORY : Fld := ⟨0x008, 4, 1⟩
def PAGE_CTRL : Fld := ⟨0x00C, 0, 32⟩
def PAGE_CTRL_ENABLE : Fld := ⟨0x00C, 0, 1⟩
def PAGE_CTRL_SOFT_RESET : Fld := ⟨0x00C, 1, 1⟩
def PAGE_CTRL_VIEW_STAGED : Fld := ⟨0x00C, 3, 1⟩
def EVT_STATUS : Fld := ⟨0x010, 0, 32⟩
def EVT_ENABLE : Fld := ⟨0x014, 0, 32⟩
def FAULT_LAST : Fld := ⟨0x01C, 0, 32⟩
def EPOCH_STATE : Fld := ⟨0x020, 0, 32⟩
def EPOCH_STATE_ARMED : Fld := ⟨0x020, 1, 1⟩
def EPOCH_STATE_ABORTED : Fld := ⟨0x020, 2, 1⟩
def EPOCH_STATE_EPOCH : Fld := ⟨0x020, 16, 16⟩
def GRANT : Fld := ⟨0x024, 0, 32⟩
def STEPPING : Fld := ⟨0x044, 0, 32⟩
def UID_LO : Fld := ⟨0x048, 0, 32⟩
def UID_HI : Fld := ⟨0x04C, 0, 32⟩
def NODE_ID_NODE : Fld := ⟨0x050, 2, 8⟩
def NODE_ID_VALID : Fld := ⟨0x050, 31, 1⟩
def UPTIME_US : Fld := ⟨0x054, 0, 32⟩
def OWNER_STATUS : Fld := ⟨0x058, 0, 32⟩
def OWNER_STATUS_OWNER_ID : Fld := ⟨0x058, 0, 16⟩
def OWNER_STATUS_HELD : Fld := ⟨0x058, 16, 1⟩
def OWNER_STATUS_GEN : Fld := ⟨0x058, 24, 8⟩
def OWNER_CLAIM : Fld := ⟨0x05C, 0, 32⟩
def OWNER_RELEASE : Fld := ⟨0x060, 0, 32⟩
def RECLAIM_CTRL : Fld := ⟨0x064, 0, 32⟩
def RECLAIM_CTRL_NONCE_NEW : Fld := ⟨0x064, 0, 1⟩
def RECLAIM_CTRL_GO : Fld := ⟨0x064, 1, 1⟩
def RECLAIM_CTRL_BUSY : Fld := ⟨0x064, 4, 1⟩
def RECLAIM_CTRL_DONE : Fld := ⟨0x064, 5, 1⟩
def RECLAIM_CTRL_FAIL : Fld := ⟨0x064, 6, 1⟩
def GRANT_SLOT_AGENT (n : Nat) : Fld := ⟨0x040 + 0x4 * n, 0, 16⟩
def GRANT_SLOT_VALID (n : Nat) : Fld := ⟨0x040 + 0x4 * n, 31, 1⟩
def AFL_POP : Fld := ⟨0x040, 0, 32⟩
def AFL_ADDR_LO : Fld := ⟨0x044, 0, 32⟩
def AFL_ADDR_HI : Fld := ⟨0x048, 0, 32⟩
def AFL_TIME : Fld := ⟨0x04C, 0, 32⟩
def AFL_LEVEL : Fld := ⟨0x050, 0, 32⟩
def AFL_LOST : Fld := ⟨0x054, 0, 32⟩
def LANE_CFG : Fld := ⟨0x040, 0, 32⟩
def LANE_CFG_RATE : Fld := ⟨0x040, 0, 2⟩
def LANE_CFG_RX_POL_INV : Fld := ⟨0x040, 3, 1⟩
def LANE_CFG_RX_POL_AUTO : Fld := ⟨0x040, 4, 1⟩
def LANE_CFG_TX_LOGICAL : Fld := ⟨0x040, 6, 2⟩
def LANE_CFG_AUTO_ALIGN : Fld := ⟨0x040, 8, 1⟩
def LANE_CFG_EQ_ADAPT : Fld := ⟨0x040, 9, 1⟩
def LANE_CMD : Fld := ⟨0x044, 0, 32⟩
def LANE_CMD_TEST_MODE : Fld := ⟨0x044, 0, 1⟩
def LANE_CMD_IDLE_REQ : Fld := ⟨0x044, 1, 1⟩
def LANE_CMD_BIT_SLIP : Fld := ⟨0x044, 2, 1⟩
def LANE_CMD_LOCK_HERE : Fld := ⟨0x044, 3, 1⟩
def LANE_CMD_RETRAIN : Fld := ⟨0x044, 4, 1⟩
def LANE_CMD_CNT_CLEAR : Fld := ⟨0x044, 5, 1⟩
def LANE_STATUS : Fld := ⟨0x048, 0, 32⟩
def LANE_STATUS_STATE : Fld := ⟨0x048, 0, 4⟩
def LANE_STATUS_CDR_LOCK : Fld := ⟨0x048, 4, 1⟩
def LANE_STATUS_BLOCK_LOCK : Fld := ⟨0x048, 5, 1⟩
def LANE_STATUS_DESKEWED : Fld := ⟨0x048, 6, 1⟩
def LANE_STATUS_RX_IDLE : Fld := ⟨0x048, 7, 1⟩
def LANE_STATUS_RX_POL_DETECTED : Fld := ⟨0x048, 8, 1⟩
def LANE_STATUS_RX_LOGICAL : Fld := ⟨0x048, 9, 2⟩
def LANE_STATUS_SLIP_POS : Fld := ⟨0x048, 11, 7⟩
def LANE_STATUS_DESKEW_BLOCKS : Fld := ⟨0x048, 18, 4⟩
def LANE_STATUS_RATE_REFUSED : Fld := ⟨0x048, 22, 1⟩
def LANE_STATUS_MAP_INVALID : Fld := ⟨0x048, 23, 1⟩
def LANE_STATUS_FAST_EXIT_ELIGIBLE : Fld := ⟨0x048, 24, 1⟩
def PARTNER_BYTE : Fld := ⟨0x04C, 0, 8⟩
def PARTNER_VALID : Fld := ⟨0x04C, 8, 1⟩
def PARTNER_MISMATCH : Fld := ⟨0x04C, 9, 1⟩
def RX_EQ : Fld := ⟨0x054, 0, 32⟩
def RX_EQ_CTLE : Fld := ⟨0x054, 0, 5⟩
def RX_EQ_VGA : Fld := ⟨0x054, 8, 4⟩
def DFE_A : Fld := ⟨0x058, 0, 32⟩
def DFE_B : Fld := ⟨0x05C, 0, 32⟩
def DFE_C : Fld := ⟨0x060, 0, 32⟩
def EQ_BOUNDS : Fld := ⟨0x064, 0, 32⟩
def EQ_BOUNDS_CTLE_MIN : Fld := ⟨0x064, 0, 5⟩
def EQ_BOUNDS_CTLE_MAX : Fld := ⟨0x064, 8, 5⟩
def EQ_BOUNDS_VGA_MIN : Fld := ⟨0x064, 16, 4⟩
def EQ_BOUNDS_VGA_MAX : Fld := ⟨0x064, 20, 4⟩
def EQ_BOUNDS_DFE1_MAX : Fld := ⟨0x064, 24, 7⟩
def EQ_BOUNDS2 : Fld := ⟨0x068, 0, 32⟩
def EQ_BOUNDS2_DFE_REST_MAX : Fld := ⟨0x068, 0, 5⟩
def ALIGN_STAT : Fld := ⟨0x06C, 0, 32⟩
def ALIGN_STAT_SH_GOOD : Fld := ⟨0x06C, 0, 16⟩
def ALIGN_STAT_SH_BAD : Fld := ⟨0x06C, 16, 16⟩
def CNT_SH_ERR : Fld := ⟨0x070, 0, 32⟩
def CNT_BIP_ERR : Fld := ⟨0x074, 0, 32⟩
def CNT_EVENTS : Fld := ⟨0x078, 0, 32⟩
def CNT_EVENTS_LOCK_LOSS : Fld := ⟨0x078, 0, 16⟩
def CNT_EVENTS_AM_ERR : Fld := ⟨0x078, 16, 16⟩
def CNT_TRAIN : Fld := ⟨0x07C, 0, 32⟩
def CNT_TRAIN_TRAIN_FAIL : Fld := ⟨0x07C, 0, 16⟩
def CNT_TRAIN_FAST_EXIT_FAIL : Fld := ⟨0x07C, 16, 16⟩
def CNT_IDLE_EXIT : Fld := ⟨0x080, 0, 32⟩
def PRBS_CTRL : Fld := ⟨0x090, 0, 32⟩
def PRBS_CTRL_GEN_EN : Fld := ⟨0x090, 0, 1⟩
def PRBS_CTRL_CHK_EN : Fld := ⟨0x090, 1, 1⟩
def PRBS_CTRL_INJ_ONE : Fld := ⟨0x090, 11, 1⟩
def PRBS_CTRL_SNAP : Fld := ⟨0x090, 12, 1⟩
def PRBS_CTRL_CLEAR : Fld := ⟨0x090, 13, 1⟩
def PRBS_STAT_CHK_LOCKED : Fld := ⟨0x094, 0, 1⟩
def PRBS_STAT_PRBS_LOCK_LOST : Fld := ⟨0x094, 1, 1⟩
def PRBS_ERR : Fld := ⟨0x098, 0, 32⟩
def PRBS_BITS_LO : Fld := ⟨0x09C, 0, 32⟩
def PRBS_BITS_HI : Fld := ⟨0x0A0, 0, 32⟩
def EYE_CTRL : Fld := ⟨0x0B0, 0, 32⟩
def EYE_CTRL_HOLD : Fld := ⟨0x0B0, 0, 1⟩
def EYE_CTRL_GO : Fld := ⟨0x0B0, 1, 1⟩
def EYE_CTRL_BUSY : Fld := ⟨0x0B0, 2, 1⟩
def EYE_CTRL_DONE : Fld := ⟨0x0B0, 3, 1⟩
def EYE_CTRL_RALUSK_ACTIVE : Fld := ⟨0x0B0, 4, 1⟩
def EYE_ERR : Fld := ⟨0x0B4, 0, 32⟩
def LINK_CFG_RETRY_EN : Fld := ⟨0x040, 0, 1⟩
def LINK_CFG_LP_ALLOWED : Fld := ⟨0x040, 1, 1⟩
def LINK_CFG_REPLAY_LIMIT : Fld := ⟨0x040, 4, 4⟩
def LINK_CTRL : Fld := ⟨0x044, 0, 32⟩
def LINK_CTRL_LP_REQ : Fld := ⟨0x044, 0, 1⟩
def LINK_CTRL_LINK_RESET : Fld := ⟨0x044, 1, 1⟩
def LINK_CTRL_CNT_CLEAR : Fld := ⟨0x044, 2, 1⟩
def LINK_STATUS_STATE : Fld := ⟨0x048, 0, 3⟩
def LINK_STATUS_RETRY_ACTIVE : Fld := ⟨0x048, 3, 1⟩
def LINK_STATUS_PARTNER_RX_UP : Fld := ⟨0x048, 4, 1⟩
def LINK_STATUS_DIST_LIMIT : Fld := ⟨0x048, 5, 1⟩
def LINK_STATUS_REPLAY_STALL : Fld := ⟨0x048, 6, 1⟩
def LINK_STATUS_LAST_DOWN_CAUSE : Fld := ⟨0x048, 8, 4⟩
def PARTNER_ID : Fld := ⟨0x04C, 0, 32⟩
def PARTNER_ID_NODE : Fld := ⟨0x04C, 0, 8⟩
def PARTNER_ID_HUB : Fld := ⟨0x04C, 8, 2⟩
def PARTNER_ID_SIDE : Fld := ⟨0x04C, 10, 3⟩
def PARTNER_ID_NODE_VALID : Fld := ⟨0x04C, 13, 1⟩
def PARTNER_ID_VALID : Fld := ⟨0x04C, 31, 1⟩
def RTT_NS : Fld := ⟨0x050, 0, 32⟩
def CNT_HDR_ERR : Fld := ⟨0x054, 0, 32⟩
def CNT_CRC_ERR : Fld := ⟨0x058, 0, 32⟩
def CNT_FMT_ERR : Fld := ⟨0x05C, 0, 32⟩
def CNT_CTL_ERR : Fld := ⟨0x060, 0, 32⟩
def CNT_STOMP_RX : Fld := ⟨0x064, 0, 16⟩
def CNT_STOMP_TX : Fld := ⟨0x064, 16, 16⟩
def CNT_NAK_SENT : Fld := ⟨0x068, 0, 16⟩
def CNT_NAK_RECEIVED : Fld := ⟨0x068, 16, 16⟩
def CNT_REPLAY_REPLAYS : Fld := ⟨0x06C, 0, 16⟩
def CNT_REPLAY_STALLS : Fld := ⟨0x06C, 16, 16⟩
def CNT_REPLAY_FLITS : Fld := ⟨0x070, 0, 32⟩
def CNT_DROP_HOP_EXPIRED : Fld := ⟨0x074, 0, 16⟩
def CNT_DROP_DOWN_DISCARD : Fld := ⟨0x074, 16, 16⟩
def CNT_LINK_LINK_DOWN : Fld := ⟨0x078, 0, 16⟩
def CNT_LINK_LP_ENTRY : Fld := ⟨0x078, 16, 16⟩
def CNT_PREEMPT_PRE : Fld := ⟨0x07C, 0, 16⟩
def CNT_PREEMPT_REPLAY_DUP : Fld := ⟨0x07C, 16, 16⟩
def FRAMES_TX_LO : Fld := ⟨0x080, 0, 32⟩
def FRAMES_TX_HI : Fld := ⟨0x084, 0, 32⟩
def FRAMES_RX_LO : Fld := ⟨0x088, 0, 32⟩
def FRAMES_RX_HI : Fld := ⟨0x08C, 0, 32⟩
def STITCH_CFG_RING_FALLBACK : Fld := ⟨0x0A0, 0, 1⟩
def STITCH_STATUS_EXPECTED_HUB : Fld := ⟨0x0A4, 0, 2⟩
def STITCH_STATUS_PEER_MISMATCH : Fld := ⟨0x0A4, 2, 1⟩
def STITCH_STATUS_NODE_SOURCE : Fld := ⟨0x0A4, 3, 1⟩
def CNT_FALLBACK : Fld := ⟨0x0A8, 0, 32⟩
def MASTER_CFG : Fld := ⟨0x040, 0, 32⟩
def MASTER_CFG_PRIORITY : Fld := ⟨0x040, 0, 4⟩
def MASTER_CFG_NODE : Fld := ⟨0x040, 4, 8⟩
def MASTER_CFG_NODE_VALID : Fld := ⟨0x040, 12, 1⟩
def MASTER_CFG_AUTO_NODE : Fld := ⟨0x040, 13, 1⟩
def MASTER_CFG_CANDIDATE : Fld := ⟨0x040, 14, 1⟩
def RING_CMD : Fld := ⟨0x044, 0, 32⟩
def RING_CMD_CNT_CLEAR : Fld := ⟨0x044, 1, 1⟩
def RING_STATUS_STATE : Fld := ⟨0x048, 0, 3⟩
def RING_STATUS_IS_MASTER : Fld := ⟨0x048, 3, 1⟩
def RING_STATUS_DISC_RING : Fld := ⟨0x048, 4, 1⟩
def RING_STATUS_OPEN : Fld := ⟨0x048, 5, 1⟩
def RING_STATUS_SEGMENTED : Fld := ⟨0x048, 6, 1⟩
def RING_STATUS_POSITION : Fld := ⟨0x048, 8, 10⟩
def RING_STATUS_RING_SIZE : Fld := ⟨0x048, 18, 11⟩
def MASTER_ID : Fld := ⟨0x04C, 0, 32⟩
def MASTER_ID_NODE : Fld := ⟨0x04C, 0, 8⟩
def MASTER_ID_HUB : Fld := ⟨0x04C, 8, 2⟩
def MASTER_ID_VALID : Fld := ⟨0x04C, 31, 1⟩
def MASTER_TERM : Fld := ⟨0x050, 0, 32⟩
def LOOP_NS : Fld := ⟨0x054, 0, 32⟩
def CLAIMANTS : Fld := ⟨0x05C, 0, 32⟩
def CNT_DISC_DISCOVERIES : Fld := ⟨0x060, 0, 16⟩
def CNT_DISC_ELECTIONS : Fld := ⟨0x060, 16, 16⟩
def CNT_MGMT_BEACON : Fld := ⟨0x064, 0, 16⟩
def CNT_MGMT_NODE : Fld := ⟨0x064, 16, 16⟩
def MASTER_UID_LO : Fld := ⟨0x068, 0, 32⟩
def MASTER_UID_HI : Fld := ⟨0x06C, 0, 32⟩
def SCHED_CFG : Fld := ⟨0x040, 0, 32⟩
def SCHED_CFG_BASE_CYCLE_US : Fld := ⟨0x040, 0, 14⟩
def SCHED_CFG_SCHED_EN : Fld := ⟨0x040, 16, 1⟩
def ORIGIN_LO : Fld := ⟨0x044, 0, 32⟩
def ORIGIN_HI : Fld := ⟨0x048, 0, 32⟩
def LATE_NS : Fld := ⟨0x04C, 0, 32⟩
def SCHED_IDX : Fld := ⟨0x050, 0, 32⟩
def SCHED_W (n : Nat) : Fld := ⟨0x054 + 0x4 * n, 0, 32⟩
def SCHED_CMD : Fld := ⟨0x064, 0, 32⟩
def SCHED_CMD_CNT_CLEAR : Fld := ⟨0x064, 2, 1⟩
def SCHED_STATUS : Fld := ⟨0x068, 0, 32⟩
def CNT_SCHED_TX : Fld := ⟨0x06C, 0, 32⟩
def CNT_SCHED_LATE : Fld := ⟨0x070, 0, 32⟩
def CNT_SCHED_SKIP_TIME_INVALID : Fld := ⟨0x074, 0, 16⟩
def CNT_SCHED_SKIP_RECORD : Fld := ⟨0x074, 16, 16⟩
def REDUN_CFG : Fld := ⟨0x040, 0, 32⟩
def REDUN_CFG_DATA_RING : Fld := ⟨0x040, 0, 1⟩
def REDUN_CFG_DUAL_EN : Fld := ⟨0x040, 1, 1⟩
def REDUN_CFG_AUTO_FAILOVER : Fld := ⟨0x040, 2, 1⟩
def REDUN_CFG_CNT_CLEAR : Fld := ⟨0x040, 3, 1⟩
def FENCE_NS : Fld := ⟨0x04C, 0, 32⟩
def REDUN_STATUS_DATA_RING_ACTIVE : Fld := ⟨0x050, 0, 1⟩
def REDUN_STATUS_B_EXCLUDED : Fld := ⟨0x050, 1, 1⟩
def REDUN_STATUS_WRAP_POINT_A : Fld := ⟨0x050, 2, 1⟩
def REDUN_STATUS_WRAP_END_A : Fld := ⟨0x050, 3, 1⟩
def REDUN_STATUS_WRAP_POINT_B : Fld := ⟨0x050, 4, 1⟩
def REDUN_STATUS_WRAP_END_B : Fld := ⟨0x050, 5, 1⟩
def REDUN_STATUS_UNWRAP_PENDING : Fld := ⟨0x050, 6, 1⟩
def REDUN_STATUS_FENCE_ACTIVE : Fld := ⟨0x050, 7, 1⟩
def REDUN_STATUS_BREAKS_A : Fld := ⟨0x050, 8, 8⟩
def REDUN_STATUS_BREAKS_B : Fld := ⟨0x050, 16, 8⟩
def DUP_LEVEL : Fld := ⟨0x054, 0, 32⟩
def CNT_WRAP_WRAPS : Fld := ⟨0x058, 0, 16⟩
def CNT_WRAP_UNWRAPS : Fld := ⟨0x058, 16, 16⟩
def CNT_WRAPPED_FRAMES : Fld := ⟨0x05C, 0, 32⟩
def CNT_WRAP_END_DROP : Fld := ⟨0x060, 0, 32⟩
def CNT_DUP_DISCARD : Fld := ⟨0x064, 0, 32⟩
def CNT_DUP_EXPIRED : Fld := ⟨0x068, 0, 32⟩
def CNT_DUP_EVICT : Fld := ⟨0x06C, 0, 32⟩
def CNT_E2E_DUP : Fld := ⟨0x070, 0, 16⟩
def CNT_E2E_ORDER : Fld := ⟨0x070, 16, 16⟩
def CNT_SCHED_CUT : Fld := ⟨0x074, 0, 32⟩
def CNT_UNREACHABLE : Fld := ⟨0x078, 0, 32⟩
def ROUTE_STEER : Fld := ⟨0x040, 0, 32⟩
def ROUTE_STATUS : Fld := ⟨0x044, 0, 32⟩
def CORE_CFG_TRANSIT_EN : Fld := ⟨0x040, 0, 1⟩
def CORE_CFG_MCAST_CUT : Fld := ⟨0x040, 1, 1⟩
def CORE_STATUS : Fld := ⟨0x048, 0, 32⟩
def CNT_TRANSIT : Fld := ⟨0x04C, 0, 32⟩
def CNT_BUFFERED : Fld := ⟨0x050, 0, 32⟩
def CNT_MCAST_COPIES : Fld := ⟨0x054, 0, 32⟩
def CNT_LOCAL_DROP : Fld := ⟨0x058, 0, 32⟩
def QCFG_IDX : Fld := ⟨0x040, 0, 32⟩
def QCFG_DATA : Fld := ⟨0x044, 0, 32⟩
def CM_THRESH (n : Nat) : Fld := ⟨0x800 + 0x10 * n, 0, 32⟩
def HARD_LIMIT (n : Nat) : Fld := ⟨0x804 + 0x10 * n, 0, 32⟩
def CM_MIN (n : Nat) : Fld := ⟨0x808 + 0x10 * n, 0, 32⟩
def CM_MAX (n : Nat) : Fld := ⟨0x80C + 0x10 * n, 0, 32⟩
def QSTAT_IDX : Fld := ⟨0x040, 0, 32⟩
def QSTAT_CELLS : Fld := ⟨0x044, 0, 32⟩
def QSTAT_FRAMES : Fld := ⟨0x048, 0, 32⟩
def QSTAT_PEAK : Fld := ⟨0x04C, 0, 32⟩
def QSTAT_DROPS : Fld := ⟨0x050, 0, 32⟩
def QSTAT_MARKS : Fld := ⟨0x054, 0, 32⟩
def RESERVE_URGENT : Fld := ⟨0x040, 0, 32⟩
def RESERVE_COMPL : Fld := ⟨0x044, 0, 32⟩
def FREE_CELLS : Fld := ⟨0x048, 0, 32⟩
def MIN_FREE : Fld := ⟨0x04C, 0, 32⟩
def CNT_DROP_LIMIT : Fld := ⟨0x050, 0, 32⟩
def CNT_DROP_NOCELL : Fld := ⟨0x054, 0, 32⟩
def CNT_ECC_CORRECTED : Fld := ⟨0x058, 0, 16⟩
def CNT_ECC_UNCORRECTED : Fld := ⟨0x058, 16, 16⟩
def GLEAN_CFG : Fld := ⟨0x040, 0, 32⟩
def GLEAN_CFG_EN : Fld := ⟨0x040, 0, 1⟩
def GLEAN_CFG_AUDIT_MS : Fld := ⟨0x040, 16, 10⟩
def GLEAN_BOUNDS : Fld := ⟨0x044, 0, 32⟩
def GLEAN_BOUNDS_AUDIT_MIN_MS : Fld := ⟨0x044, 0, 10⟩
def GLEAN_BOUNDS_AUDIT_MAX_MS : Fld := ⟨0x044, 16, 10⟩
def GLEAN_STATUS : Fld := ⟨0x048, 0, 32⟩
def GLEAN_STATUS_CELL : Fld := ⟨0x048, 0, 17⟩
def GLEAN_STATUS_VERIFY_BUSY : Fld := ⟨0x048, 18, 1⟩
def CNT_SWEEPS : Fld := ⟨0x04C, 0, 32⟩
def CNT_RECLAIM : Fld := ⟨0x050, 0, 32⟩
def LAST_RECLAIM : Fld := ⟨0x054, 0, 32⟩
def CANDIDATES : Fld := ⟨0x058, 0, 32⟩
def CNT_VERIFY_PASS : Fld := ⟨0x05C, 0, 16⟩
def CNT_VERIFY_FAIL : Fld := ⟨0x05C, 16, 16⟩
def GLEAN_CMD : Fld := ⟨0x060, 0, 32⟩
def MS_CTRL_EN (n : Nat) : Fld := ⟨0x040 + 0x20 * n, 0, 1⟩
def MS_CTRL_PRIO (n : Nat) : Fld := ⟨0x040 + 0x20 * n, 12, 3⟩
def MS_SAMPLE (n : Nat) : Fld := ⟨0x054 + 0x20 * n, 0, 32⟩
def MS_COPIES (n : Nat) : Fld := ⟨0x058 + 0x20 * n, 0, 32⟩
def MIRROR_DEST_LOCAL : Fld := ⟨0x0C0, 0, 1⟩
def MIRROR_DEST_NODE : Fld := ⟨0x0C0, 8, 8⟩
def MIRROR_DEST_HUB : Fld := ⟨0x0C0, 16, 2⟩
def CAP_STATUS : Fld := ⟨0x0C4, 0, 32⟩
def CAP_LEN : Fld := ⟨0x0C8, 0, 32⟩
def CAP_DATA : Fld := ⟨0x0CC, 0, 32⟩
def CNT_MIRROR_RX_DROP : Fld := ⟨0x0D0, 0, 32⟩
def MIRROR_CMD_CAP_FLUSH : Fld := ⟨0x0D4, 1, 1⟩
def CNT_CM_SET : Fld := ⟨0x044, 0, 32⟩
def CNT_CM_RX : Fld := ⟨0x048, 0, 32⟩
def CM_LAST : Fld := ⟨0x04C, 0, 32⟩
def CNT_HOLD_DISCARD : Fld := ⟨0x060, 0, 32⟩
def CNT_STALE : Fld := ⟨0x064, 0, 32⟩
def HOLD_MS (n : Nat) : Fld := ⟨0x800 + 0x8 * n, 0, 32⟩
def STALE_MS (n : Nat) : Fld := ⟨0x804 + 0x8 * n, 0, 32⟩
def SIG_CFG_NOTICE_EN : Fld := ⟨0x040, 0, 1⟩
def SIG_CMD : Fld := ⟨0x044, 0, 32⟩
def SIG_STATUS : Fld := ⟨0x048, 0, 32⟩
def CNT_RX_RECORDS : Fld := ⟨0x04C, 0, 32⟩
def CNT_ACCEPTED : Fld := ⟨0x050, 0, 32⟩
def CNT_NOT_SUBSCRIBED : Fld := ⟨0x054, 0, 32⟩
def CNT_OLD_VERSION : Fld := ⟨0x058, 0, 32⟩
def CNT_BAD_RECORD : Fld := ⟨0x05C, 0, 32⟩
def CNT_CONFLICT : Fld := ⟨0x060, 0, 32⟩
def CNT_NOTICE_SENT : Fld := ⟨0x064, 0, 16⟩
def CNT_NOTICE_RECEIVED : Fld := ⟨0x064, 16, 16⟩
def CONFLICT_LAST : Fld := ⟨0x068, 0, 32⟩
def CONFLICT_SRC : Fld := ⟨0x06C, 0, 32⟩
def PUB_STATUS : Fld := ⟨0x040, 0, 32⟩
def CNT_EVENT_RECORDS : Fld := ⟨0x044, 0, 32⟩
def CNT_EVENT_FRAMES_EXPRESS : Fld := ⟨0x048, 0, 16⟩
def CNT_EVENT_FRAMES_BULK : Fld := ⟨0x048, 16, 16⟩
def CNT_SUPERSEDED : Fld := ⟨0x04C, 0, 32⟩
def CNT_HOST_WRITES : Fld := ⟨0x050, 0, 32⟩
def CNT_HOST_REFUSED : Fld := ⟨0x054, 0, 32⟩
def PUB_CMD : Fld := ⟨0x058, 0, 32⟩
def CHG_POP : Fld := ⟨0x040, 0, 32⟩
def CHG_LEVEL : Fld := ⟨0x044, 0, 32⟩
def CHG_LOST : Fld := ⟨0x048, 0, 32⟩
def MIRROR_STATUS : Fld := ⟨0x04C, 0, 32⟩
def SIGMIR_CMD : Fld := ⟨0x050, 0, 32⟩
def LATCH_TIME_LO : Fld := ⟨0x040, 0, 32⟩
def LATCH_TIME_HI : Fld := ⟨0x044, 0, 32⟩
def LATCH_ID : Fld := ⟨0x048, 0, 32⟩
def LATCH_CMD : Fld := ⟨0x04C, 0, 32⟩
def LATCH_CMD_CNT_CLEAR : Fld := ⟨0x04C, 2, 1⟩
def LATCH_LEAD_US : Fld := ⟨0x050, 0, 32⟩
def LATCH_LAST : Fld := ⟨0x064, 0, 32⟩
def CNT_LATCH_FIRED : Fld := ⟨0x068, 0, 16⟩
def CNT_LATCH_MISSED : Fld := ⟨0x068, 16, 16⟩
def CNT_LATCH_RX : Fld := ⟨0x06C, 0, 32⟩
def DIR_WIN_BASE : Fld := ⟨0x040, 0, 32⟩
def DIR_STATUS : Fld := ⟨0x044, 0, 32⟩
def DIR_COUNT : Fld := ⟨0x048, 0, 32⟩
def BRIDGE_CFG_PRIO : Fld := ⟨0x040, 0, 3⟩
def BRIDGE_CFG_TARGET_EN : Fld := ⟨0x040, 3, 1⟩
def READ_DISCARD : Fld := ⟨0x044, 0, 32⟩
def PREFETCH_AGE : Fld := ⟨0x048, 0, 32⟩
def BRIDGE_CMD : Fld := ⟨0x04C, 0, 32⟩
def BRIDGE_CMD_CNT_CLEAR : Fld := ⟨0x04C, 0, 1⟩
def BRIDGE_STATUS : Fld := ⟨0x050, 0, 32⟩
def CNT_REQ_REQUESTS : Fld := ⟨0x054, 0, 16⟩
def CNT_REQ_REQUESTS_16 : Fld := ⟨0x054, 16, 16⟩
def CNT_DISCARDED : Fld := ⟨0x058, 0, 32⟩
def CNT_LATE : Fld := ⟨0x05C, 0, 32⟩
def CNT_BUSY_TARGET_BUSY : Fld := ⟨0x060, 0, 16⟩
def CNT_BUSY_RECEIVED : Fld := ⟨0x060, 16, 16⟩
def CNT_PREFETCH_READS : Fld := ⟨0x064, 0, 16⟩
def CNT_PREFETCH_PREFETCHES : Fld := ⟨0x064, 16, 16⟩
def WIN_CTRL_BASE (n : Nat) : Fld := ⟨0x040 + 0x4 * n, 0, 18⟩
def WIN_CTRL_EN (n : Nat) : Fld := ⟨0x040 + 0x4 * n, 24, 1⟩
def WIN_CTRL_PREFETCH (n : Nat) : Fld := ⟨0x040 + 0x4 * n, 25, 1⟩
def CP_ADDR_LO (n : Nat) : Fld := ⟨0x040 + 0x20 * n, 0, 32⟩
def CP_ADDR_HI (n : Nat) : Fld := ⟨0x044 + 0x20 * n, 0, 32⟩
def CP_SEQ (n : Nat) : Fld := ⟨0x048 + 0x20 * n, 0, 32⟩
def CP_CTRL_LEN (n : Nat) : Fld := ⟨0x04C + 0x20 * n, 0, 5⟩
def CP_CTRL_BUSY (n : Nat) : Fld := ⟨0x04C + 0x20 * n, 9, 1⟩
def CP_CTRL_DONE (n : Nat) : Fld := ⟨0x04C + 0x20 * n, 10, 1⟩
def CP_CTRL_CP_REFUSED (n : Nat) : Fld := ⟨0x04C + 0x20 * n, 11, 1⟩
def CP_CTRL_OUTCOME (n : Nat) : Fld := ⟨0x04C + 0x20 * n, 12, 4⟩
def CP_CTRL_ORIGINAL (n : Nat) : Fld := ⟨0x04C + 0x20 * n, 16, 4⟩
def CP_DATA (n m : Nat) : Fld := ⟨0x050 + 0x20 * n + 0x4 * m, 0, 32⟩
def FEL_POP : Fld := ⟨0x040, 0, 32⟩
def FEL_ADDR_LO : Fld := ⟨0x044, 0, 32⟩
def FEL_ADDR_HI : Fld := ⟨0x048, 0, 32⟩
def FEL_TIME : Fld := ⟨0x04C, 0, 32⟩
def FEL_LEVEL : Fld := ⟨0x050, 0, 32⟩
def FEL_LOST : Fld := ⟨0x054, 0, 32⟩
def ORL_POP : Fld := ⟨0x060, 0, 32⟩
def ORL_ADDR_LO : Fld := ⟨0x064, 0, 32⟩
def ORL_ADDR_HI : Fld := ⟨0x068, 0, 32⟩
def ORL_TIME : Fld := ⟨0x06C, 0, 32⟩
def ORL_LEVEL : Fld := ⟨0x070, 0, 32⟩
def ORL_LOST : Fld := ⟨0x074, 0, 32⟩
def ORL_DATA (n : Nat) : Fld := ⟨0x800 + 0x4 * n, 0, 32⟩
def CR_IDX : Fld := ⟨0x040, 0, 32⟩
def CR_AGENT : Fld := ⟨0x044, 0, 32⟩
def CR_SEQ : Fld := ⟨0x048, 0, 32⟩
def CR_OUTCOME : Fld := ⟨0x04C, 0, 32⟩
def CR_TIME : Fld := ⟨0x050, 0, 32⟩
def CR_EVICT : Fld := ⟨0x054, 0, 32⟩
def CR_CMD : Fld := ⟨0x058, 0, 32⟩
def BANK_CFG : Fld := ⟨0x040, 0, 32⟩
def BANK_CFG_VIO_SEL : Fld := ⟨0x040, 0, 2⟩
def BANK_STATUS : Fld := ⟨0x044, 0, 32⟩
def BANK_STATUS_VIO_MEAS : Fld := ⟨0x044, 0, 2⟩
def BANK_STATUS_VIO_OK : Fld := ⟨0x044, 2, 1⟩
def BANK_STATUS_SAFE_ACTIVE : Fld := ⟨0x044, 3, 1⟩
def BANK_STATUS_CLK80_LOCK : Fld := ⟨0x044, 4, 1⟩
def ENGINES_UP : Fld := ⟨0x048, 0, 32⟩
def CELL_REFUSE : Fld := ⟨0x04C, 0, 32⟩
def ENG_CFG : Fld := ⟨0x040, 0, 32⟩
def ENG_CFG_MODE : Fld := ⟨0x040, 0, 4⟩
def ENG_CFG_RAW_RX_EN : Fld := ⟨0x040, 4, 1⟩
def ENG_CFG_RAW_FWD : Fld := ⟨0x040, 5, 1⟩
def ENG_CFG_INVALID_SAFE : Fld := ⟨0x040, 6, 1⟩
def ENG_CFG_RAW_PRIO : Fld := ⟨0x040, 7, 3⟩
def RAW_DEST_NODE : Fld := ⟨0x044, 0, 8⟩
def RAW_DEST_HUB : Fld := ⟨0x044, 8, 2⟩
def RAW_DEST_ENGINE : Fld := ⟨0x044, 10, 7⟩
def RAW_DEST_ACTION : Fld := ⟨0x044, 17, 1⟩
def ENG_STATUS_SAFE_FORCED : Fld := ⟨0x048, 1, 1⟩
def ENG_STATUS_REFUSE : Fld := ⟨0x048, 7, 4⟩
def BIND_STATUS : Fld := ⟨0x04C, 0, 32⟩
def BIND_FAULT : Fld := ⟨0x050, 0, 32⟩
def TS_COMP : Fld := ⟨0x054, 0, 32⟩
def ENG_CMD : Fld := ⟨0x058, 0, 32⟩
def ENG_CMD_CNT_CLEAR : Fld := ⟨0x058, 0, 1⟩
def ENG_CMD_RX_FLUSH : Fld := ⟨0x058, 1, 1⟩
def ENG_CMD_TX_STAGE_CLEAR : Fld := ⟨0x058, 2, 1⟩
def ENG_CMD_BUS_RECOVER : Fld := ⟨0x058, 3, 1⟩
def ENG_CMD_SEND_BREAK : Fld := ⟨0x058, 4, 1⟩
def RX_LEN : Fld := ⟨0x05C, 0, 32⟩
def RX_DATA : Fld := ⟨0x060, 0, 32⟩
def RX_LEVEL : Fld := ⟨0x064, 0, 32⟩
def TX_DATA : Fld := ⟨0x068, 0, 32⟩
def TX_COMMIT : Fld := ⟨0x06C, 0, 32⟩
def CNT_RX_MSG : Fld := ⟨0x070, 0, 32⟩
def CNT_TX_MSG : Fld := ⟨0x074, 0, 32⟩
def ENG_CNT_DROP_RX_DROP : Fld := ⟨0x078, 0, 16⟩
def ENG_CNT_DROP_RAW_REFUSED : Fld := ⟨0x078, 16, 16⟩
def CNT_DEV_DEVICE_ERROR : Fld := ⟨0x07C, 0, 16⟩
def CNT_DEV_POLL_LATE : Fld := ⟨0x07C, 16, 16⟩
def DEV_PROF_A_UNIT (n : Nat) : Fld := ⟨0x0C0 + 0x8 * n, 0, 2⟩
def DEV_PROF_A_REG_BYTES (n : Nat) : Fld := ⟨0x0C0 + 0x8 * n, 2, 2⟩
def DEV_PROF_A_ADDR_SHIFT (n : Nat) : Fld := ⟨0x0C0 + 0x8 * n, 4, 2⟩
def DEV_PROF_A_BIG_ENDIAN (n : Nat) : Fld := ⟨0x0C0 + 0x8 * n, 6, 1⟩
def DEV_PROF_A_READ_SENSITIVE (n : Nat) : Fld := ⟨0x0C0 + 0x8 * n, 7, 1⟩
def DEV_PROF_A_PEC (n : Nat) : Fld := ⟨0x0C0 + 0x8 * n, 8, 1⟩
def DEV_PROF_A_DUMMY (n : Nat) : Fld := ⟨0x0C0 + 0x8 * n, 9, 2⟩
def DEV_PROF_A_EN (n : Nat) : Fld := ⟨0x0C0 + 0x8 * n, 11, 1⟩
def DEV_PROF_B_READ_CMD (n : Nat) : Fld := ⟨0x0C4 + 0x8 * n, 0, 8⟩
def DEV_PROF_B_WRITE_CMD (n : Nat) : Fld := ⟨0x0C4 + 0x8 * n, 8, 8⟩
def UART_CFG_DATA_BITS : Fld := ⟨0x080, 0, 4⟩
def UART_CFG_PARITY : Fld := ⟨0x080, 4, 3⟩
def UART_CFG_STOP : Fld := ⟨0x080, 7, 2⟩
def UART_CFG_RS485 : Fld := ⟨0x080, 10, 1⟩
def UART_CFG_ECHO : Fld := ⟨0x080, 11, 1⟩
def UART_CFG_RTS_CTS : Fld := ⟨0x080, 12, 1⟩
def UART_CFG_ADDR9 : Fld := ⟨0x080, 13, 1⟩
def UART_CFG_OWN_ADDR9 : Fld := ⟨0x080, 16, 9⟩
def BAUD_DIV : Fld := ⟨0x084, 0, 32⟩
def UART_FRAME_IDLE_BITS : Fld := ⟨0x088, 0, 10⟩
def UART_FRAME_DELIM : Fld := ⟨0x088, 10, 8⟩
def UART_FRAME_DELIM_EN : Fld := ⟨0x088, 18, 1⟩
def UART_FRAME_MAX_LEN : Fld := ⟨0x088, 19, 8⟩
def UART_BREAK : Fld := ⟨0x090, 0, 32⟩
def UART_CNT_PARITY : Fld := ⟨0x094, 0, 16⟩
def UART_CNT_FRAMING : Fld := ⟨0x094, 16, 16⟩
def UART_CNT2_BREAKS : Fld := ⟨0x098, 0, 16⟩
def UART_CNT2_OVERRUNS : Fld := ⟨0x098, 16, 16⟩
def SPIC_CFG_SCLK_SRC : Fld := ⟨0x080, 3, 1⟩
def SPIC_CFG_SCLK_DIV : Fld := ⟨0x080, 4, 12⟩
def SPIC_TIMING_CS_SETUP : Fld := ⟨0x084, 0, 8⟩
def SPIC_TIMING_CS_HOLD : Fld := ⟨0x084, 8, 8⟩
def SPIC_TIMING_CS_GAP : Fld := ⟨0x084, 16, 8⟩
def POLL_US : Fld := ⟨0x088, 0, 32⟩
def SPIC_CNT : Fld := ⟨0x08C, 0, 32⟩
def SPIT_CFG_FILL : Fld := ⟨0x080, 8, 8⟩
def SPIT_CNT_UNMATCHED : Fld := ⟨0x084, 0, 16⟩
def SPIT_CNT_LENGTH : Fld := ⟨0x084, 16, 16⟩
def I2C_CFG_SMBUS : Fld := ⟨0x080, 2, 1⟩
def I2C_CFG_ALERT_ARA : Fld := ⟨0x080, 3, 1⟩
def I2C_CFG_ARB_RETRY : Fld := ⟨0x080, 4, 3⟩
def I2C_CFG_ADDR1_EN : Fld := ⟨0x080, 23, 1⟩
def I2C_CFG_TGT_REG_BYTES : Fld := ⟨0x080, 24, 1⟩
def I2C_POLL_US : Fld := ⟨0x08C, 0, 32⟩
def I2C_CNT_NAKS : Fld := ⟨0x090, 0, 16⟩
def I2C_CNT_ARBITRATION : Fld := ⟨0x090, 16, 16⟩
def I2C_CNT2_STRETCH : Fld := ⟨0x094, 0, 16⟩
def I2C_CNT2_PEC : Fld := ⟨0x094, 16, 16⟩
def LINE_CFG_OUT : Fld := ⟨0x080, 0, 4⟩
def DISC_STATE_FILTERED : Fld := ⟨0x084, 0, 4⟩
def DISC_STATE_DRIVEN : Fld := ⟨0x084, 4, 4⟩
def DISC_EDGES (n : Nat) : Fld := ⟨0x088 + 0x4 * n, 0, 32⟩
def PWM_PERIOD : Fld := ⟨0x080, 0, 32⟩
def PWM_DUTY (n : Nat) : Fld := ⟨0x088 + 0x4 * n, 0, 32⟩
def ENC_CFG_RESOLUTION : Fld := ⟨0x080, 0, 2⟩
def ENC_CFG_INVERT_DIR : Fld := ⟨0x080, 2, 1⟩
def ENC_CFG_INDEX_MODE : Fld := ⟨0x080, 3, 2⟩
def ENC_COUNT : Fld := ⟨0x084, 0, 32⟩
def ENC_INDEX_COUNT : Fld := ⟨0x088, 0, 32⟩
def ENC_ERR : Fld := ⟨0x08C, 0, 32⟩
def ENC_PRESET : Fld := ⟨0x090, 0, 32⟩
def CAN_CFG : Fld := ⟨0x080, 0, 32⟩
def CAN_CFG_FD_EN : Fld := ⟨0x080, 0, 1⟩
def CAN_CFG_PEX_EN : Fld := ⟨0x080, 1, 1⟩
def CAN_CFG_OPMODE : Fld := ⟨0x080, 2, 2⟩
def CAN_CFG_TDC_EN : Fld := ⟨0x080, 4, 1⟩
def CAN_CFG_STBY_BUSOFF : Fld := ⟨0x080, 5, 1⟩
def CAN_CFG_PAIR_EN : Fld := ⟨0x080, 6, 1⟩
def CAN_CFG_EWL : Fld := ⟨0x080, 8, 8⟩
def CAN_NBT : Fld := ⟨0x084, 0, 32⟩
def CAN_NBT_NBRP : Fld := ⟨0x084, 0, 8⟩
def CAN_NBT_NTSEG1 : Fld := ⟨0x084, 8, 8⟩
def CAN_NBT_NTSEG2 : Fld := ⟨0x084, 16, 7⟩
def CAN_NBT_NSJW : Fld := ⟨0x084, 23, 7⟩
def CAN_DBT : Fld := ⟨0x088, 0, 32⟩
def CAN_DBT_DBRP : Fld := ⟨0x088, 0, 5⟩
def CAN_DBT_DTSEG1 : Fld := ⟨0x088, 8, 5⟩
def CAN_DBT_DTSEG2 : Fld := ⟨0x088, 16, 4⟩
def CAN_DBT_DSJW : Fld := ⟨0x088, 24, 4⟩
def CAN_STATUS : Fld := ⟨0x090, 0, 32⟩
def CAN_STATUS_STATE : Fld := ⟨0x090, 0, 2⟩
def CAN_STATUS_ERR_WARN : Fld := ⟨0x090, 2, 1⟩
def CAN_STATUS_PEX : Fld := ⟨0x090, 3, 1⟩
def CAN_STATUS_PAIR_ACTIVE : Fld := ⟨0x090, 4, 1⟩
def CAN_STATUS_PAIR_STANDBY : Fld := ⟨0x090, 5, 1⟩
def CAN_STATUS_TDC_ERR : Fld := ⟨0x090, 7, 1⟩
def CAN_STATUS_TDCV : Fld := ⟨0x090, 8, 7⟩
def CAN_STATUS_LEC : Fld := ⟨0x090, 16, 3⟩
def CAN_STATUS_DLEC : Fld := ⟨0x090, 20, 3⟩
def CAN_ERR_TEC : Fld := ⟨0x094, 0, 9⟩
def CAN_ERR_REC : Fld := ⟨0x094, 16, 8⟩
def CAN_ERR_RP : Fld := ⟨0x094, 24, 1⟩
def CAN_CMD : Fld := ⟨0x098, 0, 32⟩
def CAN_CMD_RESTART : Fld := ⟨0x098, 0, 1⟩
def CAN_CMD_PAIR_SWAP : Fld := ⟨0x098, 1, 1⟩
def CAN_CMD_ABORT_TX : Fld := ⟨0x098, 2, 1⟩
def CNT_CAN_TX : Fld := ⟨0x09C, 0, 32⟩
def CNT_CAN_RX : Fld := ⟨0x0A0, 0, 32⟩
def CNT_CAN_ERR_TRANSMIT : Fld := ⟨0x0A4, 0, 16⟩
def CNT_CAN_ERR_RECEIVE : Fld := ⟨0x0A4, 16, 16⟩
def CNT_CAN_EVT_BUS : Fld := ⟨0x0A8, 0, 16⟩
def CNT_CAN_EVT_ARBITRATION : Fld := ⟨0x0A8, 16, 16⟩
def CNT_CAN_EVT2_FAILOVERS : Fld := ⟨0x0AC, 0, 16⟩
def CNT_CAN_EVT2_PROTOCOL : Fld := ⟨0x0AC, 16, 16⟩
def COLL_LAST : Fld := ⟨0x0B0, 0, 32⟩
def PAIR_LAST : Fld := ⟨0x0B4, 0, 32⟩
def CNT_CAN_LEN_LENGTH : Fld := ⟨0x0B8, 0, 16⟩
def CNT_CAN_LEN_FRAMES : Fld := ⟨0x0B8, 16, 16⟩
def FIN_GLOBAL : Fld := ⟨0x040, 0, 32⟩
def FIN_GROUP_SUP : Fld := ⟨0x044, 0, 32⟩
def FIN_CFG_INV (n : Nat) : Fld := ⟨0x800 + 0x4 * n, 1, 1⟩
def FIN_CFG_WB_EN (n : Nat) : Fld := ⟨0x800 + 0x4 * n, 2, 1⟩
def FIN_STATE_LO : Fld := ⟨0x040, 0, 32⟩
def FIN_STATE_HI : Fld := ⟨0x044, 0, 32⟩
def FIN_FAULT_LO : Fld := ⟨0x048, 0, 32⟩
def FIN_FAULT_HI : Fld := ⟨0x04C, 0, 32⟩
def FIN_CMD : Fld := ⟨0x050, 0, 32⟩
def FIN_TS_IDX : Fld := ⟨0x054, 0, 32⟩
def FIN_TS_LO : Fld := ⟨0x058, 0, 32⟩
def FIN_TS_HI : Fld := ⟨0x05C, 0, 32⟩
def FIN_STAT_LEVEL (n : Nat) : Fld := ⟨0x800 + 0x4 * n, 0, 1⟩
def FIN_STAT_RAW (n : Nat) : Fld := ⟨0x800 + 0x4 * n, 1, 1⟩
def FIN_STAT_WIRE_BREAK (n : Nat) : Fld := ⟨0x800 + 0x4 * n, 2, 1⟩
def FIN_STAT_OVERVOLT (n : Nat) : Fld := ⟨0x800 + 0x4 * n, 3, 1⟩
def FIN_STAT_GROUP_OFF (n : Nat) : Fld := ⟨0x800 + 0x4 * n, 4, 1⟩
def FIN_STAT_TS_INVALID (n : Nat) : Fld := ⟨0x800 + 0x4 * n, 5, 1⟩
def FIN_STAT_EDGES (n : Nat) : Fld := ⟨0x800 + 0x4 * n, 16, 16⟩
def FOUT_SET : Fld := ⟨0x044, 0, 32⟩
def FOUT_CFG_SRC (n : Nat) : Fld := ⟨0x800 + 0x4 * n, 0, 1⟩
def FOUT_CFG_SAFE (n : Nat) : Fld := ⟨0x800 + 0x4 * n, 1, 2⟩
def FOUT_CFG_INVALID_SAFE (n : Nat) : Fld := ⟨0x800 + 0x4 * n, 3, 1⟩
def FOUT_CFG_SHED (n : Nat) : Fld := ⟨0x800 + 0x4 * n, 4, 2⟩
def FOUT_CFG_OL_ON_EN (n : Nat) : Fld := ⟨0x800 + 0x4 * n, 6, 1⟩
def FOUT_CFG_OL_OFF_EN (n : Nat) : Fld := ⟨0x800 + 0x4 * n, 7, 1⟩
def FOUT_STATE : Fld := ⟨0x040, 0, 32⟩
def FOUT_FAULT : Fld := ⟨0x044, 0, 32⟩
def FOUT_OPEN : Fld := ⟨0x048, 0, 32⟩
def FOUT_SAFE : Fld := ⟨0x04C, 0, 32⟩
def FOUT_AGG_MA : Fld := ⟨0x050, 0, 32⟩
def FOUT_CMD : Fld := ⟨0x054, 0, 32⟩
def CNT_FOUT_OVERCURRENT : Fld := ⟨0x058, 0, 16⟩
def CNT_FOUT_SHED : Fld := ⟨0x058, 16, 16⟩
def FOUT_STAT_ON (n : Nat) : Fld := ⟨0x800 + 0x4 * n, 0, 1⟩
def FOUT_STAT_IN_LIMIT (n : Nat) : Fld := ⟨0x800 + 0x4 * n, 1, 1⟩
def FOUT_STAT_OVERCURRENT (n : Nat) : Fld := ⟨0x800 + 0x4 * n, 2, 1⟩
def FOUT_STAT_THERMAL (n : Nat) : Fld := ⟨0x800 + 0x4 * n, 3, 1⟩
def FOUT_STAT_SHED (n : Nat) : Fld := ⟨0x800 + 0x4 * n, 4, 1⟩
def FOUT_STAT_OPEN_ON (n : Nat) : Fld := ⟨0x800 + 0x4 * n, 5, 1⟩
def FOUT_STAT_OPEN_OFF (n : Nat) : Fld := ⟨0x800 + 0x4 * n, 6, 1⟩
def FOUT_STAT_BRANCH_OFF (n : Nat) : Fld := ⟨0x800 + 0x4 * n, 7, 1⟩
def FOUT_STAT_SAFE_FORCED (n : Nat) : Fld := ⟨0x800 + 0x4 * n, 8, 1⟩
def FOUT_STAT_CURRENT (n : Nat) : Fld := ⟨0x800 + 0x4 * n, 16, 12⟩
def TIME_CFG_DOMAIN : Fld := ⟨0x040, 0, 8⟩
def TIME_CFG_PRIORITY1 : Fld := ⟨0x040, 8, 8⟩
def TIME_CFG_PRIORITY2 : Fld := ⟨0x040, 16, 8⟩
def TIME_CFG_GM_CAPABLE : Fld := ⟨0x040, 24, 1⟩
def TIME_CFG_STITCH_PREF : Fld := ⟨0x040, 25, 1⟩
def TIME_CFG_SERVO_SW : Fld := ⟨0x040, 26, 1⟩
def TIME_CFG_RING_B_EN : Fld := ⟨0x040, 27, 1⟩
def TIME_CFG_SYNT_EN : Fld := ⟨0x040, 28, 1⟩
def TIME_INTERVALS_LOG_SYNC : Fld := ⟨0x044, 0, 8⟩
def TIME_INTERVALS_LOG_PDELAY : Fld := ⟨0x044, 8, 8⟩
def TIME_INTERVALS_LOG_ANNOUNCE : Fld := ⟨0x044, 16, 8⟩
def TIME_INTERVALS_ANNOUNCE_TIMEOUT : Fld := ⟨0x044, 24, 4⟩
def SERVO_CFG_LOCK_NS : Fld := ⟨0x048, 0, 8⟩
def SERVO_CFG_LOCK_COUNT : Fld := ⟨0x048, 8, 4⟩
def SERVO_CFG_STEP_THRESH : Fld := ⟨0x048, 12, 20⟩
def HOLDOVER_MS : Fld := ⟨0x04C, 0, 32⟩
def TIME_STATUS : Fld := ⟨0x050, 0, 32⟩
def TIME_STATUS_STATE : Fld := ⟨0x050, 0, 3⟩
def TIME_STATUS_TIME_VALID : Fld := ⟨0x050, 3, 1⟩
def TIME_STATUS_TIME_SET : Fld := ⟨0x050, 4, 1⟩
def TIME_STATUS_IS_GM : Fld := ⟨0x050, 5, 1⟩
def TIME_STATUS_PATH : Fld := ⟨0x050, 6, 2⟩
def TIME_STATUS_VIA_STITCH : Fld := ⟨0x050, 8, 1⟩
def TIME_STATUS_PATH_TRANSITS : Fld := ⟨0x050, 12, 10⟩
def NOW_LO : Fld := ⟨0x054, 0, 32⟩
def NOW_HI : Fld := ⟨0x058, 0, 32⟩
def TIME_CMD : Fld := ⟨0x05C, 0, 32⟩
def TIME_CMD_CNT_CLEAR : Fld := ⟨0x05C, 1, 1⟩
def SNAP_P0_LO : Fld := ⟨0x060, 0, 32⟩
def SNAP_P0_HI : Fld := ⟨0x064, 0, 32⟩
def SNAP_P1_LO : Fld := ⟨0x068, 0, 32⟩
def SNAP_P1_HI : Fld := ⟨0x06C, 0, 32⟩
def SNAP_UNIT_LO : Fld := ⟨0x070, 0, 32⟩
def SNAP_UNIT_HI : Fld := ⟨0x074, 0, 32⟩
def GM_ID_LO : Fld := ⟨0x078, 0, 32⟩
def GM_ID_HI : Fld := ⟨0x07C, 0, 32⟩
def GM_INFO : Fld := ⟨0x080, 0, 32⟩
def CNT_TIME_EVT_STEPS : Fld := ⟨0x084, 0, 16⟩
def CNT_TIME_EVT_GRANDMASTER : Fld := ⟨0x084, 16, 16⟩
def CNT_HOLDOVER_HOLDOVER : Fld := ⟨0x088, 0, 16⟩
def CNT_HOLDOVER_TIME_VALID : Fld := ⟨0x088, 16, 16⟩
def P_FREQ (n : Nat) : Fld := ⟨0x040 + 0x40 * n, 0, 32⟩
def P_ADJ (n : Nat) : Fld := ⟨0x044 + 0x40 * n, 0, 32⟩
def P_ADJ_REMAIN (n : Nat) : Fld := ⟨0x048 + 0x40 * n, 0, 32⟩
def P_SET_NS (n : Nat) : Fld := ⟨0x04C + 0x40 * n, 0, 32⟩
def P_SET_SEC_LO (n : Nat) : Fld := ⟨0x050 + 0x40 * n, 0, 32⟩
def P_SET_SEC_HI (n : Nat) : Fld := ⟨0x054 + 0x40 * n, 0, 32⟩
def P_CMD (n : Nat) : Fld := ⟨0x058 + 0x40 * n, 0, 32⟩
def P_SYNT_FREQ (n : Nat) : Fld := ⟨0x068 + 0x40 * n, 0, 32⟩
def EXT_CFG : Fld := ⟨0x0C0, 0, 32⟩
def EXT_CFG_EXT_EN : Fld := ⟨0x0C0, 0, 1⟩
def EXT_CFG_P0_FOLLOWS_P1 : Fld := ⟨0x0C0, 1, 1⟩
def EXT_CFG_REF10_EN : Fld := ⟨0x0C0, 2, 1⟩
def PPS_COMP : Fld := ⟨0x0C4, 0, 32⟩
def EXT_STATUS_PPS_OK : Fld := ⟨0x0C8, 0, 1⟩
def EXT_STATUS_REF10_OK : Fld := ⟨0x0C8, 1, 1⟩
def EXT_STATUS_P1_LOCKED : Fld := ⟨0x0C8, 2, 1⟩
def PPS_LAST_ERR : Fld := ⟨0x0CC, 0, 32⟩
def PPS_OUT_CFG_EN : Fld := ⟨0x0D0, 0, 1⟩
def PPS_OUT_CFG_SRC : Fld := ⟨0x0D0, 1, 1⟩
def ASYM (n : Nat) : Fld := ⟨0x040 + 0x10 * n, 0, 32⟩
def LINK_DELAY (n : Nat) : Fld := ⟨0x044 + 0x10 * n, 0, 32⟩
def RATE_RATIO (n : Nat) : Fld := ⟨0x048 + 0x10 * n, 0, 32⟩
def PORT_STATUS_PDELAY_OK (n : Nat) : Fld := ⟨0x04C + 0x10 * n, 0, 1⟩
def PTP_CFG_AVG_LOG : Fld := ⟨0x0C0, 0, 3⟩
def MEAS_POP : Fld := ⟨0x0D0, 0, 32⟩
def MEAS_OFFSET : Fld := ⟨0x0D4, 0, 32⟩
def MEAS_TIME_LO : Fld := ⟨0x0D8, 0, 32⟩
def MEAS_TIME_HI : Fld := ⟨0x0DC, 0, 32⟩
def MEAS_LEVEL : Fld := ⟨0x0E0, 0, 32⟩
def MEAS_LOST : Fld := ⟨0x0E4, 0, 32⟩
def CNT_SYNC_SYNC : Fld := ⟨0x0F0, 0, 16⟩
def CNT_SYNC_COPIES : Fld := ⟨0x0F0, 16, 16⟩
def CNT_PTP_ERR_MESSAGES : Fld := ⟨0x0F4, 0, 16⟩
def CNT_PTP_ERR_PDELAY : Fld := ⟨0x0F4, 16, 16⟩
def UNIT_INCR_LO (n : Nat) : Fld := ⟨0x040 + 0x8 * n, 0, 32⟩
def UNIT_INCR_HI (n : Nat) : Fld := ⟨0x044 + 0x8 * n, 0, 32⟩
def UNIT_STATUS : Fld := ⟨0x0C0, 0, 32⟩
def UNIT_FAULT : Fld := ⟨0x0C4, 0, 32⟩
def TXTS_POP : Fld := ⟨0x0D0, 0, 32⟩
def TXTS_LO : Fld := ⟨0x0D4, 0, 32⟩
def TXTS_HI : Fld := ⟨0x0D8, 0, 32⟩
def TXTS_STATUS : Fld := ⟨0x0DC, 0, 32⟩
def TXTS_STATUS_OVERFLOW : Fld := ⟨0x0DC, 8, 1⟩
def TXTS_LOST : Fld := ⟨0x0E0, 0, 32⟩
def SRC_PEND (n : Nat) : Fld := ⟨0x040 + 0x4 * n, 0, 32⟩
def SRC_MASK (n : Nat) : Fld := ⟨0x050 + 0x4 * n, 0, 32⟩
def ROUTE_IDX : Fld := ⟨0x040, 0, 32⟩
def ROUTE_DATA : Fld := ⟨0x044, 0, 32⟩
def VEC_IDX : Fld := ⟨0x048, 0, 32⟩
def VEC_COAL : Fld := ⟨0x04C, 0, 32⟩
def VEC_STATE : Fld := ⟨0x050, 0, 32⟩
def VEC_ACK0 : Fld := ⟨0x054, 0, 32⟩
def VEC_ACK1 : Fld := ⟨0x058, 0, 32⟩
def VEC_SENT0 : Fld := ⟨0x05C, 0, 32⟩
def VEC_SENT1 : Fld := ⟨0x060, 0, 32⟩
def INT_STATUS : Fld := ⟨0x064, 0, 32⟩
def CNT_MSIX : Fld := ⟨0x068, 0, 32⟩
def INT_CMD : Fld := ⟨0x06C, 0, 32⟩
def PCIE_CFG_MAX_SPEED : Fld := ⟨0x040, 0, 2⟩
def PCIE_CFG_MAX_WIDTH : Fld := ⟨0x040, 2, 2⟩
def PCIE_STATUS : Fld := ⟨0x044, 0, 32⟩
def PCIE_STATUS_LTSSM : Fld := ⟨0x044, 0, 6⟩
def PCIE_STATUS_SPEED : Fld := ⟨0x044, 6, 2⟩
def PCIE_STATUS_WIDTH : Fld := ⟨0x044, 8, 2⟩
def PCIE_STATUS_DL_ACTIVE : Fld := ⟨0x044, 10, 1⟩
def PCIE_STATUS_LANES_REVERSED : Fld := ⟨0x044, 11, 1⟩
def PCIE_STATUS_LANES : Fld := ⟨0x044, 12, 4⟩
def PCIE_STATUS_D : Fld := ⟨0x044, 16, 2⟩
def PCIE_CMD : Fld := ⟨0x048, 0, 32⟩
def PCIE_CNT_LINK_DL_ACTIVE : Fld := ⟨0x04C, 0, 16⟩
def PCIE_CNT_LINK_RECOVERY : Fld := ⟨0x04C, 16, 16⟩
def PCI_SUBSYS : Fld := ⟨0x040, 0, 32⟩
def VEC_TS_LO (n : Nat) : Fld := ⟨0x800 + 0x8 * n, 0, 32⟩
def VEC_TS_HI (n : Nat) : Fld := ⟨0x804 + 0x8 * n, 0, 32⟩
def CNT_UR : Fld := ⟨0x048, 0, 32⟩
def ERR_CMD : Fld := ⟨0x04C, 0, 32⟩
def USB_CFG_HS_EN : Fld := ⟨0x040, 0, 1⟩
def USB_CFG_L1_ALLOWED : Fld := ⟨0x040, 1, 1⟩
def USB_CFG_WAKE_K_MS : Fld := ⟨0x040, 16, 4⟩
def USB_CFG_WAKE_RETRIES : Fld := ⟨0x040, 20, 3⟩
def USB_STATUS : Fld := ⟨0x044, 0, 32⟩
def USB_STATUS_SPEED : Fld := ⟨0x044, 0, 2⟩
def USB_STATUS_CONFIGURED : Fld := ⟨0x044, 3, 1⟩
def USB_STATUS_SUSPENDED : Fld := ⟨0x044, 4, 1⟩
def USB_STATUS_L1 : Fld := ⟨0x044, 5, 1⟩
def USB_STATUS_ADDRESS : Fld := ⟨0x044, 6, 7⟩
def USB_STATUS_REMOTE_WAKE_EN : Fld := ⟨0x044, 13, 1⟩
def USB_CMD : Fld := ⟨0x048, 0, 32⟩
def SOF_FRAME : Fld := ⟨0x04C, 0, 32⟩
def SOF_FRAME_FRAME : Fld := ⟨0x04C, 0, 11⟩
def SOF_FRAME_MICRO : Fld := ⟨0x04C, 11, 3⟩
def SOF_FRAME_VALID : Fld := ⟨0x04C, 31, 1⟩
def SOF_TS_LO : Fld := ⟨0x050, 0, 32⟩
def SOF_TS_HI : Fld := ⟨0x054, 0, 32⟩
def SOF_CAP_CFG_EN : Fld := ⟨0x058, 0, 1⟩
def SOF_CAP_CFG_LOG : Fld := ⟨0x058, 1, 4⟩
def SOF_CAP_POP : Fld := ⟨0x05C, 0, 32⟩
def SOF_CAP_TS_LO : Fld := ⟨0x060, 0, 32⟩
def SOF_CAP_TS_HI : Fld := ⟨0x064, 0, 32⟩
def SOF_CAP_LOST : Fld := ⟨0x068, 0, 32⟩
def CNT_USB_RESET_BUS : Fld := ⟨0x06C, 0, 16⟩
def CNT_USB_RESET_SOF_MISSED : Fld := ⟨0x06C, 16, 16⟩
def CNT_USB_PM_SUSPENDS : Fld := ⟨0x070, 0, 16⟩
def CNT_USB_PM_L1 : Fld := ⟨0x070, 16, 16⟩
def CNT_WAKE_DELIVERED : Fld := ⟨0x074, 0, 16⟩
def CNT_WAKE_WAKE_IGNORED : Fld := ⟨0x074, 16, 16⟩
def CNT_USB_ERR_CONTROL : Fld := ⟨0x078, 16, 16⟩
def MF_STATUS : Fld := ⟨0x040, 0, 32⟩
def MF_LAST_ACCEPTED : Fld := ⟨0x044, 0, 32⟩
def MF_LAST_DONE : Fld := ⟨0x048, 0, 32⟩
def MF_CFG_USB_COAL_US : Fld := ⟨0x04C, 10, 16⟩
def MF_CMD : Fld := ⟨0x050, 0, 32⟩
def CNT_MF_COMMANDS : Fld := ⟨0x054, 0, 16⟩
def CNT_MF_COMMANDS_16 : Fld := ⟨0x054, 16, 16⟩
def CON_CFG_EN (n : Nat) : Fld := ⟨0x060 + 0x10 * n, 0, 1⟩
def CON_CFG_MAILBOX (n : Nat) : Fld := ⟨0x060 + 0x10 * n, 1, 7⟩
def CON_CFG_NODE (n : Nat) : Fld := ⟨0x060 + 0x10 * n, 8, 8⟩
def CON_CFG_HUB (n : Nat) : Fld := ⟨0x060 + 0x10 * n, 16, 2⟩
def CON_CFG_ENGINE (n : Nat) : Fld := ⟨0x060 + 0x10 * n, 18, 7⟩
def CON_CFG_PRIO (n : Nat) : Fld := ⟨0x060 + 0x10 * n, 25, 3⟩
def CNT_CON_RECORDS (n : Nat) : Fld := ⟨0x068 + 0x10 * n, 0, 16⟩
def CNT_CON_CON_DROP (n : Nat) : Fld := ⟨0x068 + 0x10 * n, 16, 16⟩
def CON_LINE (n : Nat) : Fld := ⟨0x06C + 0x10 * n, 0, 32⟩
def HUB_CFG : Fld := ⟨0x040, 0, 32⟩
def HUB_CFG_PORT_EN : Fld := ⟨0x040, 0, 3⟩
def HUB_CFG_PER_PORT_POWER : Fld := ⟨0x040, 3, 1⟩
def HUBPORT_STATUS_OVERCURRENT (n : Nat) : Fld := ⟨0x044 + 0x4 * n, 4, 1⟩
def CNT_HUB_OVER : Fld := ⟨0x050, 0, 16⟩
def HUB_CMD : Fld := ⟨0x054, 0, 32⟩
def PD_ON : Fld := ⟨0x040, 0, 32⟩
def PD_REQ : Fld := ⟨0x044, 0, 32⟩
def PD_LOCK : Fld := ⟨0x048, 0, 32⟩
def PD_REFUSE : Fld := ⟨0x04C, 0, 32⟩
def PD_BUSY : Fld := ⟨0x050, 0, 32⟩
def PD_BUSY_BUSY : Fld := ⟨0x050, 0, 1⟩
def PD_BUSY_DOMAIN : Fld := ⟨0x050, 1, 5⟩
def PD_BUSY_TURN_ON : Fld := ⟨0x050, 6, 1⟩
def CNT_PD_SWITCHES : Fld := ⟨0x054, 0, 16⟩
def CNT_PD_REFUSALS : Fld := ⟨0x054, 16, 16⟩
def PD_CMD : Fld := ⟨0x058, 0, 32⟩
def HS_WINDOW : Fld := ⟨0x040, 0, 32⟩
def HS_LEVELS : Fld := ⟨0x044, 0, 32⟩
def HS_RETRY_RETRY_MODE : Fld := ⟨0x050, 0, 2⟩
def HS_RETRY_RETRY_MAX : Fld := ⟨0x050, 4, 4⟩
def SENSE_UOHM : Fld := ⟨0x054, 0, 32⟩
def HS_CYCLE : Fld := ⟨0x058, 0, 32⟩
def HS_STATUS : Fld := ⟨0x05C, 0, 32⟩
def HS_STATUS_STATE : Fld := ⟨0x05C, 0, 3⟩
def HS_STATUS_PGOOD : Fld := ⟨0x05C, 3, 1⟩
def HS_STATUS_IN_LIMIT : Fld := ⟨0x05C, 4, 1⟩
def HS_STATUS_TIMER_RUN : Fld := ⟨0x05C, 5, 1⟩
def HS_STATUS_WINDOW_MET : Fld := ⟨0x05C, 6, 1⟩
def HS_STATUS_PFW_ACTIVE : Fld := ⟨0x05C, 7, 1⟩
def HS_STATUS_RETRY_COUNT : Fld := ⟨0x05C, 8, 4⟩
def HS_STATUS_LAST_OFF_CAUSE : Fld := ⟨0x05C, 12, 3⟩
def HS_STATUS_HS_RANGE : Fld := ⟨0x05C, 16, 2⟩
def HS_START : Fld := ⟨0x060, 0, 32⟩
def HS_START_CRETRY : Fld := ⟨0x060, 0, 12⟩
def HS_START_COOLDOWN_AT_START : Fld := ⟨0x060, 12, 1⟩
def VIN_DIP_MIN : Fld := ⟨0x064, 0, 32⟩
def CNT_HS_FAULT : Fld := ⟨0x068, 0, 16⟩
def CNT_HS_FAST : Fld := ⟨0x068, 16, 16⟩
def CNT_HS2_WARNINGS : Fld := ⟨0x06C, 0, 16⟩
def CNT_HS2_HOLD : Fld := ⟨0x06C, 16, 16⟩
def HS_CMD : Fld := ⟨0x070, 0, 32⟩
def FUSE_CFG_EN (n : Nat) : Fld := ⟨0x040 + 0x10 * n, 7, 1⟩
def FUSE_CFG_RETRY_MODE (n : Nat) : Fld := ⟨0x040 + 0x10 * n, 8, 2⟩
def FUSE_CFG_RETRY_MAX (n : Nat) : Fld := ⟨0x040 + 0x10 * n, 10, 4⟩
def FUSE_SENSE (n : Nat) : Fld := ⟨0x044 + 0x10 * n, 0, 32⟩
def FUSE_STATUS_STATE (n : Nat) : Fld := ⟨0x048 + 0x10 * n, 0, 3⟩
def FUSE_STATUS_IN_LIMIT (n : Nat) : Fld := ⟨0x048 + 0x10 * n, 3, 1⟩
def FUSE_STATUS_TIMER_RUN (n : Nat) : Fld := ⟨0x048 + 0x10 * n, 4, 1⟩
def FUSE_STATUS_POWER_GOOD (n : Nat) : Fld := ⟨0x048 + 0x10 * n, 5, 1⟩
def FUSE_STATUS_RETRY_COUNT (n : Nat) : Fld := ⟨0x048 + 0x10 * n, 8, 4⟩
def FUSE_STATUS_LAST_OFF_CAUSE (n : Nat) : Fld := ⟨0x048 + 0x10 * n, 12, 3⟩
def FUSE_CNT_FAULTS (n : Nat) : Fld := ⟨0x04C + 0x10 * n, 0, 16⟩
def FUSE_CNT_FAST (n : Nat) : Fld := ⟨0x04C + 0x10 * n, 16, 16⟩
def FUSE_GLOBAL : Fld := ⟨0x0C0, 0, 32⟩
def FUSE_FAULT : Fld := ⟨0x0C8, 0, 32⟩
def FUSE_CMD : Fld := ⟨0x0CC, 0, 32⟩
def MTR_CMD : Fld := ⟨0x044, 0, 32⟩
def MTR_AVG (n : Nat) : Fld := ⟨0x800 + 0x10 * n, 0, 32⟩
def MTR_LAST (n : Nat) : Fld := ⟨0x804 + 0x10 * n, 0, 32⟩
def MTR_MIN (n : Nat) : Fld := ⟨0x808 + 0x10 * n, 0, 32⟩
def MTR_MAX (n : Nat) : Fld := ⟨0x80C + 0x10 * n, 0, 32⟩
def ENERGY_LO (n : Nat) : Fld := ⟨0xA00 + 0x8 * n, 0, 32⟩
def ENERGY_HI (n : Nat) : Fld := ⟨0xA04 + 0x8 * n, 0, 32⟩
def RAIL_STATUS : Fld := ⟨0x040, 0, 32⟩
def RAIL_DIP : Fld := ⟨0x044, 0, 32⟩
def PD_TEMP : Fld := ⟨0x048, 0, 32⟩
def BRINGUP_STATUS : Fld := ⟨0x040, 0, 32⟩
def BRINGUP_STATUS_CRYSTAL_ABSENT : Fld := ⟨0x040, 0, 1⟩
def BRINGUP_STATUS_REFCLK_ABSENT : Fld := ⟨0x040, 1, 1⟩
def BRINGUP_STATUS_PCIE_REF_ABSENT : Fld := ⟨0x040, 2, 1⟩
def BRINGUP_STATUS_STRAP_POS : Fld := ⟨0x040, 3, 2⟩
def BRINGUP_STATUS_STRAP_NORESTORE : Fld := ⟨0x040, 5, 1⟩
def BRINGUP_STATUS_AON_LOCKED : Fld := ⟨0x040, 6, 1⟩
def RESET_CAUSE_CAUSE : Fld := ⟨0x044, 0, 4⟩
def RESET_CAUSE_PFD_NEW : Fld := ⟨0x044, 4, 1⟩
def BRINGUP_CMD : Fld := ⟨0x048, 0, 32⟩
def READY_IDX : Fld := ⟨0x054, 0, 32⟩
def READY_US : Fld := ⟨0x058, 0, 32⟩
def CNT_RESET_DOMAIN : Fld := ⟨0x05C, 0, 16⟩
def CNT_RESET_DOMAIN_16 : Fld := ⟨0x05C, 16, 16⟩
def SEED_CFG_ADAPT_S : Fld := ⟨0x040, 10, 8⟩
def SEED_COMPACT : Fld := ⟨0x044, 0, 32⟩
def SEED_STATUS : Fld := ⟨0x048, 0, 32⟩
def SEED_STATUS_ACTIVE_IMAGE : Fld := ⟨0x048, 0, 1⟩
def SEED_STATUS_SUPPRESSED : Fld := ⟨0x048, 3, 1⟩
def SEED_STATUS_FROZEN : Fld := ⟨0x048, 4, 1⟩
def SEED_STATUS_COMPACTING : Fld := ⟨0x048, 6, 1⟩
def SEED_STATUS_RESYNC : Fld := ⟨0x048, 7, 1⟩
def SEED_STATUS_JOURNALLING : Fld := ⟨0x048, 8, 1⟩
def SEED_STATUS_ACTIVE_BANK : Fld := ⟨0x048, 9, 1⟩
def GEN_A : Fld := ⟨0x04C, 0, 32⟩
def GEN_B : Fld := ⟨0x050, 0, 32⟩
def JOURNAL_LEVEL : Fld := ⟨0x054, 0, 32⟩
def SEED_CMD : Fld := ⟨0x058, 0, 32⟩
def SEED_CMD_CNT_CLEAR : Fld := ⟨0x058, 3, 1⟩
def LAST_COMMIT_RECORDS : Fld := ⟨0x05C, 0, 10⟩
def LAST_COMMIT_DURATION : Fld := ⟨0x05C, 16, 10⟩
def CNT_COMMIT_COMMITS : Fld := ⟨0x060, 0, 16⟩
def CNT_COMMIT_COMMITS_16 : Fld := ⟨0x060, 16, 16⟩
def CNT_COMPACT : Fld := ⟨0x064, 0, 32⟩
def CNT_JOURNAL_JRN_LOST : Fld := ⟨0x068, 0, 16⟩
def CNT_JOURNAL_REPLAY_DROPPED : Fld := ⟨0x068, 16, 16⟩
def SEED_WIN_BASE : Fld := ⟨0x06C, 0, 32⟩
def THR_CFG : Fld := ⟨0x040, 0, 32⟩
def THR_CTRL : Fld := ⟨0x044, 0, 32⟩
def THR_CTRL_SAFE_FORCE : Fld := ⟨0x044, 0, 1⟩
def THR_CTRL_CNT_CLEAR : Fld := ⟨0x044, 3, 1⟩
def THR_STATUS_SAFE_HUB : Fld := ⟨0x048, 0, 1⟩
def THR_STATUS_FORCED : Fld := ⟨0x048, 1, 1⟩
def THR_STATUS_FF_VALID : Fld := ⟨0x048, 2, 1⟩
def THR_STATUS_FULL_HELD : Fld := ⟨0x048, 3, 1⟩
def THR_STATUS_FIELD_SAFE : Fld := ⟨0x048, 4, 1⟩
def THR_STATUS_PREV_VALID : Fld := ⟨0x048, 5, 1⟩
def THR_STATUS_SAFE_BANK : Fld := ⟨0x048, 8, 8⟩
def THR_STATUS_ACTIVE_COUNT : Fld := ⟨0x048, 16, 8⟩
def THR_STATUS_HIGHEST : Fld := ⟨0x048, 24, 3⟩
def FF_MSG_LO : Fld := ⟨0x04C, 0, 32⟩
def FF_MSG_HI : Fld := ⟨0x050, 0, 32⟩
def FF_TIME_LO : Fld := ⟨0x054, 0, 32⟩
def FF_TIME_HI : Fld := ⟨0x058, 0, 32⟩
def FF_INFO : Fld := ⟨0x05C, 0, 32⟩
def FF_INFO_MESSAGES : Fld := ⟨0x05C, 0, 5⟩
def FF_INFO_TIME_INVALID : Fld := ⟨0x05C, 8, 1⟩
def FF_INFO_INJECTED : Fld := ⟨0x05C, 9, 1⟩
def FF_UPTIME : Fld := ⟨0x060, 0, 32⟩
def PREV_FF_LO : Fld := ⟨0x064, 0, 32⟩
def PREV_FF_HI : Fld := ⟨0x068, 0, 32⟩
def CNT_MSG_RECEIVED : Fld := ⟨0x06C, 0, 16⟩
def CNT_MSG_DISCARDED : Fld := ⟨0x06C, 16, 16⟩
def CNT_SUPPRESS_S01 : Fld := ⟨0x070, 0, 16⟩
def CNT_SUPPRESS_REPEATS : Fld := ⟨0x070, 16, 16⟩
def CNT_SAFE_SAFE : Fld := ⟨0x074, 0, 16⟩
def CNT_SAFE_CLEARS_REFUSED : Fld := ⟨0x074, 16, 16⟩
def KIND_IDX : Fld := ⟨0x040, 0, 32⟩
def KIND_REACT : Fld := ⟨0x044, 0, 32⟩
def CLR_CTRL : Fld := ⟨0x040, 0, 32⟩
def CLR_CTRL_ENTRY : Fld := ⟨0x040, 0, 7⟩
def CLR_CTRL_GO : Fld := ⟨0x040, 8, 1⟩
def CLR_CTRL_BUSY : Fld := ⟨0x040, 9, 1⟩
def CLR_CTRL_DONE : Fld := ⟨0x040, 10, 1⟩
def CLR_CTRL_REFUSED : Fld := ⟨0x040, 11, 1⟩
def CLR_CTRL_REASON : Fld := ⟨0x040, 12, 3⟩
def CLR_ALL_RESULT_CLEARED : Fld := ⟨0x044, 0, 8⟩
def CLR_ALL_RESULT_REFUSED : Fld := ⟨0x044, 8, 8⟩
def LOG_HEAD : Fld := ⟨0x040, 0, 32⟩
def LOG_WIN_BASE : Fld := ⟨0x044, 0, 32⟩
def CNT_PERSIST_ENTRIES : Fld := ⟨0x048, 0, 16⟩
def CNT_PERSIST_LOST : Fld := ⟨0x048, 16, 16⟩
def RALUSK_CTRL : Fld := ⟨0x040, 0, 32⟩
def RALUSK_CTRL_HALT : Fld := ⟨0x040, 0, 1⟩
def RALUSK_CTRL_CNT_CLEAR : Fld := ⟨0x040, 1, 1⟩
def RALUSK_STATUS : Fld := ⟨0x044, 0, 32⟩
def RALUSK_STATUS_STATE : Fld := ⟨0x044, 0, 3⟩
def POLICY_MODE : Fld := ⟨0x048, 0, 32⟩
def POLICY_ACTIVE : Fld := ⟨0x04C, 0, 32⟩
def JUNCTION_T : Fld := ⟨0x050, 0, 32⟩
def JUNCTION_T_HIGHEST : Fld := ⟨0x050, 0, 11⟩
def EQ_CFG_EQ_HYST : Fld := ⟨0x054, 8, 8⟩
def CM_POL_CFG_CM_CALM : Fld := ⟨0x05C, 16, 4⟩
def CM_POL_CFG_CM_STEP_LOG : Fld := ⟨0x05C, 20, 4⟩
def THERM_CFG_THERM_RATE_C : Fld := ⟨0x064, 0, 8⟩
def THERM_CFG_THERM_HYST : Fld := ⟨0x064, 8, 4⟩
def THERM_CFG_THERM_LEAD_MS : Fld := ⟨0x064, 16, 8⟩
def THERM_CFG_PARTNER_ACCEPT : Fld := ⟨0x064, 24, 1⟩
def SERVO_POL_KP_SHIFT : Fld := ⟨0x068, 0, 5⟩
def SERVO_POL_KI_SHIFT : Fld := ⟨0x068, 5, 5⟩
def SERVO_POL_SERVO_FREQ_MAX : Fld := ⟨0x068, 12, 20⟩
def SERVO_ADJ_MAX : Fld := ⟨0x06C, 0, 32⟩
def GLEAN_POL : Fld := ⟨0x070, 0, 32⟩
def CAN_POL_CAN_SWAP_DELTA : Fld := ⟨0x074, 0, 8⟩
def CAN_POL_CAN_SWAP_MIN_S : Fld := ⟨0x074, 16, 16⟩
def OVERRIDE_HOLD_S : Fld := ⟨0x080, 0, 32⟩
def CNT_DECIDE_WRITTEN : Fld := ⟨0x084, 0, 16⟩
def CNT_DECIDE_ADVISED : Fld := ⟨0x084, 16, 16⟩
def CNT_RALUSK_PREEMPTED : Fld := ⟨0x088, 0, 16⟩
def CNT_RALUSK_RESTARTS : Fld := ⟨0x088, 16, 16⟩
def THERM_SEQ : Fld := ⟨0x08C, 0, 32⟩
def DLOG_HEAD : Fld := ⟨0x040, 0, 32⟩
def DLOG_WIN_BASE : Fld := ⟨0x044, 0, 32⟩
def DLOG_FILTER : Fld := ⟨0x048, 0, 32⟩
def CNT_DLOG_ENTRIES : Fld := ⟨0x04C, 0, 16⟩
def CNT_DLOG_LOST : Fld := ⟨0x04C, 16, 16⟩
def EP_CFG_LEAD_MIN_US : Fld := ⟨0x040, 0, 16⟩
def EP_CFG_GUARD_US : Fld := ⟨0x040, 16, 16⟩
def EP_REQ_TIME_LO : Fld := ⟨0x044, 0, 32⟩
def EP_REQ_TIME_HI : Fld := ⟨0x048, 0, 32⟩
def EP_REQ_SCOPE_RING : Fld := ⟨0x04C, 0, 1⟩
def EP_REQ_SCOPE_COUNT : Fld := ⟨0x04C, 1, 5⟩
def EP_REQ_SCOPE_REQ_TAG : Fld := ⟨0x04C, 8, 8⟩
def EP_CMD : Fld := ⟨0x050, 0, 32⟩
def EP_CMD_CNT_CLEAR : Fld := ⟨0x050, 3, 1⟩
def EP_REQ_STATUS_REQ_STATE : Fld := ⟨0x054, 0, 2⟩
def EP_REQ_STATUS_OUTCOME : Fld := ⟨0x054, 4, 4⟩
def EP_REQ_STATUS_REQ_TAG : Fld := ⟨0x054, 8, 8⟩
def EP_REQ_STATUS_REFUSER : Fld := ⟨0x054, 16, 10⟩
def EP_REQ_STATUS_REFUSER_VALID : Fld := ⟨0x054, 31, 1⟩
def EPOCH_NUM : Fld := ⟨0x058, 0, 32⟩
def EP_STATE_STATE : Fld := ⟨0x05C, 0, 2⟩
def EP_STATE_IN_SCOPE : Fld := ⟨0x05C, 2, 1⟩
def EP_STATE_COORDINATING : Fld := ⟨0x05C, 3, 1⟩
def EP_PEND_NUM : Fld := ⟨0x060, 0, 32⟩
def EP_PEND_TIME_LO : Fld := ⟨0x064, 0, 32⟩
def EP_PEND_TIME_HI : Fld := ⟨0x068, 0, 32⟩
def EP_LAST_TIME_LO : Fld := ⟨0x06C, 0, 32⟩
def EP_LAST_TIME_HI : Fld := ⟨0x070, 0, 32⟩
def CNT_EPOCH_SWITCHES : Fld := ⟨0x074, 0, 16⟩
def CNT_EPOCH_ABORTS : Fld := ⟨0x074, 16, 16⟩
def EP_LIST_NODE (n : Nat) : Fld := ⟨0x800 + 0x4 * n, 0, 8⟩
def EP_LIST_HUB (n : Nat) : Fld := ⟨0x800 + 0x4 * n, 8, 2⟩
def DIG_CFG_COMPARE_EN : Fld := ⟨0x040, 0, 1⟩
def DIG_CFG_CHECK_STAGED : Fld := ⟨0x040, 1, 1⟩
def DIG_STATUS_ACTIVE_CURRENT : Fld := ⟨0x044, 0, 1⟩
def DIG_STATUS_STAGED_CURRENT : Fld := ⟨0x044, 1, 1⟩
def DIG_STATUS_MISMATCH : Fld := ⟨0x044, 16, 11⟩
def DIGEST (n : Nat) : Fld := ⟨0x048 + 0x4 * n, 0, 32⟩
def STAGED_DIG_LO : Fld := ⟨0x068, 0, 32⟩
def STAGED_DIG_HI : Fld := ⟨0x06C, 0, 32⟩
def EXP_IDX : Fld := ⟨0x070, 0, 32⟩
def EXP_LO : Fld := ⟨0x074, 0, 32⟩
def EXP_HI : Fld := ⟨0x078, 0, 32⟩
def EXP_CTRL : Fld := ⟨0x07C, 0, 32⟩
def PAGE_DIG_IDX : Fld := ⟨0x080, 0, 32⟩
def PAGE_DIG_LO : Fld := ⟨0x084, 0, 32⟩
def PAGE_DIG_HI : Fld := ⟨0x088, 0, 32⟩
def CNT_DIGEST_BEACONS : Fld := ⟨0x08C, 0, 16⟩
def CNT_DIGEST_MISMATCHES : Fld := ⟨0x08C, 16, 16⟩
def MISMATCH (n : Nat) : Fld := ⟨0x800 + 0x4 * n, 0, 32⟩
def UPD_CFG : Fld := ⟨0x040, 0, 32⟩
def UPD_CFG_AUTO_CONFIRM : Fld := ⟨0x040, 0, 1⟩
def UPD_CFG_ACT_DELAY_MS : Fld := ⟨0x040, 8, 8⟩
def UPD_CFG_CONFIRM_S : Fld := ⟨0x040, 16, 12⟩
def UPD_INTERLOCK : Fld := ⟨0x044, 0, 32⟩
def UPD_INTERLOCK_SRC : Fld := ⟨0x044, 0, 2⟩
def UPD_INTERLOCK_LEVEL : Fld := ⟨0x044, 2, 1⟩
def UPD_INTERLOCK_INPUT : Fld := ⟨0x044, 8, 6⟩
def UPD_INTERLOCK_INDEX : Fld := ⟨0x044, 16, 14⟩
def UPD_SUPPLY_VMIN : Fld := ⟨0x048, 0, 10⟩
def UPD_SUPPLY_HOLDUP_US : Fld := ⟨0x048, 16, 16⟩
def UPD_CMD : Fld := ⟨0x04C, 0, 32⟩
def UPD_CMD_CNT_CLEAR : Fld := ⟨0x04C, 6, 1⟩
def UPD_STATUS : Fld := ⟨0x050, 0, 32⟩
def UPD_STATUS_STATE : Fld := ⟨0x050, 0, 4⟩
def UPD_STATUS_OUTCOME : Fld := ⟨0x050, 4, 4⟩
def UPD_STATUS_LEAD_OF_SET : Fld := ⟨0x050, 13, 1⟩
def UPD_STATUS_HELD : Fld := ⟨0x050, 14, 1⟩
def UPD_SPACE : Fld := ⟨0x054, 0, 32⟩
def UPD_RECEIVED : Fld := ⟨0x058, 0, 32⟩
def UPD_MANIFEST_ID : Fld := ⟨0x05C, 0, 32⟩
def UPD_PEERS_HUBS : Fld := ⟨0x060, 0, 4⟩
def UPD_PEERS_VOTED : Fld := ⟨0x060, 4, 4⟩
def UPD_PEERS_TRIAL : Fld := ⟨0x060, 8, 4⟩
def UPD_TRIAL_LEFT : Fld := ⟨0x064, 0, 32⟩
def CNT_UPD_ACTIVATIONS : Fld := ⟨0x068, 0, 16⟩
def CNT_UPD_ROLL : Fld := ⟨0x068, 16, 16⟩
def UPD_DATA : Fld := ⟨0x040, 0, 32⟩
def PART_IDX : Fld := ⟨0x064, 0, 32⟩
def PART_INFO : Fld := ⟨0x068, 0, 32⟩
def SVN_FLOOR : Fld := ⟨0x06C, 0, 32⟩
def JOURNAL_MARK : Fld := ⟨0x070, 0, 32⟩
def SEC_STATUS : Fld := ⟨0x040, 0, 32⟩
def SEC_STATUS_ACCESS : Fld := ⟨0x040, 0, 2⟩
def SEC_CFG : Fld := ⟨0x044, 0, 32⟩
def OPEN_CTRL : Fld := ⟨0x048, 0, 32⟩
def OPEN_CTRL_BUSY : Fld := ⟨0x048, 4, 1⟩
def OPEN_CTRL_DONE : Fld := ⟨0x048, 5, 1⟩
def OPEN_CTRL_FAIL : Fld := ⟨0x048, 6, 1⟩
def OPEN_CTRL_REASON : Fld := ⟨0x048, 7, 4⟩
def SEC_LOCK : Fld := ⟨0x04C, 0, 32⟩
def SEC_LOCK_OWNER_LOCK : Fld := ⟨0x04C, 0, 1⟩
def PASS_LEN : Fld := ⟨0x050, 0, 32⟩
def PASS_FAILS : Fld := ⟨0x054, 0, 32⟩
def OTP_CMD : Fld := ⟨0x058, 0, 32⟩
def OTP_STATUS_BUSY : Fld := ⟨0x05C, 0, 1⟩
def OTP_STATUS_DONE : Fld := ⟨0x05C, 1, 1⟩
def OTP_STATUS_REFUSED : Fld := ⟨0x05C, 2, 1⟩
def OTP_STATUS_REASON : Fld := ⟨0x05C, 3, 4⟩
def OTP_PROGRAMMED : Fld := ⟨0x060, 0, 32⟩
def OTP_REVOKED : Fld := ⟨0x064, 0, 32⟩
def OTP_RD_SEL : Fld := ⟨0x068, 0, 32⟩
def ATTEST_CTRL : Fld := ⟨0x06C, 0, 32⟩
def ATTEST_CTRL_GO : Fld := ⟨0x06C, 0, 1⟩
def ATTEST_CTRL_BUSY : Fld := ⟨0x06C, 1, 1⟩
def ATTEST_CTRL_DONE : Fld := ⟨0x06C, 2, 1⟩
def CH_CTRL : Fld := ⟨0x040, 0, 32⟩
def CH_CTRL_RUN : Fld := ⟨0x040, 0, 1⟩
def CH_CTRL_CH_START_EN : Fld := ⟨0x040, 2, 1⟩
def CH_STATUS : Fld := ⟨0x048, 0, 32⟩
def CH_STATUS_RUNNING : Fld := ⟨0x048, 0, 1⟩
def DLY_EN (n : Nat) : Fld := ⟨0x040 + 0x4 * n, 9, 1⟩
def CT_BRIDGE_SLOTS : Fld := ⟨0x040, 0, 9⟩
def CT_BRIDGE_TARGET : Fld := ⟨0x040, 9, 7⟩
def CT_BRIDGE_EN : Fld := ⟨0x040, 16, 1⟩
def CT_REPLAY_FLITS (n : Nat) : Fld := ⟨0x044 + 0x4 * n, 0, 13⟩
def CT_REPLAY_EN (n : Nat) : Fld := ⟨0x044 + 0x4 * n, 13, 1⟩
def BP_CFG_POINT (n : Nat) : Fld := ⟨0x040 + 0x8 * n, 0, 8⟩
def BP_CFG_EN (n : Nat) : Fld := ⟨0x040 + 0x8 * n, 8, 1⟩
def BP_TIME_WIDTH_US (n : Nat) : Fld := ⟨0x044 + 0x8 * n, 0, 16⟩
def BP_TIME_PERIOD_US (n : Nat) : Fld := ⟨0x044 + 0x8 * n, 16, 16⟩
def LE_CFG_EN (n : Nat) : Fld := ⟨0x040 + 0x4 * n, 8, 1⟩
def FI_MSG_LO : Fld := ⟨0x040, 0, 32⟩
def FI_MSG_HI : Fld := ⟨0x044, 0, 32⟩
def FI_CMD : Fld := ⟨0x048, 0, 32⟩
def FI_CMD_FI_ISLAND : Fld := ⟨0x048, 0, 5⟩
def CNT_CHAFF_MESSAGES : Fld := ⟨0x040, 16, 16⟩
def CH_CMD : Fld := ⟨0x044, 0, 32⟩
def CH_CMD_CNT_CLEAR : Fld := ⟨0x044, 0, 1⟩
def CH_START_LO : Fld := ⟨0x040, 0, 32⟩
def CH_START_HI : Fld := ⟨0x044, 0, 32⟩

end R

namespace E

def LANE_LANE_UP : Nat := 0
def LANE_LANE_DOWN : Nat := 1
def LANE_LOCK_LOST : Nat := 2
def LANE_DESKEW_FAIL : Nat := 3
def LANE_CABLE_MISMATCH : Nat := 4
def LANE_TRAIN_FAIL : Nat := 5
def LANE_FAST_EXIT_FAIL : Nat := 6
def LANE_EYE_DONE : Nat := 7
def LANE_PRBS_LOCK_LOST : Nat := 8
def LANE_TEST_REFUSED : Nat := 10
def LANE_RATE_REFUSED : Nat := 11
def LANE_BOUNDS_REFUSED : Nat := 12
def P060_MASTER_CHANGED : Nat := 0
def P060_RUN_ENTERED : Nat := 1
def P060_DISCOVERY_RESTART : Nat := 2
def P060_NODE_CONFLICT : Nat := 3
def P060_SEGMENTED : Nat := 4
def P060_RING_ORDER_MISMATCH : Nat := 5
def P060_BEACON_LOST : Nat := 6
def P061_SCHED_INVALID : Nat := 0
def P061_SCHED_LATE : Nat := 1
def P061_SCHED_SKIP : Nat := 2
def P061_CYCLE_MISMATCH : Nat := 3
def P062_WRAP : Nat := 0
def P062_UNWRAP : Nat := 1
def P062_FAILOVER : Nat := 2
def P062_DUP_EVICT : Nat := 3
def P062_E2E_ORDER : Nat := 4
def P062_UNREACHABLE : Nat := 5
def P063_ROUTES_CHANGED : Nat := 0
def P063_STEER_REFUSED : Nat := 1
def P068_LOCAL_DROP : Nat := 1
def P069_PROFILE_REFUSED : Nat := 0
def P06B_DROP_LIMIT : Nat := 0
def P06B_DROP_NOCELL : Nat := 1
def P06B_ECC_CORRECTED : Nat := 2
def P06B_ECC_UNCORRECTED : Nat := 3
def P06B_RESERVE_REFUSED : Nat := 4
def P06B_LOW_FREE : Nat := 5
def P06C_RECLAIM : Nat := 0
def P06C_FREE_LIST_ERR : Nat := 1
def P06C_VERIFY_DONE : Nat := 2
def P06C_BOUNDS_REFUSED : Nat := 3
def P06D_MIRROR_DROP : Nat := 0
def P06D_CAPTURE_READY : Nat := 1
def P06D_MIRROR_RX_DROP : Nat := 2
def P06E_CM_SET : Nat := 0
def P06F_PORT_HELD : Nat := 0
def P06F_HOLD_EXPIRED : Nat := 1
def P06F_STALE_DROP : Nat := 2
def P070_OWNERSHIP_CONFLICT : Nat := 0
def P070_BAD_RECORD : Nat := 1
def P071_HOST_WRITE_REFUSED : Nat := 0
def P072_CHANGE : Nat := 0
def P072_CHG_OVERFLOW : Nat := 1
def P072_STALE : Nat := 2
def P072_UNREACHABLE : Nat := 3
def P073_LATCH_FIRED : Nat := 0
def P073_LATCH_MISSED : Nat := 1
def P073_ARM_REFUSED : Nat := 2
def P073_RESULT_LAST : Nat := 3
def P074_DIR_REFUSED : Nat := 0
def P00E_CR_EVICT : Nat := 0
def P078_DISCARDED : Nat := 0
def P078_TARGET_BUSY : Nat := 1
def P07A_CP_DONE : Nat := 0
def P07A_CP_REFUSED : Nat := 1
def P07B_FAR_ERROR : Nat := 0
def P07B_ORPHANED_READ : Nat := 1
def P07B_LOG_LOST : Nat := 2
def BANK_VIO_MISMATCH : Nat := 0
def BANK_CELL_REFUSED : Nat := 1
def BANK_SAFE_FORCED : Nat := 2
def BANK_CLK80_UNLOCK : Nat := 3
def ENG_RX_MSG : Nat := 0
def ENG_RX_DROP : Nat := 1
def ENG_ENG_REFUSED : Nat := 2
def ENG_BIND_MISMATCH : Nat := 3
def ENG_DEVICE_ERROR : Nat := 4
def ENG_POLL_LATE : Nat := 5
def ENG_RAW_REFUSED : Nat := 6
def ENG_UP_CHANGED : Nat := 7
def ENG_COUNTER_SAT : Nat := 8
def ENG_PROTOCOL_ERR : Nat := 9
def ENG_STRETCH_LIMIT : Nat := 10
def ENG_BUS_STUCK : Nat := 11
def ENG_BREAK_RX : Nat := 12
def ENG_SMBALERT : Nat := 13
def ENG_VIO_LOST : Nat := 14
def ENG_ERR_WARN : Nat := 16
def ENG_ERR_PASSIVE : Nat := 17
def ENG_BUS_OFF : Nat := 18
def ENG_INTEGRATION_DONE : Nat := 19
def ENG_COLLISION_SUSPECTED : Nat := 20
def ENG_PAIR_FAILOVER : Nat := 21
def ENG_PAIR_SWAP_DONE : Nat := 22
def ENG_PAIR_SWAP_REFUSED : Nat := 23
def ENG_PEX : Nat := 24
def ENG_TDC_ERR : Nat := 25
def ENG_LEN_MISMATCH : Nat := 26
def ENG_TX_ABORTED : Nat := 27
def P024_BIND_MISMATCH : Nat := 0
def P025_INPUT_FAULT : Nat := 0
def P025_CLEAR_REFUSED : Nat := 1
def P026_BIND_MISMATCH : Nat := 0
def P027_OUTPUT_FAULT : Nat := 0
def P027_OPEN_LOAD : Nat := 1
def P027_CLEAR_REFUSED : Nat := 2
def P027_SAFE_FORCED : Nat := 3
def P018_TIME_VALID_CHANGED : Nat := 0
def P018_GM_CHANGED : Nat := 1
def P018_STEPPED : Nat := 2
def P018_HOLDOVER : Nat := 3
def P019_SET_REFUSED : Nat := 0
def P019_PPS_LOST : Nat := 1
def P019_REF10_LOST : Nat := 2
def P019_P1_LOCKED : Nat := 3
def P01A_MEASUREMENT : Nat := 0
def P01A_PDELAY_LOST : Nat := 1
def P01A_PTP_ERR : Nat := 2
def P01B_UNIT_FAULT : Nat := 0
def P01B_TXTS_READY : Nat := 1
def P01B_TXTS_OVERFLOW : Nat := 2
def P003_MSIX_HELD : Nat := 0
def P030_LINK_UP : Nat := 0
def P030_LINK_DOWN : Nat := 1
def P030_SPEED_REDUCED : Nat := 2
def P030_WIDTH_REDUCED : Nat := 3
def P030_RESET_SEEN : Nat := 4
def P034_CONFIGURED : Nat := 0
def P034_BUS_RESET : Nat := 1
def P034_SUSPEND : Nat := 2
def P034_RESUME : Nat := 3
def P034_WAKE_DELIVERED : Nat := 4
def P034_SOF_MISSED : Nat := 5
def P034_SOF_CAPTURE : Nat := 6
def P034_VBUS_LOST : Nat := 7
def P035_CMD_DONE : Nat := 0
def P035_CMD_REFUSED : Nat := 1
def P035_CON_DROP : Nat := 2
def P036_PORT_CHANGE : Nat := 0
def P036_USB_OVERCURRENT : Nat := 1
def P004_SWITCHED : Nat := 0
def P004_PD_REFUSED : Nat := 1
def P020_PFW : Nat := 0
def P020_PFW_END : Nat := 1
def P020_HOLD_ENTERED : Nat := 2
def P020_START_RECORD : Nat := 3
def P020_WINDOW_REFUSED : Nat := 4
def P021_FUSE_TRIP : Nat := 0
def P021_FUSE_LATCHED : Nat := 1
def P021_FSUP_FAULT : Nat := 2
def P021_CLEAR_REFUSED : Nat := 3
def P022_ENERGY_WRAP : Nat := 0
def P023_RAIL_DIP : Nat := 0
def P023_PD_HOT : Nat := 1
def P005_CRYSTAL_ABSENT : Nat := 0
def P005_REF_ABSENT : Nat := 1
def P005_BLOCK_READY : Nat := 2
def P006_IMAGE_INVALID : Nat := 0
def P006_SECTION_INVALID : Nat := 1
def P006_JOURNAL_TRUNCATED : Nat := 2
def P006_JOURNAL_LOST : Nat := 3
def P006_FROZEN : Nat := 4
def P006_THAWED : Nat := 5
def P006_COMPACT_DONE : Nat := 6
def P006_SEED_REFUSED : Nat := 7
def P010_FIRST_FAULT : Nat := 0
def P010_SAFE_ENTERED : Nat := 1
def P010_SAFE_RELEASED : Nat := 2
def P010_FULL_HELD : Nat := 3
def P012_LATCHED : Nat := 0
def P012_CLEAR_DONE : Nat := 1
def P012_CLEAR_REFUSED : Nat := 2
def P013_LOGGED : Nat := 0
def P013_PERSIST_LOST : Nat := 1
def P00C_STATE_CHANGED : Nat := 0
def P00C_ADVICE : Nat := 1
def P00C_DECISION : Nat := 2
def P00C_REFUSED : Nat := 3
def P00C_BOUND_REACHED : Nat := 4
def P00D_DLOG_LOST : Nat := 0
def P00A_REQ_DONE : Nat := 0
def P00A_PREPARED : Nat := 1
def P00A_SWITCHED : Nat := 2
def P00A_ABORTED : Nat := 3
def P00A_WRITE_REFUSED : Nat := 4
def P00B_MISMATCH : Nat := 0
def P00B_MISSING : Nat := 1
def P00B_DIGEST_CHANGED : Nat := 2
def P008_STATE_CHANGED : Nat := 0
def P008_STAGED : Nat := 1
def P008_REFUSED : Nat := 2
def P008_TRIAL_BOOT : Nat := 3
def P008_CONFIRMED : Nat := 4
def P008_ROLLED_BACK : Nat := 5
def P009_SPACE : Nat := 0
def P009_OVERRUN : Nat := 1
def P007_ACCESS_OPENED : Nat := 0
def P007_ACCESS_CLOSED : Nat := 1
def P007_OPEN_FAILED : Nat := 2
def P007_OTP_DONE : Nat := 3
def P007_ATTEST_DONE : Nat := 4
def P007_JTAG_CONTROL : Nat := 5
def P1C0_RUN_STARTED : Nat := 0
def P1C0_RUN_STOPPED : Nat := 1
def P1C5_INJECT_REFUSED : Nat := 0

end E

namespace K

def DIE_LINK_CORRECTED : Nat := 0x01
def DIE_LINK_ERROR : Nat := 0x02
def DIE_LINK_LOST : Nat := 0x03
def CRYSTAL_ABSENT : Nat := 0x04
def CLOCK_LOST : Nat := 0x05
def AON_PARITY : Nat := 0x06
def HUB_FATAL_RESTART : Nat := 0x07
def INLET_OFF_RECORDED : Nat := 0x10
def FUSE_TRIP : Nat := 0x11
def FUSE_LATCHED : Nat := 0x12
def FSUP_FAULT : Nat := 0x13
def RAIL_DIP : Nat := 0x14
def PD_HOT : Nat := 0x15
def WIRE_BREAK : Nat := 0x20
def INPUT_OVERVOLT : Nat := 0x21
def GROUP_OFF : Nat := 0x22
def OUTPUT_OVERCURRENT : Nat := 0x23
def OUTPUT_THERMAL : Nat := 0x24
def OUTPUT_SHED : Nat := 0x25
def OPEN_ON : Nat := 0x26
def OPEN_OFF : Nat := 0x27
def IMAGE_INVALID : Nat := 0x30
def SECTION_INVALID : Nat := 0x31
def JOURNAL_TRUNCATED : Nat := 0x32
def JOURNAL_LOST : Nat := 0x33
def LOCK_LOST : Nat := 0x40
def DESKEW_FAIL : Nat := 0x41
def CABLE_MISMATCH : Nat := 0x42
def TRAIN_FAIL : Nat := 0x43
def FAST_EXIT_FAIL : Nat := 0x44
def LINK_DOWN : Nat := 0x50
def REPLAY_LIMIT : Nat := 0x51
def DIST_LIMIT : Nat := 0x52
def RETRY_MISMATCH : Nat := 0x53
def PROTOCOL_ERR : Nat := 0x54
def PEER_MISMATCH : Nat := 0x55
def NODE_CONFLICT : Nat := 0x60
def RING_ORDER_MISMATCH : Nat := 0x61
def SEGMENTED : Nat := 0x62
def BEACON_LOST : Nat := 0x63
def CYCLE_MISMATCH : Nat := 0x64
def SCHED_LATE : Nat := 0x65
def WRAP : Nat := 0x66
def DUP_EVICT : Nat := 0x67
def CORE_SLICE_FAIL : Nat := 0x70
def GRANARY_ECC_CORRECTED : Nat := 0x71
def GRANARY_ECC_ERROR : Nat := 0x72
def GRANARY_LEAK : Nat := 0x73
def FREE_LIST_ERR : Nat := 0x74
def OWNERSHIP_CONFLICT : Nat := 0x80
def CHG_OVERFLOW : Nat := 0x81
def VIO_LOST : Nat := 0xA0
def BUS_STUCK : Nat := 0xA1
def CLK80_UNLOCK : Nat := 0xA2
def ERR_PASSIVE : Nat := 0xA8
def BUS_OFF : Nat := 0xA9
def COLLISION_SUSPECTED : Nat := 0xAA
def PAIR_FAILOVER : Nat := 0xAB
def TDC_ERR : Nat := 0xAC
def TIME_VALID_LOST : Nat := 0xB0
def PRIME_STEPPED : Nat := 0xB1
def PPS_LOST : Nat := 0xB2
def UNIT_FAULT : Nat := 0xB3
def TXTS_OVERFLOW : Nat := 0xB4
def PCIE_LINK_DOWN : Nat := 0xC0
def USB_OVERCURRENT : Nat := 0xC2
def RALUSK_RESTART : Nat := 0xD0
def RALUSK_HALTED : Nat := 0xD1
def RALUSK_SCOPE : Nat := 0xD2
def POLICY_BOUND : Nat := 0xD3
def THERMAL_RATE_FAIL : Nat := 0xD4
def THERMAL_OVER : Nat := 0xD5
def DLOG_LOST : Nat := 0xD6
def DIGEST_MISMATCH : Nat := 0xD8
def EPOCH_UNDECIDED : Nat := 0xD9
def EPOCH_TIME_INVALID : Nat := 0xDA
def EPOCH_PAGE_MISSED : Nat := 0xDB
def UPDATE_REFUSED : Nat := 0xE0
def UPDATE_VERIFY_FAIL : Nat := 0xE1
def UPDATE_PEER_LOST : Nat := 0xE2
def UPDATE_TRIAL : Nat := 0xE3
def UPDATE_ROLLBACK : Nat := 0xE4
def UPDATE_HELD : Nat := 0xE5
def UPDATE_STORE : Nat := 0xE6
def ACCESS_OPENED : Nat := 0xE8
def OPEN_FAILED : Nat := 0xE9
def PASSCODE_DISABLED : Nat := 0xEA
def OTP_PROGRAM_FAIL : Nat := 0xEB
def JTAG_CONTROL : Nat := 0xEC
def CHAFF_RUN : Nat := 0xED
def TRNG_FAIL : Nat := 0xEE

end K

/-- The severity of a fault kind (the kind tables, R496); `none` for a reserved code. -/
def kindSeverity (k : Nat) : Option Nat :=
  match k with
  | 0xE8 | 0xED => some 0
  | 0x01 | 0x10 | 0x26 | 0x27 | 0x40 | 0x44 | 0x54 | 0x63 | 0x65 | 0x67 | 0x71 | 0x73 | 0x81 | 0xA8 | 0xAC | 0xB1 | 0xB3 | 0xB4 | 0xD3 | 0xD6 | 0xDA | 0xE0 | 0xE3 | 0xE9 => some 1
  | 0x11 | 0x12 | 0x13 | 0x14 | 0x15 | 0x20 | 0x21 | 0x22 | 0x23 | 0x24 | 0x25 | 0x30 | 0x31 | 0x32 | 0x33 | 0x41 | 0x42 | 0x43 | 0x50 | 0x51 | 0x52 | 0x53 | 0x55 | 0x60 | 0x61 | 0x62 | 0x64 | 0x66 | 0x72 | 0x80 | 0xA1 | 0xA9 | 0xAA | 0xAB | 0xB0 | 0xB2 | 0xC0 | 0xC1 | 0xC2 | 0xD0 | 0xD1 | 0xD2 | 0xD4 | 0xD5 | 0xD8 | 0xD9 | 0xDB | 0xE1 | 0xE2 | 0xE4 | 0xE5 | 0xE6 | 0xEA | 0xEB | 0xEC => some 2
  | 0x02 | 0x04 | 0x74 | 0xA0 | 0xA2 | 0xEE => some 3
  | 0x05 | 0x06 | 0x70 => some 4
  | 0x03 | 0x07 => some 5
  | _ => none

end Sys2Proof.Machine
end

