-- ==== Sys2Proof/Machine/RegTable.lean ====
section
/-! DEFINITION. The register tables of the spec as data: for each register its offset, the access code of every bit
(R27), the reserved bits (R25), its Factory value and whether it is Kept. -/

namespace Sys2Proof.Machine

/-- One row of a register table (R27): `count` registers, `stride` bytes apart, from `off` on. Each mask names the bits
of one access code; a bit in no mask is reserved (R25). `cnt` names the bits a CNT_CLEAR zeroes. -/
structure RegDesc where
  off : Nat
  count : Nat := 1
  stride : Nat := 4
  rw : Nat := 0
  ro : Nat := 0
  wo : Nat := 0
  w1c : Nat := 0
  w1s : Nat := 0
  rcl : Nat := 0
  rpop : Nat := 0
  rwe : Nat := 0
  rwk : Nat := 0
  cnt : Nat := 0
  kept : Bool := false
  factory : Nat := 0
  deriving DecidableEq, Repr

/-- The common page header (R28). -/
def regsHdr : List RegDesc := [
  { off := 0x000, ro := 0xFFFFFFFF },
  { off := 0x004, ro := 0xFFFFFFFF },
  { off := 0x008, ro := 0x3F },
  { off := 0x00C, rw := 0xD, w1s := 0x2, kept := true, factory := 0x4 },
  { off := 0x010, w1c := 0xFFFFFFFF },
  { off := 0x014, rw := 0xFFFFFFFF, kept := true },
  { off := 0x018, wo := 0xFFFFFFFF },
  { off := 0x01C, ro := 0x800007FF },
  { off := 0x020, ro := 0xFFFF0007 },
  { off := 0x024, rw := 0xFFFF }]

/-- Page 0x000. -/
def regsP000 : List RegDesc := [
  { off := 0x040, ro := 0xFFFF0000, factory := 0x12800000 },
  { off := 0x044, ro := 0xFFFF, factory := 0x110 },
  { off := 0x048, ro := 0xFFFFFFFF },
  { off := 0x04C, ro := 0xFFFFFFFF },
  { off := 0x050, ro := 0x800003FF },
  { off := 0x054, ro := 0xFFFFFFFF },
  { off := 0x058, ro := 0xFF03FFFF, factory := 0xFFFF },
  { off := 0x05C, wo := 0xFFFFFFFF },
  { off := 0x060, wo := 0xFFFFFFFF },
  { off := 0x064, ro := 0x70, w1s := 0x3 },
  { off := 0x800, count := 8, ro := 0xFFFFFFFF },
  { off := 0x840, count := 32, wo := 0xFFFFFFFF }]

/-- Page 0x001. -/
def regsP001 : List RegDesc := [
  { off := 0x040, count := 16, rw := 0x8000FFFF, factory := 0xFFFF }]

/-- Page 0x00F. -/
def regsP00F : List RegDesc := [
  { off := 0x040, rpop := 0xFFFFFFFF },
  { off := 0x044, ro := 0xFFFFFFFF },
  { off := 0x048, ro := 0xFFFF },
  { off := 0x04C, ro := 0xFFFFFFFF },
  { off := 0x050, ro := 0x7F },
  { off := 0x054, rcl := 0xFFFF }]

/-- A lane page. -/
def regsLane : List RegDesc := [
  { off := 0x040, rw := 0x3FFFFFDC, rwe := 0x3, kept := true, factory := 0x6419310 },
  { off := 0x044, rw := 0x3, wo := 0x3C },
  { off := 0x048, ro := 0x1FFFFFF },
  { off := 0x04C, ro := 0x3FF },
  { off := 0x050, rw := 0xF1FF, kept := true, factory := 0xC102 },
  { off := 0x054, rw := 0xF1F, kept := true, factory := 0x80C },
  { off := 0x058, rw := 0xFFFFFFFF, kept := true },
  { off := 0x05C, rw := 0xFFFFFFFF, kept := true },
  { off := 0x060, rw := 0xFFFF, kept := true },
  { off := 0x064, rw := 0x7FFF1F1F, kept := true, factory := 0x3FF01F00 },
  { off := 0x068, rw := 0x1F, kept := true, factory := 0x1F },
  { off := 0x06C, ro := 0xFFFFFFFF },
  { off := 0x070, ro := 0xFFFFFFFF, cnt := 0xFFFFFFFF },
  { off := 0x074, ro := 0xFFFFFFFF, cnt := 0xFFFFFFFF },
  { off := 0x078, ro := 0xFFFFFFFF, cnt := 0xFFFFFFFF },
  { off := 0x07C, ro := 0xFFFFFFFF, cnt := 0xFFFFFFFF },
  { off := 0x080, ro := 0xFFFFFFFF, cnt := 0xFFFFFFFF },
  { off := 0x090, rw := 0x7FF, wo := 0x3800 },
  { off := 0x094, ro := 0x3 },
  { off := 0x098, ro := 0xFFFFFFFF },
  { off := 0x09C, ro := 0xFFFFFFFF },
  { off := 0x0A0, ro := 0xFFFF },
  { off := 0x0B0, rw := 0x3FFF7F01, ro := 0x1C, w1s := 0x2, factory := 0x1E000000 },
  { off := 0x0B4, ro := 0xFFFFFFFF }]

/-- A ring side page. -/
def regsLink : List RegDesc := [
  { off := 0x040, rw := 0x3FFFFF3, kept := true, factory := 0x11441 },
  { off := 0x044, rw := 0x1, wo := 0x6 },
  { off := 0x048, ro := 0x1FFF0FFF },
  { off := 0x04C, ro := 0x80007FFF },
  { off := 0x050, ro := 0xFFFF },
  { off := 0x054, ro := 0xFFFFFFFF, cnt := 0xFFFFFFFF },
  { off := 0x058, ro := 0xFFFFFFFF, cnt := 0xFFFFFFFF },
  { off := 0x05C, ro := 0xFFFFFFFF, cnt := 0xFFFFFFFF },
  { off := 0x060, ro := 0xFFFFFFFF, cnt := 0xFFFFFFFF },
  { off := 0x064, ro := 0xFFFFFFFF, cnt := 0xFFFFFFFF },
  { off := 0x068, ro := 0xFFFFFFFF, cnt := 0xFFFFFFFF },
  { off := 0x06C, ro := 0xFFFFFFFF, cnt := 0xFFFFFFFF },
  { off := 0x070, ro := 0xFFFFFFFF, cnt := 0xFFFFFFFF },
  { off := 0x074, ro := 0xFFFFFFFF, cnt := 0xFFFFFFFF },
  { off := 0x078, ro := 0xFFFFFFFF, cnt := 0xFFFFFFFF },
  { off := 0x07C, ro := 0xFFFFFFFF, cnt := 0xFFFFFFFF },
  { off := 0x080, ro := 0xFFFFFFFF, cnt := 0xFFFFFFFF },
  { off := 0x084, ro := 0xFFFF, cnt := 0xFFFF },
  { off := 0x088, ro := 0xFFFFFFFF, cnt := 0xFFFFFFFF },
  { off := 0x08C, ro := 0xFFFF, cnt := 0xFFFF }]

/-- What a stitch page adds to the link registers. -/
def regsStitch : List RegDesc := [
  { off := 0x0A0, rw := 0x1, kept := true, factory := 0x1 },
  { off := 0x0A4, ro := 0xF },
  { off := 0x0A8, ro := 0xFFFFFFFF, cnt := 0xFFFFFFFF }]

/-- Page 0x060. -/
def regsP060 : List RegDesc := [
  { off := 0x040, rw := 0x7FFF, kept := true, factory := 0x4008 },
  { off := 0x044, wo := 0x3 },
  { off := 0x048, ro := 0x1FFFFF7F },
  { off := 0x04C, ro := 0xBFF007FF },
  { off := 0x050, ro := 0xFFFFFFFF },
  { off := 0x054, ro := 0xFFFFFFFF },
  { off := 0x058, rw := 0xFFFFFFF, kept := true, factory := 0x36403E8 },
  { off := 0x05C, ro := 0x7FF },
  { off := 0x060, ro := 0xFFFFFFFF, cnt := 0xFFFFFFFF },
  { off := 0x064, ro := 0xFFFFFFFF, cnt := 0xFFFFFFFF },
  { off := 0x068, ro := 0xFFFFFFFF },
  { off := 0x06C, ro := 0xFFFFFFFF }]

/-- Page 0x061. -/
def regsP061 : List RegDesc := [
  { off := 0x040, rwe := 0x13FFF, kept := true, factory := 0x3E8 },
  { off := 0x044, rwe := 0xFFFFFFFF, kept := true },
  { off := 0x048, rwe := 0xFFFFFFFF, kept := true },
  { off := 0x04C, rw := 0xFFFF, kept := true, factory := 0x3E8 },
  { off := 0x050, rw := 0xFFF },
  { off := 0x054, count := 4, rw := 0xFFFFFFFF },
  { off := 0x064, wo := 0x7 },
  { off := 0x068, ro := 0xFFFF7FFF },
  { off := 0x06C, ro := 0xFFFFFFFF, cnt := 0xFFFFFFFF },
  { off := 0x070, ro := 0xFFFFFFFF, cnt := 0xFFFFFFFF },
  { off := 0x074, ro := 0xFFFFFFFF, cnt := 0xFFFFFFFF }]

/-- Page 0x062. -/
def regsP062 : List RegDesc := [
  { off := 0x040, rw := 0x6, wo := 0x8, rwe := 0x1, kept := true, factory := 0x6 },
  { off := 0x044, rw := 0xFFFF, kept := true, factory := 0x32 },
  { off := 0x048, rw := 0xFFFF, kept := true, factory := 0x3E8 },
  { off := 0x04C, ro := 0xFFFFFFFF, factory := 0x7D0 },
  { off := 0x050, ro := 0xFFFFFF },
  { off := 0x054, ro := 0x1FFF },
  { off := 0x058, ro := 0xFFFFFFFF, cnt := 0xFFFFFFFF },
  { off := 0x05C, ro := 0xFFFFFFFF, cnt := 0xFFFFFFFF },
  { off := 0x060, ro := 0xFFFFFFFF, cnt := 0xFFFFFFFF },
  { off := 0x064, ro := 0xFFFFFFFF, cnt := 0xFFFFFFFF },
  { off := 0x068, ro := 0xFFFFFFFF, cnt := 0xFFFFFFFF },
  { off := 0x06C, ro := 0xFFFFFFFF, cnt := 0xFFFFFFFF },
  { off := 0x070, ro := 0xFFFFFFFF, cnt := 0xFFFFFFFF },
  { off := 0x074, ro := 0xFFFFFFFF, cnt := 0xFFFFFFFF },
  { off := 0x078, ro := 0xFFFFFFFF, cnt := 0xFFFFFFFF }]

/-- Page 0x063. -/
def regsP063 : List RegDesc := [
  { off := 0x040, wo := 0x800013FF },
  { off := 0x044, ro := 0x7FFFFF },
  { off := 0x800, count := 512, ro := 0xFFFFFFFF }]

/-- Page 0x068. -/
def regsP068 : List RegDesc := [
  { off := 0x040, rw := 0x3, kept := true, factory := 0x3 },
  { off := 0x044, wo := 0x1 },
  { off := 0x048, ro := 0x7, factory := 0x7 },
  { off := 0x04C, ro := 0xFFFFFFFF, cnt := 0xFFFFFFFF },
  { off := 0x050, ro := 0xFFFFFFFF, cnt := 0xFFFFFFFF },
  { off := 0x054, ro := 0xFFFFFFFF, cnt := 0xFFFFFFFF },
  { off := 0x058, ro := 0xFFFFFFFF, cnt := 0xFFFFFFFF }]

/-- Page 0x069. -/
def regsP069 : List RegDesc := [
  { off := 0x040, rw := 0x7FF },
  { off := 0x044, rw := 0xF, kept := true },
  { off := 0x800, count := 16, stride := 0x10, rw := 0x1FFFF, kept := true, factory := 0x100 },
  { off := 0x804, count := 16, stride := 0x10, rw := 0x1FFFF, kept := true, factory := 0x1000 },
  { off := 0x808, count := 16, stride := 0x10, rw := 0x1FFFF, kept := true, factory := 0x10 },
  { off := 0x80C, count := 16, stride := 0x10, rw := 0x1FFFF, kept := true, factory := 0x1000 }]

/-- Page 0x06A. -/
def regsP06A : List RegDesc := [
  { off := 0x040, rw := 0x7FF },
  { off := 0x044, ro := 0x1FFFF },
  { off := 0x048, ro := 0x1FFFF },
  { off := 0x04C, rcl := 0x1FFFF },
  { off := 0x050, rcl := 0xFFFFFFFF },
  { off := 0x054, rcl := 0xFFFFFFFF }]

/-- Page 0x06B. -/
def regsP06B : List RegDesc := [
  { off := 0x040, rw := 0x1FFFF, kept := true, factory := 0x1000 },
  { off := 0x044, rw := 0x1FFFF, kept := true, factory := 0x400 },
  { off := 0x048, ro := 0x3FFFF, factory := 0x20000 },
  { off := 0x04C, rcl := 0x3FFFF, factory := 0x20000 },
  { off := 0x050, ro := 0xFFFFFFFF, cnt := 0xFFFFFFFF },
  { off := 0x054, ro := 0xFFFFFFFF, cnt := 0xFFFFFFFF },
  { off := 0x058, ro := 0xFFFFFFFF, cnt := 0xFFFFFFFF },
  { off := 0x05C, wo := 0x1 }]

/-- Page 0x06C. -/
def regsP06C : List RegDesc := [
  { off := 0x040, rw := 0x3FF0001, kept := true, factory := 0xA0001 },
  { off := 0x044, rw := 0x3FF03FF, kept := true, factory := 0x640001 },
  { off := 0x048, ro := 0x7FFFF },
  { off := 0x04C, ro := 0xFFFFFFFF, cnt := 0xFFFFFFFF },
  { off := 0x050, ro := 0xFFFFFFFF, cnt := 0xFFFFFFFF },
  { off := 0x054, ro := 0xC001FFFF },
  { off := 0x058, ro := 0x3FFFF },
  { off := 0x05C, ro := 0xFFFFFFFF, cnt := 0xFFFFFFFF },
  { off := 0x060, wo := 0x1 }]

/-- Page 0x06D. -/
def regsP06D : List RegDesc := [
  { off := 0x040, count := 4, stride := 0x20, rw := 0x1FFFFF, kept := true },
  { off := 0x044, count := 4, stride := 0x20, rw := 0x7FF, kept := true },
  { off := 0x048, count := 4, stride := 0x20, rw := 0x7FF, kept := true },
  { off := 0x04C, count := 4, stride := 0x20, rw := 0xFFFFFF, kept := true },
  { off := 0x050, count := 4, stride := 0x20, rw := 0xFFFFFF, kept := true },
  { off := 0x054, count := 4, stride := 0x20, rw := 0xFFFF, kept := true, factory := 0x1 },
  { off := 0x058, count := 4, stride := 0x20, ro := 0xFFFFFFFF, cnt := 0xFFFFFFFF },
  { off := 0x05C, count := 4, stride := 0x20, ro := 0xFFFFFFFF, cnt := 0xFFFFFFFF },
  { off := 0x0C0, rw := 0x3FF01, kept := true, factory := 0x1 },
  { off := 0x0C4, ro := 0x1FFFF },
  { off := 0x0C8, ro := 0x1FF },
  { off := 0x0CC, rpop := 0xFFFFFFFF },
  { off := 0x0D0, ro := 0xFFFFFFFF, cnt := 0xFFFFFFFF },
  { off := 0x0D4, wo := 0x3 }]

/-- Page 0x06E. -/
def regsP06E : List RegDesc := [
  { off := 0x040, rw := 0x1, kept := true, factory := 0x1 },
  { off := 0x044, ro := 0xFFFFFFFF, cnt := 0xFFFFFFFF },
  { off := 0x048, ro := 0xFFFFFFFF, cnt := 0xFFFFFFFF },
  { off := 0x04C, ro := 0x800007FF },
  { off := 0x050, wo := 0x1 }]

/-- Page 0x06F. -/
def regsP06F : List RegDesc := [
  { off := 0x040, count := 4, ro := 0xFFFFFFFF },
  { off := 0x050, count := 4, ro := 0xFFFFFFFF },
  { off := 0x060, ro := 0xFFFFFFFF, cnt := 0xFFFFFFFF },
  { off := 0x064, ro := 0xFFFFFFFF, cnt := 0xFFFFFFFF },
  { off := 0x068, wo := 0x1 },
  { off := 0x800, count := 128, stride := 0x8, rw := 0x3FF, kept := true, factory := 0x14 },
  { off := 0x804, count := 128, stride := 0x8, rw := 0x3FF, kept := true, factory := 0x14 }]

/-- Page 0x070. -/
def regsP070 : List RegDesc := [
  { off := 0x040, rw := 0x1, kept := true, factory := 0x1 },
  { off := 0x044, wo := 0x1 },
  { off := 0x048, ro := 0x7FFF7FFF },
  { off := 0x04C, ro := 0xFFFFFFFF, cnt := 0xFFFFFFFF },
  { off := 0x050, ro := 0xFFFFFFFF, cnt := 0xFFFFFFFF },
  { off := 0x054, ro := 0xFFFFFFFF, cnt := 0xFFFFFFFF },
  { off := 0x058, ro := 0xFFFFFFFF, cnt := 0xFFFFFFFF },
  { off := 0x05C, ro := 0xFFFFFFFF, cnt := 0xFFFFFFFF },
  { off := 0x060, ro := 0xFFFFFFFF, cnt := 0xFFFFFFFF },
  { off := 0x064, ro := 0xFFFFFFFF, cnt := 0xFFFFFFFF },
  { off := 0x068, ro := 0x80FFFFFF },
  { off := 0x06C, ro := 0x800007FF }]

/-- Page 0x071. -/
def regsP071 : List RegDesc := [
  { off := 0x040, ro := 0x7FFF7FFF },
  { off := 0x044, ro := 0xFFFFFFFF, cnt := 0xFFFFFFFF },
  { off := 0x048, ro := 0xFFFFFFFF, cnt := 0xFFFFFFFF },
  { off := 0x04C, ro := 0xFFFFFFFF, cnt := 0xFFFFFFFF },
  { off := 0x050, ro := 0xFFFFFFFF, cnt := 0xFFFFFFFF },
  { off := 0x054, ro := 0xFFFFFFFF, cnt := 0xFFFFFFFF },
  { off := 0x058, wo := 0x1 }]

/-- Page 0x072. -/
def regsP072 : List RegDesc := [
  { off := 0x040, rpop := 0x80003FFF },
  { off := 0x044, ro := 0x3FF },
  { off := 0x048, rcl := 0xFFFF },
  { off := 0x04C, ro := 0x7FFF7FFF },
  { off := 0x050, wo := 0x3 }]

/-- Page 0x073. -/
def regsP073 : List RegDesc := [
  { off := 0x040, rw := 0xFFFFFFFF },
  { off := 0x044, rw := 0xFFFFFFFF },
  { off := 0x048, rw := 0xFF },
  { off := 0x04C, wo := 0x7 },
  { off := 0x050, rw := 0xFFFF, kept := true, factory := 0x3E8 },
  { off := 0x054, count := 4, ro := 0x8003FFFF },
  { off := 0x064, ro := 0xFFFFFFFF },
  { off := 0x068, ro := 0xFFFFFFFF, cnt := 0xFFFFFFFF },
  { off := 0x06C, ro := 0xFFFFFFFF, cnt := 0xFFFFFFFF }]

/-- Page 0x074. -/
def regsP074 : List RegDesc := [
  { off := 0x040, rw := 0x7F },
  { off := 0x044, ro := 0x8003FFFF },
  { off := 0x048, ro := 0x7FFF7FFF },
  { off := 0x800, count := 512, rwe := 0xFFFFFFFF, kept := true }]

/-- Page 0x078. -/
def regsP078 : List RegDesc := [
  { off := 0x040, rw := 0xF, kept := true, factory := 0xC },
  { off := 0x044, rw := 0xFFFFF, kept := true, factory := 0x2710 },
  { off := 0x048, rw := 0x3FF, kept := true, factory := 0x64 },
  { off := 0x04C, wo := 0x1 },
  { off := 0x050, ro := 0x7F01FF },
  { off := 0x054, ro := 0xFFFFFFFF, cnt := 0xFFFFFFFF },
  { off := 0x058, ro := 0xFFFFFFFF, cnt := 0xFFFFFFFF },
  { off := 0x05C, ro := 0xFFFFFFFF, cnt := 0xFFFFFFFF },
  { off := 0x060, ro := 0xFFFFFFFF, cnt := 0xFFFFFFFF },
  { off := 0x064, ro := 0xFFFFFFFF, cnt := 0xFFFFFFFF }]

/-- Page 0x079. -/
def regsP079 : List RegDesc := [
  { off := 0x040, count := 16, rw := 0x303FFFF, kept := true }]

/-- Page 0x07A. -/
def regsP07A : List RegDesc := [
  { off := 0x040, count := 4, stride := 0x20, rw := 0xFFFFFFFF },
  { off := 0x044, count := 4, stride := 0x20, rw := 0xFFFF },
  { off := 0x048, count := 4, stride := 0x20, rw := 0xFFFFFFFF },
  { off := 0x04C, count := 4, stride := 0x20, rw := 0x1F, ro := 0xFFE00, w1s := 0x100 },
  { off := 0x050, count := 4, stride := 0x20, rw := 0xFFFFFFFF },
  { off := 0x054, count := 4, stride := 0x20, rw := 0xFFFFFFFF },
  { off := 0x058, count := 4, stride := 0x20, rw := 0xFFFFFFFF },
  { off := 0x05C, count := 4, stride := 0x20, rw := 0xFFFFFFFF }]

/-- Page 0x07B. -/
def regsP07B : List RegDesc := [
  { off := 0x040, rpop := 0xFFFFFFFF },
  { off := 0x044, ro := 0xFFFFFFFF },
  { off := 0x048, ro := 0xFFFF },
  { off := 0x04C, ro := 0xFFFFFFFF },
  { off := 0x050, ro := 0x7F },
  { off := 0x054, rcl := 0xFFFF },
  { off := 0x060, rpop := 0xFFFFFFFF },
  { off := 0x064, ro := 0xFFFFFFFF },
  { off := 0x068, ro := 0xFFFF },
  { off := 0x06C, ro := 0xFFFFFFFF },
  { off := 0x070, ro := 0x1F },
  { off := 0x074, rcl := 0xFFFF },
  { off := 0x800, count := 60, ro := 0xFFFFFFFF }]

/-- Page 0x00E. -/
def regsP00E : List RegDesc := [
  { off := 0x040, rw := 0x1F },
  { off := 0x044, ro := 0x8000FFFF, factory := 0xFFFF },
  { off := 0x048, ro := 0xFFFFFFFF },
  { off := 0x04C, ro := 0xF },
  { off := 0x050, ro := 0xFFFFFFFF },
  { off := 0x054, rcl := 0xFFFF },
  { off := 0x058, wo := 0x1 }]

/-- A bank page. -/
def regsBank : List RegDesc := [
  { off := 0x040, rw := 0x3, kept := true },
  { off := 0x044, ro := 0xFF1F },
  { off := 0x048, ro := 0xFFFF },
  { off := 0x04C, ro := 0x8000003F },
  { off := 0x800, count := 40, rw := 0x7FFFF, kept := true }]

/-- An engine page, common registers. -/
def regsEng : List RegDesc := [
  { off := 0x040, rw := 0x3FF, kept := true },
  { off := 0x044, rw := 0x3FFFF, kept := true },
  { off := 0x048, ro := 0xF7FF },
  { off := 0x04C, ro := 0xFFFFFFFF },
  { off := 0x050, ro := 0x800000FF },
  { off := 0x054, rw := 0xFFFF, kept := true },
  { off := 0x058, wo := 0x1F },
  { off := 0x05C, ro := 0x1FF },
  { off := 0x060, rpop := 0xFFFFFFFF },
  { off := 0x064, ro := 0xFFF },
  { off := 0x068, wo := 0xFFFFFFFF },
  { off := 0x06C, wo := 0xFFFF },
  { off := 0x070, ro := 0xFFFFFFFF, cnt := 0xFFFFFFFF },
  { off := 0x074, ro := 0xFFFFFFFF, cnt := 0xFFFFFFFF },
  { off := 0x078, ro := 0xFFFFFFFF, cnt := 0xFFFFFFFF },
  { off := 0x07C, ro := 0xFFFFFFFF, cnt := 0xFFFFFFFF },
  { off := 0x0C0, count := 4, stride := 0x8, rw := 0xFFF, kept := true },
  { off := 0x0C4, count := 4, stride := 0x8, rw := 0xFFFF, kept := true },
  { off := 0x800, count := 128, rwe := 0xFFFFFFFF, kept := true }]

/-- Mode registers of mode 1 (R270). -/
def regsMode1 : List RegDesc := [
  { off := 0x080, rw := 0x1FF3FFF, kept := true, factory := 0x8 },
  { off := 0x084, rw := 0xFFFFFFF, kept := true, factory := 0x10F44 },
  { off := 0x088, rw := 0x7FFFFFF, kept := true, factory := 0x7800028 },
  { off := 0x08C, rw := 0xFFFFFFFF, kept := true, factory := 0x4032032 },
  { off := 0x090, rw := 0xFF, kept := true, factory := 0xD },
  { off := 0x094, ro := 0xFFFFFFFF, cnt := 0xFFFFFFFF },
  { off := 0x098, ro := 0xFFFFFFFF, cnt := 0xFFFFFFFF }]

/-- Mode registers of mode 2 (R270). -/
def regsMode2 : List RegDesc := [
  { off := 0x080, rw := 0xFFFFF, kept := true, factory := 0x80 },
  { off := 0x084, rw := 0xFFFFFF, kept := true, factory := 0x50505 },
  { off := 0x088, rw := 0xFFFF, kept := true },
  { off := 0x08C, ro := 0xFFFFFFFF, cnt := 0xFFFFFFFF }]

/-- Mode registers of mode 3 (R270). -/
def regsMode3 : List RegDesc := [
  { off := 0x080, rw := 0xFF0F, kept := true, factory := 0xFF00 },
  { off := 0x084, ro := 0xFFFFFFFF, cnt := 0xFFFFFFFF }]

/-- Mode registers of mode 4 (R270). -/
def regsMode4 : List RegDesc := [
  { off := 0x080, rw := 0x1FF7F7F, kept := true, factory := 0x31 },
  { off := 0x084, rw := 0xFFFFFFFF, kept := true, factory := 0x258028A },
  { off := 0x088, rw := 0xFFFFFFFF, kept := true, factory := 0x3E861A8 },
  { off := 0x08C, rw := 0xFFFF, kept := true },
  { off := 0x090, ro := 0xFFFFFFFF, cnt := 0xFFFFFFFF },
  { off := 0x094, ro := 0xFFFFFFFF, cnt := 0xFFFFFFFF }]

/-- Mode registers of mode 7 (R270). -/
def regsMode7 : List RegDesc := [
  { off := 0x080, rw := 0xFFFF000F, kept := true },
  { off := 0x084, ro := 0xFF },
  { off := 0x088, count := 4, ro := 0xFFFFFFFF, cnt := 0xFFFFFFFF }]

/-- Mode registers of mode 8 (R270). -/
def regsMode8 : List RegDesc := [
  { off := 0x080, rw := 0xFFFFFFFF, kept := true, factory := 0xC350 },
  { off := 0x084, rw := 0xFF07, kept := true },
  { off := 0x088, count := 4, ro := 0xFFFFFFFF }]

/-- Mode registers of mode 9 (R270). -/
def regsMode9 : List RegDesc := [
  { off := 0x080, rw := 0xFF1F, kept := true, factory := 0x2 },
  { off := 0x084, ro := 0xFFFFFFFF },
  { off := 0x088, ro := 0xFFFFFFFF },
  { off := 0x08C, ro := 0xFFFF, cnt := 0xFFFF },
  { off := 0x090, wo := 0xFFFFFFFF }]

/-- Mode registers of mode 6 (R270). -/
def regsMode6 : List RegDesc := [
  { off := 0x080, rw := 0xFF7F, kept := true, factory := 0x6011 },
  { off := 0x084, rw := 0x3FFFFFFF, kept := true, factory := 0x78F3E01 },
  { off := 0x088, rw := 0xF0F1F1F, kept := true, factory := 0x3030E01 },
  { off := 0x08C, rw := 0x7F7F, kept := true, factory := 0x20 },
  { off := 0x090, ro := 0x777FFF },
  { off := 0x094, ro := 0x1FF01FF },
  { off := 0x098, wo := 0x7 },
  { off := 0x09C, ro := 0xFFFFFFFF, cnt := 0xFFFFFFFF },
  { off := 0x0A0, ro := 0xFFFFFFFF, cnt := 0xFFFFFFFF },
  { off := 0x0A4, ro := 0xFFFFFFFF, cnt := 0xFFFFFFFF },
  { off := 0x0A8, ro := 0xFFFFFFFF, cnt := 0xFFFFFFFF },
  { off := 0x0AC, ro := 0xFFFFFFFF, cnt := 0xFFFFFFFF },
  { off := 0x0B0, ro := 0xBFFFFFFF },
  { off := 0x0B4, ro := 0xFFFFFFFF },
  { off := 0x0B8, ro := 0xFFFFFFFF, cnt := 0xFFFFFFFF }]

/-- Page 0x024. -/
def regsP024 : List RegDesc := [
  { off := 0x040, rw := 0xFFFF, kept := true },
  { off := 0x044, rw := 0xFF, kept := true },
  { off := 0x800, count := 64, rw := 0xFFFF0007, kept := true, factory := 0xBB80001 }]

/-- Page 0x025. -/
def regsP025 : List RegDesc := [
  { off := 0x040, ro := 0xFFFFFFFF },
  { off := 0x044, ro := 0xFFFFFFFF },
  { off := 0x048, w1c := 0xFFFFFFFF },
  { off := 0x04C, w1c := 0xFFFFFFFF },
  { off := 0x050, wo := 0x1 },
  { off := 0x054, rw := 0x3F },
  { off := 0x058, ro := 0xFFFFFFFF },
  { off := 0x05C, ro := 0xFFFFFFFF },
  { off := 0x800, count := 64, ro := 0xFFFF003F, cnt := 0xFFFF0000 }]

/-- Page 0x026. -/
def regsP026 : List RegDesc := [
  { off := 0x040, rw := 0x7F, kept := true, factory := 0xA },
  { off := 0x044, rw := 0xFFFFFFFF },
  { off := 0x800, count := 32, rw := 0xFFFF, kept := true, factory := 0x3248 }]

/-- Page 0x027. -/
def regsP027 : List RegDesc := [
  { off := 0x040, ro := 0xFFFFFFFF },
  { off := 0x044, w1c := 0xFFFFFFFF },
  { off := 0x048, ro := 0xFFFFFFFF },
  { off := 0x04C, ro := 0xFFFFFFFF },
  { off := 0x050, ro := 0x7FFF },
  { off := 0x054, wo := 0x1 },
  { off := 0x058, ro := 0xFFFFFFFF, cnt := 0xFFFFFFFF },
  { off := 0x800, count := 32, ro := 0xFFF01FF }]

/-- Page 0x018. -/
def regsP018 : List RegDesc := [
  { off := 0x040, rw := 0x1FFFFFFF, kept := true, factory := 0x1B808000 },
  { off := 0x044, rw := 0xFFFFFFF, kept := true, factory := 0x300FDF6 },
  { off := 0x048, rw := 0xFFFFFFFF, kept := true, factory := 0x3E8804 },
  { off := 0x04C, rw := 0xFFFF, kept := true, factory := 0x3E8 },
  { off := 0x050, ro := 0xFF3FF7FF },
  { off := 0x054, ro := 0xFFFFFFFF },
  { off := 0x058, ro := 0xFFFFFFFF },
  { off := 0x05C, wo := 0x1F07 },
  { off := 0x060, ro := 0xFFFFFFFF },
  { off := 0x064, ro := 0xFFFFFFFF },
  { off := 0x068, ro := 0xFFFFFFFF },
  { off := 0x06C, ro := 0xFFFFFFFF },
  { off := 0x070, ro := 0xFFFFFFFF },
  { off := 0x074, ro := 0xFFFFFFFF },
  { off := 0x078, ro := 0xFFFFFFFF },
  { off := 0x07C, ro := 0xFFFFFFFF },
  { off := 0x080, ro := 0xFFFFFFFF },
  { off := 0x084, ro := 0xFFFFFFFF, cnt := 0xFFFFFFFF },
  { off := 0x088, ro := 0xFFFFFFFF, cnt := 0xFFFFFFFF }]

/-- Page 0x019. -/
def regsP019 : List RegDesc := [
  { off := 0x040, count := 2, stride := 0x40, rw := 0xFFFFFFFF },
  { off := 0x044, count := 2, stride := 0x40, wo := 0xFFFFFFFF },
  { off := 0x048, count := 2, stride := 0x40, ro := 0xFFFFFFFF },
  { off := 0x04C, count := 2, stride := 0x40, rw := 0x3FFFFFFF },
  { off := 0x050, count := 2, stride := 0x40, rw := 0xFFFFFFFF },
  { off := 0x054, count := 2, stride := 0x40, rw := 0xFFFF },
  { off := 0x058, count := 2, stride := 0x40, wo := 0x1 },
  { off := 0x05C, count := 2, stride := 0x40, ro := 0x3FFFFFFF },
  { off := 0x060, count := 2, stride := 0x40, ro := 0xFFFFFFFF },
  { off := 0x064, count := 2, stride := 0x40, ro := 0xFFFF },
  { off := 0x068, count := 2, stride := 0x40, ro := 0xFFFFFFFF },
  { off := 0x06C, count := 2, stride := 0x40, ro := 0xFFFFFFFF },
  { off := 0x0C0, rw := 0xF, kept := true },
  { off := 0x0C4, rw := 0xFFFFFFFF, kept := true },
  { off := 0x0C8, ro := 0x7 },
  { off := 0x0CC, ro := 0xFFFFFFFF },
  { off := 0x0D0, rw := 0xFFFF03, kept := true, factory := 0x6400 },
  { off := 0x0D4, rw := 0xFFFFFFFF, kept := true }]

/-- Page 0x01A. -/
def regsP01A : List RegDesc := [
  { off := 0x040, count := 7, stride := 0x10, rw := 0xFFFFFFFF, kept := true },
  { off := 0x044, count := 7, stride := 0x10, ro := 0xFFFFFFFF },
  { off := 0x048, count := 7, stride := 0x10, ro := 0xFFFFFFFF },
  { off := 0x04C, count := 7, stride := 0x10, ro := 0x7 },
  { off := 0x0C0, rw := 0xFF07, kept := true, factory := 0xA03 },
  { off := 0x0D0, rpop := 0xBFF7FFFF },
  { off := 0x0D4, ro := 0xFFFFFFFF },
  { off := 0x0D8, ro := 0xFFFFFFFF },
  { off := 0x0DC, ro := 0xFFFFFFFF },
  { off := 0x0E0, ro := 0x1F },
  { off := 0x0E4, rcl := 0xFFFF },
  { off := 0x0F0, ro := 0xFFFFFFFF, cnt := 0xFFFFFFFF },
  { off := 0x0F4, ro := 0xFFFFFFFF, cnt := 0xFFFFFFFF }]

/-- Page 0x01B. -/
def regsP01B : List RegDesc := [
  { off := 0x040, count := 15, stride := 0x8, rw := 0xFFFFFFFF },
  { off := 0x044, count := 15, stride := 0x8, rw := 0x1F },
  { off := 0x0C0, ro := 0x7FFF },
  { off := 0x0C4, w1c := 0x7FFF },
  { off := 0x0D0, rpop := 0x807F01FF },
  { off := 0x0D4, ro := 0xFFFFFFFF },
  { off := 0x0D8, ro := 0xFFFFFFFF },
  { off := 0x0DC, ro := 0x3F, w1c := 0x100 },
  { off := 0x0E0, rcl := 0xFFFF }]

/-- Page 0x002. -/
def regsP002 : List RegDesc := [
  { off := 0x040, count := 4, ro := 0xFFFFFFFF },
  { off := 0x050, count := 4, rw := 0xFFFFFFFF, kept := true }]

/-- Page 0x003. -/
def regsP003 : List RegDesc := [
  { off := 0x040, rw := 0x7F },
  { off := 0x044, rw := 0x3FF, kept := true },
  { off := 0x048, rw := 0x3F },
  { off := 0x04C, rw := 0xFFFFFF, kept := true },
  { off := 0x050, ro := 0x3FF },
  { off := 0x054, wo := 0xFFFFFFFF },
  { off := 0x058, wo := 0xFFFFFFFF },
  { off := 0x05C, ro := 0xFFFFFFFF },
  { off := 0x060, ro := 0xFFFFFFFF },
  { off := 0x064, ro := 0x7 },
  { off := 0x068, ro := 0xFFFFFFFF, cnt := 0xFFFFFFFF },
  { off := 0x06C, wo := 0x1 },
  { off := 0x800, count := 256, rw := 0xFFFFFFFF },
  { off := 0xC00, count := 2, ro := 0xFFFFFFFF }]

/-- Page 0x030. -/
def regsP030 : List RegDesc := [
  { off := 0x040, rw := 0x1F, kept := true, factory := 0x10 },
  { off := 0x044, ro := 0x3FFFF },
  { off := 0x048, wo := 0x3 },
  { off := 0x04C, ro := 0xFFFFFFFF, cnt := 0xFFFFFFFF }]

/-- Page 0x031. -/
def regsP031 : List RegDesc := [
  { off := 0x040, rw := 0xFFFFFFFF, kept := true, factory := 0x12801F3B }]

/-- Page 0x032. -/
def regsP032 : List RegDesc := [
  { off := 0x040, ro := 0xFFFFFFFF },
  { off := 0x044, ro := 0xFFFFFFFF },
  { off := 0x048, ro := 0xFFFFFFFF },
  { off := 0x04C, ro := 0xFFFFFFFF },
  { off := 0x800, count := 64, stride := 0x8, ro := 0xFFFFFFFF },
  { off := 0x804, count := 64, stride := 0x8, ro := 0xFFFFFFFF }]

/-- Page 0x033. -/
def regsP033 : List RegDesc := [
  { off := 0x040, ro := 0xFFFFFFFF, cnt := 0xFFFFFFFF },
  { off := 0x044, ro := 0xFFFFFFFF, cnt := 0xFFFFFFFF },
  { off := 0x048, ro := 0xFFFFFFFF, cnt := 0xFFFFFFFF },
  { off := 0x04C, wo := 0x1 }]

/-- Page 0x034. -/
def regsP034 : List RegDesc := [
  { off := 0x040, rw := 0x7F0F07, kept := true, factory := 0x320407 },
  { off := 0x044, ro := 0x7FFF },
  { off := 0x048, wo := 0x3 },
  { off := 0x04C, ro := 0x80003FFF },
  { off := 0x050, ro := 0xFFFFFFFF },
  { off := 0x054, ro := 0xFFFFFFFF },
  { off := 0x058, rw := 0x1F, kept := true },
  { off := 0x05C, rpop := 0x80003FFF },
  { off := 0x060, ro := 0xFFFFFFFF },
  { off := 0x064, ro := 0xFFFFFFFF },
  { off := 0x068, rcl := 0xFFFF },
  { off := 0x06C, ro := 0xFFFFFFFF, cnt := 0xFFFFFFFF },
  { off := 0x070, ro := 0xFFFFFFFF, cnt := 0xFFFFFFFF },
  { off := 0x074, ro := 0xFFFFFFFF, cnt := 0xFFFFFFFF },
  { off := 0x078, ro := 0xFFFFFFFF, cnt := 0xFFFFFFFF }]

/-- Page 0x035. -/
def regsP035 : List RegDesc := [
  { off := 0x040, ro := 0x3F },
  { off := 0x044, ro := 0xFFFFFFFF },
  { off := 0x048, ro := 0xFFFFFFFF },
  { off := 0x04C, rw := 0x3FFFFFF, kept := true, factory := 0x64 },
  { off := 0x050, wo := 0x3 },
  { off := 0x054, ro := 0xFFFFFFFF, cnt := 0xFFFFFFFF },
  { off := 0x060, count := 4, stride := 0x10, rw := 0xFFFFFFF, kept := true },
  { off := 0x064, count := 4, stride := 0x10, rw := 0xFFFF, kept := true, factory := 0x3E8 },
  { off := 0x068, count := 4, stride := 0x10, ro := 0xFFFFFFFF, cnt := 0xFFFFFFFF },
  { off := 0x06C, count := 4, stride := 0x10, ro := 0xFFFFFFFF },
  { off := 0x800, count := 128, ro := 0xFFFFFFFF }]

/-- Page 0x036. -/
def regsP036 : List RegDesc := [
  { off := 0x040, rw := 0xFFFF, kept := true, factory := 0xA8F },
  { off := 0x044, count := 3, ro := 0xFF },
  { off := 0x050, ro := 0xFFFFFFFF, cnt := 0xFFFFFFFF },
  { off := 0x054, wo := 0x1 }]

/-- Page 0x004. -/
def regsP004 : List RegDesc := [
  { off := 0x040, ro := 0x7FFFF },
  { off := 0x044, rw := 0x7FFFF, kept := true, factory := 0x7FFFF },
  { off := 0x048, rw := 0x7FFFF, kept := true },
  { off := 0x04C, ro := 0x800001FF },
  { off := 0x050, ro := 0x7F },
  { off := 0x054, ro := 0xFFFFFFFF, cnt := 0xFFFFFFFF },
  { off := 0x058, wo := 0x1 }]

/-- Page 0x020. -/
def regsP020 : List RegDesc := [
  { off := 0x040, rw := 0x3FF3FFF, kept := true },
  { off := 0x044, rw := 0x3FF3FFF, kept := true },
  { off := 0x048, rw := 0x3FFFFFFF, kept := true, factory := 0x3202832 },
  { off := 0x04C, rw := 0x3FFFF7F, kept := true, factory := 0x271032 },
  { off := 0x050, rw := 0xF3, kept := true, factory := 0x71 },
  { off := 0x054, rw := 0xFFFF, kept := true, factory := 0x1388 },
  { off := 0x058, wo := 0x3FFFFFF },
  { off := 0x05C, ro := 0x37FFF },
  { off := 0x060, ro := 0x1FFF },
  { off := 0x064, ro := 0x8000FFFF },
  { off := 0x068, ro := 0xFFFFFFFF, cnt := 0xFFFFFFFF },
  { off := 0x06C, ro := 0xFFFFFFFF, cnt := 0xFFFFFFFF },
  { off := 0x070, wo := 0x1 }]

/-- Page 0x021. -/
def regsP021 : List RegDesc := [
  { off := 0x040, count := 8, stride := 0x10, rw := 0xFFFFFFFF, kept := true, factory := 0x9C41D32 },
  { off := 0x044, count := 8, stride := 0x10, rw := 0xFFFF, kept := true, factory := 0x2710 },
  { off := 0x048, count := 8, stride := 0x10, ro := 0x7F3F },
  { off := 0x04C, count := 8, stride := 0x10, ro := 0xFFFFFFFF, cnt := 0xFFFFFFFF },
  { off := 0x0C0, rw := 0xFFFFFF, kept := true, factory := 0x503E8 },
  { off := 0x0C4, rw := 0x3FF03FF, kept := true, factory := 0x12C00B4 },
  { off := 0x0C8, w1c := 0xFF },
  { off := 0x0CC, wo := 0x1 }]

/-- Page 0x022. -/
def regsP022 : List RegDesc := [
  { off := 0x040, rw := 0xF, kept := true, factory := 0x4 },
  { off := 0x044, wo := 0x1FF },
  { off := 0x800, count := 21, stride := 0x10, ro := 0xFFFFFFFF },
  { off := 0x804, count := 21, stride := 0x10, ro := 0xFFFFFFFF },
  { off := 0x808, count := 21, stride := 0x10, rcl := 0xFFFFFFFF },
  { off := 0x80C, count := 21, stride := 0x10, rcl := 0xFFFFFFFF },
  { off := 0xA00, count := 9, stride := 0x8, ro := 0xFFFFFFFF },
  { off := 0xA04, count := 9, stride := 0x8, ro := 0xFFFF }]

/-- Page 0x023. -/
def regsP023 : List RegDesc := [
  { off := 0x040, ro := 0x3F },
  { off := 0x044, ro := 0x8FFF0007 },
  { off := 0x048, ro := 0x7FF },
  { off := 0x04C, ro := 0xFF }]

/-- Page 0x005. -/
def regsP005 : List RegDesc := [
  { off := 0x040, ro := 0x7F },
  { off := 0x044, ro := 0x1F, factory := 0x11 },
  { off := 0x048, wo := 0x1FFFF },
  { off := 0x04C, count := 2, ro := 0xFFFFFFFF },
  { off := 0x054, rw := 0x3F },
  { off := 0x058, ro := 0xFFFFFFFF },
  { off := 0x05C, ro := 0xFFFFFFFF, cnt := 0xFFFFFFFF }]

/-- Page 0x006. -/
def regsP006 : List RegDesc := [
  { off := 0x040, rw := 0x3FFFF, kept := true, factory := 0x2814 },
  { off := 0x044, rw := 0x3FFF, kept := true, factory := 0x3000 },
  { off := 0x048, ro := 0xFFFFF },
  { off := 0x04C, ro := 0xFFFFFFFF },
  { off := 0x050, ro := 0xFFFFFFFF },
  { off := 0x054, ro := 0x7FFF },
  { off := 0x058, wo := 0xF },
  { off := 0x05C, ro := 0x3FF03FF },
  { off := 0x060, ro := 0xFFFFFFFF, cnt := 0xFFFFFFFF },
  { off := 0x064, ro := 0xFFFFFFFF, cnt := 0xFFFFFFFF },
  { off := 0x068, ro := 0xFFFFFFFF, cnt := 0xFFFFFFFF },
  { off := 0x06C, rw := 0xFFF },
  { off := 0x800, count := 512, ro := 0xFFFFFFFF }]

/-- Page 0x010. -/
def regsP010 : List RegDesc := [
  { off := 0x040, rw := 0x7, kept := true, factory := 0x2 },
  { off := 0x044, rw := 0x1, wo := 0xE },
  { off := 0x048, ro := 0x7FFFF3F },
  { off := 0x04C, ro := 0xFFFFFFFF },
  { off := 0x050, ro := 0xFFFFFFFF },
  { off := 0x054, ro := 0xFFFFFFFF },
  { off := 0x058, ro := 0xFFFFFFFF },
  { off := 0x05C, ro := 0x31F },
  { off := 0x060, ro := 0xFFFFFFFF },
  { off := 0x064, ro := 0xFFFFFFFF },
  { off := 0x068, ro := 0xFFFFFFFF },
  { off := 0x06C, ro := 0xFFFFFFFF, cnt := 0xFFFFFFFF },
  { off := 0x070, ro := 0xFFFFFFFF, cnt := 0xFFFFFFFF },
  { off := 0x074, ro := 0xFFFFFFFF, cnt := 0xFFFFFFFF }]

/-- Page 0x011. -/
def regsP011 : List RegDesc := [
  { off := 0x040, rw := 0xFF },
  { off := 0x044, rw := 0x3F, ro := 0xF00, kept := true }]

/-- Page 0x012. -/
def regsP012 : List RegDesc := [
  { off := 0x040, rw := 0x7F, ro := 0x7E00, w1s := 0x100 },
  { off := 0x044, ro := 0xFFFF },
  { off := 0x800, count := 512, ro := 0xFFFFFFFF }]

/-- Page 0x013. -/
def regsP013 : List RegDesc := [
  { off := 0x040, ro := 0xFFFFFFFF },
  { off := 0x044, rw := 0x3 },
  { off := 0x048, ro := 0xFFFFFFFF, cnt := 0xFFFFFFFF },
  { off := 0x800, count := 512, ro := 0xFFFFFFFF }]

/-- Page 0x00C. -/
def regsP00C : List RegDesc := [
  { off := 0x040, rw := 0x1, wo := 0x2, kept := true },
  { off := 0x044, ro := 0xFFFF00FF },
  { off := 0x048, rw := 0xFFFF, kept := true, factory := 0x6A1A },
  { off := 0x04C, ro := 0xFF },
  { off := 0x050, ro := 0x37FF },
  { off := 0x054, rw := 0xFFFF, kept := true, factory := 0xA0A },
  { off := 0x058, rw := 0x3FF, kept := true, factory := 0x5 },
  { off := 0x05C, rw := 0xFFFFFF, kept := true, factory := 0x3803E8 },
  { off := 0x060, rw := 0xFFFFFFFF, kept := true, factory := 0x64003C },
  { off := 0x064, rw := 0x1FF0FFF, kept := true, factory := 0x114057F },
  { off := 0x068, rw := 0xFFFFF3FF, kept := true, factory := 0x30D400C2 },
  { off := 0x06C, rw := 0xFFFF, kept := true, factory := 0x3E8 },
  { off := 0x070, rw := 0xF, kept := true, factory := 0x4 },
  { off := 0x074, rw := 0xFFFFFFFF, kept := true, factory := 0xA0A40 },
  { off := 0x078, rw := 0xFFFFFFFF, kept := true, factory := 0xFFFFFFFF },
  { off := 0x07C, rw := 0xFFFFFFFF, kept := true, factory := 0xFFFFFFFF },
  { off := 0x080, rw := 0xFFFF, kept := true, factory := 0x3C },
  { off := 0x084, ro := 0xFFFFFFFF, cnt := 0xFFFFFFFF },
  { off := 0x088, ro := 0xFFFFFFFF, cnt := 0xFFFFFFFF },
  { off := 0x08C, ro := 0xFFFFFFFF, kept := true }]

/-- Page 0x00D. -/
def regsP00D : List RegDesc := [
  { off := 0x040, ro := 0xFFFFFFFF },
  { off := 0x044, rw := 0xF },
  { off := 0x048, rw := 0xFF, kept := true, factory := 0xFF },
  { off := 0x04C, ro := 0xFFFFFFFF, cnt := 0xFFFFFFFF },
  { off := 0x800, count := 512, ro := 0xFFFFFFFF }]

/-- Page 0x00A. -/
def regsP00A : List RegDesc := [
  { off := 0x040, rw := 0xFFFFFFFF, kept := true, factory := 0x3E807D0 },
  { off := 0x044, rw := 0xFFFFFFFF },
  { off := 0x048, rw := 0xFFFFFFFF },
  { off := 0x04C, rw := 0xFF3F },
  { off := 0x050, wo := 0xF },
  { off := 0x054, ro := 0x83FFFFF3 },
  { off := 0x058, ro := 0xFFFFFFFF, kept := true },
  { off := 0x05C, ro := 0xF },
  { off := 0x060, ro := 0xFFFFFFFF },
  { off := 0x064, ro := 0xFFFFFFFF },
  { off := 0x068, ro := 0xFFFFFFFF },
  { off := 0x06C, ro := 0xFFFFFFFF },
  { off := 0x070, ro := 0xFFFFFFFF },
  { off := 0x074, ro := 0xFFFFFFFF, cnt := 0xFFFFFFFF },
  { off := 0x800, count := 16, rw := 0x3FF }]

/-- Page 0x00B. -/
def regsP00B : List RegDesc := [
  { off := 0x040, rw := 0x3, kept := true, factory := 0x3 },
  { off := 0x044, ro := 0x7FF0003 },
  { off := 0x048, count := 8, ro := 0xFFFFFFFF },
  { off := 0x068, ro := 0xFFFFFFFF },
  { off := 0x06C, ro := 0xFFFFFFFF },
  { off := 0x070, rw := 0x3FF },
  { off := 0x074, rwe := 0xFFFFFFFF, kept := true },
  { off := 0x078, rwe := 0xFFFFFFFF, kept := true },
  { off := 0x07C, rwe := 0x1, kept := true },
  { off := 0x080, rw := 0x1FF },
  { off := 0x084, ro := 0xFFFFFFFF },
  { off := 0x088, ro := 0xFFFFFFFF },
  { off := 0x08C, ro := 0xFFFFFFFF, cnt := 0xFFFFFFFF },
  { off := 0x800, count := 32, ro := 0xFFFFFFFF },
  { off := 0x880, count := 32, ro := 0xFFFFFFFF }]

/-- Page 0x008. -/
def regsP008 : List RegDesc := [
  { off := 0x040, rw := 0xFFFFF01, kept := true, factory := 0x2580A00 },
  { off := 0x044, rw := 0x3FFF3F07, kept := true },
  { off := 0x048, rw := 0xFFFF03FF, kept := true },
  { off := 0x04C, wo := 0x7F },
  { off := 0x050, ro := 0x7FFF },
  { off := 0x054, ro := 0x1FFF },
  { off := 0x058, ro := 0xFFFFFFFF },
  { off := 0x05C, ro := 0xFFFFFFFF },
  { off := 0x060, ro := 0xFFF },
  { off := 0x064, ro := 0xFFF },
  { off := 0x068, ro := 0xFFFFFFFF, cnt := 0xFFFFFFFF }]

/-- Page 0x009. -/
def regsP009 : List RegDesc := [
  { off := 0x040, wo := 0xFFFFFFFF },
  { off := 0x044, count := 2, stride := 0x10, ro := 0xF },
  { off := 0x048, count := 2, stride := 0x10, ro := 0xFFFFFFFF },
  { off := 0x04C, count := 2, stride := 0x10, ro := 0xFFFFFFFF },
  { off := 0x050, count := 2, stride := 0x10, ro := 0xFFFFFFFF },
  { off := 0x064, rw := 0x1F },
  { off := 0x068, ro := 0x1FFF },
  { off := 0x06C, ro := 0xFFFFFFFF },
  { off := 0x070, ro := 0xFFFFFFFF }]

/-- Page 0x007. -/
def regsP007 : List RegDesc := [
  { off := 0x040, ro := 0xFFFF003F },
  { off := 0x044, rwk := 0xFFFF, kept := true, factory := 0x384 },
  { off := 0x048, ro := 0x7F0, w1s := 0xF },
  { off := 0x04C, ro := 0x1, w1s := 0x2, rwk := 0x4, kept := true },
  { off := 0x050, rw := 0x3F },
  { off := 0x054, ro := 0xF, kept := true },
  { off := 0x058, wo := 0x3FF },
  { off := 0x05C, ro := 0x7F },
  { off := 0x060, ro := 0xFFF },
  { off := 0x064, ro := 0xFFF },
  { off := 0x068, rw := 0xFF },
  { off := 0x06C, ro := 0x6, w1s := 0x1 },
  { off := 0x800, count := 8, ro := 0xFFFFFFFF },
  { off := 0x840, count := 32, wo := 0xFFFFFFFF },
  { off := 0x900, count := 8, wo := 0xFFFFFFFF },
  { off := 0xA00, count := 24, wo := 0xFFFFFFFF },
  { off := 0xB00, count := 8, wo := 0xFFFFFFFF },
  { off := 0xB40, count := 32, ro := 0xFFFFFFFF },
  { off := 0xC00, count := 24, ro := 0xFFFFFFFF }]

/-- Page 0x1C0. -/
def regsP1C0 : List RegDesc := [
  { off := 0x040, wo := 0x2, rwk := 0xFFFF0005, factory := 0x3C0000 },
  { off := 0x044, rwk := 0xFFFFFFFF, factory := 0x1 },
  { off := 0x048, ro := 0x1F }]

/-- Page 0x1C1. -/
def regsP1C1 : List RegDesc := [
  { off := 0x044, count := 18, rwk := 0x3FF }]

/-- Page 0x1C2. -/
def regsP1C2 : List RegDesc := [
  { off := 0x040, rwk := 0x1FFFF, factory := 0x4100 },
  { off := 0x044, count := 7, rwk := 0x3FFF, factory := 0x1000 }]

/-- Page 0x1C3. -/
def regsP1C3 : List RegDesc := [
  { off := 0x040, count := 4, stride := 0x8, rwk := 0x1FF },
  { off := 0x044, count := 4, stride := 0x8, rwk := 0xFFFFFFFF }]

/-- Page 0x1C4. -/
def regsP1C4 : List RegDesc := [
  { off := 0x040, count := 22, rwk := 0x1FF }]

/-- Page 0x1C5. -/
def regsP1C5 : List RegDesc := [
  { off := 0x040, rwk := 0xFFFFFFFF },
  { off := 0x044, rwk := 0xFFFFFFFF },
  { off := 0x048, rwk := 0x3F }]

/-- Page 0x1C6. -/
def regsP1C6 : List RegDesc := [
  { off := 0x040, ro := 0xFFFFFFFF, cnt := 0xFFFFFFFF },
  { off := 0x044, wo := 0x1 }]

/-- Page 0x1C7. -/
def regsP1C7 : List RegDesc := [
  { off := 0x040, rwk := 0xFFFFFFFF },
  { off := 0x044, rwk := 0xFFFFFFFF }]

/-- The implemented block bits of EVT_STATUS, EVT_ENABLE and EVT_FORCE of a page (the event tables). -/
def blockEvents (p : Nat) : Nat :=
  if 0x05C ≤ p ∧ p ≤ 0x05E then 0x1FFF
  else if 0x040 ≤ p ∧ p ≤ 0x055 then 0x1FFF
  else if 0x058 ≤ p ∧ p ≤ 0x05E then 0x7FF
  else if p = 0x060 then 0xFF
  else if p = 0x061 then 0x1F
  else if p = 0x062 then 0x7F
  else if p = 0x063 then 0x3
  else if p = 0x068 then 0x3
  else if p = 0x069 then 0x1
  else if p = 0x06B then 0x7F
  else if p = 0x06C then 0x1F
  else if p = 0x06D then 0xF
  else if p = 0x06E then 0x3
  else if p = 0x06F then 0xF
  else if p = 0x070 then 0x7
  else if p = 0x071 then 0x3
  else if p = 0x072 then 0xF
  else if p = 0x073 then 0x1F
  else if p = 0x074 then 0x1
  else if p = 0x00E then 0x1
  else if p = 0x078 then 0x7
  else if p = 0x07A then 0x3
  else if p = 0x07B then 0x7
  else if 0x080 ≤ p ∧ p ≤ 0x087 then 0xF
  else if 0x100 ≤ p ∧ p ≤ 0x17F then 0xFFF7FFF
  else if p = 0x024 then 0x1
  else if p = 0x025 then 0x7
  else if p = 0x026 then 0x1
  else if p = 0x027 then 0x1F
  else if p = 0x018 then 0x1F
  else if p = 0x019 then 0xF
  else if p = 0x01A then 0xF
  else if p = 0x01B then 0x7
  else if p = 0x002 then 0x1
  else if p = 0x003 then 0x3
  else if p = 0x030 then 0x3F
  else if p = 0x033 then 0x7
  else if p = 0x034 then 0x1FF
  else if p = 0x035 then 0xF
  else if p = 0x036 then 0x7
  else if p = 0x004 then 0x7
  else if p = 0x020 then 0x3F
  else if p = 0x021 then 0x1F
  else if p = 0x022 then 0x1
  else if p = 0x023 then 0x3
  else if p = 0x005 then 0xF
  else if p = 0x006 then 0x1FF
  else if p = 0x010 then 0x1F
  else if p = 0x012 then 0x7
  else if p = 0x013 then 0x3
  else if p = 0x00C then 0x3F
  else if p = 0x00D then 0x1
  else if p = 0x00A then 0x3F
  else if p = 0x00B then 0xF
  else if p = 0x008 then 0x7F
  else if p = 0x009 then 0x3
  else if p = 0x007 then 0x3F
  else if p = 0x1C0 then 0x3
  else if p = 0x1C5 then 0x1
  else if p = 0x1C6 then 0x1
  else 0

/-- The bit of EVT_STATUS that COUNTER_SAT takes in a page, where the page has it. -/
def counterSatBit (p : Nat) : Option Nat :=
  if 0x040 ≤ p ∧ p ≤ 0x055 then some 9
  else if 0x058 ≤ p ∧ p ≤ 0x05E then some 9
  else if p = 0x060 then some 7
  else if p = 0x061 then some 4
  else if p = 0x062 then some 6
  else if p = 0x068 then some 0
  else if p = 0x06B then some 6
  else if p = 0x06C then some 4
  else if p = 0x06D then some 3
  else if p = 0x06E then some 1
  else if p = 0x06F then some 3
  else if p = 0x070 then some 2
  else if p = 0x071 then some 1
  else if p = 0x073 then some 4
  else if p = 0x078 then some 2
  else if 0x100 ≤ p ∧ p ≤ 0x17F then some 8
  else if p = 0x025 then some 2
  else if p = 0x027 then some 4
  else if p = 0x018 then some 4
  else if p = 0x01A then some 3
  else if p = 0x003 then some 1
  else if p = 0x030 then some 5
  else if p = 0x033 then some 2
  else if p = 0x034 then some 8
  else if p = 0x035 then some 3
  else if p = 0x036 then some 2
  else if p = 0x004 then some 2
  else if p = 0x020 then some 5
  else if p = 0x021 then some 4
  else if p = 0x005 then some 3
  else if p = 0x006 then some 8
  else if p = 0x010 then some 4
  else if p = 0x00C then some 5
  else if p = 0x00A then some 5
  else if p = 0x00B then some 3
  else if p = 0x008 then some 6
  else if p = 0x1C6 then some 0
  else none

/-- The registers a page defines beside the common header, by page number (the page index, R37). -/
def blockRegs (p : Nat) : List RegDesc :=
  if 0x040 ≤ p ∧ p ≤ 0x055 then regsLane
  else if 0x058 ≤ p ∧ p ≤ 0x05B then regsLink
  else if 0x05C ≤ p ∧ p ≤ 0x05E then regsLink ++ regsStitch
  else if 0x080 ≤ p ∧ p ≤ 0x087 then regsBank
  else if 0x100 ≤ p ∧ p ≤ 0x17F then regsEng
  else if p = 0x000 then regsP000
  else if p = 0x001 then regsP001
  else if p = 0x00F then regsP00F
  else if p = 0x060 then regsP060
  else if p = 0x061 then regsP061
  else if p = 0x062 then regsP062
  else if p = 0x063 then regsP063
  else if p = 0x068 then regsP068
  else if p = 0x069 then regsP069
  else if p = 0x06A then regsP06A
  else if p = 0x06B then regsP06B
  else if p = 0x06C then regsP06C
  else if p = 0x06D then regsP06D
  else if p = 0x06E then regsP06E
  else if p = 0x06F then regsP06F
  else if p = 0x070 then regsP070
  else if p = 0x071 then regsP071
  else if p = 0x072 then regsP072
  else if p = 0x073 then regsP073
  else if p = 0x074 then regsP074
  else if p = 0x078 then regsP078
  else if p = 0x079 then regsP079
  else if p = 0x07A then regsP07A
  else if p = 0x07B then regsP07B
  else if p = 0x00E then regsP00E
  else if p = 0x024 then regsP024
  else if p = 0x025 then regsP025
  else if p = 0x026 then regsP026
  else if p = 0x027 then regsP027
  else if p = 0x018 then regsP018
  else if p = 0x019 then regsP019
  else if p = 0x01A then regsP01A
  else if p = 0x01B then regsP01B
  else if p = 0x002 then regsP002
  else if p = 0x003 then regsP003
  else if p = 0x030 then regsP030
  else if p = 0x031 then regsP031
  else if p = 0x032 then regsP032
  else if p = 0x033 then regsP033
  else if p = 0x034 then regsP034
  else if p = 0x035 then regsP035
  else if p = 0x036 then regsP036
  else if p = 0x004 then regsP004
  else if p = 0x020 then regsP020
  else if p = 0x021 then regsP021
  else if p = 0x022 then regsP022
  else if p = 0x023 then regsP023
  else if p = 0x005 then regsP005
  else if p = 0x006 then regsP006
  else if p = 0x010 then regsP010
  else if p = 0x011 then regsP011
  else if p = 0x012 then regsP012
  else if p = 0x013 then regsP013
  else if p = 0x00C then regsP00C
  else if p = 0x00D then regsP00D
  else if p = 0x00A then regsP00A
  else if p = 0x00B then regsP00B
  else if p = 0x008 then regsP008
  else if p = 0x009 then regsP009
  else if p = 0x007 then regsP007
  else if p = 0x1C0 then regsP1C0
  else if p = 0x1C1 then regsP1C1
  else if p = 0x1C2 then regsP1C2
  else if p = 0x1C3 then regsP1C3
  else if p = 0x1C4 then regsP1C4
  else if p = 0x1C5 then regsP1C5
  else if p = 0x1C6 then regsP1C6
  else if p = 0x1C7 then regsP1C7
  else []

/-- The mode registers of an engine, by the code of its mode (R270); modes 4 and 5 share theirs. -/
def modeRegs (m : Nat) : List RegDesc :=
  if m = 1 then regsMode1
  else if m = 2 then regsMode2
  else if m = 3 then regsMode3
  else if m = 4 ∨ m = 5 then regsMode4
  else if m = 6 then regsMode6
  else if m = 7 then regsMode7
  else if m = 8 then regsMode8
  else if m = 9 then regsMode9
  else []

end Sys2Proof.Machine
end

