-- ==== Sys2Proof/Machine/Pages.lean ====
section
/-! DEFINITION. The page index (R37), the power domains (R14, R458), the islands, the event sources (R398), and where the
Kept tables behind index registers and windows are held. -/

namespace Sys2Proof.Machine

namespace Pg
def identity : Nat := 0x000
def grants : Nat := 0x001
def events : Nat := 0x002
def interrupts : Nat := 0x003
def power : Nat := 0x004
def bringUp : Nat := 0x005
def seed : Nat := 0x006
def security : Nat := 0x007
def update : Nat := 0x008
def updateData : Nat := 0x009
def epoch : Nat := 0x00A
def digest : Nat := 0x00B
def ralusk : Nat := 0x00C
def dlog : Nat := 0x00D
def record : Nat := 0x00E
def afl : Nat := 0x00F
def thresher : Nat := 0x010
def kinds : Nat := 0x011
def active : Nat := 0x012
def tlog : Nat := 0x013
def time : Nat := 0x018
def prime : Nat := 0x019
def ptp : Nat := 0x01A
def units : Nat := 0x01B
def inlet : Nat := 0x020
def fuses : Nat := 0x021
def meters : Nat := 0x022
def rails : Nat := 0x023
def finCfg : Nat := 0x024
def fin : Nat := 0x025
def foutCfg : Nat := 0x026
def fout : Nat := 0x027
def pcie : Nat := 0x030
def pciId : Nat := 0x031
def intTime : Nat := 0x032
def pcieErr : Nat := 0x033
def usb : Nat := 0x034
def mgmt : Nat := 0x035
def usbHub : Nat := 0x036
def lane (l : Nat) : Nat := 0x040 + l
/-- Links 0 to 3 are the ring sides AE, AW, BE, BW; links 4 to 6 the stitch ports to peers 1 to 3. -/
def link (k : Nat) : Nat := 0x058 + k
def master : Nat := 0x060
def sched : Nat := 0x061
def redun : Nat := 0x062
def routes : Nat := 0x063
def core : Nat := 0x068
def qprof : Nat := 0x069
def qstat : Nat := 0x06A
def granary : Nat := 0x06B
def gleaner : Nat := 0x06C
def mirror : Nat := 0x06D
def congestion : Nat := 0x06E
def hold : Nat := 0x06F
def signal : Nat := 0x070
def publish : Nat := 0x071
def sigMirror : Nat := 0x072
def latch : Nat := 0x073
def directory : Nat := 0x074
def bridge : Nat := 0x078
def windows : Nat := 0x079
def ports : Nat := 0x07A
def logs : Nat := 0x07B
def bank (b : Nat) : Nat := 0x080 + b
def engine (e : Nat) : Nat := 0x100 + e
def chaff (i : Nat) : Nat := 0x1C0 + i
/-- Tables that no page shows whole: the signal directory (16 bytes an entry). -/
def dirTable : Nat := 0x200
/-- The schedule table (16 bytes an entry). -/
def schedTable : Nat := 0x201
/-- The queue profiles (a word a queue). -/
def qcfgTable : Nat := 0x202
/-- The interrupt routes (a word a source). -/
def routeTable : Nat := 0x203
/-- The coalescing settings (a word a vector). -/
def coalTable : Nat := 0x204
/-- The reaction words (a word a kind). -/
def kindTable : Nat := 0x205
/-- The expected digests (16 bytes a route index: low, high, control). -/
def expTable : Nat := 0x206
/-- The high words that the read of a low word latches (R119) live here while they count: page p at 0x300 + p. -/
def liveHigh (p : Nat) : Nat := 0x1000 + p
/-- The mode registers of engine e, one set a mode (R270, R307). -/
def mode (e m : Nat) : Nat := 0x400 + 16 * e + (if m = 5 then 4 else m)
end Pg

/-- The page number is in the page index (R37). -/
def pageUsed (p : Nat) : Bool :=
  (p ≤ 0x013) || (0x018 ≤ p && p ≤ 0x01B) || (0x020 ≤ p && p ≤ 0x027) || (0x030 ≤ p && p ≤ 0x036 && p != 0x037)
  || (0x040 ≤ p && p ≤ 0x055) || (0x058 ≤ p && p ≤ 0x05E) || (0x060 ≤ p && p ≤ 0x063) || (0x068 ≤ p && p ≤ 0x074)
  || (0x078 ≤ p && p ≤ 0x07B) || (0x080 ≤ p && p ≤ 0x087) || (0x100 ≤ p && p ≤ 0x17F) || (0x1C0 ≤ p && p ≤ 0x1C7)

/-- The first page of the block a page belongs to (R37). -/
def blockFirst (p : Nat) : Nat :=
  if p ≤ 0x007 then p else if p ≤ 0x009 then 0x008 else if p ≤ 0x00B then 0x00A else if p ≤ 0x00D then 0x00C
  else if p ≤ 0x00F then p else if p ≤ 0x013 then 0x010 else if p ≤ 0x01B then 0x018 else if p ≤ 0x023 then 0x020
  else if p ≤ 0x027 then 0x024 else if p ≤ 0x033 then 0x030 else if p ≤ 0x036 then 0x034 else if p ≤ 0x055 then 0x040
  else if p ≤ 0x05B then 0x058 else if p ≤ 0x05E then 0x05C else if p ≤ 0x063 then 0x060 else if p ≤ 0x06F then 0x068
  else if p ≤ 0x074 then 0x070 else if p ≤ 0x07B then 0x078 else if p ≤ 0x087 then 0x080 else if p ≤ 0x17F then 0x100
  else 0x1C0

/-- PAGE_ID of a used page (R28, R37): type 0x800 plus the first page of the block; layout 0x02. -/
def pageId (p : Nat) : Nat :=
  if pageUsed p then (0x800 + blockFirst p) * 2 ^ 20 + (p - blockFirst p) * 2 ^ 12 + 0x02 else 0

/-- The power domain of a page: its bit of PD_REQ (R458); `none` for AON. -/
def domainOf (p : Nat) : Option Nat :=
  if (0x008 ≤ p ∧ p ≤ 0x00D) ∨ (0x1C0 ≤ p ∧ p ≤ 0x1C7) then some 0
  else if 0x018 ≤ p ∧ p ≤ 0x01B then some 1
  else if 0x030 ≤ p ∧ p ≤ 0x033 then some 2
  else if 0x034 ≤ p ∧ p ≤ 0x036 then some 3
  else if 0x040 ≤ p ∧ p ≤ 0x04F then some (7 + (p - 0x040) / 4)
  else if (0x050 ≤ p ∧ p ≤ 0x055) ∨ (0x05C ≤ p ∧ p ≤ 0x05E) then some 6
  else if 0x058 ≤ p ∧ p ≤ 0x05B then some (7 + (p - 0x058))
  else if 0x060 ≤ p ∧ p ≤ 0x07B then some 4
  else if 0x080 ≤ p ∧ p ≤ 0x087 then some (11 + (p - 0x080))
  else if 0x100 ≤ p ∧ p ≤ 0x17F then some (11 + (p - 0x100) / 16)
  else none

/-- The domain that a domain requires (R14, R458). -/
def domainNeeds (d : Nat) : Option Nat := if 5 ≤ d ∧ d ≤ 18 then some 4 else none

/-- The used pages of a domain. -/
def domainPages (d : Nat) : List Nat :=
  if d = 0 then [0x008, 0x009, 0x00A, 0x00B, 0x00C, 0x00D] ++ (List.range 8).map Pg.chaff
  else if d = 1 then [0x018, 0x019, 0x01A, 0x01B]
  else if d = 2 then [0x030, 0x031, 0x032, 0x033]
  else if d = 3 then [0x034, 0x035, 0x036]
  else if d = 4 then
    [0x060, 0x061, 0x062, 0x063, 0x068, 0x069, 0x06A, 0x06B, 0x06C, 0x06D, 0x06E, 0x06F,
     0x070, 0x071, 0x072, 0x073, 0x074, 0x078, 0x079, 0x07A, 0x07B]
  else if d = 6 then [0x050, 0x051, 0x052, 0x053, 0x054, 0x055, 0x05C, 0x05D, 0x05E]
  else if 7 ≤ d ∧ d ≤ 10 then (0x058 + (d - 7)) :: (List.range 4).map fun i => 0x040 + 4 * (d - 7) + i
  else if 11 ≤ d ∧ d ≤ 18 then (0x080 + (d - 11)) :: (List.range 16).map fun i => 0x100 + 16 * (d - 11) + i
  else []

/-- The pages of the AON domain. -/
def aonPages : List Nat :=
  (List.range 8) ++ [0x00E, 0x00F, 0x010, 0x011, 0x012, 0x013] ++ (List.range 8).map (0x020 + ·)

/-- The island that holds a page, 0 AON to 18 bank 7; 19 stands for the front-end of the power and field die (R491). -/
def islandOf (p : Nat) : Nat :=
  if 0x020 ≤ p ∧ p ≤ 0x027 then 19 else
  match domainOf p with
  | none => 0
  | some d => if d ≤ 4 then d + 1 else if d = 5 then 5 else d

/-- The pages of an event source (R398, R308). -/
def sourcePages (n : Nat) : List Nat :=
  if n = 0 then [0x000, 0x001] else if n = 1 then [0x002, 0x003] else if n ≤ 5 then [n + 2]
  else if n = 6 then [0x008, 0x009] else if n = 7 then [0x00A, 0x00B] else if n = 8 then [0x00C, 0x00D]
  else if n ≤ 10 then [n + 5] else if n = 11 then [0x010, 0x011, 0x012, 0x013]
  else if n ≤ 15 then [0x018 + (n - 12)]
  else if n = 16 then [0x020, 0x021, 0x022, 0x023] else if n = 17 then [0x024, 0x025] else if n = 18 then [0x026, 0x027]
  else if n = 19 then [0x030, 0x031, 0x032, 0x033] else if n = 20 then [0x034, 0x035, 0x036]
  else if n ≤ 24 then (List.range 4).map fun i => 0x040 + 4 * (n - 21) + i
  else if n = 25 then (List.range 6).map (0x050 + ·)
  else if n ≤ 32 then [0x058 + (n - 26)]
  else if n ≤ 36 then [0x060 + (n - 33)]
  else if n = 37 then [0x068] else if n = 38 then [0x069, 0x06A]
  else if n ≤ 43 then [0x06B + (n - 39)]
  else if n ≤ 48 then [0x070 + (n - 44)]
  else if n = 49 then [0x078, 0x079] else if n = 50 then [0x07A] else if n = 51 then [0x07B]
  else if n ≤ 59 then [0x080 + (n - 52)]
  else if n = 60 then (List.range 8).map Pg.chaff
  else if n ≤ 63 then []
  else if n ≤ 127 then [0x100 + 2 * (n - 64), 0x101 + 2 * (n - 64)]
  else []

/-- The key of a register in the store: the page, then the offset. DESIGN CHOICE, log entry 16. -/
def regKey (p off : Nat) : Nat := p * 0x1000000 + off

/-- The register table row that covers an offset. -/
def findDesc (l : List RegDesc) (off : Nat) : Option RegDesc :=
  l.find? fun d => d.off ≤ off && (off - d.off) % d.stride == 0 && (off - d.off) / d.stride < d.count

/-- The table behind the windows and index registers: every word of an entry is one Kept word (R144, R182, R399,
R209). DESIGN CHOICE, log entry 16. -/
def tableDesc (p : Nat) : Option RegDesc :=
  if p = Pg.dirTable then some { off := 0, count := 0x10000, rwe := 0xFFFFFFFF, kept := true }
  else if p = Pg.schedTable then some { off := 0, count := 0x4000, rwe := 0xFFFFFFFF, kept := true }
  else if p = Pg.qcfgTable then some { off := 0, count := 1112, rw := 0xF, kept := true }
  else if p = Pg.routeTable then some { off := 0, count := 128, rw := 0x3FF, kept := true }
  else if p = Pg.coalTable then some { off := 0, count := 64, rw := 0xFFFFFF, kept := true }
  else if p = Pg.kindTable then some { off := 0, count := 256, rw := 0x3F, kept := true }
  else if p = Pg.expTable then some { off := 0, count := 0x1000, rwe := 0xFFFFFFFF, kept := true }
  else none

/-- The row of a register where the store holds it. -/
def descAt (p off : Nat) : Option RegDesc :=
  if p < 0x200 then
    if off < 0x28 then findDesc regsHdr off else findDesc (blockRegs p) off
  else if 0x400 ≤ p ∧ p < 0xC00 then findDesc (modeRegs (p % 16)) off
  else tableDesc p

/-- The reaction word a kind has from the factory (R498). -/
def factoryReaction (k : Nat) : Nat :=
  match kindSeverity k with
  | none => 0
  | some 0 | some 1 | some 2 => 0x01
  | some 3 =>
    let bankKind := k = K.VIO_LOST ∨ k = K.CLK80_UNLOCK
    let noStop := k = K.CRYSTAL_ABSENT ∨ k = K.DIE_LINK_ERROR ∨ k = K.FREE_LIST_ERR
    0x21 + (if noStop then 0 else 2) + (if bankKind then 4 else 0)
  | some 4 => 0x39
  | some _ => 0x29

/-- The inlet levels of the HS_RANGE straps (R436), 0.1 V: UV_ON, OV_OFF, PFW_LEVEL, OUT_LOW. -/
def rangeLevels (r : Nat) : Nat × Nat × Nat × Nat :=
  if r = 0 then (88, 610, 100, 75) else if r = 1 then (96, 156, 108, 80)
  else if r = 2 then (192, 312, 216, 150) else (384, 580, 432, 300)

/-- PAGE_CAPS of a used page (R28, R29): which access codes the page holds; the block field is 0. -/
def pageCaps (p : Nat) : Nat :=
  if pageUsed p then
    let l := blockRegs p
    (if l.any (fun d => d.rwe != 0) then 2 ^ 31 else 0) + (if l.any (fun d => d.rwk != 0) then 2 ^ 30 else 0)
    + (if l.any (fun d => d.rcl != 0 || d.rpop != 0) then 2 ^ 29 else 0) + 2 ^ 28
  else 0

/-- The Factory value of a register where the tables do not give one number. DESIGN CHOICE, log entry 1. -/
def specialFactory (p off : Nat) : Option Nat :=
  if p < 0x200 then
    if off = 0x000 then some (pageId p)
    else if off = 0x004 then some (pageCaps p)
    else if off = 0x00C then
      if pageUsed p then some (0x4 + (if p = Pg.pcie ∨ p = Pg.usb then 1 else 0)) else some 0
    else if 0x040 ≤ p ∧ p ≤ 0x055 ∧ off = 0x040 then
      some (0x06419310 + (if p < 0x050 then (p - 0x040) % 4 else (p - 0x050) % 2) * 64)
    else if p = Pg.identity ∧ off = 0x044 then some (Config.grade * 256 + 0x10)
    else if p = Pg.identity ∧ off = 0x048 then some (Config.uid % 2 ^ 32)
    else if p = Pg.identity ∧ off = 0x04C then some (Config.uid / 2 ^ 32 % 2 ^ 32)
    else if p = Pg.ralusk ∧ off = 0x064 then some (if Config.grade = 1 then 0x0114057F else 0x0114056B)
    else if p = Pg.inlet ∧ off = 0x040 then
      let l := rangeLevels Config.hsRange
      some (l.1 + 4 * 2 ^ 10 + l.2.1 * 2 ^ 16)
    else if p = Pg.inlet ∧ off = 0x044 then
      let l := rangeLevels Config.hsRange
      some (l.2.2.1 + 5 * 2 ^ 10 + l.2.2.2 * 2 ^ 16)
    else if p = Pg.rails ∧ off = 0x04C then some (Config.trimVersion % 256)
    else if p = Pg.units ∧ 0x040 ≤ off ∧ off < 0x0B8 then
      let u := (off - 0x040) / 8
      let incr := if u < 8 then 0x200000000 else if u < 13 then 0x0B60B60B6 else if u = 13 then 0x100000000
        else 0x10AAAAAAAB
      some (if (off - 0x040) % 8 = 0 then incr % 2 ^ 32 else incr / 2 ^ 32)
    else none
  else if p = Pg.routeTable then some (0x40 + off / 4 / 2)
  else if p = Pg.kindTable then some (factoryReaction (off / 4))
  else none

/-- The Factory value of the word at a key (the Factory column; Kept tables are 0 unless stated). DESIGN CHOICE, log
entry 16. -/
def factoryWord (k : Nat) : Word :=
  let p := k / 0x1000000
  let off := k % 0x1000000
  BitVec.ofNat 32 <|
    match specialFactory p off with
    | some v => v
    | none =>
      if p < 0x200 ∧ off < 0x28 then 0
      else match descAt p off with
        | some d => d.factory
        | none => 0

end Sys2Proof.Machine
end

