-- ==== Sys2Proof/Machine/Store.lean ====
section
/-! DEFINITION. A sparse store of words in one canonical form: keys strictly rising, and no entry equal to what an
unlisted key reads as. -/

namespace Sys2Proof.Machine

/-- Cells of a store: key and word. -/
abbrev Cells := List (Nat × Word)

namespace Cells

/-- The entry of a key, where one is listed. -/
def find (k : Nat) : Cells → Option Word
  | [] => none
  | (j, v) :: t => if j = k then some v else find k t

/-- The word at a key; an unlisted key reads as `dflt`. -/
def get (dflt : Nat → Word) (m : Cells) (k : Nat) : Word :=
  match find k m with
  | some v => v
  | none => dflt k

/-- Remove the entry of a key. -/
def erase (k : Nat) : Cells → Cells
  | [] => []
  | (j, v) :: t => if j = k then erase k t else (j, v) :: erase k t

/-- Insert an entry in key order. -/
def insert (k : Nat) (v : Word) : Cells → Cells
  | [] => [(k, v)]
  | (j, w) :: t => if j < k then (j, w) :: insert k v t else (k, v) :: (j, w) :: t

/-- Write a word, keeping the canonical form: a word equal to the default is not listed. -/
def set (dflt : Nat → Word) (m : Cells) (k : Nat) (v : Word) : Cells :=
  if v = dflt k then erase k m else insert k v (erase k m)

/-- Keys strictly rise from a bound on. -/
def risesFrom : Nat → Cells → Bool
  | _, [] => true
  | b, (k, _) :: t => decide (b ≤ k) && risesFrom (k + 1) t

/-- The canonical form. -/
def wf (dflt : Nat → Word) (m : Cells) : Bool :=
  risesFrom 0 m && m.all fun e => decide (e.2 ≠ dflt e.1)

end Cells

end Sys2Proof.Machine
end

