-- ==== Sys2Proof/Machine/State.lean ====
section
/-! DEFINITION. The state of the hub as plain data. Every register of the spec's tables stands in one sparse store
(`regs`), staged copies in `staged`; what the spec gives the machine beside registers stands in the structures below. -/

namespace Sys2Proof.Machine

/-- A refused access in the access fault log (R52). -/
structure AflEntry where
  code : Nat
  kind : Nat
  agent : Nat
  addr : Nat
  time : Nat
  deriving DecidableEq, Repr

/-- Forced reclaim (R48): the nonce's validity and who asked for it; the check in progress. -/
structure Reclaim where
  making : Option Agent := none
  valid : Bool := false
  by_ : Agent := 0xFFFF
  checking : Option Agent := none
  deriving DecidableEq, Repr

/-- The die-to-die link (R6 to R8). The power and field die holds `watch` and `lost`. -/
structure DieLink where
  up : Bool := false
  retraining : Bool := false
  watch : Bool := false
  lost : Bool := false
  corrected : Nat := 0
  /-- The logic die has taken the other die's report since its own last reset (R8, R446, R467). -/
  met : Bool := false
  deriving DecidableEq, Repr

/-- A message of a block or a level it drives, leaving the hub. -/
inductive Output where
  | readData (agent : Agent) (addr : Nat) (data : List Word) (code : Nat)
  | symbol (link : Nat) (kind : Nat) (fields : Nat)
  | frame (link : Nat) (header : List Byte) (payload : List Byte) (stomp : Bool)
  | msix (vector : Nat) (addr : Nat) (data : Nat)
  | bytes (unit : Nat) (kind : Nat) (data : List Byte)
  | level (unit : Nat) (value : Nat)
  deriving DecidableEq, Repr

/-- A lane beside its page (R56 to R83): what fast exit retains, the markers of the deskew, polarity runs, the live PRBS
counters, the Kept equaliser words (RX_EQ, DFE_A to DFE_C) that a training timeout reloads. -/
structure Lane where
  retained : Bool := false
  /-- The last accepted marker with the expected ORIGIN in DESKEW or UP: its COUNT and its arrival, in blocks. -/
  mark : Option (Nat × Nat) := none
  fastOk : Bool := false
  missed : Nat := 0
  complemented : Nat := 0
  plain : Nat := 0
  prbsBits : Nat := 0
  prbsErrs : Nat := 0
  eqKept : List Word := [0x80C, 0, 0, 0]
  deriving DecidableEq, Repr

/-- A frame: the header fields of R92 and the payload of PLEN bytes. -/
structure Frame where
  cls : Nat := 2
  prio : Nat := 0
  cm : Bool := false
  wrapped : Bool := false
  ring : Nat := 0
  ftype : Nat := 0
  dstNode : Nat := 0
  dstHub : Nat := 0
  mcast : Bool := false
  srcNode : Nat := 0
  srcHub : Nat := 0
  resent : Bool := false
  hops : Nat := 0
  seq : Nat := 0
  tag : Nat := 0
  ts : Nat := 0
  aux : Nat := 0
  payload : List Byte := []
  deriving DecidableEq, Repr

/-- A data flit in a replay buffer (R108): its frame, its place in it, and whether the frame was ended by STOMP. -/
structure Flit where
  frame : Frame
  idx : Nat
  stomp : Bool := false
  deriving DecidableEq, Repr

/-- A frame that a receiver has open (R103): its header, the number of its header flit, the flits received so far, the
side it is forwarded to by cut-through with the forwarded header, and whether it is received without effect (R110, R112). -/
structure RxOpen where
  frame : Frame
  num : Nat
  got : Nat := 1
  cut : Option (Nat × Frame) := none
  skip : Bool := false
  deriving DecidableEq, Repr

/-- A frame in the Granary (R174, R176): its point, when it was admitted (UPTIME_US), the number of the stored frame that
copies for several points share. -/
structure Queued where
  point : Nat
  frame : Frame
  at_ : Nat
  id : Nat
  /-- Of a frame for a point of this hub that came over a link: the side, and the local time of its arrival. -/
  side : Nat := 0
  stamp : Nat := 0
  deriving DecidableEq, Repr

/-- The link layer of a side beside its page (R105 to R118). -/
structure Link where
  /-- Count of entries into INIT, modulo 65,536. -/
  gen : Nat := 0
  /-- The last INIT (bytes 1 to 5) and how many identical ones have arrived in a row; INIT_ACK matched; round trips. -/
  initLast : Option Nat := none
  initRun : Nat := 0
  initAck : Bool := false
  rtts : List Nat := []
  /-- RETRY_EN as it was at the last entry to INIT (R107). -/
  retryEn : Bool := true
  /-- Number of the oldest flit in the replay buffer, and the flits, oldest first. -/
  base : Nat := 0
  replay : List Flit := []
  /-- Consecutive replays without an ACK advancing. -/
  tries : Nat := 0
  /-- The number that the next received data flit takes, the next expected number, and the SEQ of a NAK whose REPLAY has
  not come. -/
  rxNum : Nat := 0
  rxNext : Nat := 0
  nak : Option Nat := none
  opened : Option RxOpen := none
  suspended : Option RxOpen := none
  /-- Numbers of the header flits of frames that were delivered while an older frame is still open (R112). -/
  delivered : List Nat := []
  /-- The last bulk frame taken from its queue and how often it has been pre-empted; cut-through frames not yet ended. -/
  txBulk : Option Frame := none
  txPreempts : Nat := 0
  txCut : List Frame := []
  /-- Partner at the last entry to ACTIVE: NODE, HUB, SIDE. -/
  partner : Option (Nat × Nat × Nat) := none
  /-- Idle is marked as expected at the receiver (R75, R118); LP_ENTER was sent and is not yet answered. -/
  idleExpected : Bool := false
  lpAsked : Bool := false
  /-- Nanoseconds of AON time since when the link has been continuously ACTIVE after a loss (R158). -/
  activeSince : Option Nat := none
  deriving DecidableEq, Repr

/-- A credential of the master election (R132). -/
structure Cred where
  prio : Nat
  node : Nat
  nodeValid : Bool
  hub : Nat
  cand : Bool
  uid : Nat
  deriving DecidableEq, Repr

/-- A position token that the master sent (R133): direction, ring, COUNT at its end, dead end. -/
structure Token where
  dir : Nat
  ring : Nat
  count : Nat
  dead : Bool
  took : Nat
  deriving DecidableEq, Repr

/-- A break of a ring after hub X (R155, R158): which ends have reported it, and whether it is steered. -/
structure Break where
  ring : Nat
  x : Nat
  y : Nat
  xDown : Bool
  yDown : Bool
  steered : Bool := false
  deriving DecidableEq, Repr

/-- A fence (R157, R158): the route index of the destination, or 1,024 plus a side for the frames of a restored link, and
the frames it holds, in order. -/
structure Fence where
  key : Nat
  frames : List Queued := []
  deriving DecidableEq, Repr

/-- An ANNOUNCE (R135, R136): who stands where. -/
structure Ann where
  uid : Nat
  pos : Nat
  node : Nat
  hub : Nat
  valid : Bool
  deriving DecidableEq, Repr

/-- Ring control beside its pages (R131 to R160). -/
structure Ring where
  /-- The best credential of this discovery, the highest TERM seen, the distinct credentials received. -/
  best : Option Cred := none
  term : Nat := 0
  claims : List Cred := []
  /-- The counts that position tokens left here: ring, direction, COUNT. -/
  counts : List (Nat × Nat × Nat) := []
  /-- At the master: when the tokens were sent (AON ns), their ring, those that have ended, and what ring A gave while
  ring B is tried: N, OPEN, LOOP_NS. -/
  tokenAt : Nat := 0
  tokenRing : Nat := 0
  tokens : List Token := []
  resultA : Option (Nat × Bool × Nat) := none
  /-- Positions are kept in this discovery (R137). -/
  keepPos : Bool := false
  /-- AUTO_NODE of the master's RING_INFO; the node number assigned to this hub (R136). -/
  autoNode : Bool := false
  assigned : Option Nat := none
  anns : List Ann := []
  conflicts : List Nat := []
  breaks : List Break := []
  fences : List Fence := []
  /-- The duplicate filter: node, hub, SEQ, insertion time in ns; oldest first, at most 4,096 (R149). -/
  dup : List (Nat × Nat × Nat × Nat) := []
  /-- The last SEQ by source node, hub and class (R154). -/
  e2e : List (Nat × Nat × Nat × Nat) := []
  /-- The next SEQ by class of this hub's own frames. -/
  seq : List Nat := [0, 0, 0]
  /-- The last cycle each schedule entry fired in (R624); entries already counted as breaking R144. -/
  fired : List (Nat × Nat) := []
  badCounted : List Nat := []
  /-- Ring sides that wrap (X of R151), and those of them whose hold has ended and that wait for UNWRAP_STOP. -/
  wrapping : List Nat := []
  unwrapping : List Nat := []
  /-- A RING_INFO that came while the settle timer still ran (R135); the last beacon's cycle differs from the own (R137). -/
  early : Option (List Byte) := none
  mismatch : Bool := false
  /-- The data ring in use is not the configured one because of a failover (R159). -/
  failedOver : Bool := false
  deriving DecidableEq, Repr

/-- The hold window of an engine that is down (R186). -/
structure Hold where
  engine : Nat
  since : Nat
  deriving DecidableEq, Repr

/-- The switch core beside its pages. -/
structure Core where
  /-- Every queued frame in order of admission; a queue's urgent and bulk lists are the parts of it in this order. -/
  queued : List Queued := []
  nextId : Nat := 0
  /-- Engines down in the sense of R185. -/
  downEngines : List Nat := (List.range 128)
  holds : List Hold := []
  /-- Hold discards that wait for their check (R200): cells freed. -/
  verify : Nat := 0
  /-- Sampling of the mirror sessions: matches seen, copies attempted. -/
  matched : List Nat := [0, 0, 0, 0]
  sampled : List Nat := [0, 0, 0, 0]
  /-- Words already read of the presented mirror record (R196). -/
  capRead : Nat := 0
  /-- The cell the Gleaner checks next; orphaned cells, with when the Gleaner first found each (AON ns); cells that it has
  reclaimed in this sweep (R197 to R199). -/
  gleanCell : Nat := 0
  orphans : List (Nat × Nat) := []
  leaksThisSweep : Nat := 0
  /-- Peak depth, drops and marks of each queue since read: sparse by queue number (QSTAT). -/
  peaks : List (Nat × Nat) := []
  drops : List (Nat × Nat) := []
  marks : List (Nat × Nat) := []
  deriving DecidableEq, Repr

/-- A mirror entry (R210, R215, R219, R221, R228): `got` is false while EMPTY; `untaken` while its sink has not taken it. -/
structure Mir where
  value : List Byte := []
  version : Nat := 0
  ts : Nat := 0
  srcValid : Bool := false
  got : Bool := false
  stale : Bool := false
  unreach : Bool := false
  resync : Bool := false
  superseded : Nat := 0
  gen : Nat := 0
  untaken : Bool := false
  deriving DecidableEq, Repr

/-- A latch slot (R237). -/
structure LatchSlot where
  value : List Byte := []
  version : Nat := 0
  time : Nat := 0
  key : Nat := 0
  valid : Bool := false
  ident : Nat := 0
  gen : Nat := 0
  deriving DecidableEq, Repr

/-- An armed latch (R233, R234): its key as ARMED shows it in [17:0], and its time. -/
structure Latch where
  key : Nat
  time : Nat
  deriving DecidableEq, Repr

/-- A sample taken at a latch time (R235): the directory index, the record's fields; a field input waits for its
evaluation (R347). -/
structure Sample where
  index : Nat
  version : Nat
  time : Nat
  valid : Bool
  value : List Byte
  field : Bool := false
  deriving DecidableEq, Repr

/-- A latch that has fired and whose RESULT frames have not been sent (R236). -/
structure Fired where
  key : Nat
  time : Nat
  invalid : Bool
  samples : List Sample
  deriving DecidableEq, Repr

/-- Conflicts that wait for a notice to one destination (R226): route index, when the last notice left (AON ns), the first
conflict since (identifier, node, hub), their number. -/
structure Notice where
  dst : Nat
  last : Option Nat := none
  ident : Nat := 0
  node : Nat := 0
  hub : Nat := 0
  count : Nat := 0
  deriving DecidableEq, Repr

/-- The signal plane beside its pages. -/
structure Sig where
  /-- Mirror entries that are not empty, by index; latch slots that are not empty. -/
  mir : List (Nat × Mir) := []
  slots : List (Nat × LatchSlot) := []
  /-- Pending entries in the order they became pending, express and bulk; entries within their MIN_GAP. -/
  pendX : List Nat := []
  pendB : List Nat := []
  gap : List Nat := []
  /-- Event bundles that wait in the core: class and PRIO (R214). -/
  waiting : List (Nat × Nat) := []
  /-- The change queue, oldest first, at most 512. -/
  chg : List Nat := []
  notices : List Notice := []
  /-- When OWNERSHIP_CONFLICT was last raised (AON ns). -/
  raised : Option Nat := none
  /-- When a conflict was last seen (AON ns). -/
  conflictAt : Option Nat := none
  armed : List Latch := []
  fired : List Fired := []
  /-- Entries whose value or validity was presented to their sink in this step (R223); empty between steps. -/
  toSinks : List Nat := []
  deriving DecidableEq, Repr

/-- Who issued a remote access (R241): a piece of a host read, a posted host write, a command port, a port engine, the
prefetch of a window, the USB management function, THERMAL for a side (R525). -/
inductive ReqSrc where
  | hostRead (id piece : Nat)
  | hostWrite
  | port (p : Nat)
  | engine (e : Nat)
  | prefetch (w : Nat)
  | usb (piece : Nat)
  | thermal (side : Nat)
  deriving DecidableEq, Repr

/-- A request of this hub's bridge: its source, the local agent behind it, the fabric address of its first byte, its bytes
(data of a write, or how many of a read), and CMD_SEQ (R243, R261). -/
structure Req where
  src : ReqSrc
  agent : Nat
  addr : Nat
  write : Bool := false
  len : Nat := 0
  data : List Byte := []
  cmd : Option Nat := none
  deriving DecidableEq, Repr

/-- An outstanding slot (R242, R246). -/
structure Slot where
  n : Nat
  gen : Nat
  req : Req
  deriving DecidableEq, Repr

/-- A host read through BAR4 that waits for its pieces (R244). -/
structure HostRead where
  id : Nat
  off : Nat
  len : Nat
  /-- The bytes of each piece, in address order; `none` while it is outstanding. -/
  pieces : List (Option (List Byte))
  /-- Every piece so far came back OK. -/
  ok : Bool := true
  deriving DecidableEq, Repr

/-- A prefetch buffer (R258). -/
structure Prefetched where
  win : Nat
  addr : Nat
  data : List Byte
  at_ : Nat
  deriving DecidableEq, Repr

/-- A far error (R253, R254, R266). -/
structure FarError where
  outcome : Nat
  isLocal : Bool
  agent : Nat
  addr : Nat
  time : Nat
  deriving DecidableEq, Repr

/-- An orphaned read (R251, R266). -/
structure Orphan where
  agent : Nat
  addr : Nat
  data : List Byte
  time : Nat
  deriving DecidableEq, Repr

/-- An entry of the command record (R262). -/
structure CmdRec where
  idx : Nat
  agent : Nat
  seq : Nat
  outcome : Nat
  time : Nat
  deriving DecidableEq, Repr

/-- An answer that an engine in a target mode has from a remote source (R264): its slot, until it is collected or the
slot's timer runs out. -/
structure Answer where
  engine : Nat
  slot : Nat
  gen : Nat
  addr : Nat
  outcome : Nat
  data : List Byte
  deriving DecidableEq, Repr

/-- The bridge beside its pages. -/
structure Bridge where
  slots : List Slot := []
  /-- Generations of the slots that are not 0 (R242). -/
  gens : List (Nat × Nat) := []
  /-- Requests that wait for a slot, oldest first (R246). -/
  waiting : List Req := []
  /-- Requests for this hub itself that are to be performed (R42). -/
  work : List Req := []
  reads : List HostRead := []
  nextRead : Nat := 0
  prefetched : List Prefetched := []
  far : List FarError := []
  orphans : List Orphan := []
  /-- The command record, least recently used first, at most 32. -/
  cmds : List CmdRec := []
  answers : List Answer := []
  /-- Of each slot the discard timer released: its generation, the AGENT of its request, whether it was a prefetch. -/
  past : List (Nat × Nat × Nat × Bool) := []
  deriving DecidableEq, Repr

/-- A request in an engine's downstream queue (R302 to R304): of this hub itself, or of the hub, PRIO and tag that it came
with; the units that remain (address and bytes to write), and what the units before them have read. -/
structure DevReq where
  own : Option Req := none
  src : Nat := 0
  prio : Nat := 0
  tag : Nat := 0
  agent : Nat
  addr : Nat
  write : Bool
  posted : Bool := false
  cmd : Option Nat := none
  words : Nat := 0
  todo : List (Nat × List Byte)
  got : List (Nat × List Byte) := []
  deriving DecidableEq, Repr

/-- The piece of work that a controller engine has begun (R280): a due poll slot, a subscribe binding with its value, the
head of the downstream queue, a raw record, the Alert Response Address, a break. -/
inductive EngWork where
  | poll (slot : Nat)
  | value (slot : Nat) (data : List Byte)
  | device
  | raw (rkind : Nat) (data : List Byte)
  | alert
  | sendBreak
  deriving DecidableEq, Repr

/-- A CAN candidate as it is sent: the slot, or 32 for the raw buffer; header word 0 and byte 4 of R328; data. `renewed`
says that its value was replaced during the attempt. -/
structure CanTry where
  cand : Nat
  head : Nat
  ctl : Nat
  data : List Byte
  renewed : Bool := false
  deriving DecidableEq, Repr

/-- A port engine beside its page (R268 to R340). -/
structure Eng where
  /-- Receive buffer, oldest record first, and the words of the presented record that have been read. -/
  rx : List (List Byte) := []
  rxRead : Nat := 0
  /-- The staging area. -/
  stage : List Byte := []
  /-- The UART message in assembly: bytes, FLAGS, its timestamp; received while the engine drives DE; characters lost
  since the last record; the own address has matched (R290). -/
  msg : List Byte := []
  msgFlags : Nat := 0
  msgAt : Option Nat := none
  msgOwn : Bool := false
  lost : Bool := false
  addressed : Bool := false
  /-- CTS is active (R290). -/
  cts : Bool := false
  /-- Due poll slots, and poll ticks since the engine came up (R281). -/
  due : List Nat := []
  ticks : Nat := 0
  down : List DevReq := []
  work : Option EngWork := none
  /-- Waiting for the next boundary: a break, the read of the Alert Response Address. -/
  breakAsked : Bool := false
  alertAsked : Bool := false
  /-- The slot whose controller read the target stretches for (R296), and how many bytes of the fabric it has asked for. -/
  stretch : Option Nat := none
  /-- Counts of SKIND 2 slots since they became active, by slot. -/
  counts : List (Nat × Nat) := []
  /-- Filtered levels of A and B (R301). -/
  encA : Bool := false
  encB : Bool := false
  /-- CAN FD: pending slots; the raw buffer; the attempt in progress; ABORT_TX waits for its end; consecutive data-field
  bit errors by candidate; waiting for 11 recessive bits; swap asked. -/
  pend : List Nat := []
  raw : Option Queued := none
  attempt : Option CanTry := none
  abort : Bool := false
  runs : List (Nat × Nat) := []
  quiet : Bool := false
  swap : Bool := false
  deriving DecidableEq, Repr

/-- A field input beside its pages (R344 to R348): the level accepted at the ball, the conditions that hold, the last five
accepted transitions (time and level), newest first, and the time of the last. -/
structure FieldIn where
  ball : Bool := false
  wireBreak : Bool := false
  overvolt : Bool := false
  hist : List (Nat × Bool) := []
  last : Nat := 0
  deriving DecidableEq, Repr

/-- A field output beside its pages (R350 to R358): the last level its source gave, the level at the moment of forcing, the
power and field die's copy of SAFE, the channel above 135 °C, the last measured current. -/
structure FieldOut where
  last : Bool := false
  held : Bool := false
  safe : Nat := 0
  hot : Bool := false
  current : Nat := 0
  deriving DecidableEq, Repr

/-- The field lines. -/
structure Field where
  ins : List (Nat × FieldIn) := []
  outs : List (Nat × FieldOut) := []
  /-- Shedding is in progress (R354). -/
  shedding : Bool := false
  deriving DecidableEq, Repr

/-- A prime clock (R361 to R364): seconds, nanoseconds and the 2^-32 ns fraction; ticks since the last adjusting tick;
a SET that waits. -/
structure Prime where
  sec : Nat := 0
  ns : Nat := 0
  frac : Nat := 0
  adjTicks : Nat := 0
  setWait : Bool := false
  deriving DecidableEq, Repr

/-- A local time unit (R366, R367): its 64-bit count of nanoseconds, the 2^-32 ns fraction, and the trim of its increment
in 2^-32 ns a tick. -/
structure TUnit where
  count : Nat := 0
  frac : Nat := 0
  trim : Int := 0
  deriving DecidableEq, Repr

/-- An entry of the transmit timestamp queue (R387). -/
structure TxStamp where
  ident : Nat
  source : Nat
  ts : Nat
  invalid : Bool
  deriving DecidableEq, Repr

/-- An offset measurement (R376, R384): its sequenceId, path, transits, offset in 2^-16 ns, arrival time in ns. -/
structure Meas where
  seq : Nat
  path : Nat
  stitch : Bool
  transits : Nat
  offset : Int
  at_ : Nat
  deriving DecidableEq, Repr

/-- A ring side or stitch port as PTP uses it (R372 to R378): the last loops, newest first, in 2^-16 ns; answers missed in
a row; the Pdelay_Req that waits for its answer and its t1; the partner's last RATE_DEV; when the last Sync and the last
ratio came (AON ns). -/
structure PtpPort where
  loops : List Int := []
  misses : Nat := 0
  asked : Option (Nat × Nat) := none
  rateDev : Option Int := none
  syncAt : Option Nat := none
  ratioAt : Option Nat := none
  deriving DecidableEq, Repr

/-- A copy of a Sync that waits for the selection (R375): its port, the PTP message, its arrival in 2^-16 ns. -/
structure SyncCopy where
  port : Nat
  msg : List Byte
  at_ : Nat
  deriving DecidableEq, Repr

/-- A grandmaster dataset (R377), from an Announce or the hub's own: with the arrival (AON ns). -/
structure GmData where
  prio1 : Nat
  cls : Nat
  acc : Nat
  prio2 : Nat
  ident : Nat
  steps : Nat
  set_ : Bool := false
  at_ : Nat := 0
  deriving DecidableEq, Repr

/-- Time beside its pages (R361 to R391). -/
structure TimeBase where
  txts : List TxStamp := []
  meas : List Meas := []
  ports : Vector PtpPort 7 := Vector.replicate 7 {}
  copies : List SyncCopy := []
  /-- The grandmaster and sequenceId of the Sync last selected, and the port that carried it. -/
  usedSeq : Option (Nat × Nat) := none
  selPort : Option Nat := none
  /-- The next sequenceIds of this hub's Sync, Pdelay_Req and Announce. -/
  seqSync : Nat := 0
  seqPdelay : Nat := 0
  seqAnn : Nat := 0
  /-- Consecutive offsets within LOCK_NS in ACQUIRE. -/
  lockRun : Nat := 0
  anns : List GmData := []
  /-- Good PPS intervals in a row, at most 2; the last phase error of prime 1 lies within 1 µs. -/
  ppsRun : Nat := 0
  ppsClose : Bool := false
  /-- When prime 1 last lost the external reference (AON ns). -/
  refLost : Option Nat := none
  /-- TIME_PPS_OUT is high. -/
  ppsHigh : Bool := false
  deriving DecidableEq, Repr

/-- An MSI-X vector (R401): its state (0 IDLE, 1 PENDING, 2 SENT), and whether its coalescing timer has run out. -/
structure Vec where
  st : Nat := 0
  timer : Bool := false
  deriving DecidableEq, Repr

/-- The PCIe endpoint and the event delivery beside their pages: the vectors, the configuration words that differ from
their values after a reset (R394), and a Function Level Reset in progress (R396). -/
structure Pcie where
  vecs : Vector Vec 64 := Vector.replicate 64 {}
  cfg : Cells := []
  flr : Bool := false
  deriving DecidableEq, Repr

/-- A management command (R415, R416): SEQ, OPCODE, ONCE, LEN, fabric address, data. -/
structure MfCmd where
  seq : Nat
  op : Nat
  once : Bool
  len : Nat
  addr : Nat
  data : List Byte
  deriving DecidableEq, Repr

/-- An entry of the results table (R419): its place, SEQ, STATE, OUTCOME, ORIGINAL, the read data, UPTIME_US at STATE 3. -/
structure MfEntry where
  slot : Nat
  seq : Nat
  st : Nat
  outcome : Nat := 0
  original : Nat := 0
  data : List Byte := []
  at_ : Nat := 0
  deriving DecidableEq, Repr

/-- A downstream port of the embedded hub (R409): the attached device's speed, the PORT_POWER feature. -/
structure UsbPort where
  dev : Option Nat := none
  power : Bool := false
  deriving DecidableEq, Repr

/-- The USB service port beside its pages (R408 to R433). -/
structure Usb where
  /-- USB_VBUS has been valid for 10 ms; within 100 ms of USB_CMD.DISCONNECT; the D+ pull-up is connected. -/
  vbus : Bool := false
  apart : Bool := false
  pull : Bool := false
  /-- Bus resets since the last AON reset. -/
  resets : Nat := 0
  /-- The time of the last SOF, and the capture queue, oldest first: frame × 8 + micro-frame, time. -/
  sofTs : Nat := 0
  caps : List (Nat × Nat) := []
  /-- The LPM token of this L1 carried bRemoteWake. -/
  l1Wake : Bool := false
  /-- Wakes signalled since the last resume, where one is outstanding; all retries are spent. -/
  wakes : Option Nat := none
  spent : Bool := false
  ports : Vector UsbPort 3 := Vector.replicate 3 {}
  /-- Queued management commands, oldest first, at most 8; the one in execution, with its pieces (outcome, ORIGINAL, data)
  as far as they have been answered. -/
  queue : List MfCmd := []
  run : Option MfCmd := none
  parts : List (Option (Nat × Nat × List Byte)) := []
  results : List MfEntry := []
  lastSeq : Option Nat := none
  /-- The data stage of a CMD, or of a RESULT (SEQ, wLength), that the hub answers with NAK. -/
  nakCmd : Option (List Byte) := none
  nakResult : Option (Nat × Nat) := none
  /-- EVT_ACK waits for the earlier commands; the notification; notifications issued. -/
  ackWait : Bool := false
  note : Vec := {}
  notes : Nat := 0
  /-- Console bytes gathered and not yet sent, by console; the rest of the line coding of a console. -/
  gather : Vector (List Byte) 4 := Vector.replicate 4 []
  coding : Vector Nat 4 := Vector.replicate 4 0
  deriving DecidableEq, Repr

/-- Power entry beside its pages (R434 to R457, R464 to R467): the power and field die is out of its own reset; it has left
it since its last exchange with the logic die; the hold-off of HS_CYCLE runs; FSUP has met its window for 10 ms. -/
structure Power where
  dieUp : Bool := false
  pfdNew : Bool := false
  holdOff : Bool := false
  fsupMet : Bool := false
  /-- The fraction of each energy count, in 10^-5 mJ. -/
  frac : Vector Nat 9 := Vector.replicate 9 0
  /-- The samples of the present averaging block: their sum by channel, and their number. -/
  sums : Vector Int 21 := Vector.replicate 21 0
  count : Nat := 0
  /-- Logic-die rails that lie below their reset level. -/
  dipped : List Nat := []
  /-- Domains that a rail dip has reset and that have not come on again (R466). -/
  reset : List Nat := []
  deriving DecidableEq, Repr

/-- A journal record (R480); `ok` says that its CRC-32C holds. -/
structure JRec where
  key : Nat
  val : Word
  seq : Nat
  ok : Bool := true
  deriving DecidableEq, Repr

/-- A configuration image (R473, R474): valid when MAGIC, LAYOUT and header CRC are good; the Kept words that differ
from Factory; the pages whose section is absent or fails its CRC; the first sequence number of the journal that is younger
than the image. -/
structure Image where
  valid : Bool := false
  gen : Nat := 0
  cells : Cells := []
  bad : List Nat := []
  base : Nat := 0
  deriving DecidableEq, Repr

/-- A part that a firmware slot holds (R561): its kind, its VERSION, its data. -/
structure FwPart where
  kind : Nat
  version : Nat
  data : List Byte
  deriving DecidableEq, Repr

/-- A firmware slot (R568, page 0x009): its state (0 EMPTY, 1 STAGED, 2 TRIAL, 3 ACTIVE, 4 SPARE, 5 REJECTED), BOOTED, the
manifest it came from, its parts. -/
structure FwSlot where
  st : Nat := 0
  booted : Bool := false
  ident : Nat := 0
  svn : Nat := 0
  floorAdv : Bool := false
  parts : List FwPart := []
  deriving DecidableEq, Repr

/-- What the store keeps of a commit until its trial ends (R573 to R577): the positions of the hubs that committed together,
the lead's position, JOURNAL_MARK, the image (0 A, 1 B) that the manifest carried. -/
structure Trial where
  group : List Nat
  lead : Nat
  mark : Nat
  image : Option Nat := none
  deriving DecidableEq, Repr

/-- The Seed store (R473 to R486) and what it carries across resets. -/
structure Seed where
  imgA : Image := {}
  imgB : Image := {}
  bank0 : List JRec := []
  bank1 : List JRec := []
  /-- The AON buffers: 2 × 256 records, oldest first. -/
  buf : List JRec := []
  /-- The next sequence number, and the first one after the last AON power-up. -/
  seq : Nat := 0
  powerUpSeq : Nat := 0
  /-- The commit in flight: how many buffered records it writes, and whether a warning started it; another is asked. -/
  commit : Option (Nat × Bool) := none
  again : Bool := false
  /-- A compaction waits for the freeze to end. -/
  recompact : Bool := false
  /-- When adapted registers were last journalled (key, AON ns + 1), and those that have changed since. -/
  adapted : List (Nat × Nat) := []
  dirty : List Nat := []
  /-- The firmware slots; the slot booted; the trial; the last trial was rolled back. -/
  slots : List FwSlot := [{ st := 3, ident := 1 }, {}]
  booted : Option Nat := none
  trial : Option Trial := none
  rolledBack : Bool := false
  /-- When each event source last became ready (READY_US, R472). -/
  readyAt : List (Nat × Nat) := []
  deriving DecidableEq, Repr

/-- A fault message (R489) with its island and whether Chaff injected it. -/
structure FaultMsg where
  island : Nat
  page : Nat
  kind : Nat
  sev : Nat
  tick : Nat
  addr : Nat
  injected : Bool := false
  deriving DecidableEq, Repr

/-- A Thresher log entry (R504), as its eight words. -/
structure ThrEntry where
  seq : Nat
  words : List Word
  deriving DecidableEq, Repr

/-- The Thresher beside its pages (R491 to R511). -/
structure Thresher where
  /-- The fault queues of the islands, in order of arrival; at most 8 of one island. -/
  queue : List FaultMsg := []
  /-- Messages of S3 and above held by their blocks because the queue was full. -/
  held : List FaultMsg := []
  /-- The log: the last 256 entries, newest first. -/
  log : List ThrEntry := []
  /-- Log entries that wait to be written to the Seed store, at most 16. -/
  persist : List ThrEntry := []
  /-- The entries in the store's log area, newest first, at most 8,192; with whether each took the first-fault record. -/
  area : List ThrEntry := []
  /-- When an S0 or S1 message of a page and kind was last logged, in ns. -/
  noted : List (Nat × Nat × Nat) := []
  /-- Reactions held without an entry (R507): page and reaction word. -/
  fullHeld : List (Nat × Nat) := []
  /-- An S4 fault asks for the reset of the hub (R510). -/
  fatal : Bool := false
  /-- The slices of the switch core that have failed since the last reset of CORE (CORE_SLICE_FAIL persists until then). -/
  sliceFail : List Nat := []
  deriving DecidableEq, Repr

/-- Ralusk beside its pages (R514 to R538). -/
structure Ralusk where
  /-- The decision log: the last 1,024 entries, newest first; entries that wait for a frozen store; the entries in the
  store's log area, newest first, at most 8,192. -/
  log : List ThrEntry := []
  persist : List ThrEntry := []
  area : List ThrEntry := []
  /-- Restarts of the last 60 s (AON ns); HALTED by the restart limit, and whether software has since written HALT 1. -/
  restarts : List Nat := []
  limit : Bool := false
  haltSeen : Bool := false
  /-- SERVO's frequency estimate, in 2^-47 ppb. -/
  estimate : Int := 0
  /-- Runs of clamped decisions: 0 to 15 a profile of CM, 16 P0_FREQ, 17 P0_ADJ. -/
  clamped : List Nat := []
  /-- CM's shadow copies of this period, by profile: dropped at HARD_LIMIT, marked, exceeded half the HARD_LIMIT; calm
  periods in a row. -/
  cmDrops : List Nat := []
  cmMarks : List Nat := []
  cmBusy : List Nat := []
  cmCalm : List (Nat × Nat) := []
  /-- GLEAN: sweeps in a row without a reclaim. -/
  gleanCalm : Nat := 0
  /-- Lanes whose next EQ period is for VGA. -/
  eqVga : List Nat := []
  /-- The last agent writes of the fields that Ralusk writes too (AON ns): 0 to 18 PD_REQ bits, 32 to 35 LP_REQ of a side,
  64 to 127 PAIR_SWAP of a pair. -/
  touched : List (Nat × Nat) := []
  /-- When CANPAIR last swapped a pair; when a refused swap may be tried again is the next hold. -/
  swapped : List (Nat × Nat) := []
  /-- THERMAL: sides that it lowered; the rate changes that are asked for, the first in progress: side, new rate, how many
  commands to the partner have been answered OK. -/
  lowered : List Nat := []
  rateJobs : List (Nat × Nat × Nat) := []
  deriving DecidableEq, Repr

/-- An epoch that this hub coordinates as master (R544, R546): its number, switch time, scope (every hub, or the list of
route indices), requester (route index) and REQ_TAG; who has voted READY; the decision (outcome, first refuser) and how
often it has been sent. -/
structure EpochRun where
  num : Nat
  time : Nat
  all_ : Bool
  list_ : List Nat
  by_ : Nat
  tag : Nat
  votes : List Nat := []
  decision : Option (Nat × Option Nat) := none
  sent : Nat := 0
  deriving DecidableEq, Repr

/-- Epochs and digests beside their pages (R539 to R555). -/
structure Epoch where
  run : Option EpochRun := none
  /-- Committed epochs that leave this hub out: number and switch time (R541). -/
  others : List (Nat × Nat) := []
  /-- The highest EPOCH_NUM seen in digest beacons. -/
  seen : Nat := 0
  /-- A vote waits for the staged digest. -/
  voteWaits : Bool := false
  /-- The REQ_TAG of this hub's request that waits (R543). -/
  waiting : Option Nat := none
  /-- The request that waits is THERMAL's, for this side (R523). -/
  thermal : Option Nat := none
  /-- When the hub last switched, and when DIGEST_MISMATCH was last raised (AON ns). -/
  switchedAt : Option Nat := none
  raised : Option Nat := none
  /-- The page digests of the last recomputation. -/
  pageDigs : List (Nat × Nat) := []
  deriving DecidableEq, Repr

/-- The update block beside its pages (R559 to R577). -/
structure Update where
  /-- The stream, and how many of its bytes are programmed. -/
  stream : List Byte := []
  programmed : Nat := 0
  /-- Bytes that the peers have programmed, as the lead counts them. -/
  peerDone : Nat := 0
  /-- The link to the lead where this hub is a peer; the peers of a lead by position; how far the stream has been
  forwarded; the peers that report STAGED, that have voted READY, that report trial-ready. -/
  lead : Option Nat := none
  peers : List Nat := []
  forwarded : Nat := 0
  staged : List Nat := []
  votes : List Nat := []
  ready : List Nat := []
  /-- The check of this hub's own stream has passed: the slot is complete. -/
  checked : Bool := false
  /-- ARM, not ACTIVATE, asked for the votes. -/
  arm : Bool := false
  /-- The outcome of the check of each part, the parts taken, the image that a part carried. -/
  results : List Nat := []
  taken : List Nat := []
  image : Option Image := none
  /-- What a peer last told its lead of its trial: the count of entries into INIT of the link then, READY. -/
  reported : Option (Nat × Bool) := none
  deriving DecidableEq, Repr

/-- Security, the one-time cells and the test access port (R581 to R595). -/
structure Sec where
  /-- The records that the owner or the update path has programmed, by SEL, and the SELs with a revoke bit. -/
  otp : List (Nat × List Byte) := []
  revoked : List Nat := []
  /-- A one-time command in progress: SEL, PROGRAM, data. -/
  job : Option (Nat × Bool × List Byte) := none
  attesting : Bool := false
  /-- The nonce of an opening by key. -/
  opening : Reclaim := {}
  /-- The write-only windows: RECLAIM_SIG, OPEN_SIG, PASS_DATA, OTP_DATA, ATTEST_NONCE. -/
  sigReclaim : List Byte := List.replicate 128 0
  sigOpen : List Byte := List.replicate 128 0
  pass : List Byte := List.replicate 32 0
  data : List Byte := List.replicate 96 0
  nonce : List Byte := List.replicate 32 0
  /-- GO_PASS is refused until this AON time in ns; when the open timer runs out. -/
  passUntil : Nat := 0
  openUntil : Nat := 0
  /-- The random source fails its health test; the JTAG instruction that holds the balls. -/
  badRandom : Bool := false
  jtag : Option Nat := none
  deriving DecidableEq, Repr

/-- The Chaff injectors beside their pages (R591): RUN waits for CH_START; when the units started (AON ns). -/
structure Chaff where
  waiting : Bool := false
  since : Nat := 0
  deriving DecidableEq, Repr

/-- Reasons for a stop as a fault. The spec gives every command of the table an effect, so nothing raises one. -/
inductive Fault where
  /-- Raised by no command; the model has no stop of this kind (safe). -/
  | none
  deriving DecidableEq, Repr

/-- Reasons for a refusal. -/
inductive Refusal where
  /-- A command whose meaning is not written; raised by the dispatch alone (safe: no claim can rest on it). -/
  | notModelled (mnemonic : String)
  deriving DecidableEq, Repr

/-- The state of one hub. -/
structure State where
  /-- Every register whose value differs from its Factory value, by key. -/
  regs : Cells := []
  /-- Staged words that differ from the active ones (R27, R542). -/
  staged : Cells := []
  /-- AON nanoseconds since the AON supply became valid; UPTIME_US is this divided by 1,000. -/
  ns : Nat := 0
  /-- How many free values have been drawn: the model's own field (log entry 3). -/
  fresh : Nat := 0
  /-- What the hub has sent, newest first: the model's own field (log entry 4). -/
  out : List Output := []
  /-- The commands that wait, first in, first out. -/
  pending : List Instr := []
  /-- The access fault log, oldest first, at most 64 (R52). -/
  afl : List AflEntry := []
  reclaim : Reclaim := {}
  die : DieLink := {}
  lanes : Vector Lane 22 := Vector.replicate 22 {}
  links : Vector Link 7 := Vector.replicate 7 {}
  ring : Ring := {}
  core : Core := {}
  sig : Sig := {}
  bridge : Bridge := {}
  /-- Port engines that differ from their state at reset. -/
  engs : List (Nat × Eng) := []
  field : Field := {}
  prime0 : Prime := {}
  prime1 : Prime := {}
  units : Vector TUnit 15 := Vector.replicate 15 {}
  time : TimeBase := {}
  pcie : Pcie := {}
  usb : Usb := {}
  power : Power := {}
  seed : Seed := {}
  thr : Thresher := {}
  ral : Ralusk := {}
  epoch : Epoch := {}
  upd : Update := {}
  sec : Sec := {}
  chaff : Chaff := {}
  deriving DecidableEq, Repr

/-- The machine right after AON power-on (R464, R467): every register at its Factory value, which an empty store reads
as; the Seed store erased; nothing in flight. -/
def State.reset : State := {}

end Sys2Proof.Machine
end

