-- ==== Sys2Proof/Machine/Ops.lean ====
section
/-! DEFINITION. The named operations every meaning is written over: registers and fields (R24 to R28), counters that
saturate (R119, R202, ...), event bits (R28), fault messages (R489 to R491), the journal (R480), free values, outputs. -/

namespace Sys2Proof.Machine

open Sys2Proof (Word Byte Agent Code AccessKind Instr)

namespace State

/-! ### Registers -/

/-- The word of a register. -/
def rd (s : State) (p off : Nat) : Word := s.regs.get factoryWord (regKey p off)

/-- Write the word of a register. -/
def wr (s : State) (p off : Nat) (v : Word) : State :=
  { s with regs := s.regs.set factoryWord (regKey p off) v }

/-- A field of a register. -/
def get (s : State) (p : Nat) (f : Fld) : Nat := bitsOf (s.rd p f.off).toNat f.lo f.w

/-- Write a field of a register. -/
def put (s : State) (p : Nat) (f : Fld) (v : Nat) : State :=
  s.wr p f.off (BitVec.ofNat 32 (bitsPut (s.rd p f.off).toNat f.lo f.w v))

/-- A field of one bit is 1. -/
def on (s : State) (p : Nat) (f : Fld) : Bool := s.get p f == 1

/-- Set a field to 1. -/
def setF (s : State) (p : Nat) (f : Fld) : State := s.put p f 1

/-- Set a field to 0. -/
def clrF (s : State) (p : Nat) (f : Fld) : State := s.put p f 0

/-- Set a field to a truth value. -/
def putB (s : State) (p : Nat) (f : Fld) (b : Bool) : State := s.put p f (b2n b)

/-- A change that happens only under a condition. -/
def when (s : State) (c : Bool) (f : State → State) : State := if c then f s else s

/-- The staged word of an RWE register: the staged copy where it differs, else the active one (R27). -/
def rdStaged (s : State) (p off : Nat) : Word :=
  match s.staged.find (regKey p off) with
  | some v => v
  | none => s.rd p off

/-- Write the staging copy of an RWE word; a copy equal to the active word is not listed. -/
def wrStaged (s : State) (p off : Nat) (v : Word) : State :=
  { s with staged := s.staged.set (fun _ => s.rd p off) (regKey p off) v }

/-! ### Events, counters, outputs, free values -/

/-- Set an event bit of a page (R28). -/
def event (s : State) (p bit : Nat) : State := s.put p ⟨0x010, bit, 1⟩ 1

/-- Count `n` in a counter field: it saturates at all ones, and reaching all ones sets COUNTER_SAT in its page
(R81, R119, R164, R202 and the like). -/
def countN (s : State) (p : Nat) (f : Fld) (n : Nat) : State :=
  let x := s.get p f
  let y := satAdd f.w x n
  let t := s.put p f y
  if x < 2 ^ f.w - 1 ∧ y = 2 ^ f.w - 1 then
    match counterSatBit p with
    | some b => t.event p b
    | none => t
  else t

/-- Count one. -/
def count (s : State) (p : Nat) (f : Fld) : State := s.countN p f 1

/-- Count in a 48-bit counter whose low word is a register and whose high word counts behind the latched one (R119). -/
def count48 (s : State) (p : Nat) (lo hi : Fld) : State :=
  let x := (s.rd p lo.off).toNat + 2 ^ 32 * (s.rd (Pg.liveHigh p) hi.off).toNat
  let y := satAdd 48 x 1
  let t := (s.wr p lo.off (BitVec.ofNat 32 y)).wr (Pg.liveHigh p) hi.off (BitVec.ofNat 32 (y / 2 ^ 32))
  if x < 2 ^ 48 - 1 ∧ y = 2 ^ 48 - 1 then
    match counterSatBit p with
    | some b => t.event p b
    | none => t
  else t

/-- Send something out of the hub. DESIGN CHOICE, log entry 4, DEDUCED, log entry 49. -/
def emit (s : State) (o : Output) : State := { s with out := o :: s.out }

/-- Draw a free value: the next state, and the number of the draw. -/
def draw (s : State) : State := { s with fresh := s.fresh + 1 }

/-- The free word of the present draw. DESIGN CHOICE, log entry 3. -/
def freeWord (s : State) : Word := Config.freeWord s.fresh

/-! ### Time -/

/-- UPTIME_US (page 0x000): AON microseconds since the supply became valid, modulo 2^32. -/
def uptime (s : State) : Nat := s.ns / 1000 % 2 ^ 32

/-- Fabric time in ns (R361). -/
def now (s : State) : Nat := (s.prime0.sec * 1000000000 + s.prime0.ns) % 2 ^ 64

/-- Fabric time is valid. -/
def timeValid (s : State) : Bool := s.on Pg.time R.TIME_STATUS_TIME_VALID

/-! ### Domains and readiness -/

/-- A domain is on (PD_ON, R458). -/
def domainOn (s : State) (d : Nat) : Bool := bitOf (s.rd Pg.power R.PD_ON.off).toNat d

/-- The domain of a page is on; pages of AON always answer. -/
def pageOn (s : State) (p : Nat) : Bool :=
  match domainOf p with
  | none => true
  | some d => s.domainOn d

/-- PAGE_STATUS.READY of a page. -/
def ready (s : State) (p : Nat) : Bool := s.pageOn p && s.on p R.PAGE_STATUS_READY

/-- A SOFT_RESET of the page is in progress (R31). -/
def softReset (s : State) (p : Nat) : Bool := s.on p R.PAGE_CTRL_SOFT_RESET

/-- The node and position of this hub (NODE_ID). -/
def node (s : State) : Nat := s.get Pg.identity R.NODE_ID_NODE

def nodeValid (s : State) : Bool := s.on Pg.identity R.NODE_ID_VALID

/-- The hub position, from the straps (R468). -/
def hubPos (s : State) : Nat := s.get Pg.bringUp R.BRINGUP_STATUS_STRAP_POS

/-- The 64-bit unique identifier. DESIGN CHOICE, log entry 1. -/
def uid (s : State) : Nat := (s.rd Pg.identity R.UID_LO.off).toNat + 2 ^ 32 * (s.rd Pg.identity R.UID_HI.off).toNat

/-- The fabric address of an offset of this hub's region `r` (R38). -/
def ownAddr (s : State) (r off : Nat) : Nat :=
  s.node * 2 ^ 40 + s.hubPos * 2 ^ 38 + r * 2 ^ 32 + off % 2 ^ 32

/-! ### Fault messages -/

/-- The low 9 bits of the AON cycle count: one cycle is 5 ns (R490). -/
def aonTick (s : State) : Nat := s.ns / 5 % 512

/-- Put a message into the fault queue of its island (R491): eight entries an island; a message of S0 to S2 that finds
it full is discarded and counted; one of S3 or above is held by its block, one of each kind. -/
def queueFault (s : State) (m : FaultMsg) : State :=
  if (s.thr.queue.filter fun q => q.island == m.island).length < 8 then
    { s with thr := { s.thr with queue := s.thr.queue ++ [m] } }
  else if m.sev < 3 then s.count Pg.thresher R.CNT_MSG_DISCARDED
  else if s.thr.held.any fun q => q.page == m.page && q.kind == m.kind then
    s.count Pg.thresher R.CNT_MSG_DISCARDED
  else { s with thr := { s.thr with held := s.thr.held ++ [m] } }

/-- A block declares a fault (R490): FAULT_LAST of its page, and the message into the island's queue. The power and
field die's messages carry the tick of receipt less 7. DESIGN CHOICE, log entry 68. -/
def raise (s : State) (page kind addr : Nat) : State :=
  match kindSeverity kind with
  | none => s
  | some sev =>
    let t := s.wr page R.FAULT_LAST.off (BitVec.ofNat 32 (2 ^ 31 + sev * 2 ^ 8 + kind))
    let tick := if islandOf page = 19 then (s.aonTick + 512 - 7) % 512 else s.aonTick
    t.queueFault { island := islandOf page, page := page, kind := kind, sev := sev, tick := tick, addr := addr % 2 ^ 32 }

/-- An event bit and the fault of the same finding. -/
def eventFault (s : State) (page bit kind addr : Nat) : State := (s.event page bit).raise page kind addr

/-! ### The journal -/

/-- The store starts a commit of everything buffered (R481); one that is in flight takes the rest with another commit. A
frozen store commits nothing (R486). DEDUCED, log entry 62. -/
def startCommit (s : State) (warning : Bool) : State :=
  if s.on Pg.seed R.SEED_STATUS_FROZEN then s
  else
    match s.seed.commit with
    | none => { s with seed := { s.seed with commit := some (s.seed.buf.length, warning) } }
    | some c =>
      if warning then { s with seed := { s.seed with commit := some (s.seed.buf.length, true), again := false } }
      else { s with seed := { s.seed with commit := some c, again := true } }

/-- Enter a record into the AON buffers (R480, R484): two buffers of 256, and a full one starts a commit (R481); a record
that finds both full is counted as lost and sets RESYNC. Nothing is journalled while the store does not journal (R479). -/
def journal (s : State) (key : Nat) (v : Word) : State :=
  if s.on Pg.seed R.SEED_STATUS_JOURNALLING then
    if s.seed.buf.length < 512 then
      let t : State :=
        { s with seed := { s.seed with buf := s.seed.buf ++ [{ key := key, val := v, seq := s.seed.seq }]
                                       seq := (s.seed.seq + 1) % 2 ^ 32 } }
      t.when (t.seed.buf.length % 256 == 0) fun u => u.startCommit false
    else
      (((s.count Pg.seed R.CNT_JOURNAL_JRN_LOST).setF Pg.seed R.SEED_STATUS_RESYNC).eventFault Pg.seed
        E.P006_JOURNAL_LOST K.JOURNAL_LOST 0)
  else s

/-- The bits of a Kept word that the canonical configuration holds (R552). -/
def canonMask (p off : Nat) : Nat :=
  if p < 0x200 ∧ off = 0x00C then 0xFFFFFFF1
  else if p = Pg.power ∧ off = R.PD_REQ.off then 0
  else if p = Pg.epoch ∧ off = R.EPOCH_NUM.off then 0
  else if p = Pg.expTable then 0
  else if p = Pg.ralusk ∧ off = R.THERM_SEQ.off then 0
  else if 0x040 ≤ p ∧ p ≤ 0x055 ∧ (off = R.RX_EQ.off ∨ off = R.DFE_A.off ∨ off = R.DFE_B.off ∨ off = R.DFE_C.off) then 0
  else if p = Pg.qprof ∧ 0x800 ≤ off ∧ (off - 0x800) % 16 = 0 then 0
  else if p = Pg.gleaner ∧ off = R.GLEAN_CFG.off then 0xFC00FFFF
  else 0xFFFFFFFF

/-- A stream that a digest covers has changed (R553): the active digest, the staged digest. -/
def digestStale (s : State) (p off : Nat) (old new : Word) (active : Bool) : State :=
  if Nat.land (Nat.xor old.toNat new.toNat) (canonMask p off) = 0 ∨ !s.domainOn 0 then s
  else
    let t := s.clrF Pg.digest R.DIG_STATUS_STAGED_CURRENT
    t.when active fun u => u.clrF Pg.digest R.DIG_STATUS_ACTIVE_CURRENT

/-- The word at a key is Kept. -/
def keptKey (k : Nat) : Bool :=
  match descAt (k / 0x1000000) (k % 0x1000000) with
  | some d => d.kept
  | none => false

/-- Write an active word on behalf of a write or a policy; a Kept word that changes is journalled (R480), and its digest
is no longer current (R553). -/
def wrKept (s : State) (p off : Nat) (v : Word) : State :=
  let t := s.wr p off v
  if keptKey (regKey p off) && s.rd p off != v then
    (t.journal (regKey p off) v).digestStale p off (s.rd p off) v true
  else t

/-- Write the staging copy of a word; a copy that changes leaves the staged digest out of date (R553). -/
def stage (s : State) (p off : Nat) (v : Word) : State :=
  (s.wrStaged p off v).digestStale p off (s.rdStaged p off) v false

/-- A Kept value that hardware or Ralusk adapts (R480): recorded at once where ADAPT_S have passed since its last record,
otherwise when they have (ADAPT_RECORD). -/
def wrAdapt (s : State) (p off : Nat) (v : Word) : State :=
  let t := s.wr p off v
  let k := regKey p off
  if s.rd p off = v then s
  else
    let t := t.digestStale p off (s.rd p off) v true
    let last := (s.seed.adapted.find? fun e => e.1 == k).map (·.2)
    let wait := Nat.max 1 (s.get Pg.seed R.SEED_CFG_ADAPT_S) * 1000000000
    if last.all fun at_ => decide (at_ + wait ≤ s.ns) then
      let u := t.journal k v
      { u with seed := { u.seed with adapted := (k, s.ns) :: u.seed.adapted.filter fun e => e.1 != k } }
    else { t with seed := { t.seed with dirty := if t.seed.dirty.contains k then t.seed.dirty else t.seed.dirty ++ [k] } }

/-- Write a field of a Kept register that hardware or Ralusk adapts. -/
def putAdapt (s : State) (p : Nat) (f : Fld) (v : Nat) : State :=
  s.wrAdapt p f.off (BitVec.ofNat 32 (bitsPut (s.rd p f.off).toNat f.lo f.w v))

/-- Write a field of a Kept register, journalled. -/
def putKept (s : State) (p : Nat) (f : Fld) (v : Nat) : State :=
  s.wrKept p f.off (BitVec.ofNat 32 (bitsPut (s.rd p f.off).toNat f.lo f.w v))

/-! ### The access fault log (R52, R53) -/

/-- Enter a refused access into the log, or count it as lost; set EVT_STATUS.ACCESS of the page it names, when that
page exists and its domain is on. -/
def logAccess (s : State) (code : Code) (kind : AccessKind) (agent : Agent) (addr : Nat) (page : Option Nat) : State :=
  let e : AflEntry := { code := code.num, agent := agent.toNat, addr := addr % 2 ^ 48, time := s.uptime,
                        kind := match kind with | .read => 0 | .posted => 1 | .nonPosted => 2 }
  let t := if s.afl.length < 64 then { s with afl := s.afl ++ [e] } else s.put Pg.afl R.AFL_LOST
            (satAdd 16 (s.get Pg.afl R.AFL_LOST) 1)
  match page with
  | some p => if pageUsed p && s.pageOn p then t.event p 31 else t
  | none => t

/-! ### Ralusk's policies, read by other blocks (R514, R515) -/

/-- The mode field of a policy: 0 off, 1 advise, 2 act, 3 acts as off. -/
def policyMode (s : State) (p : Nat) : Nat := bitsOf (s.rd Pg.ralusk R.POLICY_MODE.off).toNat (2 * p) 2

/-- Ralusk's state: 2 RUN, 3 HALTED, 4 UPDATING. -/
def raluskState (s : State) : Nat := s.get Pg.ralusk R.RALUSK_STATUS_STATE

/-- A policy is in act mode (R515); THERMAL (4) and SERVO (5) act in UPDATING as well. -/
def policyAct (s : State) (p : Nat) : Bool :=
  s.domainOn 0 && s.policyMode p == 2 && (s.raluskState == 2 || (s.raluskState == 4 && (p == 4 || p == 5)))

/-- Change Ralusk's own data. -/
def modRal (s : State) (f : Ralusk → Ralusk) : State := { s with ral := f s.ral }

/-- An agent has written a field that Ralusk writes too (R529). -/
def touch (s : State) (key : Nat) : State := s.modRal fun r => { r with touched := file key (s.ns + 1) r.touched }

/-- The Chaff injectors act (R591). -/
def chaffRuns (s : State) : Bool := s.domainOn 0 && s.on (Pg.chaff 0) R.CH_STATUS_RUNNING

/-! ### Links, by number -/

/-- The link layer of a side. -/
def link (s : State) (k : Nat) : Link := s.links.getD k {}

/-- Replace the link layer of a side. -/
def setLink (s : State) (k : Nat) (l : Link) : State := { s with links := s.links.setIfInBounds k l }

/-- Change the link layer of a side. -/
def modLink (s : State) (k : Nat) (f : Link → Link) : State := s.setLink k (f (s.link k))

end State

end Sys2Proof.Machine
end

