-- ==== Sys2Proof/Machine/Guard.lean ====
section
/-! DEFINITION. The check of an access (R24 to R36, R44 to R51, R622) and the data-driven part of a register write (R25,
R27): which bits change, which word of a table a window shows, what is journalled. -/

namespace Sys2Proof.Machine

open Sys2Proof (Word Byte Agent Code AccessKind Instr)

/-- KIND of an agent identifier (R44). -/
def agentKind (a : Agent) : Nat := bitsOf a.toNat 14 2

/-- ORIGIN_HOST of an agent identifier. -/
def agentHost (a : Agent) : Nat := bitsOf a.toNat 13 1

/-- ORIGIN_NODE and ORIGIN_HUB. -/
def agentNode (a : Agent) : Nat := bitsOf a.toNat 2 8
def agentHub (a : Agent) : Nat := bitsOf a.toNat 0 2

/-- This hub's PCIe host (R44). -/
def pcieHost : Agent := 0x0000

/-- This hub's USB host. -/
def usbHost : Agent := 0x4000

/-- The page is an engine page. -/
def isEngine (p : Nat) : Bool := 0x100 ≤ p && p ≤ 0x17F

/-- The page is a lane page. -/
def isLane (p : Nat) : Bool := 0x040 ≤ p && p ≤ 0x055

/-- An offset of the mode registers of an engine (R307). -/
def isModeOff (off : Nat) : Bool := 0x080 ≤ off && off < 0x0C0

/-- Some mode defines a register at this offset (R307). -/
def modeDefines (off : Nat) : Bool := [1, 2, 3, 4, 6, 7, 8, 9].any fun m => (findDesc (modeRegs m) off).isSome

namespace State

/-- Where the word that a register shows is held: the register itself, or the table word that its index register or
window selects. DESIGN CHOICE, log entry 16. -/
def locate (s : State) (p off : Nat) : Nat × Nat :=
  if p = Pg.qprof ∧ off = R.QCFG_DATA.off then
    (Pg.qcfgTable, 4 * Nat.min (s.get p R.QCFG_IDX % 2048) 1111)
  else if p = Pg.interrupts ∧ off = R.ROUTE_DATA.off then (Pg.routeTable, 4 * (s.get p R.ROUTE_IDX % 128))
  else if p = Pg.interrupts ∧ off = R.VEC_COAL.off then (Pg.coalTable, 4 * (s.get p R.VEC_IDX % 64))
  else if p = Pg.kinds ∧ off = R.KIND_REACT.off then (Pg.kindTable, 4 * (s.get p R.KIND_IDX % 256))
  else if p = Pg.digest ∧ off = R.EXP_LO.off then (Pg.expTable, 16 * (s.get p R.EXP_IDX % 1024))
  else if p = Pg.digest ∧ off = R.EXP_HI.off then (Pg.expTable, 16 * (s.get p R.EXP_IDX % 1024) + 4)
  else if p = Pg.digest ∧ off = R.EXP_CTRL.off then (Pg.expTable, 16 * (s.get p R.EXP_IDX % 1024) + 8)
  else if p = Pg.directory ∧ 0x800 ≤ off then
    (Pg.dirTable, 16 * 128 * (s.get p R.DIR_WIN_BASE % 128) + (off - 0x800))
  else if isEngine p ∧ isModeOff off then (Pg.mode (p - 0x100) (s.get p R.ENG_CFG_MODE), off)
  else (p, off)

/-- The table row of the register at an offset of a page, with the active mode's registers in an engine page. -/
def descOf (s : State) (p off : Nat) : Option RegDesc :=
  if isEngine p ∧ isModeOff off then findDesc (modeRegs (s.get p R.ENG_CFG_MODE)) off
  else if off < 0x28 then findDesc regsHdr off
  else findDesc (blockRegs p) off

/-- The page chapter defines the offset, in some mode (R26, R307). -/
def defined (s : State) (p off : Nat) : Bool :=
  (s.descOf p off).isSome || (isEngine p && isModeOff off && modeDefines off)

/-- The agent holds the owner token (R44). -/
def isOwner (s : State) (a : Agent) : Bool :=
  s.on Pg.identity R.OWNER_STATUS_HELD && s.get Pg.identity R.OWNER_STATUS_OWNER_ID == a.toNat

/-- The token is held. DEDUCED, log entry 53. -/
def held (s : State) : Bool := s.on Pg.identity R.OWNER_STATUS_HELD

/-- A grant slot of the agent is allowed by the page's GRANT (R51). -/
def granted (s : State) (a : Agent) (p : Nat) : Bool :=
  s.held && p != Pg.identity && p != Pg.grants &&
  (List.range 16).any fun n =>
    bitOf (s.get p R.GRANT) n && s.on Pg.grants (R.GRANT_SLOT_VALID n)
      && s.get Pg.grants (R.GRANT_SLOT_AGENT n) == a.toNat

/-- A partner's THERMAL policy may stage the rate of a lane of the side that it is cabled to (R525). -/
def partnerRate (s : State) (a : Agent) (p off : Nat) : Bool :=
  agentKind a == 3 && agentHost a == 1 && s.on Pg.ralusk R.THERM_CFG_PARTNER_ACCEPT
    && isLane p && off == R.LANE_CFG.off
    && (let k := if p < 0x050 then (p - 0x040) / 4 else 4 + (p - 0x050) / 2
        let q := Pg.link k
        s.on q R.PARTNER_ID_VALID && s.get q R.PARTNER_ID_NODE == agentNode a && s.get q R.PARTNER_ID_HUB == agentHub a)

/-- The write passes the AON ownership check (R45 to R51, R395, R525). -/
def mayWrite (s : State) (a : Agent) (p off : Nat) : Bool :=
  if p = Pg.interrupts ∧ 0x800 ≤ off ∧ off < 0xC08 then a == pcieHost
  else if p = Pg.identity ∧ (off = 0x05C ∨ off = 0x060 ∨ off = 0x064 ∨ (0x840 ≤ off ∧ off ≤ 0x8BF)) then true
  else if agentKind a = 3 ∧ agentHost a = 1 then s.partnerRate a p off
  else if s.held then s.isOwner a || (s.granted a p && off != 0x024)
  else p == Pg.identity

/-- Access to the key-locked fields is open (R585). -/
def unlocked (s : State) : Bool := s.get Pg.security R.SEC_STATUS_ACCESS != 0

/-- The page's domain is off, or its switch-off has been granted (R12, R36). -/
def pageShut (s : State) (p : Nat) : Bool :=
  match domainOf p with
  | none => false
  | some d => !s.domainOn d || (s.on Pg.power R.PD_BUSY_BUSY && !s.on Pg.power R.PD_BUSY_TURN_ON
      && s.get Pg.power R.PD_BUSY_DOMAIN == d)

/-- The island of a page cannot take a request although its domain is on (R10, R13, R31): a SOFT_RESET of the page is in
progress, the clock it derives from is absent, or the die-to-die link to it is not up. -/
def islandStopped (s : State) (p : Nat) : Bool :=
  s.softReset p || (0x020 ≤ p && p ≤ 0x027 && !s.die.up)
  || (match domainOf p with
      | none => false
      | some d =>
        s.on Pg.bringUp R.BRINGUP_STATUS_CRYSTAL_ABSENT
        || (s.on Pg.bringUp R.BRINGUP_STATUS_REFCLK_ABSENT && 4 ≤ d && d ≤ 10)
        || (s.on Pg.bringUp R.BRINGUP_STATUS_PCIE_REF_ABSENT && d == 2))

/-- A hub that has voted READY takes no write of a staged value (R548). -/
def stagingClosed (s : State) : Bool :=
  s.get Pg.epoch R.EP_STATE_STATE != 0 && s.on Pg.epoch R.EP_STATE_IN_SCOPE

/-- The register holds a bit of access code RWE. -/
def stages (s : State) (p off : Nat) : Bool :=
  match s.descOf p off with
  | some d => d.rwe != 0
  | none => false

/-- The outcome code of a register write with all byte enables (R34, R622): the first cause that applies. -/
def writeCode (s : State) (a : Agent) (p off : Nat) : Code :=
  if !pageUsed p then .absent
  else if s.stages p off && s.stagingClosed then .unsupported
  else if !s.mayWrite a p off then .notOwner
  else if s.pageShut p then (if off ≤ 0x00F then .ok else .domainOff)
  else if 0x040 ≤ off && s.islandStopped p then .islandRefused
  else if 0x040 ≤ off && !s.ready p then .notReady
  else if !s.defined p off then .reservedOffset
  else match s.descOf p off with
    | some d => if d.rwk != 0 && !s.unlocked then .keyLocked else .ok
    | none => .ok

/-- The outcome code of a register read (R34, R35, R622). -/
def readCode (s : State) (a : Agent) (p off : Nat) : Code :=
  let sensitive := match s.descOf p off with
    | some d => d.rcl != 0 || d.rpop != 0
    | none => false
  if !pageUsed p then .absent
  else if sensitive && !(s.isOwner a || s.granted a p) then .sideEffectRefused
  else if s.pageShut p then (if off ≤ 0x00F then .ok else .domainOff)
  else if 0x040 ≤ off && s.islandStopped p then .islandRefused
  else if 0x040 ≤ off && !s.ready p then .notReady
  else .ok

/-- What a refused read returns (R34, R255). -/
def refusedRead (c : Code) : Word :=
  match c with
  | .absent | .sideEffectRefused => 0
  | _ => 0xFFFFFFFF

/-- The event bits that exist in a page (R25): the block bits of its table and [31:29]; in an engine page the bits 16 to 28
only in CAN FD mode (R341). -/
def eventMask (s : State) (p : Nat) : Nat :=
  let m := blockEvents p
  0xE0000000 + (if isEngine p ∧ s.get p R.ENG_CFG_MODE ≠ 6 then m % 2 ^ 16 else m)

/-- A write reached its register: the bits of each access code take their new values (R27), reserved bits stay 0 (R25),
RWE bits go to the staging copy, a locked RWK field stays, and a changed Kept word is journalled (R480). -/
def storeWrite (s : State) (p off : Nat) (v : Word) : State :=
  match s.descOf p off with
  | none => s
  | some d =>
    let loc := s.locate p off
    let old := s.rd loc.1 loc.2
    let m (n : Nat) : Word := BitVec.ofNat 32 n
    let em := if off = 0x010 ∨ off = 0x014 then s.eventMask p else 0xFFFFFFFF
    let free := m ((d.rw ||| (if s.unlocked then d.rwk else 0)) &&& em)
    let set := v &&& m d.w1s
    let clr := v &&& m (d.w1c &&& em)
    let new := ((old &&& ~~~free) ||| (v &&& free) ||| set) &&& ~~~clr
    let t := s.wrKept loc.1 loc.2 new
    if d.rwe = 0 then t
    else t.stage loc.1 loc.2 ((new &&& ~~~(m d.rwe)) ||| (v &&& m d.rwe))

/-- The value a command writes that changes one field: the other writable fields of the register keep their values, and
its command bits are 0. -/
def withField (s : State) (p : Nat) (f : Fld) (x : Nat) : Word :=
  let keep := match s.descOf p f.off with
    | some d => Nat.land (s.rd p f.off).toNat (d.rw ||| d.rwk)
    | none => 0
  BitVec.ofNat 32 (bitsPut keep f.lo f.w x)

/-- A write that names register `off` of page `p` and is logged at a fabric address: the check of R622; a refusal is
logged; a write that passes has its effect, and one that meets a locked field has its effect on the others and is
reported (R27). -/
def guardedAt (s : State) (a : Agent) (kind : AccessKind) (p off addr : Nat) (f : State → State) : State × Code :=
  match s.writeCode a p off with
  | .ok => (f s, .ok)
  | .keyLocked => ((f s).logAccess .keyLocked kind a addr (some p), .keyLocked)
  | .unsupported =>
    ((s.logAccess .unsupported kind a addr (some p)).event Pg.epoch E.P00A_WRITE_REFUSED, .unsupported)
  | c => (s.logAccess c kind a addr (some p), c)

/-- The bank of an engine page or of a bank page. -/
def bankOf (p : Nat) : Option Nat :=
  if isEngine p then some ((p - 0x100) / 16) else if 0x080 ≤ p ∧ p ≤ 0x087 then some (p - 0x080) else none

/-- BLOCK_STOP holds the ENABLE of a page (R500): its own, or its bank's. -/
def blockStopped (s : State) (p : Nat) : Bool :=
  let names (q : Nat) : Bool := q == p || (0x080 ≤ q && q ≤ 0x087 && isEngine p && bankOf q == bankOf p)
  (List.range 128).any (fun i =>
    let w := (s.rd Pg.active (0x800 + 16 * i)).toNat
    bitOf w 31 && bitOf w 24 && names (w % 2 ^ 12))
  || s.thr.fullHeld.any fun h => bitOf h.2 1 && names h.1

/-- A write command to a register of region 0. -/
def guarded (s : State) (a : Agent) (kind : AccessKind) (p off : Nat) (f : State → State) : State :=
  (s.guardedAt a kind p off (s.ownAddr 0 (p * 0x1000 + off)) f).1

/-- The answer to a read leaves the hub. -/
def reply (s : State) (a : Agent) (p off : Nat) (w : Word) (c : Code) : State :=
  s.emit (.readData a (s.ownAddr 0 (p * 0x1000 + off)) [w] c.num)

/-- A read command (R34, R35, R622): a refusal is logged and answered as R34 states; a read that passes has its effect. -/
def guardedRead (s : State) (a : Agent) (p off : Nat) (f : State → State × Word) : State :=
  match s.readCode a p off with
  | .ok =>
    let r := f s
    r.1.reply a p off r.2 .ok
  | c => (s.logAccess c .read a (s.ownAddr 0 (p * 0x1000 + off)) (some p)).reply a p off (refusedRead c) c

/-- The command bit of a register whose write stages a value or discards the staged ones (R143, R539): STORE of SCHED_CMD,
DISCARD_STAGED of EP_CMD. -/
def stagingBit (p off : Nat) : Option Nat :=
  if p = Pg.sched ∧ off = R.SCHED_CMD.off then some 1
  else if p = Pg.epoch ∧ off = R.EP_CMD.off then some 2
  else none

/-- A claim or a release that fails (R44, R46, R47): the token is held or the agent may not hold it; the agent is not the
owner. -/
def tokenRefused (s : State) (a : Agent) (p off : Nat) (v : Word) : Bool :=
  p == Pg.identity &&
    ((off == R.OWNER_CLAIM.off && v == 0xC1A1 && (s.held || agentKind a == 3))
      || (off == R.OWNER_RELEASE.off && v == 0xE1E && !s.isOwner a))

/-- A write of a word: the check, then the register's own write effect. While a prepared epoch closes the staging, such a
command bit is discarded and reported (R548). -/
def guardedWrite (s : State) (a : Agent) (kind : AccessKind) (p off : Nat) (v : Word) (eff : State → Nat → Word → State) :
    State × Code :=
  let addr := s.ownAddr 0 (p * 0x1000 + off)
  if s.tokenRefused a p off v then (s.logAccess .notOwner kind a addr (some p), .notOwner)
  else match stagingBit p off with
  | some b =>
    if bitOf v.toNat b && s.stagingClosed && s.writeCode a p off == .ok then
      (((eff s off (BitVec.ofNat 32 (bitsPut v.toNat b 1 0))).logAccess .unsupported kind a addr (some p)).event Pg.epoch
        E.P00A_WRITE_REFUSED, .unsupported)
    else s.guardedAt a kind p off addr fun t => eff t off v
  | none => s.guardedAt a kind p off addr fun t => eff t off v

/-- A posted write of a word by an agent. -/
def poke (s : State) (a : Agent) (p off : Nat) (v : Word) (eff : State → Nat → Word → State) : State :=
  (s.guardedWrite a .posted p off v eff).1

end State

end Sys2Proof.Machine
end

