-- ==== Sys2Proof/Machine/Flags.lean ====
section
/-! DEFINITION. What follows from the event bits of all pages: the event sources (R398, R399), the MSI-X vectors (R401,
R402) and the nINT balls (R405). `finish` closes every meaning: the balls follow the sources in the same step. -/

namespace Sys2Proof.Machine

namespace State

/-! ### Sources -/

/-- Event source `n` is pending (R398, R399). -/
def sourcePending (s : State) (n : Nat) : Bool :=
  (sourcePages n).any fun p => s.pageOn p && (s.rd p 0x010 &&& s.rd p 0x014) != 0

/-- `SRC_MASK` keeps source `n` from every destination (R399). -/
def sourceMasked (s : State) (n : Nat) : Bool :=
  bitOf (s.rd Pg.events (R.SRC_MASK (n / 32)).off).toNat (n % 32)

/-- Bit `b` of the route word of source `n` (R400): [5:0] VECTOR, 6 MSIX, 7 NINT0, 8 NINT1, 9 USB. -/
def routeWord (s : State) (n : Nat) : Nat := (s.rd Pg.routeTable (4 * n)).toNat

/-- Source `n` is pending, not masked, and bit `b` of its route word sends it to a destination. -/
def sentTo (s : State) (b n : Nat) : Bool := bitOf (s.routeWord n) b && (!s.sourceMasked n && s.sourcePending n)

/-- Source `n` is live on vector `v` (R401). -/
def liveOn (s : State) (v n : Nat) : Bool := s.routeWord n % 64 == v && s.sentTo 6 n

/-- The count of live sources of a vector. -/
def liveCount (s : State) (v : Nat) : Nat := ((List.range 128).filter (s.liveOn v)).length

/-- nINT0 (`b` = 0) or nINT1 (`b` = 1) is driven low (R405). -/
def nintLow (s : State) (b : Nat) : Bool := (List.range 128).any (s.sentTo (7 + b))

/-- Some source is sent to the USB management function (R400). -/
def usbRouted (s : State) : Bool := (List.range 128).any (s.sentTo 9)

/-! ### Local time units (R366 to R368) -/

/-- The count of unit `u`; 0 while the TIME domain is off (R15, R366). -/
def unitTime (s : State) (u : Nat) : Nat := if s.domainOn 1 then (s.units.getD u {}).count else 0

/-- A timestamp taken on unit `u` is valid (R15, R365, R367): fabric time is valid and the unit follows the strobes. -/
def unitValid (s : State) (u : Nat) : Bool :=
  s.domainOn 1 && s.timeValid && bitOf (s.rd Pg.units R.UNIT_STATUS.off).toNat u

/-- Write a 64-bit value into a register pair whose high word is latched by a read of the low one (R119). -/
def wrTime (s : State) (p lo hi : Nat) (t : Nat) : State :=
  (s.wr p lo (BitVec.ofNat 32 t)).wr (Pg.liveHigh p) hi (BitVec.ofNat 32 (t / 2 ^ 32))

/-! ### Vectors -/

/-- A vector. -/
def vec (s : State) (v : Nat) : Vec := s.pcie.vecs.getD v {}

/-- Replace a vector. -/
def setVec (s : State) (v : Nat) (x : Vec) : State :=
  { s with pcie := { s.pcie with vecs := s.pcie.vecs.setIfInBounds v x } }

/-- A configuration word of the endpoint that requests have written since its reset, else 0. -/
def cfgWord (s : State) (off : Nat) : Nat := (s.pcie.cfg.get (fun _ => 0) off).toNat

/-- MSI-X Enable, Function Mask and Bus Master Enable. -/
def msixEnable (s : State) : Bool := bitOf (s.cfgWord 0x50) 31
def msixFuncMask (s : State) : Bool := bitOf (s.cfgWord 0x50) 30
def busMaster (s : State) : Bool := bitOf (s.cfgWord 0x04) 2

/-- MSI-X is usable (INT_STATUS [2]). -/
def msixUsable (s : State) : Bool := s.domainOn 2 && s.msixEnable && !s.msixFuncMask && s.busMaster

/-- The mask bit of a vector in the MSI-X table. -/
def vecMasked (s : State) (v : Nat) : Bool := bitOf (s.rd Pg.interrupts (0x80C + 16 * v)).toNat 0

/-- Set or clear the PBA bit of a vector. -/
def setPba (s : State) (v : Nat) (b : Bool) : State :=
  s.putB Pg.interrupts ⟨0xC00 + 4 * (v / 32), v % 32, 1⟩ b

/-- The condition for issue (R401): the timer has reached COAL_US, or the live sources have reached COAL_CNT; 0 and 1
mean the first, above 128 acts as 128. -/
def vecDue (s : State) (v : Nat) : Bool :=
  let w := (s.rd Pg.coalTable (4 * v)).toNat
  (s.vec v).timer || w % 2 ^ 16 == 0 || clamp 1 128 (bitsOf w 16 8) ≤ s.liveCount v

/-- The vector issues its message: the memory write, its time, the count, the PBA bit, SENT (R401). -/
def vecIssue (s : State) (v : Nat) : State :=
  let w (i : Nat) := (s.rd Pg.interrupts (0x800 + 16 * v + 4 * i)).toNat
  let a := (s.emit (.msix v (w 0 + 2 ^ 32 * w 1) (w 2))).setPba v false
  let b := a.wrTime Pg.intTime (R.VEC_TS_LO v).off (R.VEC_TS_HI v).off (s.unitTime 13)
  (b.count Pg.interrupts R.CNT_MSIX).setVec v { st := 2 }

/-- A vector in PENDING whose condition for issue is met issues, or sets its PBA bit, or raises MSIX_HELD (R401); while
the PCIE domain is off it stays in PENDING (R403). -/
def vecTry (s : State) (v : Nat) : State :=
  if (s.vec v).st = 1 ∧ s.vecDue v ∧ s.domainOn 2 then
    let masked := s.msixFuncMask || s.vecMasked v
    let off := !s.msixEnable || !s.busMaster
    if !masked && !off then s.vecIssue v
    else (s.when masked fun t => t.setPba v true).when off fun t => t.event Pg.interrupts E.P003_MSIX_HELD
  else s

/-- A vector in IDLE with a live source enters PENDING and starts its coalescing timer, and is tried. -/
def vecLive (s : State) (v : Nat) : State :=
  if 0 < s.liveCount v then
    if (s.vec v).st = 0 then (s.setVec v { st := 1 }).vecTry v else s.vecTry v
  else s

/-- A vector in PENDING with no live source returns to IDLE, and its PBA bit clears (R401). DEDUCED, log entry 61. -/
def vecDrop (s : State) (v : Nat) : State :=
  if (s.vec v).st = 1 ∧ s.liveCount v = 0 then (s.setVec v {}).setPba v false else s

/-- The USB notification in PENDING with no live source returns to IDLE (R425). DEDUCED, log entry 61. -/
def noteDrop (s : State) : State :=
  if s.usb.note.st = 1 ∧ s.usbRouted = false then { s with usb := { s.usb with note := {} } } else s

/-! ### What closes every step -/

/-- nINT`b` follows its sources; a falling edge records its time in NINT_TS (R405). DEDUCED, log entry 61. -/
def driveNint (s : State) (b : Nat) : State :=
  let f : Fld := ⟨R.INT_STATUS.off, b, 1⟩
  let low := s.nintLow b
  let t := s.putB Pg.interrupts f low
  if low && !s.on Pg.interrupts f && s.domainOn 2 then
    t.wrTime Pg.intTime (0x040 + 8 * b) (0x044 + 8 * b) (s.unitTime 13)
  else t

/-- The levels that follow from the state with no delay of their own: vectors without a live source leave PENDING, the
nINT balls follow their sources. -/
def settle (s : State) : State :=
  let t := ((List.range 64).foldl vecDrop s).noteDrop
  (t.driveNint 0).driveNint 1

end State

/-- The end of every meaning: the next state, settled. -/
def finish (s : State) : Host.Outcome State Fault Refusal := .next s.settle

end Sys2Proof.Machine
end

