-- ==== Sys2Proof/Machine/Frames.lean ====
section
/-! DEFINITION. Frames as they stand on a link (R90 to R101): header, payload area, tail, control symbols, bundle records. -/

namespace Sys2Proof.Machine

open Sys2Proof (Word Byte)

namespace Frame

/-- PLEN. -/
def plen (f : Frame) : Nat := f.payload.length

/-- FLITS (R94): 1 + ⌈PLEN ÷ 32⌉. -/
def flits (f : Frame) : Nat := 1 + (f.plen + 31) / 32

/-- Cells of 64 bytes that the frame takes (R174). -/
def cells (f : Frame) : Nat := (f.flits + 1) / 2

/-- Scheduled or express: the urgent list of its queue (R176). -/
def urgent (f : Frame) : Bool := f.cls < 2

/-- The route index of the destination (R139). -/
def dst (f : Frame) : Nat := f.dstNode * 4 + f.dstHub

/-- The route index of the source. -/
def src (f : Frame) : Nat := f.srcNode * 4 + f.srcHub

/-- Header bytes 0 to 21 (R92). -/
def head22 (f : Frame) : List Byte :=
  [0x3C, BitVec.ofNat 8 (0x10 + f.flits),
   BitVec.ofNat 8 (f.cls * 64 + f.prio * 8 + b2n f.cm * 4 + b2n f.wrapped * 2 + f.ring),
   BitVec.ofNat 8 f.ftype, BitVec.ofNat 8 f.dstNode, BitVec.ofNat 8 (f.dstHub * 64 + b2n f.mcast * 32),
   BitVec.ofNat 8 f.srcNode, BitVec.ofNat 8 (f.srcHub * 64 + b2n f.resent * 32)]
  ++ leBytes 2 (f.hops % 1024) ++ leBytes 2 f.plen ++ leBytes 2 f.seq ++ leBytes 2 f.tag ++ leBytes 4 f.ts
  ++ leBytes 2 f.aux

/-- The 24 header bytes, with HCRC (R93). DESIGN CHOICE, log entry 82. -/
def header (f : Frame) : List Byte := f.head22 ++ leBytes 2 (crcMsb 16 0x1021 0xFFFF f.head22)

/-- The payload area of R91: the payload, padded with zero bytes to the flits of the frame. -/
def area (f : Frame) : List Byte := f.payload ++ List.replicate (32 * (f.flits - 1) - f.plen) 0

end Frame

/-- What the check of a header finds (R94). -/
inductive HeaderCheck where
  | good (f : Frame) (plen : Nat)
  | badCrc
  | badFormat
  deriving DecidableEq, Repr

/-- Check the 24 bytes of a header flit (R94) and read its fields; the payload follows later. -/
def checkHeader (bs : List Byte) : HeaderCheck :=
  let b (i : Nat) : Nat := (bs.getD i 0).toNat
  let h (i : Nat) : Nat := b i + 256 * b (i + 1)
  if h 22 ≠ crcMsb 16 0x1021 0xFFFF (bytesAt bs 0 22) then .badCrc
  else
    let plen := h 10 % 512
    let cls := b 2 / 64
    if b 0 ≠ 0x3C ∨ b 1 / 16 ≠ 1 ∨ cls = 3 ∨ 256 < plen ∨ b 1 % 16 ≠ 1 + (plen + 31) / 32 then .badFormat
    else .good
      { cls := cls, prio := bitsOf (b 2) 3 3, cm := bitOf (b 2) 2, wrapped := bitOf (b 2) 1, ring := b 2 % 2,
        ftype := b 3, dstNode := b 4, dstHub := b 5 / 64, mcast := bitOf (b 5) 5, srcNode := b 6, srcHub := b 7 / 64,
        resent := bitOf (b 7) 5, hops := h 8 % 1024, seq := h 12, tag := h 14, ts := leNat (bytesAt bs 16 4),
        aux := h 20 } plen

/-- Bytes 0 to 6 of a control symbol (R90): type, then fields. DESIGN CHOICE, log entry 82. -/
def symbolBytes (kind fields : Nat) : List Byte := BitVec.ofNat 8 kind :: leBytes 6 fields

/-- The CRC-8 of a control symbol (R90). -/
def symbolCrc (kind fields : Nat) : Nat := crcMsb 8 0x07 0x00 (symbolBytes kind fields)

/-- The fields of a received control symbol of bytes 1 to 7, where its CRC-8 holds. -/
def symbolFields (kind : Nat) (bytes17 : BitVec 56) : Option Nat :=
  let fields := bytes17.toNat % 2 ^ 48
  if bytes17.toNat / 2 ^ 48 = symbolCrc kind fields then some fields else none

/-- Which classes a frame type is allowed in (R100): bit 0 scheduled, 1 express, 2 bulk; 0 for a reserved type. -/
def ftypeClasses (ft : Nat) : Nat :=
  match ft with
  | 0x01 => 7 | 0x02 => 2 | 0x10 | 0x11 | 0x12 | 0x13 => 4 | 0x14 | 0x20 | 0x31 => 2 | 0x21 | 0x32 | 0x33 | 0x40 | 0x41 => 4
  | 0x30 => 6
  | _ => 0

/-- A record of a signal bundle (R101). -/
structure SigRec where
  ident : Nat
  valid : Bool
  version : Nat
  ts : Nat
  value : List Byte
  deriving DecidableEq, Repr

/-- The records of a bundle payload (R101); `none` where their lengths do not add to PLEN. -/
def parseBundle : Nat → List Byte → Option (List SigRec)
  | _, [] => some []
  | 0, _ => none
  | n + 1, bs =>
    let w := leNat (bs.take 4)
    let len := bitsOf w 24 5 + 1
    let size := 16 + (len + 3) / 4 * 4
    if bs.length < size then none
    else
      match parseBundle n (bs.drop size) with
      | none => none
      | some rest =>
        some ({ ident := w % 2 ^ 24, valid := bitOf w 29, version := leNat (bytesAt bs 4 4), ts := leNat (bytesAt bs 8 8),
                value := bytesAt bs 16 len } :: rest)

/-- The bytes of a record. -/
def SigRec.bytes (r : SigRec) : List Byte :=
  leBytes 4 (r.ident % 2 ^ 24 + (r.value.length - 1) % 32 * 2 ^ 24 + b2n r.valid * 2 ^ 29) ++ leBytes 4 r.version
    ++ leBytes 8 r.ts ++ bytesAt r.value 0 ((r.value.length + 3) / 4 * 4)

end Sys2Proof.Machine
end

