-- ==== Sys2Proof/Machine/Lane.lean ====
section
/-! DEFINITION. Serial lanes (R54 to R84): receiver states, markers and deskew, polarity, equaliser bounds, PRBS, eye scan. -/

namespace Sys2Proof.Machine

open Sys2Proof (Word Byte Agent Code AccessKind Instr LaneId LinkId)

/-- The link of a lane (R54). -/
def laneLink (l : Nat) : Nat := if l < 16 then l / 4 else 4 + (l - 16) / 2

/-- The lanes of a link. -/
def linkLanes (k : Nat) : List Nat :=
  if k < 4 then [4 * k, 4 * k + 1, 4 * k + 2, 4 * k + 3] else [16 + 2 * (k - 4), 17 + 2 * (k - 4)]

/-- The lanes of the PLL group of a link (R54): the stitch lanes are one group. -/
def groupLanes (k : Nat) : List Nat := if k < 4 then linkLanes k else [16, 17, 18, 19, 20, 21]

/-- The ORIGIN that a lane expects (R65): AE and AW, BE and BW expect each other; a stitch lane 0b100. -/
def expectedOrigin (l : Nat) : Nat :=
  match laneLink l with
  | 0 => 1 | 1 => 0 | 2 => 3 | 3 => 2 | _ => 4

namespace State

/-- The receiver state of a lane (R67). -/
def laneSt (s : State) (l : Nat) : Nat := s.get (Pg.lane l) R.LANE_STATUS_STATE

def lane (s : State) (l : Nat) : Lane := s.lanes.getD l {}

def modLane (s : State) (l : Nat) (f : Lane → Lane) : State := { s with lanes := s.lanes.setIfInBounds l (f (s.lane l)) }

/-- Enter a receiver state; the lock bits of LANE_STATUS follow it. -/
def laneTo (s : State) (l st : Nat) : State :=
  let p := Pg.lane l
  (((((s.put p R.LANE_STATUS_STATE st).putB p R.LANE_STATUS_CDR_LOCK (3 ≤ st && st ≤ 5)).putB p
    R.LANE_STATUS_BLOCK_LOCK (st == 4 || st == 5)).putB p R.LANE_STATUS_DESKEWED (st == 5)).putB p
    R.LANE_STATUS_RX_IDLE (st == 6)).modLane l fun x => { x with mark := none, fastOk := false, missed := 0 }

/-- Retained state, and whether a fast exit is possible (R67, R75). -/
def laneRetain (s : State) (l : Nat) (b : Bool) : State :=
  (s.modLane l fun x => { x with retained := b }).putB (Pg.lane l) R.LANE_STATUS_FAST_EXIT_ELIGIBLE b

/-- LANE_DOWN when a lane leaves UP other than into RX_IDLE (R84). -/
def laneDown (s : State) (l : Nat) : State :=
  s.when (s.laneSt l == 5) fun t => t.event (Pg.lane l) E.LANE_LANE_DOWN

/-- Discard the retained state and go to CDR_ACQUIRE (R58, R67). -/
def laneRetrain (s : State) (l : Nat) : State :=
  let st := s.laneSt l
  if st = 0 ∨ st = 8 then s else (((s.laneDown l).laneRetain l false).laneTo l 2)

/-- The side or stitch port of a link is enabled. -/
def sideEnabled (s : State) (k : Nat) : Bool := s.on (Pg.link k) R.PAGE_CTRL_ENABLE

/-- The transmitter's level leaves the hub: 0 electrical idle, 1 blocks and markers, 2 the training burst, then a marker. -/
def laneTx (s : State) (l mode : Nat) : State := s.emit (.level (0x100 + l) mode)

/-- A lane whose side is enabled leaves DISABLED (R67). -/
def laneStart (s : State) (l : Nat) : State :=
  if s.laneSt l = 0 ∧ s.sideEnabled (laneLink l) then (s.laneTx l 1).laneTo l 1 else s

/-- A lane whose side is disabled returns to DISABLED, unless TEST_MODE holds it in TEST (R67). -/
def laneStop (s : State) (l : Nat) : State :=
  let p := Pg.lane l
  if s.laneSt l = 8 ∧ s.on p R.LANE_CMD_TEST_MODE then s
  else ((((s.laneDown l).laneTx l 0).laneRetain l false).laneTo l 0)

/-- The lanes of a PLL group do not all have one RATE (R57). -/
def ratesDiffer (s : State) (k : Nat) : Bool :=
  match groupLanes k with
  | [] => false
  | l :: ls => ls.any fun m => s.get (Pg.lane m) R.LANE_CFG_RATE != s.get (Pg.lane l) R.LANE_CFG_RATE

/-- The logical lanes of a side are not distinct and in range (R60). -/
def mapInvalid (s : State) (k : Nat) : Bool :=
  let ls := (linkLanes k).map fun l => s.get (Pg.lane l) R.LANE_CFG_TX_LOGICAL
  !decide ls.Nodup || (4 ≤ k && ls.any fun x => 1 < x)

/-- The check of an enable (R57, R60): a refusal sets RATE_REFUSED or MAP_INVALID in the pages it names; an acceptance
clears both. Whether the enable stands. -/
def enableCheck (s : State) (k : Nat) : State × Bool :=
  let r := s.ratesDiffer k
  let m := s.mapInvalid k
  if r || m then
    let t := (groupLanes k).foldl (fun t l =>
      t.when r fun u => (u.setF (Pg.lane l) R.LANE_STATUS_RATE_REFUSED).event (Pg.lane l) E.LANE_RATE_REFUSED) s
    let u := (linkLanes k).foldl (fun t l =>
      t.when m fun u => (u.setF (Pg.lane l) R.LANE_STATUS_MAP_INVALID).event (Pg.lane l) E.LANE_RATE_REFUSED) t
    (u, false)
  else
    ((linkLanes k).foldl (fun t l =>
      (t.clrF (Pg.lane l) R.LANE_STATUS_RATE_REFUSED).clrF (Pg.lane l) R.LANE_STATUS_MAP_INVALID) s, true)

/-- A mission counter of a lane, counted in every state but TEST (R81). -/
def laneCountN (s : State) (l : Nat) (f : Fld) (n : Nat) : State :=
  if s.laneSt l = 8 then s else s.countN (Pg.lane l) f n

/-- Sync headers seen since the last report: ALIGN_STAT (R71), and the invalid ones in CNT_SH_ERR from BLOCK_ALIGN to UP. -/
def laneHeaders (s : State) (l good bad : Nat) : State :=
  let p := Pg.lane l
  let st := s.laneSt l
  let t := (s.put p R.ALIGN_STAT_SH_GOOD (satAdd 16 (s.get p R.ALIGN_STAT_SH_GOOD) good)).put p R.ALIGN_STAT_SH_BAD
    (satAdd 16 (s.get p R.ALIGN_STAT_SH_BAD) bad)
  if 3 ≤ st ∧ st ≤ 5 then t.laneCountN l R.CNT_SH_ERR bad else t

/-- Zero the mission counters and ALIGN_STAT (R81). -/
def laneCntClear (s : State) (l : Nat) : State :=
  [R.CNT_SH_ERR, R.CNT_BIP_ERR, R.CNT_EVENTS, R.CNT_TRAIN, R.CNT_IDLE_EXIT, R.ALIGN_STAT].foldl
    (fun t f => t.wr (Pg.lane l) f.off 0) s

/-- A lane meets R64 to R66 as far as it is alone concerned, or completes its fast exit. -/
def laneReady (s : State) (l : Nat) : Bool :=
  let st := s.laneSt l
  st == 5 || (st == 4 && (s.lane l).mark.isSome) || (st == 7 && (s.lane l).fastOk)

/-- The markers of the lanes of a link that count for its deskew. -/
def deskewMarks (s : State) (k : Nat) : List (Nat × Nat) :=
  (linkLanes k).filterMap fun l => if s.laneSt l = 4 ∨ s.laneSt l = 5 then (s.lane l).mark else none

/-- Every lane of the side meets R64 to R66 with markers of one COUNT: within 15 blocks all enter UP together, else
DESKEW_FAIL and BLOCK_ALIGN (R66, R67). -/
def laneJoin (s : State) (k : Nat) : State :=
  let ls := linkLanes k
  let ms := s.deskewMarks k
  if ls.all s.laneReady ∧ (ms.map (·.1)).eraseDups.length ≤ 1 ∧ (ls.any fun l => s.laneSt l != 5) then
    let at_ := ms.map (·.2)
    let hi := at_.foldl Nat.max 0
    let lo := at_.foldl Nat.min hi
    if 15 < hi - lo then
      ls.foldl (fun t l =>
        if t.laneSt l = 4 then
          (t.eventFault (Pg.lane l) E.LANE_DESKEW_FAIL K.DESKEW_FAIL l).laneTo l 3
        else t) s
    else
      ls.foldl (fun t l =>
        let p := Pg.lane l
        let st := t.laneSt l
        if st = 5 then t
        else
          let d := match (t.lane l).mark with
            | some m => hi - m.2
            | none => t.get p R.LANE_STATUS_DESKEW_BLOCKS
          let u := (t.when (st == 7) fun u => u.countN p R.CNT_IDLE_EXIT 1).laneTo l 5
          ((u.put p R.LANE_STATUS_DESKEW_BLOCKS d).laneRetain l false).event p E.LANE_LANE_UP) s
  else s

/-- Received data is inverted (R59). -/
def rxInverted (s : State) (l : Nat) : Bool :=
  if s.on (Pg.lane l) R.LANE_CFG_RX_POL_AUTO then s.on (Pg.lane l) R.LANE_STATUS_RX_POL_DETECTED
  else s.on (Pg.lane l) R.LANE_CFG_RX_POL_INV

/-- Two markers in a row that arrive complemented turn the inversion on, two that arrive true turn it off (R59). -/
def lanePolarity (s : State) (l raw : Nat) : State :=
  let ok (x : Nat) : Bool := x % 256 == 0xA5 && bitsOf x 32 32 == notW 32 x
  let c := if ok (notW 64 raw) then (s.lane l).complemented + 1 else 0
  let q := if ok raw then (s.lane l).plain + 1 else 0
  let t := s.modLane l fun x => { x with complemented := Nat.min c 2, plain := Nat.min q 2 }
  if !t.on (Pg.lane l) R.LANE_CFG_RX_POL_AUTO then t
  else if 2 ≤ c then t.setF (Pg.lane l) R.LANE_STATUS_RX_POL_DETECTED
  else if 2 ≤ q then t.clrF (Pg.lane l) R.LANE_STATUS_RX_POL_DETECTED
  else t

/-- The block at a marker position (R63 to R66), as seen after the inversion in force. -/
def laneMarker (s : State) (l raw bip arrival : Nat) : State :=
  let p := Pg.lane l
  let seen := if s.rxInverted l then notW 64 raw else raw
  let t := s.lanePolarity l raw
  if seen % 256 = 0xA5 ∧ bitsOf seen 32 32 = notW 32 seen then
    let b1 := bitsOf seen 8 8
    let origin := b1 / 32
    let wrong := ((List.range 8).filter fun i => bitOf (bitsOf seen 16 8) i != bitOf bip i).length
    let bad := origin != expectedOrigin l
    let u := (((t.put p R.PARTNER_BYTE b1).setF p R.PARTNER_VALID).putB p R.PARTNER_MISMATCH bad).put p
      R.LANE_STATUS_RX_LOGICAL b1
    let v := u.laneCountN l R.CNT_BIP_ERR wrong
    if bad then
      (v.eventFault p E.LANE_CABLE_MISMATCH K.CABLE_MISMATCH origin).modLane l fun x =>
        { x with missed := 0, mark := none }
    else
      (v.modLane l fun x => { x with missed := 0, mark := some (bitsOf seen 24 8, arrival) }).laneJoin (laneLink l)
  else
    let u := t.laneCountN l R.CNT_EVENTS_AM_ERR 1
    if (u.lane l).missed = 2 then ((u.laneDown l).laneTo l 4)
    else u.modLane l fun x => { x with missed := x.missed + 1 }

/-! ### Equalisers (R72 to R74) -/

/-- A DFE tap held within ± `m` (two's complement bytes). -/
def tapClamp (m x : Nat) : Nat :=
  let i := signedOf 8 x
  ofSigned 8 (if i < -(m : Int) then -(m : Int) else if (m : Int) < i then (m : Int) else i)

/-- The taps of a DFE word moved to their bounds; `first` is the bound of its lowest tap. -/
def tapsClamp (first rest w : Nat) : Nat :=
  tapClamp first (bitsOf w 0 8) + 2 ^ 8 * tapClamp rest (bitsOf w 8 8) + 2 ^ 16 * tapClamp rest (bitsOf w 16 8)
    + 2 ^ 24 * tapClamp rest (bitsOf w 24 8)

/-- With EQ_ADAPT 1 the taps move to their bounds, and CTLE and VGA with them while policy EQ is in act mode (R73). -/
def laneToBounds (s : State) (l : Nat) : State :=
  let p := Pg.lane l
  if s.on p R.LANE_CFG_EQ_ADAPT then
    let m1 := s.get p R.EQ_BOUNDS_DFE1_MAX
    let m := s.get p R.EQ_BOUNDS2_DFE_REST_MAX
    let w (off f : Nat) (t : State) := t.wrAdapt p off (BitVec.ofNat 32 (tapsClamp f m (t.rd p off).toNat))
    let t := w R.DFE_C.off m (w R.DFE_B.off m (w R.DFE_A.off m1 s))
    if s.policyAct 0 then
      (t.putAdapt p R.RX_EQ_CTLE (clamp (s.get p R.EQ_BOUNDS_CTLE_MIN) (s.get p R.EQ_BOUNDS_CTLE_MAX)
        (s.get p R.RX_EQ_CTLE))).putAdapt p R.RX_EQ_VGA (clamp (s.get p R.EQ_BOUNDS_VGA_MIN)
        (s.get p R.EQ_BOUNDS_VGA_MAX) (s.get p R.RX_EQ_VGA))
    else t
  else s

/-- The Kept equaliser words are those in use: after a write, a restore or an adaptation record (R74). -/
def laneKeepEq (s : State) (l : Nat) : State :=
  s.modLane l fun x => { x with eqKept := [R.RX_EQ.off, R.DFE_A.off, R.DFE_B.off, R.DFE_C.off].map (s.rd (Pg.lane l)) }

/-- A training timeout reloads the Kept words (R74). -/
def laneReloadEq (s : State) (l : Nat) : State :=
  let k := (s.lane l).eqKept
  let p := Pg.lane l
  (((s.wr p R.RX_EQ.off (k.getD 0 0)).wr p R.DFE_A.off (k.getD 1 0)).wr p R.DFE_B.off (k.getD 2 0)).wr p R.DFE_C.off
    (k.getD 3 0)

/-! ### The effect of writes to a lane page -/

/-- LANE_CMD (R67, R70, R75, R77, R81). -/
def wrLaneCmd (s : State) (l v : Nat) : State :=
  let p := Pg.lane l
  let b (i : Nat) := bitOf v i
  let k := laneLink l
  -- TEST_MODE
  let s1 :=
    if b 0 && !s.on p R.LANE_CMD_TEST_MODE then
      if s.sideEnabled k then s.event p E.LANE_TEST_REFUSED
      else (s.setF p R.LANE_CMD_TEST_MODE).when (s.laneSt l == 0) fun t => t.laneTo l 8
    else if !b 0 && s.on p R.LANE_CMD_TEST_MODE then
      ((s.clrF p R.LANE_CMD_TEST_MODE).when (s.laneSt l == 8) fun t => t.laneTo l 0).laneStart l
    else s
  -- IDLE_REQ
  let s2 :=
    if b 1 && !s1.on p R.LANE_CMD_IDLE_REQ then (s1.setF p R.LANE_CMD_IDLE_REQ).laneTx l 0
    else if !b 1 && s1.on p R.LANE_CMD_IDLE_REQ then (s1.clrF p R.LANE_CMD_IDLE_REQ).laneTx l 2
    else s1
  let search := s2.laneSt l == 3 && !s2.on p R.LANE_CFG_AUTO_ALIGN
  let s3 := s2.when (b 2 && search) fun t =>
    (t.put p R.LANE_STATUS_SLIP_POS ((t.get p R.LANE_STATUS_SLIP_POS + 1) % 66)).wr p R.ALIGN_STAT.off 0
  let s4 := s3.when (b 3 && search) fun t => t.laneTo l 4
  let s5 := s4.when (b 4) fun t => t.laneRetrain l
  s5.when (b 5) fun t => t.laneCntClear l

/-- Bits and errors that the checker has counted since the last report (R78). -/
def prbsCount (s : State) (l bits errs : Nat) : State :=
  if s.laneSt l = 8 ∧ s.on (Pg.lane l) R.PRBS_STAT_CHK_LOCKED then
    s.modLane l fun x => { x with prbsBits := satAdd 48 x.prbsBits bits, prbsErrs := satAdd 32 x.prbsErrs errs }
  else s

/-- PRBS_CTRL (R79, R80); SNAP takes the counts before CLEAR zeroes them. -/
def wrPrbs (s : State) (l v : Nat) : State :=
  let p := Pg.lane l
  let s1 := s.storeWrite p R.PRBS_CTRL.off (BitVec.ofNat 32 v)
  let s2 := s1.when (bitOf v 11 && s1.laneSt l == 8 && s1.on p R.PRBS_CTRL_GEN_EN) fun t => t.laneTx l 3
  let s3 := s2.when (bitOf v 12) fun t =>
    ((t.wr p R.PRBS_BITS_LO.off (BitVec.ofNat 32 (t.lane l).prbsBits)).wr p R.PRBS_BITS_HI.off
      (BitVec.ofNat 32 ((t.lane l).prbsBits / 2 ^ 32))).wr p R.PRBS_ERR.off (BitVec.ofNat 32 (t.lane l).prbsErrs)
  s3.when (bitOf v 13) fun t =>
    (t.modLane l fun x => { x with prbsBits := 0, prbsErrs := 0 }).clrF p R.PRBS_STAT_PRBS_LOCK_LOST

/-- EYE_CTRL (R82, R83): GO reads 1 with BUSY until the point ends. -/
def wrEye (s : State) (l v : Nat) : State :=
  let p := Pg.lane l
  let go := bitOf v 1
  let t := s.storeWrite p R.EYE_CTRL.off (BitVec.ofNat 32 (bitsPut v 1 1 0))
  if !go then t
  else if t.on p R.EYE_CTRL_HOLD && !t.on p R.EYE_CTRL_BUSY then
    ((t.setF p R.EYE_CTRL_GO).setF p R.EYE_CTRL_BUSY).clrF p R.EYE_CTRL_DONE
  else t.event p E.LANE_BOUNDS_REFUSED

/-- EQ_BOUNDS and EQ_BOUNDS2 (R73). -/
def wrBounds (s : State) (l off : Nat) (v : Word) : State :=
  let n := v.toNat
  if off = R.EQ_BOUNDS.off ∧ (bitsOf n 8 5 < bitsOf n 0 5 ∨ bitsOf n 20 4 < bitsOf n 16 4) then
    s.event (Pg.lane l) E.LANE_BOUNDS_REFUSED
  else (s.storeWrite (Pg.lane l) off v).laneToBounds l

/-- The effect of a write to a block register of a lane page. -/
def wrLane (l : Nat) (s : State) (off : Nat) (v : Word) : State :=
  let p := Pg.lane l
  if off = R.LANE_CMD.off then s.wrLaneCmd l v.toNat
  else if off = R.RX_EQ.off ∨ off = R.DFE_A.off ∨ off = R.DFE_B.off ∨ off = R.DFE_C.off then
    if s.on p R.LANE_CFG_EQ_ADAPT then s else (s.storeWrite p off v).laneKeepEq l
  else if off = R.EQ_BOUNDS.off ∨ off = R.EQ_BOUNDS2.off then s.wrBounds l off v
  else if off = R.PRBS_CTRL.off then s.wrPrbs l v.toNat
  else if off = R.EYE_CTRL.off then s.wrEye l v.toNat
  else s.storeWrite p off v

/-- A write of one command field of a lane page. -/
def laneCmd (s : State) (a : Agent) (l : Nat) (f : Fld) (x : Nat) : State :=
  s.poke a (Pg.lane l) f.off (s.withField (Pg.lane l) f x) (wrLane l)

/-- A lane in one of the training states CDR_ACQUIRE to DESKEW. -/
def laneTraining (s : State) (l : Nat) : Bool := 2 ≤ s.laneSt l && s.laneSt l ≤ 4

end State

/-- SIGNAL_DETECT (R67). -/
def execSignalDetect (l : LaneId) (s : State) : Host.Outcome State Fault Refusal :=
  finish (if s.laneSt l = 1 then s.laneTo l 2 else s)

/-- CDR_LOCK (R67). -/
def execCdrLock (l : LaneId) (s : State) : Host.Outcome State Fault Refusal :=
  finish (if s.laneSt l = 2 then s.laneTo l 3 else s)

/-- BLOCK_LOCK (R67, R71): with AUTO_ALIGN 0 the headers are only counted. -/
def execBlockLock (l : LaneId) (good bad : BitVec 16) (s : State) : Host.Outcome State Fault Refusal :=
  finish <|
    if s.laneSt l = 3 then
      (s.laneHeaders l good.toNat bad.toNat).when (s.on (Pg.lane l) R.LANE_CFG_AUTO_ALIGN && 64 ≤ good.toNat) fun t =>
        t.laneTo l 4
    else s

/-- LOCK_HERE (R67, R70). -/
def execLockHere (a : Agent) (l : LaneId) (s : State) : Host.Outcome State Fault Refusal :=
  finish (s.laneCmd a l R.LANE_CMD_LOCK_HERE 1)

/-- BIT_SLIP (R70). -/
def execBitSlip (a : Agent) (l : LaneId) (s : State) : Host.Outcome State Fault Refusal :=
  finish (s.laneCmd a l R.LANE_CMD_BIT_SLIP 1)

/-- ALIGNMENT_MARKER (R59, R63 to R67): a block at a marker position, in DESKEW or UP. -/
def execAlignmentMarker (l : LaneId) (block : BitVec 64) (bip : BitVec 8) (arrival good bad : BitVec 16) (s : State) :
    Host.Outcome State Fault Refusal :=
  finish <|
    if s.laneSt l = 4 ∨ s.laneSt l = 5 then
      (s.laneHeaders l good.toNat bad.toNat).laneMarker l block.toNat bip.toNat arrival.toNat
    else s

/-- LOCK_LOST (R67): 16 invalid sync headers within 64, in UP. -/
def execLockLost (l : LaneId) (good bad : BitVec 16) (s : State) : Host.Outcome State Fault Refusal :=
  finish <|
    if s.laneSt l = 5 then
      let t := (s.laneHeaders l good.toNat bad.toNat).countN (Pg.lane l) R.CNT_EVENTS_LOCK_LOSS 1
      ((t.eventFault (Pg.lane l) E.LANE_LOCK_LOST K.LOCK_LOST l).laneDown l).laneTo l 3
    else s

/-- SQUELCH_IN_UP (R67). -/
def execSquelchInUp (l : LaneId) (s : State) : Host.Outcome State Fault Refusal :=
  finish <|
    if s.laneSt l = 5 then
      if (s.link (laneLink l)).idleExpected then (s.laneTo l 6).laneRetain l true
      else (s.laneDown l).laneTo l 1
    else s

/-- SQUELCH_IN_TRAINING (R67). -/
def execSquelchInTraining (l : LaneId) (s : State) : Host.Outcome State Fault Refusal :=
  finish (if s.laneTraining l then (s.laneRetain l false).laneTo l 1 else s)

/-- TRAIN_TIMEOUT (R67, R74). -/
def execTrainTimeout (l : LaneId) (s : State) : Host.Outcome State Fault Refusal :=
  finish <|
    if s.laneTraining l then
      let t := (s.countN (Pg.lane l) R.CNT_TRAIN_TRAIN_FAIL 1).eventFault (Pg.lane l) E.LANE_TRAIN_FAIL K.TRAIN_FAIL l
      (t.laneReloadEq l).laneTo l 1
    else s

/-- RETRAIN (R67). -/
def execRetrain (a : Agent) (l : LaneId) (s : State) : Host.Outcome State Fault Refusal :=
  finish (s.laneCmd a l R.LANE_CMD_RETRAIN 1)

/-- RX_IDLE_SIGNAL_RETURN (R67). -/
def execRxIdleSignalReturn (l : LaneId) (s : State) : Host.Outcome State Fault Refusal :=
  finish (if s.laneSt l = 6 then s.laneTo l 7 else s)

/-- FAST_EXIT_LIMIT_EXPIRY (R67). -/
def execFastExitLimitExpiry (l : LaneId) (s : State) : Host.Outcome State Fault Refusal :=
  finish (if s.laneSt l = 6 then (s.laneRetain l false).laneTo l 1 else s)

/-- FAST_EXIT_COMPLETE (R67, R75, R76). -/
def execFastExitComplete (l : LaneId) (s : State) : Host.Outcome State Fault Refusal :=
  finish <|
    if s.laneSt l = 7 then (s.modLane l fun x => { x with fastOk := true }).laneJoin (laneLink l) else s

/-- FAST_EXIT_FAIL (R67). -/
def execFastExitFail (l : LaneId) (s : State) : Host.Outcome State Fault Refusal :=
  finish <|
    if s.laneSt l = 7 then
      let t := (s.countN (Pg.lane l) R.CNT_TRAIN_FAST_EXIT_FAIL 1).eventFault (Pg.lane l) E.LANE_FAST_EXIT_FAIL
        K.FAST_EXIT_FAIL l
      (t.laneRetain l false).laneTo l 2
    else s

/-- TEST_MODE_SET (R77). -/
def execTestModeSet (a : Agent) (l : LaneId) (s : State) : Host.Outcome State Fault Refusal :=
  finish (s.laneCmd a l R.LANE_CMD_TEST_MODE 1)

/-- TEST_MODE_CLEAR (R67). -/
def execTestModeClear (a : Agent) (l : LaneId) (s : State) : Host.Outcome State Fault Refusal :=
  finish (s.laneCmd a l R.LANE_CMD_TEST_MODE 0)

/-- IDLE_REQ_SET (R75). -/
def execIdleReqSet (a : Agent) (l : LaneId) (s : State) : Host.Outcome State Fault Refusal :=
  finish (s.laneCmd a l R.LANE_CMD_IDLE_REQ 1)

/-- IDLE_REQ_CLEAR (R75). -/
def execIdleReqClear (a : Agent) (l : LaneId) (s : State) : Host.Outcome State Fault Refusal :=
  finish (s.laneCmd a l R.LANE_CMD_IDLE_REQ 0)

/-- EQ_BOUNDS_WRITE (R73): EQ_BOUNDS, or EQ_BOUNDS2 with `second`. -/
def execEqBoundsWrite (a : Agent) (l : LaneId) (second : Bool) (v : Word) (s : State) :
    Host.Outcome State Fault Refusal :=
  finish (s.poke a (Pg.lane l) (if second then R.EQ_BOUNDS2.off else R.EQ_BOUNDS.off) v (State.wrLane l))

/-- PRBS_CHECKER_LOCK (R78). -/
def execPrbsCheckerLock (l : LaneId) (s : State) : Host.Outcome State Fault Refusal :=
  finish <|
    if s.laneSt l = 8 ∧ s.on (Pg.lane l) R.PRBS_CTRL_CHK_EN then s.setF (Pg.lane l) R.PRBS_STAT_CHK_LOCKED else s

/-- PRBS_LOCK_LOST (R78): the counts since the last report come with it, and stay. -/
def execPrbsLockLost (l : LaneId) (bits : BitVec 48) (errs : BitVec 32) (s : State) :
    Host.Outcome State Fault Refusal :=
  finish <|
    let p := Pg.lane l
    if s.laneSt l = 8 ∧ s.on p R.PRBS_STAT_CHK_LOCKED then
      (((s.prbsCount l bits.toNat errs.toNat).clrF p R.PRBS_STAT_CHK_LOCKED).setF p R.PRBS_STAT_PRBS_LOCK_LOST).event p
        E.LANE_PRBS_LOCK_LOST
    else s

/-- PRBS_SNAP (R79), with the counts since the last report. -/
def execPrbsSnap (a : Agent) (l : LaneId) (bits : BitVec 48) (errs : BitVec 32) (s : State) :
    Host.Outcome State Fault Refusal :=
  finish ((s.prbsCount l bits.toNat errs.toNat).laneCmd a l R.PRBS_CTRL_SNAP 1)

/-- PRBS_CLEAR (R79). -/
def execPrbsClear (a : Agent) (l : LaneId) (s : State) : Host.Outcome State Fault Refusal :=
  finish (s.laneCmd a l R.PRBS_CTRL_CLEAR 1)

/-- INJ_ONE (R80). -/
def execInjOne (a : Agent) (l : LaneId) (s : State) : Host.Outcome State Fault Refusal :=
  finish (s.laneCmd a l R.PRBS_CTRL_INJ_ONE 1)

/-- EYE_GO (R83). -/
def execEyeGo (a : Agent) (l : LaneId) (s : State) : Host.Outcome State Fault Refusal :=
  finish (s.laneCmd a l R.EYE_CTRL_GO 1)

/-- EYE_DONE (R82, R83): the end of a point, in UP or in TEST; an owner's point stores its count. -/
def execEyeDone (l : LaneId) (count : BitVec 64) (s : State) : Host.Outcome State Fault Refusal :=
  finish <|
    let p := Pg.lane l
    if s.on p R.EYE_CTRL_BUSY ∧ (s.laneSt l = 5 ∨ s.laneSt l = 8) then
      let t := (s.clrF p R.EYE_CTRL_BUSY).clrF p R.EYE_CTRL_GO
      if s.on p R.EYE_CTRL_RALUSK_ACTIVE then t.clrF p R.EYE_CTRL_RALUSK_ACTIVE
      else ((t.setF p R.EYE_CTRL_DONE).wr p R.EYE_ERR.off (BitVec.ofNat 32 (Nat.min count.toNat 0xFFFFFFFF))).event p
        E.LANE_EYE_DONE
    else s

end Sys2Proof.Machine
end

