-- ==== Sys2Proof/Machine/Switch.lean ====
section
/-! DEFINITION. The switch core and the Granary (R167 to R203): cells, admission, marking, selection, the hold window of an
engine that is down, mirror sessions, the Gleaner's checks. -/

namespace Sys2Proof.Machine

open Sys2Proof (Word Byte Agent Code AccessKind Instr LaneId LinkId EngineId)

namespace State

/-- Change the switch core's own data. -/
def modCore (s : State) (f : Core → Core) : State := { s with core := f s.core }

/-- Every frame that takes cells: queued, or held by a fence. -/
def storedFrames (s : State) : List Queued := s.core.queued ++ s.ring.fences.flatMap (·.frames)

/-- The cells of a list of stored frames; frames stored once for several points count once (R176). -/
def cellsOf : List Nat → List Queued → Nat
  | _, [] => 0
  | seen, q :: t => if seen.contains q.id then cellsOf seen t else q.frame.cells + cellsOf (q.id :: seen) t

/-- The GRANARY domain is on. -/
def granaryOn (s : State) : Bool := s.domainOn 5 && s.domainOn 4

/-- FREE_CELLS (R178, R197): of 131,072 cells, those that no frame takes and that are not orphaned. DEDUCED, log
entry 34. -/
def freeCells (s : State) : Nat :=
  if s.granaryOn then 131072 - cellsOf [] s.storedFrames - s.core.orphans.length else 0

/-- The frames of a queue, in order of admission. -/
def queueOf (s : State) (q : Nat) : List Queued :=
  s.core.queued.filter fun e => 8 * e.point + e.frame.prio == q

/-- The depth of a queue in cells. -/
def depth (s : State) (q : Nat) : Nat := ((s.queueOf q).map fun e => e.frame.cells).sum

/-- The profile of a queue (R179). -/
def profile (s : State) (q : Nat) : Nat := (s.rd Pg.qcfgTable (4 * q)).toNat % 16

/-- The reserve that must remain after an admission (R179). -/
def reserveFor (s : State) (f : Frame) : Nat :=
  let c := s.get Pg.granary R.RESERVE_COMPL
  if f.ftype = 0x13 ∨ f.ftype = 0x14 then 0
  else if f.urgent then c else s.get Pg.granary R.RESERVE_URGENT + c

/-- Count a frame lost for want of cells (R178, R179). -/
def dropNoCell (s : State) : State := (s.count Pg.granary R.CNT_DROP_NOCELL).event Pg.granary E.P06B_DROP_NOCELL

/-- CAP_LEN became non-zero where it was 0 (R203). -/
def captureReady (s : State) : State :=
  s.when (s.on Pg.mirror R.MIRROR_DEST_LOCAL && (s.core.queued.filter (·.point == 9)).length == 1) fun t =>
    t.event Pg.mirror E.P06D_CAPTURE_READY

/-- Admit a frame to the queue of its PRIO at a point (R179, R181): whether it was admitted. `id` is the stored frame,
`shared` says that it already has its cells. -/
def admitAs (s : State) (point : Nat) (f : Frame) (id : Nat) (shared : Bool) : State × Bool :=
  let q := 8 * point + f.prio
  let p := s.profile q
  let d := s.depth q
  let need := if shared then 0 else f.cells
  if !s.granaryOn then (s.dropNoCell, false)
  else if Nat.max 5 (s.get Pg.qprof (R.HARD_LIMIT p)) < d + f.cells then
    ((((s.count Pg.granary R.CNT_DROP_LIMIT).event Pg.granary E.P06B_DROP_LIMIT).modCore fun c =>
      { c with drops := file q (satAdd 32 (look q c.drops) 1) c.drops }).modRal fun r =>
        { r with cmDrops := addNew p r.cmDrops }, false)
  else if s.freeCells < need + s.reserveFor f then (s.dropNoCell, false)
  else
    let mark := s.on Pg.congestion ⟨0x040, 0, 1⟩ && s.get Pg.qprof (R.CM_THRESH p) < d
    let g := if mark then { f with cm := true } else f
    let low := s.get Pg.granary R.RESERVE_URGENT + s.get Pg.granary R.RESERVE_COMPL
    let was := s.freeCells
    let t := s.modCore fun c =>
      { c with queued := c.queued ++ [{ point := point, frame := g, at_ := s.uptime, id := id }],
               peaks := file q (Nat.max (look q c.peaks) (d + f.cells)) c.peaks }
    let t := t.when mark fun t =>
      (((t.count Pg.congestion R.CNT_CM_SET).wr Pg.congestion R.CM_LAST.off (BitVec.ofNat 32 (2 ^ 31 + q))).event
        Pg.congestion E.P06E_CM_SET).modCore fun c => { c with marks := file q (satAdd 32 (look q c.marks) 1) c.marks }
    let t := t.modRal fun r =>
      { r with cmMarks := if mark then addNew p r.cmMarks else r.cmMarks,
               cmBusy := if s.get Pg.qprof (R.HARD_LIMIT p) < 2 * (d + f.cells) then addNew p r.cmBusy else r.cmBusy }
    let t := t.count Pg.core R.CNT_BUFFERED
    let t := t.when (t.freeCells < t.get Pg.granary R.MIN_FREE) fun t => t.put Pg.granary R.MIN_FREE t.freeCells
    let t := t.when (low ≤ was && t.freeCells < low) fun t => t.event Pg.granary E.P06B_LOW_FREE
    (t.when (point == 9) captureReady, true)

/-- Admit a frame to one point. -/
def admitFrame (s : State) (point : Nat) (f : Frame) : State × Bool :=
  let r := s.admitAs point f s.core.nextId false
  (r.1.modCore fun c => { c with nextId := c.nextId + 1 }, r.2)

/-- Take a queued frame out of the queues of a point. -/
def unqueue (s : State) (q : Queued) : State :=
  s.modCore fun c => { c with queued := c.queued.filter fun e => !(e.point == q.point && e.id == q.id) }

/-- A frame leaves its queue to a local egress point; a mark that it carries is counted (R181). -/
def leaves (s : State) (q : Queued) : State := (s.unqueue q).when q.frame.cm fun t => t.count Pg.congestion R.CNT_CM_RX

/-! ### Selection (R183) -/

/-- The oldest frame of the highest priority in a list of queued frames. -/
def bestOf : List Queued → Option Queued
  | [] => none
  | q :: t =>
    match bestOf t with
    | none => some q
    | some r => if q.frame.prio < r.frame.prio then some r else some q

/-- The frame that a point takes next: urgent lists first, then bulk lists (R183). -/
def selectAt (s : State) (point : Nat) (urgentOnly : Bool) : Option Queued :=
  let l := s.core.queued.filter (·.point == point)
  match bestOf (l.filter (·.frame.urgent)) with
  | some q => some q
  | none => if urgentOnly then none else bestOf (l.filter fun q => !q.frame.urgent)

/-- The frames of a point in the order in which R183 would send them. -/
def drainOrder (s : State) (point : Nat) : List Queued :=
  let l := s.core.queued.filter (·.point == point)
  let byPrio (u : Bool) : List Queued :=
    [7, 6, 5, 4, 3, 2, 1, 0].flatMap fun p => l.filter fun q => q.frame.prio == p && q.frame.urgent == u
  byPrio true ++ byPrio false

/-! ### Port engines that are down (R184 to R190) -/

/-- The engine holds an uncleared fault of severity S3 or above (R185). -/
def engineFault (s : State) (e : Nat) : Bool :=
  (List.range 128).any fun i =>
    let w := (s.rd Pg.active (0x800 + 16 * i)).toNat
    bitOf w 31 && bitsOf w 0 12 == Pg.engine e && 3 ≤ bitsOf w 20 3

/-- A port engine is down (R185). -/
def engineDown (s : State) (e : Nat) : Bool :=
  let p := Pg.engine e
  !s.pageOn p || !s.on p R.PAGE_CTRL_ENABLE || s.softReset p || s.engineFault e
    || (s.get p R.ENG_CFG_MODE == 6 && 2 ≤ s.get (Pg.mode e 6) R.CAN_STATUS_STATE)

/-- The engine belongs to a CAN failover pair that stands (R189, R334): both engines enabled in CAN FD mode, with PAIR_EN
of the even one. -/
def canPaired (s : State) (e : Nat) : Bool :=
  let one (x : Nat) := s.get (Pg.engine x) R.ENG_CFG_MODE == 6 && s.on (Pg.engine x) R.PAGE_CTRL_ENABLE
  one (e / 2 * 2) && one (e / 2 * 2 + 1) && s.on (Pg.mode (e / 2 * 2) 6) R.CAN_CFG_PAIR_EN

/-- The engine's hold window has started and not ended. -/
def holding (s : State) (e : Nat) : Bool := s.core.holds.any (·.engine == e)

/-- Discard what an engine's queues hold and let the Gleaner verify the cells (R188, R200). DEDUCED, log entry 36. -/
def holdDiscard (s : State) (e : Nat) : State :=
  let l := s.core.queued.filter (·.point == 10 + e)
  let t := (s.countN Pg.hold R.CNT_HOLD_DISCARD l.length).modCore fun c =>
    { c with queued := c.queued.filter (·.point != 10 + e), holds := c.holds.filter (·.engine != e),
             verify := c.verify + cellsOf [] l }
  ((t.putB Pg.hold ⟨0x040 + 4 * (e / 32), e % 32, 1⟩ false).putB Pg.hold ⟨0x050 + 4 * (e / 32), e % 32, 1⟩ true).setF
    Pg.gleaner R.GLEAN_STATUS_VERIFY_BUSY

/-- A frame for a port engine (R184): admitted while the engine is up, within its window, or paired; discarded after it. -/
def toEngine (s : State) (e : Nat) (f : Frame) : State × Bool :=
  if s.core.downEngines.contains e && !s.holding e && !s.canPaired e then
    (s.count Pg.hold R.CNT_HOLD_DISCARD, false)
  else s.admitFrame (10 + e) f

/-- The engine goes down (R186, R189): its window starts, unless it is of a failover pair; HOLD_MS 0 discards at
once. DEDUCED, log entry 36. -/
def portDown (s : State) (e : Nat) : State :=
  let t := s.modCore fun c => { c with downEngines := c.downEngines ++ [e] }
  if s.canPaired e then t
  else if s.get Pg.hold (R.HOLD_MS e) = 0 then t.holdDiscard e
  else ((t.modCore fun c => { c with holds := c.holds ++ [{ engine := e, since := s.uptime }] }).putB Pg.hold
    ⟨0x040 + 4 * (e / 32), e % 32, 1⟩ true).event Pg.hold E.P06F_PORT_HELD

/-- The engine comes up (R187): its window ends, and its queues drain as it takes frames. -/
def portUp (s : State) (e : Nat) : State :=
  ((s.modCore fun c => { c with downEngines := c.downEngines.filter (· != e),
                                holds := c.holds.filter (·.engine != e) }).putB Pg.hold
    ⟨0x040 + 4 * (e / 32), e % 32, 1⟩ false).putB Pg.hold ⟨0x050 + 4 * (e / 32), e % 32, 1⟩ false

/-- Count a frame lost for point 8 (R184). -/
def localDrop (s : State) : State := (s.count Pg.core R.CNT_LOCAL_DROP).event Pg.core E.P068_LOCAL_DROP

/-- The MGMT domain goes off: what waits at point 8 is discarded (R184). -/
def dropMgmt (s : State) : State :=
  let l := s.core.queued.filter (·.point == 8)
  (l.foldl (fun t _ => t.localDrop) s).modCore fun c => { c with queued := c.queued.filter (·.point != 8) }

/-! ### Mirror sessions (R191 to R196) -/

/-- Node and hub of a frame meet MS_SRC or MS_DST. -/
def sessionAddr (s : State) (i base node hub : Nat) : Bool :=
  let w := (s.rd Pg.mirror (base + 0x20 * i)).toNat
  w % 256 == node && (bitOf w 10 || bitsOf w 8 2 == hub)

/-- Session `i` matches a frame at a point (R191, R192); `dir` 0 ingress, 1 egress. DEDUCED, log entry 29. -/
def sessionMatches (s : State) (i point dir : Nat) (f : Frame) : Bool :=
  let w := (s.rd Pg.mirror (0x040 + 0x20 * i)).toNat
  let d := if bitsOf w 2 2 = 0 then 3 else bitsOf w 2 2
  let m := if bitsOf w 15 3 = 0 then 7 else bitsOf w 15 3
  bitOf w 0 && bitOf d dir && bitOf m f.cls && f.ftype != 0x40
    && (if bitOf w 1 then
          (!bitOf w 18 || s.sessionAddr i 0x044 f.srcNode f.srcHub)
          && (!bitOf w 19 || s.sessionAddr i 0x048 f.dstNode f.dstHub)
          && (!bitOf w 20 || (f.ftype == 0x01 &&
                match parseBundle 20 f.payload with
                | some rs => rs.any fun r =>
                    (s.rd Pg.mirror (0x04C + 0x20 * i)).toNat ≤ r.ident && r.ident ≤ (s.rd Pg.mirror (0x050 + 0x20 * i)).toNat
                | none => false))
        else bitsOf w 4 8 == point && point != 9)

/-- The mirror record of a frame (R194). -/
def mirrorRecord (s : State) (i point dir seq : Nat) (f : Frame) : List Byte :=
  let cap := f.header ++ f.payload
  leBytes 8 (if s.timeValid then s.now else 0) ++ leBytes 2 point
    ++ leBytes 2 (dir + (if 240 < cap.length then 2 else 0) + (if s.timeValid then 0 else 4) + i * 16)
    ++ leBytes 2 (24 + f.plen) ++ leBytes 2 seq ++ cap.take 240

/-- One session copies every MS_SAMPLE-th match (R193). DEDUCED, log entry 29. -/
def sessionCopy (s : State) (i point dir : Nat) (f : Frame) : State :=
  if s.sessionMatches i point dir f then
    let n := Nat.max 1 (s.get Pg.mirror (R.MS_SAMPLE i))
    let k := s.core.matched.getD i 0
    let s1 := s.modCore fun c => { c with matched := c.matched.set i ((k + 1) % n) }
    if k % n = 0 then
      let seq := (s.core.sampled.getD i 0 + 1) % 65536
      let s2 := s1.modCore fun c => { c with sampled := c.sampled.set i seq }
      let g : Frame := { cls := 2, prio := s.get Pg.mirror (R.MS_CTRL_PRIO i), ftype := 0x40, aux := i,
                         payload := s2.mirrorRecord i point dir seq f }
      let r := s2.admitFrame 9 g
      if r.2 then r.1.count Pg.mirror (R.MS_COPIES i)
      else (r.1.count Pg.mirror ⟨0x05C + 0x20 * i, 0, 32⟩).event Pg.mirror E.P06D_MIRROR_DROP
    else s1
  else s

/-- The copies that a good frame yields at a point (R192). DEDUCED, log entry 29. -/
def mirrorAt (s : State) (point dir : Nat) (f : Frame) : State :=
  [0, 1, 2, 3].foldl (fun t i => t.sessionCopy i point dir f) s

/-- The record that CAP_LEN and CAP_DATA present (R196). DEDUCED, log entry 20. -/
def capHead (s : State) : Option Queued := if s.on Pg.mirror R.MIRROR_DEST_LOCAL then s.selectAt 9 false else none

/-- CAP_LEN. -/
def capLen (s : State) : Nat :=
  match s.capHead with
  | some q => q.frame.plen
  | none => 0

/-- A read of CAP_DATA (R196): the next word; the last word frees the record. DEDUCED, log entry 20, DEDUCED, log
entry 20. -/
def capRead (s : State) : State × Word :=
  match s.capHead with
  | none => (s, 0)
  | some q =>
    let w := BitVec.ofNat 32 (leNat (bytesAt q.frame.payload (4 * s.core.capRead) 4))
    if (q.frame.plen + 3) / 4 ≤ s.core.capRead + 1 then
      let t := (s.unqueue q).modCore fun c => { c with capRead := 0 }
      (t.when (t.capHead.isSome) fun u => u.event Pg.mirror E.P06D_CAPTURE_READY, w)
    else (s.modCore fun c => { c with capRead := c.capRead + 1 }, w)

/-! ### Writes to the pages of the switch core -/

/-- Zero the counters that a CNT_CLEAR of a page names (R202): the bits that the register tables mark as counts. -/
def cntClear (s : State) (p : Nat) : State :=
  (blockRegs p).foldl (fun t d =>
    if d.cnt = 0 then t
    else (List.range d.count).foldl (fun u i =>
      let off := d.off + d.stride * i
      u.wr p off (u.rd p off &&& ~~~(BitVec.ofNat 32 d.cnt))) t) s

/-- CM_THRESH moves to its bounds while policy CM (2) is in act mode (R182). -/
def threshToBounds (s : State) (p : Nat) : State :=
  if s.policyAct 2 then
    let lo := s.get Pg.qprof (R.CM_MIN p)
    let hi := s.get Pg.qprof (R.CM_MAX p)
    s.putAdapt Pg.qprof (R.CM_THRESH p) (clamp lo hi (s.get Pg.qprof (R.CM_THRESH p)))
  else s

/-- The effect of a write to page 0x069 (R182). -/
def wrQprof (s : State) (off : Nat) (v : Word) : State :=
  if 0x800 ≤ off ∧ off < 0x900 then
    let p := (off - 0x800) / 16
    let x := v.toNat % 2 ^ 17
    if off % 16 = 0 then if s.policyAct 2 then s else s.storeWrite Pg.qprof off v
    else if off % 16 = 8 then
      if s.get Pg.qprof (R.CM_MAX p) < x then s.event Pg.qprof E.P069_PROFILE_REFUSED
      else (s.storeWrite Pg.qprof off v).threshToBounds p
    else if off % 16 = 12 then
      if x < s.get Pg.qprof (R.CM_MIN p) then s.event Pg.qprof E.P069_PROFILE_REFUSED
      else (s.storeWrite Pg.qprof off v).threshToBounds p
    else s.storeWrite Pg.qprof off v
  else s.storeWrite Pg.qprof off v

/-- The effect of a write to page 0x06B (R180). -/
def wrGranary (s : State) (off : Nat) (v : Word) : State :=
  let x := v.toNat % 2 ^ 17
  if off = R.RESERVE_URGENT.off ∧ 65536 < x + s.get Pg.granary R.RESERVE_COMPL then
    s.event Pg.granary E.P06B_RESERVE_REFUSED
  else if off = R.RESERVE_COMPL.off ∧ 65536 < x + s.get Pg.granary R.RESERVE_URGENT then
    s.event Pg.granary E.P06B_RESERVE_REFUSED
  else if off = 0x05C then s.when (bitOf v.toNat 0) fun t => t.cntClear Pg.granary
  else s.storeWrite Pg.granary off v

/-- AUDIT_MS as it acts (R201). -/
def auditMs (s : State) : Nat := clamp 1 1000 (s.get Pg.gleaner R.GLEAN_CFG_AUDIT_MS)

/-- The effect of a write to page 0x06C (R201); while policy GLEAN (6) acts, AUDIT_MS is withheld from agents. -/
def wrGleaner (s : State) (off : Nat) (v : Word) : State :=
  let x := v.toNat
  if off = R.GLEAN_CFG.off then
    let w := if s.policyAct 6 then bitsPut x 16 10 (s.get Pg.gleaner R.GLEAN_CFG_AUDIT_MS) else x
    s.storeWrite Pg.gleaner off (BitVec.ofNat 32 w)
  else if off = R.GLEAN_BOUNDS.off then
    if bitsOf x 16 10 < bitsOf x 0 10 then s.event Pg.gleaner E.P06C_BOUNDS_REFUSED
    else
      let t := s.storeWrite Pg.gleaner off v
      if s.policyAct 6 then
        t.putAdapt Pg.gleaner R.GLEAN_CFG_AUDIT_MS (clamp (bitsOf x 0 10) (bitsOf x 16 10)
          (t.get Pg.gleaner R.GLEAN_CFG_AUDIT_MS))
      else t
  else if off = R.GLEAN_CMD.off then s.when (bitOf x 0) fun t => t.cntClear Pg.gleaner
  else s.storeWrite Pg.gleaner off v

/-- The effect of a write to page 0x06D (R193, R196): EN set starts the sampling with the first match. -/
def wrMirror (s : State) (off : Nat) (v : Word) : State :=
  if off = 0x0D4 then
    let t := s.when (bitOf v.toNat 0) fun t => t.cntClear Pg.mirror
    t.when (bitOf v.toNat 1) fun u => u.modCore fun c =>
      { c with queued := c.queued.filter (·.point != 9), capRead := 0 }
  else if off < 0x0C0 ∧ off % 0x20 = 0 then
    let i := (off - 0x040) / 0x20
    (s.storeWrite Pg.mirror off v).when (bitOf v.toNat 0 && !s.on Pg.mirror (R.MS_CTRL_EN i)) fun t =>
      t.modCore fun c => { c with matched := c.matched.set i 0 }
  else s.storeWrite Pg.mirror off v

/-- The effect of a write to a page of the switch core. -/
def wrCore (p : Nat) (s : State) (off : Nat) (v : Word) : State :=
  if p = Pg.qprof then s.wrQprof off v
  else if p = Pg.granary then s.wrGranary off v
  else if p = Pg.gleaner then s.wrGleaner off v
  else if p = Pg.mirror then s.wrMirror off v
  else if (p = Pg.core ∧ off = 0x044) ∨ (p = Pg.congestion ∧ off = 0x050) ∨ (p = Pg.hold ∧ off = 0x068) then
    s.when (bitOf v.toNat 0) fun t => t.cntClear p
  else s.storeWrite p off v

end State

/-- RESERVE_WRITE (R180): RESERVE_URGENT, or RESERVE_COMPL. -/
def execReserveWrite (a : Agent) (compl : Bool) (v : Word) (s : State) : Host.Outcome State Fault Refusal :=
  finish (s.poke a Pg.granary (if compl then R.RESERVE_COMPL.off else R.RESERVE_URGENT.off) v (State.wrCore Pg.granary))

/-- PROFILE_BOUNDS_WRITE (R182): CM_MIN, or CM_MAX, of a profile. -/
def execProfileBoundsWrite (a : Agent) (p : Fin 16) (max : Bool) (v : Word) (s : State) :
    Host.Outcome State Fault Refusal :=
  finish (s.poke a Pg.qprof (if max then (R.CM_MAX p).off else (R.CM_MIN p).off) v (State.wrCore Pg.qprof))

/-- HOLD_WINDOW_EXPIRY (R188). -/
def execHoldWindowExpiry (e : EngineId) (s : State) : Host.Outcome State Fault Refusal :=
  finish (if s.holding e then (s.holdDiscard e).event Pg.hold E.P06F_HOLD_EXPIRED else s)

/-- CAP_DATA_READ (R196, R35). -/
def execCapDataRead (a : Agent) (s : State) : Host.Outcome State Fault Refusal :=
  finish (s.guardedRead a Pg.mirror R.CAP_DATA.off State.capRead)

/-- CAP_FLUSH (R196). -/
def execCapFlush (a : Agent) (s : State) : Host.Outcome State Fault Refusal :=
  finish (s.poke a Pg.mirror R.MIRROR_CMD_CAP_FLUSH.off (s.withField Pg.mirror R.MIRROR_CMD_CAP_FLUSH 1)
    (State.wrCore Pg.mirror))

/-- GLEANER_VERIFY (R200): the end of the check of the cells freed by a hold discard, and what it found. -/
def execGleanerVerify (ok : Bool) (s : State) : Host.Outcome State Fault Refusal :=
  finish <|
    if s.on Pg.gleaner R.GLEAN_STATUS_VERIFY_BUSY then
      let t := ((s.modCore fun c => { c with verify := 0 }).clrF Pg.gleaner R.GLEAN_STATUS_VERIFY_BUSY).event Pg.gleaner
        E.P06C_VERIFY_DONE
      if ok then t.count Pg.gleaner R.CNT_VERIFY_PASS
      else (t.count Pg.gleaner R.CNT_VERIFY_FAIL).eventFault Pg.gleaner E.P06C_FREE_LIST_ERR K.FREE_LIST_ERR
        (t.get Pg.gleaner R.GLEAN_STATUS_CELL)
    else s

/-- GLEAN_BOUNDS_WRITE (R201). -/
def execGleanBoundsWrite (a : Agent) (v : Word) (s : State) : Host.Outcome State Fault Refusal :=
  finish (s.poke a Pg.gleaner R.GLEAN_BOUNDS.off v (State.wrCore Pg.gleaner))

end Sys2Proof.Machine
end

