-- ==== Sys2Proof/Machine/Ring.lean ====
section
/-! DEFINITION. Where frames go (R122 to R130, R139 to R141, R148, R151 to R158, R184): the route table, the ring sides and
stitch ports, wrap and fence, and the frames a hub sends of its own. -/

namespace Sys2Proof.Machine

open Sys2Proof (Word Byte Agent Code AccessKind Instr LaneId LinkId EngineId)

/-- The ring side by which a ring (0 A, 1 B) is left forward (`dir` 0) or in reverse (R122). -/
def sideOf (ring dir : Nat) : Nat :=
  match ring, dir with
  | 0, 0 => 0 | 0, _ => 1 | _, 0 => 3 | _, _ => 2

/-- The other side of the same ring. -/
def otherSide (k : Nat) : Nat := if k % 2 = 0 then k + 1 else k - 1

/-- The side is left in the forward direction of its ring. -/
def isForward (k : Nat) : Bool := k == 0 || k == 3

namespace State

/-- Change ring control's own data. -/
def modRing (s : State) (f : Ring → Ring) : State := { s with ring := f s.ring }

/-- LINK_STATUS.STATE of a side or stitch port. -/
def linkSt (s : State) (k : Nat) : Nat := s.get (Pg.link k) R.LINK_STATUS_STATE

/-- The link is ACTIVE. -/
def linkActive (s : State) (k : Nat) : Bool := s.pageOn (Pg.link k) && s.linkSt k == 3

/-- A ring side is not down in the sense of R184: ACTIVE or LP_IDLE. -/
def sideUp (s : State) (k : Nat) : Bool := s.pageOn (Pg.link k) && (s.linkSt k == 3 || s.linkSt k == 4)

/-- RING_STATUS.STATE: 0 ISOLATED, 1 DISCOVER, 2 POSITION, 3 ANNOUNCE, 4 RUN, 5 SEGMENTED. -/
def ringState (s : State) : Nat := s.get Pg.master R.RING_STATUS_STATE

/-- RING_SIZE. -/
def ringSize (s : State) : Nat := s.get Pg.master R.RING_STATUS_RING_SIZE

/-- The position of this hub. -/
def ringPos (s : State) : Nat := s.get Pg.master R.RING_STATUS_POSITION

/-- This hub is the ring master. -/
def isMaster (s : State) : Bool := s.on Pg.master R.RING_STATUS_IS_MASTER

/-- The active data ring. -/
def dataRing (s : State) : Nat := s.get Pg.redun R.REDUN_STATUS_DATA_RING_ACTIVE

/-- The route entry of an index (R139). -/
def route (s : State) (i : Nat) : Nat := bitsOf (s.rd Pg.routes (0x800 + 4 * (i / 2))).toNat (16 * (i % 2)) 16

/-- Replace a route entry; ROUTES_CHANGED when DIR or REACHABLE change (R166). -/
def setRoute (s : State) (i v : Nat) : State :=
  let old := s.route i
  (s.put Pg.routes ⟨0x800 + 4 * (i / 2), 16 * (i % 2), 16⟩ v).when (bitsOf old 11 2 != bitsOf v 11 2) fun t =>
    t.event Pg.routes E.P063_ROUTES_CHANGED

/-- A ring or stitch path to the hub of an index can be used: VALID and REACHABLE (R140). -/
def routeUsable (s : State) (i : Nat) : Bool := bitOf (s.route i) 10 && bitOf (s.route i) 11

/-- Count an unroutable frame (R140, R166). -/
def unreachable (s : State) : State := (s.count Pg.redun R.CNT_UNREACHABLE).event Pg.redun E.P062_UNREACHABLE

/-- A side in LP_IDLE leaves it for a queued frame: IDLE_REQ of its lanes clears (R118). -/
def lpExit (s : State) (k : Nat) : State :=
  if s.linkSt k = 4 then
    (linkLanes k).foldl (fun t l =>
      t.wrLaneCmd l (bitsPut (t.rd (Pg.lane l) R.LANE_CMD.off).toNat 1 1 0)) s
  else s

/-- Move the frame admitted last into a fence. -/
def intoFence (s : State) (key : Nat) : State :=
  match s.core.queued.reverse with
  | [] => s
  | q :: r =>
    (s.modCore fun c => { c with queued := r.reverse }).modRing fun g =>
      { g with fences := g.fences.map fun x => if x.key = key then { x with frames := x.frames ++ [q] } else x }

/-- A fence of this key holds frames (R157, R158). -/
def fenced (s : State) (key : Nat) : Bool := s.ring.fences.any (·.key == key)

/-- Queue a frame for a side that is up: behind a fence of the restored link (R158), else at its point, ending LP_IDLE. -/
def sideQueue (s : State) (k : Nat) (f : Frame) : State × Bool :=
  let r := s.admitFrame k f
  if !r.2 then r
  else if s.fenced (1024 + k) && f.cls != 0 && f.ftype != 0x30 then (r.1.intoFence (1024 + k), true)
  else (r.1.lpExit k, true)

/-- The frame is this hub's own. -/
def ownFrame (s : State) (f : Frame) : Bool := s.nodeValid && f.srcNode == s.node && f.srcHub == s.hubPos

/-- A frame for a ring side (R148, R151, R152, R184): queued; or cut, when scheduled; or dropped, when ring management; or
wrapped at X; or dropped at Y. Whether it was queued. -/
def ringOut (s : State) (k : Nat) (f : Frame) : State × Bool :=
  let up := s.sideUp k
  if f.ftype = 0x30 then if up then s.sideQueue k f else (s, false)
  else if f.cls = 0 then if up then s.sideQueue k f else (s.count Pg.redun R.CNT_SCHED_CUT, false)
  else if up ∧ ¬ s.ring.wrapping.contains k then s.sideQueue k f
  else if isForward k then
    let hops := s.ringSize - 2
    let g := { f with wrapped := !(f.mcast && s.ownFrame f), hops := hops }
    if s.sideUp (otherSide k) then (s.count Pg.redun R.CNT_WRAPPED_FRAMES).sideQueue (otherSide k) g
    else if f.mcast then (s, false)
    else (s.count Pg.redun R.CNT_WRAP_END_DROP, false)
  else if f.mcast then (s, false)
  else (s.count Pg.redun R.CNT_WRAP_END_DROP, false)

/-- A unicast frame by the ring route of its destination, under a fence where one stands (R140, R157). -/
def ringRoute (s : State) (f : Frame) : State × Bool :=
  let e := s.route f.dst
  if !s.routeUsable f.dst then (s.unreachable, false)
  else
    let k := sideOf s.dataRing (bitsOf e 12 1)
    let g := { f with ring := s.dataRing }
    if s.fenced f.dst then
      let r := s.admitFrame k g
      if r.2 then (r.1.intoFence f.dst, true) else r
    else s.ringOut k g

/-- A frame for another hub of the own node (R128). -/
def stitchRoute (s : State) (f : Frame) : State × Bool :=
  let k := 3 + (f.dstHub + 4 - s.hubPos) % 4
  if s.linkActive k then s.sideQueue k f
  else if s.on (Pg.link k) R.STITCH_CFG_RING_FALLBACK then
    ((s.count (Pg.link k) R.CNT_FALLBACK).event (Pg.link k) 12).ringRoute f
  else (s.unreachable, false)

/-- The destination is another hub of the own node. -/
def sameNode (s : State) (f : Frame) : Bool := s.nodeValid && f.dstNode == s.node && f.dstHub != s.hubPos

/-- An express or bulk unicast frame of this hub, routed (R140). -/
def unicastOut (s : State) (f : Frame) : State × Bool := if s.sameNode f then s.stitchRoute f else s.ringRoute f

/-- Give a frame of this hub its source, SEQ, TS and HOPS (R92, R141). -/
def stamped (s : State) (f : Frame) : State × Frame :=
  let q := s.ring.seq.getD f.cls 0
  (s.modRing fun r => { r with seq := r.seq.set f.cls ((q + 1) % 65536) },
   { f with dstNode := if f.mcast then 255 else f.dstNode, srcNode := if s.nodeValid then s.node else 255, srcHub := s.hubPos, seq := q,
            ts := if s.timeValid then s.now % 2 ^ 32 else 0,
            hops := if f.mcast then s.ringSize - 2 else s.ringSize - 1 })

/-- The ingress point of a frame of this hub (R167): the bridge, the signal plane, or the management and time islands. -/
def originPoint (f : Frame) : Nat :=
  if 0x10 ≤ f.ftype ∧ f.ftype ≤ 0x14 then 7 else if f.ftype ≤ 0x02 then 138 else 8

/-- A frame of this hub enters the core at a point: stamped, and copied by the mirror sessions that match it (R192). -/
def entered (s : State) (point : Nat) (f : Frame) : State × Frame :=
  let r := s.stamped f
  (r.1.mirrorAt point 0 r.2, r.2)

/-- A hub without a valid node number sends no frame but ring management (R124); on a ring of one hub a multicast frame is
not sent (R141). Whether the frame found its way into a queue. -/
def sendFrom (s : State) (point : Nat) (f : Frame) : State × Bool :=
  if !s.nodeValid then (s, false)
  else if !f.mcast then
    let r := s.entered point f
    r.1.unicastOut r.2
  else if s.ringSize ≤ 1 then ((s.stamped f).1, true)
  else
    let r := s.entered point f
    r.1.ringOut (sideOf s.dataRing 0) { r.2 with ring := s.dataRing }

/-- A frame of the hub's own units is sent. DEDUCED, log entry 26. -/
def sendOwn (s : State) (f : Frame) : State × Bool := s.sendFrom (originPoint f) f

/-- A scheduled frame of this hub (R148): dual-sent in the forward direction of both rings, or on the data ring alone. How
many copies were queued. -/
def sendScheduled (s : State) (f : Frame) : State × Nat :=
  if !s.nodeValid ∨ (f.mcast ∧ s.ringSize ≤ 1) then (s, 0)
  else
    let r := s.entered 138 f
    if s.on Pg.redun R.REDUN_CFG_DUAL_EN && !s.on Pg.redun R.REDUN_STATUS_B_EXCLUDED then
      let x := r.1.ringOut (sideOf 0 0) { r.2 with ring := 0 }
      let y := x.1.ringOut (sideOf 1 0) { r.2 with ring := 1 }
      (y.1, b2n x.2 + b2n y.2)
    else
      let x := r.1.ringOut (sideOf s.dataRing 0) { r.2 with ring := s.dataRing }
      (x.1, b2n x.2)

/-! ### Ring management frames (R129, R130) -/

/-- The class of a ring management message: bulk for ANNOUNCE, MASTER_BEACON and ASSIGN_NODE, else express (R129). -/
def mgmtClass (code : Nat) : Nat := if code = 0x04 ∨ code = 0x05 ∨ code = 0x0A then 2 else 1

/-- PLEN of a ring management message; `none` for a code that is not in the table (R129). DESIGN CHOICE, log entry
28. -/
def mgmtLen (code : Nat) : Option Nat :=
  match code with
  | 0x01 | 0x02 | 0x04 => some 16 | 0x03 => some 20 | 0x05 => some 36 | 0x06 => some 7 | 0x07 => some 6
  | 0x08 | 0x09 => some 8 | 0x0A => some 12 | _ => none

/-- A ring management frame of this hub: PRIO 7; HOPS 1,023 in DISCOVER and POSITION (R130), else as R141. -/
def mgmtFrame (s : State) (code : Nat) (payload : List Byte) : State × Frame :=
  let r := s.entered 8 { cls := mgmtClass code, prio := 7, ftype := 0x30, aux := code, mcast := true, payload := payload }
  (r.1, if s.ringState ≤ 3 then { r.2 with hops := 1023 } else r.2)

/-- Send a ring management frame of this hub out of one side. DEDUCED, log entry 27. -/
def mgmtOut (s : State) (k code : Nat) (payload : List Byte) : State :=
  let r := s.mgmtFrame code payload
  (r.1.ringOut k { r.2 with ring := k / 2 }).1

/-- Send a ring management frame of this hub in both directions of both rings (R130). DESIGN CHOICE, log entry 39. -/
def flood (s : State) (code : Nat) (payload : List Byte) : State :=
  let r := s.mgmtFrame code payload
  [0, 1, 2, 3].foldl (fun t k => (t.ringOut k { r.2 with ring := k / 2 }).1) r.1

/-! ### Fences (R157, R158) -/

/-- The route to a destination changes direction: this hub's frames for it, queued or to come, are held. -/
def fenceDst (s : State) (i : Nat) : State :=
  if s.fenced i then s
  else
    let mine (q : Queued) : Bool :=
      q.point < 4 && q.frame.cls != 0 && !q.frame.mcast && q.frame.dst == i && s.ownFrame q.frame
    ((s.modRing fun r => { r with fences := r.fences ++ [{ key := i, frames := s.core.queued.filter mine }] }).modCore
      fun c => { c with queued := c.queued.filter fun q => !mine q }).setF Pg.redun R.REDUN_STATUS_FENCE_ACTIVE

/-- Release the frames of a fence in order (R157, R158). -/
def fenceRelease (s : State) (key : Nat) : State :=
  match s.ring.fences.find? (·.key == key) with
  | none => s
  | some x =>
    let t := s.modRing fun r => { r with fences := r.fences.filter (·.key != key) }
    let u := x.frames.foldl (fun t q =>
      if key < 1024 then (t.unicastOut q.frame).1 else (t.ringOut (key - 1024) q.frame).1) t
    u.putB Pg.redun R.REDUN_STATUS_FENCE_ACTIVE (!u.ring.fences.isEmpty)

/-- Set DIR and STEERED of a valid entry, under a fence where DIR changes (R156, R157, R165). -/
def steer (s : State) (i dir : Nat) (steered : Bool) : State :=
  let e := s.route i
  let v := bitsPut (bitsPut e 12 1 dir) 13 1 (b2n steered)
  (s.setRoute i v).when (bitOf e 10 && bitsOf e 12 1 != dir) fun t => t.fenceDst i

/-! ### What a link loss does to the frames of a side (R114, R151, R184) -/

/-- The frames returned from the replay buffer, then those queued for the side, wrapped or dropped as R184 says. -/
def drainSide (s : State) (k : Nat) (returned : List Frame) : State :=
  let l := (s.drainOrder k).map (·.frame)
  let t := s.modCore fun c => { c with queued := c.queued.filter (·.point != k) }
  (returned ++ l).foldl (fun t f =>
    if k < 4 then (t.ringOut k f).1
    else if t.on (Pg.link k) R.STITCH_CFG_RING_FALLBACK then
      ((t.count (Pg.link k) R.CNT_FALLBACK).event (Pg.link k) 12).ringRoute f |>.1
    else t.unreachable) t

end State

end Sys2Proof.Machine
end

