-- ==== Sys2Proof/Machine/EpochCore.lean ====
section
/-! DEFINITION. What other blocks need of the epochs (R547, R550): how a hub leaves PREPARED without a switch, how a
request ends, and what a change of master does. -/

namespace Sys2Proof.Machine

open Sys2Proof (Word Byte Agent Code AccessKind Instr LaneId LinkId EngineId)

/-- The pages whose PAGE_CAPS.HAS_RWE is 1 (R28, R539). -/
def rwePages : List Nat :=
  [Pg.digest] ++ (List.range 22).map Pg.lane ++ [Pg.sched, Pg.redun, Pg.directory] ++ (List.range 128).map Pg.engine

namespace State

/-- Change the epoch block's own data. -/
def modEpoch (s : State) (f : Epoch → Epoch) : State := { s with epoch := f s.epoch }

/-- EP_STATE: 0 IDLE, 1 PREPARED, 2 COMMITTED. -/
def epochState (s : State) : Nat := s.get Pg.epoch R.EP_STATE_STATE

/-- Bits of EPOCH_STATE in every page with RWE contents whose domain is on. -/
def markPages (s : State) (f : Fld) (b : Bool) : State :=
  rwePages.foldl (fun t p => t.when (t.pageOn p) fun t => t.putB p f b) s

/-- The hub returns to IDLE. -/
def epochIdle (s : State) : State :=
  (((s.put Pg.epoch R.EP_STATE_STATE 0).clrF Pg.epoch R.EP_STATE_IN_SCOPE).modEpoch fun x => { x with voteWaits := false })

/-- An epoch that this hub had prepared ends without a switch (R547): staged values stay. -/
def epochAborted (s : State) : State :=
  ((s.epochIdle.markPages R.EPOCH_STATE_ABORTED true).count Pg.epoch R.CNT_EPOCH_ABORTS).event Pg.epoch E.P00A_ABORTED

/-- It reached T, or another master, without a decision (R547, R550). -/
def epochUndecided (s : State) : State :=
  s.epochAborted.raise Pg.epoch K.EPOCH_UNDECIDED (s.rd Pg.epoch R.EP_PEND_NUM.off).toNat

/-- The lanes of a side whose RATE is staged take their active rate again. -/
def unstageRate (s : State) (k : Nat) : State :=
  (linkLanes k).foldl (fun t l =>
    let off := R.LANE_CFG.off
    t.stage (Pg.lane l) off (BitVec.ofNat 32 (bitsPut (t.rdStaged (Pg.lane l) off).toNat 0 2
      (t.get (Pg.lane l) R.LANE_CFG_RATE)))) s

/-- The rate change that THERMAL has in progress fails (R524): the side keeps its rate. -/
def thermalFail (s : State) : State :=
  match s.ral.rateJobs with
  | [] => s
  | j :: l => ((s.unstageRate j.1).modRal fun r => { r with rateJobs := l }).raise Pg.ralusk K.THERMAL_RATE_FAIL j.1

/-- The rate change that THERMAL has in progress has switched. -/
def thermalDone (s : State) : State :=
  s.modRal fun r => match r.rateJobs with
    | [] => r
    | j :: l => { r with rateJobs := l, lowered := if j.2.1 = 1 then addNew j.1 r.lowered else r.lowered.filter (· != j.1) }

/-- EP_REQ_STATUS shows a request as done (R543, R546). -/
def reqShow (s : State) (tag outcome : Nat) (refuser : Option Nat) : State :=
  let p := Pg.epoch
  let t := ((s.put p R.EP_REQ_STATUS_REQ_STATE 2).put p R.EP_REQ_STATUS_OUTCOME outcome).put p R.EP_REQ_STATUS_REQ_TAG tag
  ((t.put p R.EP_REQ_STATUS_REFUSER (refuser.getD 0)).putB p R.EP_REQ_STATUS_REFUSER_VALID refuser.isSome).event p
    E.P00A_REQ_DONE

/-- The request of this hub that waits is done: software's in EP_REQ_STATUS, THERMAL's with its side (R524, R550). -/
def reqDone (s : State) (outcome : Nat) (refuser : Option Nat) : State :=
  match s.epoch.waiting, s.epoch.thermal with
  | none, _ => s
  | some _, some _ =>
    let t := s.modEpoch fun x => { x with waiting := none, thermal := none }
    if outcome = 0 then t.thermalDone else t.thermalFail
  | some tag, none => (s.modEpoch fun x => { x with waiting := none }).reqShow tag outcome refuser

/-- Another master is named (R550, R555): a prepared epoch is undecided, a waiting request ends, an old master forgets the
epoch that it ran, and a new one starts with both bitmaps clear. -/
def masterChange (s : State) : State :=
  if !s.domainOn 0 then s
  else
    let t := s.when (s.epochState == 1) epochUndecided
    let t := t.reqDone 9 none
    let t := (t.modEpoch fun x => { x with run := none }).clrF Pg.epoch R.EP_STATE_COORDINATING
    ((List.range 64).foldl (fun t i => t.wr Pg.digest (0x800 + 4 * i) 0) t).put Pg.digest R.DIG_STATUS_MISMATCH 0

end State

end Sys2Proof.Machine
end

