-- ==== Sys2Proof/Machine/Signal.lean ====
section
/-! DEFINITION. The signal plane (R204 to R240, R625): the directory, publishing, the mirror and its validity states,
ownership conflicts, the synchronous latch. -/

namespace Sys2Proof.Machine

open Sys2Proof (Word Byte Agent Code AccessKind Instr LaneId LinkId EngineId)

/-- Key of word `w` of directory entry `i`. -/
def dirKey (i w : Nat) : Nat := regKey Pg.dirTable (16 * i + 4 * w)

/-- Fields of W0 to W2 of a directory entry (R206). -/
def dIdent (w0 : Nat) : Nat := w0 % 2 ^ 24
def dLen (w0 : Nat) : Nat := bitsOf w0 24 5 + 1
def dRole (w0 : Nat) : Nat := bitsOf w0 29 2
def dLatchEn (w0 : Nat) : Bool := bitOf w0 31

/-- Route index (NODE × 4 + HUB) of the effective owner that W0 and W1 name (R205). -/
def dOwner (w0 w1 : Nat) : Nat :=
  if bitOf w1 10 then w1 % 256 * 4 + bitsOf w1 8 2 else bitsOf w0 16 8 * 4 + bitsOf w0 14 2

namespace State

/-- Change the signal plane's own data. -/
def modSig (s : State) (f : Sig → Sig) : State := { s with sig := f s.sig }

/-! ### The directory -/

/-- Word `w` of an active entry, and of a staged one (R206, R208). -/
def dirW (s : State) (i w : Nat) : Nat := (s.rd Pg.dirTable (16 * i + 4 * w)).toNat
def dirS (s : State) (i w : Nat) : Nat := (s.rdStaged Pg.dirTable (16 * i + 4 * w)).toNat

/-- The indices of W0 words that a store lists. -/
def dirListed (m : Cells) : List Nat :=
  m.filterMap fun c =>
    if c.1 / 0x1000000 = Pg.dirTable ∧ c.1 % 16 = 0 then some (c.1 % 0x1000000 / 16) else none

/-- The active entries in use, ascending; an unlisted entry is unused. -/
def dirUsed (s : State) : List Nat := (dirListed s.regs).filter fun i => dRole (s.dirW i 0) != 0

/-- The staged entries in use. -/
def dirStagedUsed (s : State) : List Nat :=
  let l := dirListed s.regs
  (l ++ (dirListed s.staged).filter fun i => !l.contains i).filter fun i => dRole (s.dirS i 0) != 0

/-- Active entries of a role: 1 publish, 2 subscribe. -/
def dirRole (s : State) (r : Nat) : List Nat := s.dirUsed.filter fun i => dRole (s.dirW i 0) == r

/-- The active entry publishes; it subscribes. -/
def publishes (s : State) (i : Nat) : Bool := dRole (s.dirW i 0) == 1
def subscribes (s : State) (i : Nat) : Bool := dRole (s.dirW i 0) == 2

/-- The route index of this hub. -/
def selfIndex (s : State) : Nat := s.node * 4 + s.hubPos

/-- Effective owner, value length, unit kind, unit and binding slot of an active entry. -/
def ownerOf (s : State) (i : Nat) : Nat := dOwner (s.dirW i 0) (s.dirW i 1)
def lenOf (s : State) (i : Nat) : Nat := dLen (s.dirW i 0)
def unitKind (s : State) (i : Nat) : Nat := s.dirW i 2 % 16
def unitOf (s : State) (i : Nat) : Nat := bitsOf (s.dirW i 2) 4 7
def bindOf (s : State) (i : Nat) : Nat := bitsOf (s.dirW i 2) 11 5

/-- The active publish entry bound to a unit and slot, where there is one. -/
def boundEntry (s : State) (kind unit bind : Nat) : Option Nat :=
  s.dirUsed.find? fun i =>
    s.publishes i && s.unitKind i == kind && s.unitOf i == unit && (kind != 2 || s.bindOf i == bind)

/-- The active entry in use that holds an identifier. -/
def findIdent (s : State) (ident : Nat) : Option Nat := s.dirUsed.find? fun i => dIdent (s.dirW i 0) == ident

/-- The reason why a staged entry `i` with W0 = `w0` is refused (R207, R209); 0 for none. -/
def dirReason (s : State) (i w0 : Nat) : Nat :=
  let role := dRole w0
  let w1 := s.dirS i 1
  let w2 := s.dirS i 2
  let kind := w2 % 16
  let unit := bitsOf w2 4 7
  let others := s.dirStagedUsed.filter (· != i)
  if role = 0 then 0
  else if role = 3 ∨ bitsOf w1 28 2 = 3 ∨ 4 < kind ∨ (role = 1 ∧ kind ≠ 1 ∧ kind ≠ 2 ∧ kind ≠ 3)
      ∨ (role = 2 ∧ kind ≠ 0 ∧ kind ≠ 2 ∧ kind ≠ 4) then 1
  else if others.any fun j => dIdent (s.dirS j 0) == dIdent w0 then 2
  else if role = 1 ∧ dOwner w0 w1 ≠ s.selfIndex then 3
  else if role = 1 ∧ !bitOf w1 10 ∧ w0 % 2 ^ 14 ≠ i then 4
  else if dLatchEn w0 ∧ others.any (fun j => dLatchEn (s.dirS j 0) && bitsOf (s.dirS j 1) 16 12 == bitsOf w1 16 12) then 5
  else if (kind = 3 ∧ 64 ≤ unit) ∨ (kind = 4 ∧ 32 ≤ unit) then 6
  else if bitsOf w0 16 8 = 255 then 8
  else 0

/-- Record a refused directory write (R209). -/
def dirRefuse (s : State) (i reason : Nat) : State :=
  (s.wr Pg.directory R.DIR_STATUS.off (BitVec.ofNat 32 (2 ^ 31 + i * 16 + reason))).event Pg.directory E.P074_DIR_REFUSED

/-- A write to word `w` of staged entry `i` (R209); reserved bits stay 0. -/
def dirWrite (s : State) (i w : Nat) (v : Word) : State :=
  let x := v.toNat
  let keep := if w = 1 then x - b2n (bitOf x 11) * 2 ^ 11 - b2n (bitOf x 31) * 2 ^ 31 else if w = 3 then x % 8 else x
  let reason := if w = 0 then s.dirReason i x else if dRole (s.dirS i 0) = 0 then 0 else 7
  if reason = 0 then
    (s.stage Pg.dirTable (16 * i + 4 * w) (BitVec.ofNat 32 keep)).wr Pg.directory R.DIR_STATUS.off 0
  else s.dirRefuse i reason

/-! ### The mirror -/

/-- A mirror entry; a latch slot. -/
def mir (s : State) (i : Nat) : Mir := tabGet {} i s.sig.mir
def slot (s : State) (j : Nat) : LatchSlot := tabGet {} j s.sig.slots

/-- Replace a mirror entry; a latch slot. -/
def setMir (s : State) (i : Nat) (m : Mir) : State := s.modSig fun g => { g with mir := tabSet {} i m g.mir }
def setSlot (s : State) (j : Nat) (x : LatchSlot) : State := s.modSig fun g => { g with slots := tabSet {} j x g.slots }

/-- The validity of a mirror entry (R221). -/
def validityOf (s : State) (i : Nat) (m : Mir) : Nat :=
  if !m.got then 0
  else if s.publishes i then if m.srcValid then 1 else 3
  else if m.unreach then 4 else if m.stale then 2 else if m.srcValid then 1 else 3

/-- The validity of the mirror entry at an index. -/
def validity (s : State) (i : Nat) : Nat := s.validityOf i (s.mir i)

/-- Enter an index into the change queue (R224). -/
def chgEnter (s : State) (i : Nat) : State :=
  if s.sig.chg.contains i then s
  else if s.sig.chg.length < 512 then
    (s.modSig fun g => { g with chg := g.chg ++ [i] }).when (s.sig.chg.isEmpty) fun t =>
      t.event Pg.sigMirror E.P072_CHANGE
  else ((s.put Pg.sigMirror R.CHG_LOST (satAdd 16 (s.get Pg.sigMirror R.CHG_LOST) 1)).event Pg.sigMirror
    E.P072_CHG_OVERFLOW).raise Pg.sigMirror K.CHG_OVERFLOW 0

/-- Change a mirror entry. An update, or a change of validity, advances GEN by 2 (R230), enters the change queue (R224)
and is presented to the entry's sink (R223). DEDUCED, log entry 38. -/
def mirChange (s : State) (i : Nat) (update : Bool) (f : Mir → Mir) : State :=
  let m := s.mir i
  let v := s.validityOf i m
  let n := f m
  let w := s.validityOf i n
  if update || v != w then
    let t := s.setMir i { n with gen := (m.gen + 2) % 65536 }
    let t := t.when (w == 2 && v != 2) fun t => t.event Pg.sigMirror E.P072_STALE
    let t := t.when (w == 4 && v != 4) fun t => t.event Pg.sigMirror E.P072_UNREACHABLE
    let t := t.when (bitOf (s.dirW i 1) 30) fun t => t.chgEnter i
    t.when (s.subscribes i && (s.unitKind i == 2 || s.unitKind i == 4)) fun t =>
      t.modSig fun g => { g with toSinks := if g.toSinks.contains i then g.toSinks else g.toSinks ++ [i] }
  else s.setMir i n

/-- A value of the entry is superseded (R215). -/
def supersede (s : State) (i : Nat) : State :=
  let m := s.mir i
  (s.setMir i { m with superseded := satAdd 12 m.superseded 1 }).count Pg.publish R.CNT_SUPERSEDED

/-- VERSION after one more source update (R212). -/
def nextVersion (v : Nat) : Nat := if v + 1 < 2 ^ 32 then v + 1 else 1

/-- The event class of an entry: 0 scheduled only, 1 express, 2 bulk. -/
def eventClass (s : State) (i : Nat) : Nat := bitsOf (s.dirW i 1) 28 2

/-- The entry waits for an event bundle. -/
def isPending (s : State) (i : Nat) : Bool := s.sig.pendX.contains i || s.sig.pendB.contains i

/-- A source update of a publish entry (R212, R213, R215): the mirror takes value, validity and timestamp, VERSION
advances, the entry becomes pending. -/
def sourceUpdate (s : State) (i : Nat) (value : List Byte) (valid : Bool) (ts : Nat) : State :=
  if s.publishes i ∧ s.domainOn 4 then
    let c := s.eventClass i
    let t := s.when (s.isPending i) fun t => t.supersede i
    let t := t.mirChange i true fun m =>
      { m with value := bytesAt value 0 (s.lenOf i), version := nextVersion m.version, ts := ts, srcValid := valid,
               got := true, resync := false }
    t.modSig fun g =>
      if c = 1 then { g with pendX := if g.pendX.contains i then g.pendX else g.pendX ++ [i] }
      else if c = 2 then { g with pendB := if g.pendB.contains i then g.pendB else g.pendB ++ [i] }
      else g
  else s

/-- Fabric time as a timestamp: 0 while it is not valid (R15). DESIGN CHOICE, log entry 37. -/
def stamp (s : State) : Nat := if s.timeValid then s.now else 0

/-- The source of an entry goes down: its last value, no longer valid (R216). -/
def sourceDown (s : State) (i : Nat) : State :=
  let m := s.mir i
  if m.got ∧ m.srcValid then s.sourceUpdate i m.value false s.stamp else s

/-- The record of a publish entry, from the mirror (R101). -/
def recordOf (s : State) (i : Nat) : SigRec :=
  let m := s.mir i
  { ident := dIdent (s.dirW i 0), valid := m.srcValid, version := m.version, ts := m.ts, value := m.value }

/-- The route to an owner is usable (R221). -/
def ownerReachable (s : State) (o : Nat) : Bool :=
  let e := s.route o
  if !s.routeUsable o then false
  else if bitOf e 14 then
    let k := 3 + (o % 4 + 4 - s.hubPos) % 4
    s.linkActive k || s.on (Pg.link k) R.STITCH_CFG_RING_FALLBACK
  else true

/-- The routes have changed: entries become UNREACHABLE, or usable again with RESYNC (R221, R222). -/
def refreshReach (s : State) : State :=
  (s.dirRole 2).foldl (fun t i =>
    let up := t.ownerReachable (t.ownerOf i)
    if up ∧ (t.mir i).unreach then t.mirChange i false fun m => { m with unreach := false, resync := true }
    else if !up ∧ !(t.mir i).unreach then t.mirChange i false fun m => { m with unreach := true }
    else t) s

/-- An ANNOUNCE of hub `o` sets RESYNC in the entries it owns (R222). -/
def announcedOwner (s : State) (o : Nat) : State :=
  (s.dirUsed.filter fun i => s.subscribes i && s.ownerOf i == o).foldl (fun t i =>
    t.mirChange i false fun m => { m with resync := true }) s

/-! ### Ownership conflicts (R225 to R227) -/

/-- The ring master that MASTER_ID names. -/
def masterIndex (s : State) : Option Nat :=
  if s.on Pg.master R.MASTER_ID_VALID then
    some (s.get Pg.master R.MASTER_ID_NODE * 4 + s.get Pg.master R.MASTER_ID_HUB)
  else none

/-- Raise OWNERSHIP_CONFLICT, at most once in any 1 ms (R227). -/
def raiseConflict (s : State) (ident node : Nat) : State :=
  if s.sig.raised.any fun t => s.ns < t + 1000000 then s
  else (s.raise Pg.signal K.OWNERSHIP_CONFLICT (ident + node * 2 ^ 24)).modSig fun g => { g with raised := some s.ns }

/-- Note a conflict for a destination of notices (R226). -/
def noteConflict (s : State) (dst ident src : Nat) : State :=
  s.modSig fun g =>
    let one (n : Notice) : Notice :=
      if n.count = 0 then { n with ident := ident, node := src / 4, hub := src % 4, count := 1 }
      else { n with count := satAdd 32 n.count 1 }
    if g.notices.any (·.dst == dst) then { g with notices := g.notices.map fun n => if n.dst = dst then one n else n }
    else { g with notices := g.notices ++ [one { dst := dst }] }

/-- Record who conflicted (R225). -/
def conflictSeen (s : State) (ident src : Nat) (notice : Bool) : State :=
  (((s.wr Pg.signal R.CONFLICT_LAST.off (BitVec.ofNat 32 (2 ^ 31 + ident))).wr Pg.signal R.CONFLICT_SRC.off
    (BitVec.ofNat 32 (2 ^ 31 + b2n notice * 2 ^ 10 + src % 4 * 2 ^ 8 + src / 4))).event Pg.signal
      E.P070_OWNERSHIP_CONFLICT).modSig fun g => { g with conflictAt := some s.ns }

/-- A record whose source is not the effective owner (R225). -/
def conflict (s : State) (i ident src : Nat) : State :=
  let t := (s.count Pg.signal R.CNT_CONFLICT).conflictSeen ident src false
  let t := t.when (s.publishes i || s.isMaster) fun t => t.raiseConflict ident (src / 4)
  if s.subscribes i ∧ s.on Pg.signal R.SIG_CFG_NOTICE_EN then
    let dsts := s.ownerOf i :: (match s.masterIndex with
      | some m => if m = s.ownerOf i then [] else [m]
      | none => [])
    (dsts.filter (· != s.selfIndex)).foldl (fun t d => t.noteConflict d ident src) t
  else t

/-- A received CONFLICT_NOTICE (R227). -/
def noticeIn (s : State) (p : List Byte) : State :=
  if p.length = 12 ∧ p.getD 0 0 = 0x10 then
    let ident := leNat (bytesAt p 4 3)
    let node := (p.getD 1 0).toNat
    let t := (s.count Pg.signal R.CNT_NOTICE_RECEIVED).conflictSeen ident (node * 4 + (p.getD 2 0).toNat % 4) true
    let owner := match s.findIdent ident with
      | some i => s.publishes i
      | none => false
    t.when (owner || s.isMaster) fun t => t.raiseConflict ident node
  else (s.count Pg.signal R.CNT_BAD_RECORD).event Pg.signal E.P070_BAD_RECORD

/-! ### Receiving (R218, R219, R237) -/

/-- Count a record or LATCH frame that is not well formed. -/
def badRecord (s : State) : State := (s.count Pg.signal R.CNT_BAD_RECORD).event Pg.signal E.P070_BAD_RECORD

/-- A newer value replaces one that the sink has not taken (R215, R223). -/
def sinkSupersede (s : State) (i : Nat) : State :=
  if s.subscribes i ∧ (s.unitKind i = 2 ∨ s.unitKind i = 4) ∧ (s.mir i).untaken then s.supersede i else s

/-- A bundle record for a mirror entry (R219). -/
def updateRecord (s : State) (i : Nat) (r : SigRec) : State :=
  let m := s.mir i
  let d := (r.version + 2 ^ 32 - m.version) % 2 ^ 32
  if !m.got ∨ m.resync ∨ (1 ≤ d ∧ d < 2 ^ 31) then
    ((s.sinkSupersede i).mirChange i true fun m =>
      { m with value := r.value, version := r.version, ts := r.ts, srcValid := r.valid, got := true, stale := false,
               resync := false, untaken := true }).count Pg.signal R.CNT_ACCEPTED
  else if d = 0 then s.mirChange i false fun m => { m with stale := false }
  else s.count Pg.signal R.CNT_OLD_VERSION

/-- A latch RESULT record for the slot of an entry (R237). -/
def slotRecord (s : State) (i key : Nat) (r : SigRec) : State :=
  if dLatchEn (s.dirW i 0) then
    let j := bitsOf (s.dirW i 1) 16 12
    ((s.setSlot j { value := r.value, version := r.version, time := r.ts, key := key, valid := r.valid, ident := r.ident,
                    gen := ((s.slot j).gen + 2) % 256 }).count Pg.latch R.CNT_LATCH_RX).count Pg.signal R.CNT_ACCEPTED
  else s

/-- One record of a delivered frame (R218). `latch` is the key of a RESULT. -/
def recordIn (s : State) (src : Nat) (latch : Option Nat) (r : SigRec) : State :=
  let t := s.count Pg.signal R.CNT_RX_RECORDS
  if r.version = 0 then t.badRecord
  else
    match s.findIdent r.ident with
    | none => t.count Pg.signal R.CNT_NOT_SUBSCRIBED
    | some i =>
      if r.value.length ≠ s.lenOf i then t.badRecord
      else if s.ownerOf i ≠ src then t.conflict i r.ident src
      else
        match latch with
        | some key => t.slotRecord i key r
        | none => t.updateRecord i r

/-- The records of a delivered bundle, in order (R218, R220). -/
def bundleIn (s : State) (src : Nat) (rs : List SigRec) : State :=
  if s.domainOn 4 then rs.foldl (fun t r => t.recordIn src none r) s else s

/-! ### Event bundles (R213, R214) -/

/-- The entries that a bundle takes, in order, from a list (R145, R214): each is added while PLEN stays at most `room`. -/
def fitting (s : State) : Nat → List Nat → List Nat
  | _, [] => []
  | room, i :: t =>
    let size := 16 + (s.lenOf i + 3) / 4 * 4
    if size ≤ room then i :: s.fitting (room - size) t else s.fitting room t

/-- A bundle of records of this hub. DESIGN CHOICE, log entry 39. -/
def bundle (s : State) (cls prio : Nat) (l : List Nat) : Frame :=
  { cls := cls, prio := prio, ftype := 0x01, mcast := true, aux := l.length,
    payload := l.flatMap fun i => (s.recordOf i).bytes }

/-- Assemble the event bundle of a class (1 express, 2 bulk) and PRIO (R214). On a ring of one hub it is delivered here
alone (R141). -/
def assemble (s : State) (cls prio : Nat) : State :=
  let pend := if cls = 1 then s.sig.pendX else s.sig.pendB
  let l := s.fitting 256 <| pend.filter fun i =>
    !s.sig.gap.contains i && s.eventClass i == cls && s.dirW i 3 % 8 == prio
  if s.sig.waiting.contains (cls, prio) ∨ l = [] ∨ !s.nodeValid ∨ !s.domainOn 4 then s
  else
    let f := s.bundle cls prio l
    let recs := l.map s.recordOf
    let gapped := l.filter fun i => bitsOf (s.dirW i 2) 16 16 != 0
    let t := s.modSig fun g =>
      { g with pendX := if cls = 1 then g.pendX.filter (fun i => !l.contains i) else g.pendX,
               pendB := if cls = 1 then g.pendB else g.pendB.filter (fun i => !l.contains i),
               gap := g.gap ++ gapped }
    let t := t.countN Pg.publish R.CNT_EVENT_RECORDS l.length
    let t := t.count Pg.publish (if cls = 1 then R.CNT_EVENT_FRAMES_EXPRESS else R.CNT_EVENT_FRAMES_BULK)
    let r := t.sendOwn f
    if s.ringSize ≤ 1 then r.1.bundleIn s.selfIndex recs
    else r.1.when r.2 fun t => t.modSig fun g => { g with waiting := g.waiting ++ [(cls, prio)] }

/-- A frame of this hub has left the core: an event bundle no longer waits (R214). -/
def bundleGone (s : State) (f : Frame) : State :=
  if f.ftype = 0x01 ∧ f.mcast ∧ f.cls ≠ 0 ∧ s.ownFrame f then
    s.modSig fun g => { g with waiting := g.waiting.filter (· != (f.cls, f.prio)) }
  else s

/-! ### The host's array (R217, R228) -/

/-- The code of an access to BAR2 or region 1 before its own rule (R228). -/
def mirrorCode (s : State) : Code :=
  if !s.domainOn 4 then .domainOff else if s.islandStopped Pg.sigMirror then .islandRefused
  else if !s.ready Pg.sigMirror then .notReady else .ok

/-- The entry that a write request publishes (R217): it begins at the slot, stays within it, covers bytes 0 to LEN, and
the entry is a publish entry of a host. -/
def hostEntry (s : State) (off len : Nat) : Option Nat :=
  let i := off / 32
  if off < 0x80000 ∧ off % 32 = 0 ∧ len ≤ 32 ∧ s.publishes i ∧ s.unitKind i = 1 ∧ s.lenOf i ≤ len then some i else none

/-- A write request to BAR2 or region 1 (R217, R622). -/
def hostPublish (s : State) (a : Agent) (kind : AccessKind) (off : Nat) (data : List Byte) : State × Code :=
  let refuse (t : State) (c : Code) : State × Code := (t.logAccess c kind a (s.ownAddr 1 off) (some Pg.sigMirror), c)
  let owner := s.isOwner a || s.granted a Pg.sigMirror
  if !s.domainOn 4 then refuse s (if owner then .domainOff else .notOwner)
  else
    match s.hostEntry off data.length with
    | none => refuse ((s.count Pg.publish R.CNT_HOST_REFUSED).event Pg.publish E.P071_HOST_WRITE_REFUSED) .unsupported
    | some i =>
      if !owner then refuse s .notOwner
      else
        match s.mirrorCode with
        | .ok => ((s.count Pg.publish R.CNT_HOST_WRITES).sourceUpdate i data true s.stamp, .ok)
        | c => refuse s c

/-- A metadata entry (R228). -/
def metaBytes (s : State) (i : Nat) : List Byte :=
  let m := s.mir i
  leBytes 4 m.version ++ leBytes 8 m.ts
    ++ leBytes 4 (s.validity i + b2n m.resync * 8 + m.superseded % 4096 * 16 + m.gen % 65536 * 65536)

/-- A latch slot (R237). -/
def slotBytes (s : State) (j : Nat) : List Byte :=
  let x := s.slot j
  bytesAt x.value 0 32 ++ leBytes 4 x.version ++ leBytes 8 x.time ++ leBytes 4 (x.key % 2 ^ 18 + b2n x.valid * 2 ^ 18)
    ++ leBytes 4 (x.ident + x.gen % 256 * 2 ^ 24) ++ List.replicate 12 0

/-- A byte of BAR2 and region 1 (R228). -/
def mirrorByte (s : State) (off : Nat) : Byte :=
  if off < 0x80000 then (s.mir (off / 32)).value.getD (off % 32) 0
  else if off < 0xC0000 then (s.metaBytes ((off - 0x80000) / 16)).getD (off % 16) 0
  else if off < 0x100000 then (s.slotBytes ((off - 0xC0000) / 64)).getD (off % 64) 0
  else 0

/-- Bytes as the words of a read's answer, little-endian. -/
def wordsOf : Nat → List Byte → List Word
  | 0, _ => []
  | _, [] => []
  | n + 1, bs => BitVec.ofNat 32 (leNat (bs.take 4)) :: wordsOf n (bs.drop 4)

/-- A read of BAR2 or region 1: the bytes, and the code (R228, R229). -/
def mirrorRead (s : State) (a : Agent) (off len : Nat) : State × List Byte × Code :=
  match s.mirrorCode with
  | .ok => (s, (List.range len).map fun n => s.mirrorByte (off + n), .ok)
  | c => (s.logAccess c .read a (s.ownAddr 1 off) (some Pg.sigMirror), List.replicate len 0xFF, c)

/-! ### The synchronous latch (R232 to R237) -/

/-- The key of this hub's latch of an ID, as ARMED shows it in [17:0]. -/
def latchKey (s : State) (ident : Nat) : Nat := ident % 256 + s.node * 2 ^ 8 + s.hubPos * 2 ^ 16

/-- Bytes 1 to 3 of a LATCH payload, with flags in byte 3 from bit 2 on. -/
def keyBytes (key flags : Nat) : List Byte :=
  [BitVec.ofNat 8 key, BitVec.ofNat 8 (key / 2 ^ 8), BitVec.ofNat 8 (key / 2 ^ 16 % 4 + flags * 4)]

/-- The key in bytes 1 to 3 of a LATCH payload. -/
def keyOf (p : List Byte) : Nat :=
  (p.getD 1 0).toNat + (p.getD 2 0).toNat * 2 ^ 8 + (p.getD 3 0).toNat % 4 * 2 ^ 16

/-- A multicast LATCH frame of this hub. DESIGN CHOICE, log entry 40. -/
def latchFrame (key : Nat) (p : List Byte) : Frame :=
  { cls := 1, prio := Config.latchPrio.val, ftype := 0x02, mcast := true, aux := key % 256, payload := p }

/-- A RESULT frame; flags 1 TIME_INVALID, 2 MISSED, 4 LAST (R232). -/
def resultFrame (key time flags : Nat) (rs : List SigRec) : Frame :=
  latchFrame key ([0x03] ++ keyBytes key flags ++ leBytes 8 time ++ leBytes 1 rs.length ++ [0, 0, 0]
    ++ rs.flatMap (·.bytes))

/-- A key is armed. -/
def isArmed (s : State) (key : Nat) : Bool := s.sig.armed.any (·.key == key)

/-- Arm a key, or replace its time. -/
def armKey (s : State) (key time : Nat) : State :=
  s.modSig fun g =>
    if g.armed.any (·.key == key) then
      { g with armed := g.armed.map fun x => if x.key = key then { x with time := time } else x }
    else { g with armed := g.armed ++ [{ key := key, time := time }] }

/-- Disarm a key. -/
def disarm (s : State) (key : Nat) : State := s.modSig fun g => { g with armed := g.armed.filter (·.key != key) }

/-- LATCH_CMD.ARM (R233). -/
def latchArm (s : State) : State :=
  let key := s.latchKey (s.get Pg.latch R.LATCH_ID)
  let time := (s.rd Pg.latch R.LATCH_TIME_LO.off).toNat + 2 ^ 32 * (s.rd Pg.latch R.LATCH_TIME_HI.off).toNat
  let lead := Nat.max 10 (s.get Pg.latch R.LATCH_LEAD_US % 65536)
  if !s.timeValid ∨ time < s.now + 1000 * lead ∨ (4 ≤ s.sig.armed.length ∧ !s.isArmed key) then
    s.event Pg.latch E.P073_ARM_REFUSED
  else ((s.armKey key time).sendOwn (latchFrame key ([0x01] ++ keyBytes key 0 ++ leBytes 8 time))).1

/-- LATCH_CMD.CANCEL (R234). -/
def latchCancel (s : State) : State :=
  let key := s.latchKey (s.get Pg.latch R.LATCH_ID)
  ((s.disarm key).sendOwn (latchFrame key ([0x02] ++ keyBytes key 0))).1

/-- A latch missed here, or without a valid time (R234, R236): counted, shown, and answered without records. -/
def latchMissed (s : State) (key time flag : Nat) : State :=
  let t := (s.count Pg.latch R.CNT_LATCH_MISSED).wr Pg.latch R.LATCH_LAST.off
    (BitVec.ofNat 32 (2 ^ 31 + key + b2n (flag == 1) * 2 ^ 20 + b2n (flag == 2) * 2 ^ 21))
  ((t.event Pg.latch E.P073_LATCH_MISSED).sendOwn (resultFrame key time (flag + 4) [])).1

/-- A received ARM (R234). -/
def armIn (s : State) (p : List Byte) : State :=
  if p.length = 12 ∧ p.getD 0 0 = 0x01 then
    let key := keyOf p
    let time := leNat (bytesAt p 4 8)
    if (s.timeValid ∧ time ≤ s.now) ∨ (4 ≤ s.sig.armed.length ∧ !s.isArmed key) then s.latchMissed key time 2
    else s.armKey key time
  else s.badRecord

/-- A received CANCEL (R234). -/
def cancelIn (s : State) (p : List Byte) : State :=
  if p.length = 4 ∧ p.getD 0 0 = 0x02 then s.disarm (keyOf p) else s.badRecord

/-- A received RESULT (R232, R237). -/
def resultIn (s : State) (src : Nat) (p : List Byte) : State :=
  if 16 ≤ p.length ∧ p.getD 0 0 = 0x03 then
    match parseBundle 20 (p.drop 16) with
    | none => s.badRecord
    | some rs =>
      if rs.length = (p.getD 12 0).toNat then
        let t := s.when (bitOf (p.getD 3 0).toNat 4) fun t => t.event Pg.latch E.P073_RESULT_LAST
        rs.foldl (fun t r => t.recordIn src (some (keyOf p)) r) t
      else s.badRecord
  else s.badRecord

/-- A delivered LATCH frame (R232). -/
def latchIn (s : State) (src : Nat) (p : List Byte) : State :=
  if !s.domainOn 4 then s
  else if p.getD 0 0 = 0x01 then s.armIn p
  else if p.getD 0 0 = 0x02 then s.cancelIn p
  else if p.getD 0 0 = 0x03 then s.resultIn src p
  else if p.getD 0 0 = 0x10 then s.noticeIn p
  else s.badRecord

/-- Divide records into RESULT frames of at most 240 bytes (R236). DEDUCED, log entry 38. -/
def resultChunks : List SigRec → List SigRec → Nat → List (List SigRec)
  | [], acc, _ => [acc.reverse]
  | r :: t, acc, room =>
    let size := r.bytes.length
    if size ≤ room then resultChunks t (r :: acc) (room - size)
    else acc.reverse :: resultChunks t [r] (240 - size)

/-- Send the frames of a list, the last with LAST. -/
def sendResults (s : State) (key time : Nat) : List (List SigRec) → State
  | [] => s
  | [rs] => (s.sendOwn (resultFrame key time 4 rs)).1
  | rs :: t => ((s.sendOwn (resultFrame key time 0 rs)).1).sendResults key time t

/-- The RESULT frames of a latch that has fired (R236): once every field input has been evaluated. The records go to this
hub's own slots as well (R237). -/
def resultSend (s : State) (key : Nat) : State :=
  match s.sig.fired.find? (·.key == key) with
  | none => s
  | some x =>
    if x.samples.any (·.field) then s
    else
      let t := s.modSig fun g => { g with fired := g.fired.filter (·.key != key) }
      let recs := (x.samples.filter fun q => q.version != 0).map fun q =>
        (q.index, ({ ident := dIdent (s.dirW q.index 0), valid := q.valid, version := q.version, ts := q.time,
                     value := q.value } : SigRec))
      let t := recs.foldl (fun t r => t.slotRecord r.1 key r.2) t
      t.sendResults key x.time (resultChunks (recs.map (·.2)) [] 240)

/-! ### The switch of the directory at an epoch (R210) -/

/-- Treat the mirror entry of an index whose directory words change from `o0`, `o1` to the present ones. -/
def dirSwitched (s : State) (i o0 o1 : Nat) : State :=
  let w0 := s.dirW i 0
  let w1 := s.dirW i 1
  if o0 % 2 ^ 31 ≠ w0 % 2 ^ 31 then
    let m := s.mir i
    (s.setMir i { gen := m.gen }).modSig fun g =>
      { g with pendX := g.pendX.filter (· != i), pendB := g.pendB.filter (· != i), gap := g.gap.filter (· != i) }
  else if o1 % 2 ^ 11 ≠ w1 % 2 ^ 11 then s.mirChange i false fun m => { m with resync := true }
  else s

/-! ### Writes to the pages of the signal plane -/

/-- Empty the change queue's oldest index (R224). -/
def chgPop (s : State) : State × Word :=
  match s.sig.chg with
  | [] => (s, 0)
  | i :: t => (s.modSig fun g => { g with chg := t }, BitVec.ofNat 32 (2 ^ 31 + i))

/-- The command register of page 0x072 (R222, R238): SUPERSEDED_CLEAR, RESYNC_ALL. -/
def mirrorCmd (s : State) (v : Nat) : State :=
  let t := s.when (bitOf v 0) fun t =>
    (t.sig.mir.map (·.1)).foldl (fun t i => t.setMir i { t.mir i with superseded := 0 }) t
  t.when (bitOf v 1) fun t => t.dirUsed.foldl (fun t i => t.mirChange i false fun m => { m with resync := true }) t

/-- The effect of a write to a page of the signal plane. -/
def wrSignal (p : Nat) (s : State) (off : Nat) (v : Word) : State :=
  if (p = Pg.signal ∧ off = R.SIG_CMD.off) ∨ (p = Pg.publish ∧ off = R.PUB_CMD.off) then
    s.when (bitOf v.toNat 0) fun t => t.cntClear p
  else if p = Pg.sigMirror ∧ off = R.SIGMIR_CMD.off then s.mirrorCmd v.toNat
  else if p = Pg.latch ∧ off = R.LATCH_CMD.off then
    let t := s.when (bitOf v.toNat 2) fun t => t.cntClear p
    let t := t.when (bitOf v.toNat 0) latchArm
    t.when (bitOf v.toNat 1) latchCancel
  else if p = Pg.directory ∧ 0x800 ≤ off then
    s.dirWrite (128 * (s.get p R.DIR_WIN_BASE % 128) + (off - 0x800) / 16) (off % 16 / 4) v
  else s.storeWrite p off v

end State

end Sys2Proof.Machine
end

