-- ==== Sys2Proof/Machine/Sinks.lean ====
section
/-! DEFINITION. What drives port engines and field outputs from the signal mirror (R223, R279, R296, R299, R317, R350, R351,
R357, R358), and the end of a meaning that may have changed the mirror. -/

namespace Sys2Proof.Machine

open Sys2Proof (Word Byte Agent Code AccessKind Instr LaneId LinkId EngineId)

/-- SMBus PEC (R298). -/
def pec (bs : List Byte) : Byte := BitVec.ofNat 8 (crcMsb 8 0x07 0x00 bs)


namespace State

/-- Change the bridge's own data. -/
def modBridge (s : State) (f : Bridge → Bridge) : State := { s with bridge := f s.bridge }

/-- The data of an engine beside its page. -/
def eng (s : State) (e : Nat) : Eng := tabGet {} e s.engs

/-- Change the data of an engine. -/
def modEng (s : State) (e : Nat) (f : Eng → Eng) : State := { s with engs := tabSet {} e (f (s.eng e)) s.engs }

/-- MODE of an engine. -/
def engMode (s : State) (e : Nat) : Nat := s.get (Pg.engine e) R.ENG_CFG_MODE

/-- A field of a mode register. -/
def mget (s : State) (e m : Nat) (f : Fld) : Nat := s.get (Pg.mode e m) f
def mon (s : State) (e m : Nat) (f : Fld) : Bool := s.on (Pg.mode e m) f

/-- The engine is up (R185). -/
def engUp (s : State) (e : Nat) : Bool := !s.core.downEngines.contains e

/-- What happens at an engine that is up in a mode; elsewhere nothing does. -/
def inMode (s : State) (e m : Nat) (f : State → State) : State := if s.engUp e && s.engMode e == m then f s else s

/-- Word `w` of an active binding slot. -/
def slotW (s : State) (e b w : Nat) : Nat := (s.rd (Pg.engine e) (0x800 + 16 * b + 4 * w)).toNat

/-- SKIND, VPOS, PARAM_A and PARAM_B of a slot. -/
def slotKind (s : State) (e b : Nat) : Nat := s.slotW e b 0 % 16
def slotVpos (s : State) (e b : Nat) : Nat := bitsOf (s.slotW e b 0) 8 8
def slotA (s : State) (e b : Nat) : Nat := bitsOf (s.slotW e b 0) 16 8
def slotB (s : State) (e b : Nat) : Nat := bitsOf (s.slotW e b 0) 24 8

/-- The slot is active, as the last evaluation found (BIND_STATUS). -/
def slotOn (s : State) (e b : Nat) : Bool := bitOf (s.rd (Pg.engine e) R.BIND_STATUS.off).toNat b

/-- The active directory entries in use that name a slot (R278). -/
def namedBy (s : State) (e b : Nat) : List Nat :=
  s.dirUsed.filter fun i => s.unitKind i == 2 && s.unitOf i == e && s.bindOf i == b

/-- The engine whose slots an engine uses (R334): a standing pair uses those of the even engine. -/
def slotHome (s : State) (e : Nat) : Nat := if s.engMode e = 6 ∧ s.canPaired e then e / 2 * 2 else e

/-- The role of a CAN FD engine in its pair (R334): 0 none, 1 active, 2 standby. -/
def canRole (s : State) (e : Nat) : Nat :=
  if s.engMode e = 6 ∧ s.canPaired e then
    if s.mon e 6 R.CAN_STATUS_PAIR_ACTIVE then 1 else if s.mon e 6 R.CAN_STATUS_PAIR_STANDBY then 2 else 0
  else 0

/-- The entry of an active slot, where it publishes; where it subscribes. -/
def pubEntry (s : State) (e b : Nat) : Option Nat := if s.slotOn e b then (s.namedBy e b).find? s.publishes else none
def subEntry (s : State) (e b : Nat) : Option Nat := if s.slotOn e b then (s.namedBy e b).find? s.subscribes else none

/-- The sink has taken the value of an entry. -/
def sinkTook (s : State) (i : Nat) : State := s.setMir i { s.mir i with untaken := false }

/-- The partner of an engine in a pair. -/
def partner (e : Nat) : Nat := if e % 2 = 0 then e + 1 else e - 1

/-- Present the newest value or the validity of a subscribe entry to its engine (R223, R279, R299, R317). -/
def presentTo (s : State) (i : Nat) : State :=
  let e := s.unitOf i
  let b := s.bindOf i
  if s.unitKind i ≠ 2 ∨ !s.slotOn e b ∨ s.validity i ≠ 1 ∨ !(s.mir i).untaken then s
  else if s.engMode e = 7 then
    s.inMode e 7 fun t =>
      (t.put (Pg.mode e 7) R.DISC_STATE_DRIVEN (((t.mir i).value.getD 0 0).toNat % 16)).sinkTook i
  else if s.engMode e = 6 then
    let x := if s.canRole e = 0 ∨ s.canRole e = 1 then e else partner e
    if s.mget x 6 R.CAN_CFG_OPMODE = 1 then s
    else s.modEng x fun g =>
      { g with pend := if g.pend.contains b then g.pend else g.pend ++ [b],
               attempt := g.attempt.map fun a => if a.cand = b then { a with renewed := true } else a }
  else s

/-- SMBUS is 1. -/
def smbus (s : State) (e : Nat) : Bool := s.mon e 4 R.I2C_CFG_SMBUS

/-- The fabric address of a SKIND 3 slot. -/
def remoteAddr (s : State) (e b : Nat) : Nat := s.slotW e b 2 % 65536 * 2 ^ 32 + s.slotW e b 3

/-- The engine's kept answer for an address. -/
def keptFor (s : State) (e addr : Nat) : Option Answer := s.bridge.answers.find? fun a => a.engine == e && a.addr == addr

/-- A target answers a read: the bytes, with PEC for slots of LEN above 0 under SMBUS (R298). -/
def targetAnswer (s : State) (e : Nat) (d : List Byte) : State :=
  s.emit (.bytes (Pg.engine e) 4 (if s.smbus e && 1 < d.length then d ++ [pec d] else d))

/-- A target NAKs. -/
def targetNak (s : State) (e : Nat) : State := s.emit (.bytes (Pg.engine e) 5 [])

/-- A stretched read is answered as soon as its answer stands (R264, R296). -/
def targetServe (s : State) (e : Nat) : State :=
  match (s.eng e).stretch with
  | none => s
  | some b =>
    let free (t : State) : State := t.modEng e fun g => { g with stretch := none }
    if s.slotKind e b = 3 then
      match s.keptFor e (s.remoteAddr e b) with
      | none => s
      | some a =>
        let t := free (s.modBridge fun x => { x with answers := x.answers.filter (· != a) })
        if a.outcome = 0 then t.targetAnswer e a.data else t.targetNak e
    else
      match s.subEntry e b with
      | some i => if s.validity i = 1 then (free (s.sinkTook i)).targetAnswer e (s.mir i).value else s
      | none => s


/-! ### Field outputs (R350 to R358) -/

/-- The data of a field output beside its pages, and a change of it. -/
def fout (s : State) (o : Nat) : FieldOut := tabGet {} o s.field.outs
def modFout (s : State) (o : Nat) (f : FieldOut → FieldOut) : State :=
  { s with field := { s.field with outs := tabSet {} o (f (s.fout o)) s.field.outs } }

/-- The subscribe entry that drives an output (R350): one alone, of LEN 0. -/
def outEntry (s : State) (o : Nat) : Option Nat :=
  match (s.dirRole 2).filter fun i => s.unitKind i == 4 && s.unitOf i == o with
  | [i] => if s.lenOf i = 1 then some i else none
  | _ => none

/-- The safe state of the field outputs is forced: by the Thresher, or by the power and field die (R7, R8, R357). -/
def fieldForced (s : State) : Bool := s.on Pg.thresher R.THR_STATUS_SAFE_HUB || s.die.lost

/-- A latched OVERCURRENT, THERMAL or SHED of an output. -/
def outLatched (s : State) (o : Nat) : Bool := bitOf (s.rd Pg.fout R.FOUT_FAULT.off).toNat o

/-- The signal-driven output counts as one whose entry is not VALID (R350, R351). -/
def outInvalid (s : State) (i : Nat) : Bool :=
  !s.domainOn 4 || !s.ready Pg.sigMirror || !s.ready Pg.directory || s.validity i != 1

/-- A safe level (R357), where `held` is the level to hold. -/
def safeLevel (safe : Nat) (held : Bool) : Bool := if safe = 1 then true else if safe = 2 then held else false

/-- The level that a source gives an output without faults or forcing, and whether the source is a valid one. -/
def outSource (s : State) (o : Nat) : Bool × Bool :=
  let p := Pg.foutCfg
  let x := s.fout o
  if s.on p (R.FOUT_CFG_SRC o) then
    match s.outEntry o with
    | none => (false, true)
    | some i =>
      if s.outInvalid i then
        (if s.on p (R.FOUT_CFG_INVALID_SAFE o) then safeLevel (s.get p (R.FOUT_CFG_SAFE o)) x.last else x.last, false)
      else (bitOf ((s.mir i).value.getD 0 0).toNat 0, true)
  else (bitOf (s.rd p R.FOUT_SET.off).toNat o, true)

/-- An output takes the level of the first cause that applies (R358). DEDUCED, log entry 53. -/
def outDrive (s : State) (o : Nat) : State :=
  let p := Pg.fout
  let forced := s.fieldForced
  let was := s.on p (R.FOUT_STAT_SAFE_FORCED o)
  let s := s.when (forced && !was) fun t =>
    t.modFout o fun x => { x with held := t.on Pg.fout (R.FOUT_STAT_ON o) }
  let src := s.outSource o
  let level := if s.outLatched o then false
    else if forced then safeLevel (s.fout o).safe (s.fout o).held
    else src.1
  let t := s.when src.2 fun t => t.modFout o fun x => { x with last := src.1 }
  let t := (t.putB p (R.FOUT_STAT_ON o) level).putB p ⟨R.FOUT_STATE.off, o, 1⟩ level
  let t := (t.putB p (R.FOUT_STAT_SAFE_FORCED o) forced).putB p ⟨R.FOUT_SAFE.off, o, 1⟩ forced
  t.when (forced && !was) fun t => t.event p E.P027_SAFE_FORCED

/-- Every output takes its level. -/
def outDriveAll (s : State) : State := (List.range 32).foldl outDrive s

/-! ### The end of a step that changed the mirror -/

/-- Present the entries that changed to their sinks (R223), and answer stretched reads whose answer stands (R264,
R296). DESIGN CHOICE, log entry 7. -/
def flushSinks (s : State) : State :=
  let t := s.modSig fun g => { g with toSinks := [] }
  let t := s.sig.toSinks.foldl (fun t i =>
    if t.unitKind i = 4 then
      let u := if t.validity i = 1 then t.sinkTook i else t
      u.outDrive (t.unitOf i)
    else t.presentTo i) t
  (t.engs.filter fun x => x.2.stretch.isSome).foldl (fun t x => t.targetServe x.1) t

end State

/-- The end of a meaning that may have changed the mirror, or brought an answer. DESIGN CHOICE, log entry 7. -/
def finishAll (s : State) : Host.Outcome State Fault Refusal := finish s.flushSinks

end Sys2Proof.Machine
end

