-- ==== Sys2Proof/Machine/SignalRows.lean ====
section
/-! DEFINITION. The commands of the signal plane (rows DIR_WRITE_W0 to RESULT). -/

namespace Sys2Proof.Machine

open Sys2Proof (Word Byte Agent Code AccessKind Instr LaneId LinkId EngineId)

/-- DIR_WRITE_W0 (R209, R239). -/
def execDirWriteW0 (a : Agent) (i : Fin 16384) (v : Word) (s : State) : Host.Outcome State Fault Refusal :=
  finishAll (s.guardedAt a .posted Pg.directory 0x800 (s.ownAddr 2 (16 * i)) fun t => t.dirWrite i 0 v).1

/-- DIR_WRITE_W123 (R209, R239). -/
def execDirWriteW123 (a : Agent) (i : Fin 16384) (w : Fin 3) (v : Word) (s : State) :
    Host.Outcome State Fault Refusal :=
  finishAll (s.guardedAt a .posted Pg.directory 0x800 (s.ownAddr 2 (16 * i + 4 * (w + 1))) fun t =>
    t.dirWrite i (w + 1) v).1

/-- SOURCE_UPDATE (R212, R213): the binding of an engine or a field input delivers. -/
def execSourceUpdate (i : Fin 16384) (value : List Byte) (valid : Bool) (ts : BitVec 64) (s : State) :
    Host.Outcome State Fault Refusal :=
  finishAll (s.sourceUpdate i value valid ts.toNat)

/-- MIN_GAP_EXPIRY (R213). -/
def execMinGapExpiry (i : Fin 16384) (s : State) : Host.Outcome State Fault Refusal :=
  finishAll (s.modSig fun g => { g with gap := g.gap.filter (· != i.val) })

/-- EVENT_BUNDLE_ASSEMBLY (R214). -/
def execEventBundleAssembly (bulk : Bool) (prio : Fin 8) (s : State) : Host.Outcome State Fault Refusal :=
  finishAll (s.assemble (if bulk then 2 else 1) prio)

/-- HOST_PUBLISH_WRITE (R217). -/
def execHostPublishWrite (a : Agent) (off : BitVec 20) (data : List Byte) (s : State) :
    Host.Outcome State Fault Refusal :=
  finishAll (s.hostPublish a .posted off.toNat data).1

/-- CONFLICT_NOTICE_SEND (R226): the notice that waits for a destination, at most one in any 1 ms. -/
def execConflictNoticeSend (dst : Fin 1024) (s : State) : Host.Outcome State Fault Refusal :=
  finishAll <|
    match s.sig.notices.find? (·.dst == dst.val) with
    | none => s
    | some n =>
      if n.count = 0 ∨ n.last.any (fun t => s.ns < t + 1000000) then s
      else
        let f : Frame := { cls := 1, prio := 7, ftype := 0x02, dstNode := dst / 4, dstHub := dst % 4,
                           payload := [0x10, BitVec.ofNat 8 n.node, BitVec.ofNat 8 n.hub, 0] ++ leBytes 4 n.ident
                             ++ leBytes 4 n.count }
        let t := s.modSig fun g => { g with notices := g.notices.map fun m =>
          if m.dst = dst.val then { dst := dst, last := some s.ns } else m }
        (t.count Pg.signal R.CNT_NOTICE_SENT).sendOwn f |>.1

/-- CONFLICT_NOTICE (R227). -/
def execConflictNotice (_src : Fin 1024) (payload : List Byte) (s : State) : Host.Outcome State Fault Refusal :=
  finishAll (if s.domainOn 4 then s.noticeIn payload else s)

/-- CHG_POP (R224). -/
def execChgPop (a : Agent) (s : State) : Host.Outcome State Fault Refusal :=
  finishAll (s.guardedRead a Pg.sigMirror R.CHG_POP.off State.chgPop)

/-- SUPERSEDED_CLEAR (R238). -/
def execSupersededClear (a : Agent) (s : State) : Host.Outcome State Fault Refusal :=
  finishAll (s.poke a Pg.sigMirror R.SIGMIR_CMD.off 1 (State.wrSignal Pg.sigMirror))

/-- RESYNC_ALL (R222). -/
def execResyncAll (a : Agent) (s : State) : Host.Outcome State Fault Refusal :=
  finishAll (s.poke a Pg.sigMirror R.SIGMIR_CMD.off 2 (State.wrSignal Pg.sigMirror))

/-- MIRROR_READ (R228, R229). -/
def execMirrorRead (a : Agent) (off : BitVec 20) (len : BitVec 10) (s : State) : Host.Outcome State Fault Refusal :=
  let r := s.mirrorRead a off.toNat len.toNat
  finishAll (r.1.emit (.readData a (s.ownAddr 1 off.toNat) (State.wordsOf len.toNat r.2.1) r.2.2.num))

/-- LATCH_ARM (R233). -/
def execLatchArm (a : Agent) (s : State) : Host.Outcome State Fault Refusal :=
  finishAll (s.poke a Pg.latch R.LATCH_CMD.off 1 (State.wrSignal Pg.latch))

/-- LATCH_CANCEL (R234). -/
def execLatchCancel (a : Agent) (s : State) : Host.Outcome State Fault Refusal :=
  finishAll (s.poke a Pg.latch R.LATCH_CMD.off 2 (State.wrSignal Pg.latch))

/-- ARM (R234). -/
def execArm (_src : Fin 1024) (payload : List Byte) (s : State) : Host.Outcome State Fault Refusal :=
  finishAll (if s.domainOn 4 then s.armIn payload else s)

/-- CANCEL (R234). -/
def execCancel (_src : Fin 1024) (payload : List Byte) (s : State) : Host.Outcome State Fault Refusal :=
  finishAll (if s.domainOn 4 then s.cancelIn payload else s)

/-- RESULT (R237). -/
def execResult (src : Fin 1024) (payload : List Byte) (s : State) : Host.Outcome State Fault Refusal :=
  finishAll (if s.domainOn 4 then s.resultIn src payload else s)

/-- RESULT_SEND (R236). -/
def execResultSend (key : BitVec 18) (s : State) : Host.Outcome State Fault Refusal := finishAll (s.resultSend key.toNat)

end Sys2Proof.Machine
end

