-- ==== Sys2Proof/Machine/RingRows.lean ====
section
/-! DEFINITION. Ring control (R121 to R166, R624): discovery and election, positions, routes, beacons, breaks and wraps, the
schedule, the duplicate filter and the sequence check. -/

namespace Sys2Proof.Machine

open Sys2Proof (Word Byte Agent Code AccessKind Instr LaneId LinkId EngineId)

/-- The first credential is better than the second (R132); one with CANDIDATE at 0 never wins. -/
def Cred.better (a b : Cred) : Bool :=
  let node (c : Cred) : Nat := if c.nodeValid then c.node else 255
  a.cand && (!b.cand ||
    (if a.prio ≠ b.prio then decide (b.prio < a.prio)
     else if node a ≠ node b then decide (node a < node b)
     else if a.hub ≠ b.hub then decide (a.hub < b.hub)
     else decide (a.uid < b.uid)))

/-- The payload of a CLAIM (R129). -/
def Cred.bytes (c : Cred) (term : Nat) : List Byte :=
  [BitVec.ofNat 8 (c.prio % 16), BitVec.ofNat 8 c.node, BitVec.ofNat 8 (c.hub % 4 + b2n c.nodeValid * 4 + b2n c.cand * 8), 0]
    ++ leBytes 8 c.uid ++ leBytes 4 term

/-- The credential in a CLAIM payload. -/
def credOf (p : List Byte) : Cred :=
  let x := (p.getD 2 0).toNat
  { prio := (p.getD 0 0).toNat % 16, node := (p.getD 1 0).toNat, hub := x % 4, nodeValid := bitOf x 2, cand := bitOf x 3,
    uid := leNat (bytesAt p 4 8) }

namespace State

/-- Set RING_STATUS.STATE. -/
def setRingState (s : State) (n : Nat) : State := s.put Pg.master R.RING_STATUS_STATE n

/-- This hub's credential (R132). -/
def ownCred (s : State) : Cred :=
  { prio := s.get Pg.master R.MASTER_CFG_PRIORITY, node := s.node, nodeValid := s.nodeValid, hub := s.hubPos,
    cand := s.on Pg.master R.MASTER_CFG_CANDIDATE, uid := s.uid }

/-- A TERM has been seen. -/
def seeTerm (s : State) (t : Nat) : State := s.modRing fun r => { r with term := Nat.max r.term t }

/-- The UID of the master that the registers name. -/
def masterUid (s : State) : Nat :=
  (s.rd Pg.master R.MASTER_UID_LO.off).toNat + 2 ^ 32 * (s.rd Pg.master R.MASTER_UID_HI.off).toNat

/-- Name the master of an election or re-election (R137, R138, R166, R550). -/
def setMaster (s : State) (c : Cred) (pos term : Nat) : State :=
  let ident := c.node % 256 + c.hub * 2 ^ 8 + b2n c.nodeValid * 2 ^ 10 + pos % 1024 * 2 ^ 20 + 2 ^ 31
  let changed := s.masterUid != c.uid || (s.rd Pg.master R.MASTER_ID.off).toNat != ident
    || (s.rd Pg.master R.MASTER_TERM.off).toNat != term
  let t := (s.wr Pg.master R.MASTER_ID.off (BitVec.ofNat 32 ident)).wr Pg.master R.MASTER_TERM.off (BitVec.ofNat 32 term)
  let t := (t.wr Pg.master R.MASTER_UID_LO.off (BitVec.ofNat 32 c.uid)).wr Pg.master R.MASTER_UID_HI.off
    (BitVec.ofNat 32 (c.uid / 2 ^ 32))
  let t := (t.putB Pg.master R.RING_STATUS_IS_MASTER (c.uid == s.uid)).seeTerm term
  (t.when changed fun t => t.event Pg.master E.P060_MASTER_CHANGED).when (s.masterUid != c.uid) masterChange

/-! ### The node number (R127, R136) -/

/-- NODE_ID follows its source: MASTER_CFG or an assignment on the lead hub, the lead hub's INIT elsewhere. -/
def refreshNode (s : State) : State :=
  let h := s.hubPos
  if h = 0 then
    if s.on Pg.master R.MASTER_CFG_NODE_VALID ∧ s.get Pg.master R.MASTER_CFG_NODE ≠ 255 then
      (s.put Pg.identity R.NODE_ID_NODE (s.get Pg.master R.MASTER_CFG_NODE)).setF Pg.identity R.NODE_ID_VALID
    else
      match s.ring.assigned with
      | some n => (s.put Pg.identity R.NODE_ID_NODE n).setF Pg.identity R.NODE_ID_VALID
      | none => (s.put Pg.identity R.NODE_ID_NODE 0).clrF Pg.identity R.NODE_ID_VALID
  else
    let q := Pg.link (3 + (4 - h))
    if s.linkActive (3 + (4 - h)) ∧ s.on q R.PARTNER_ID_NODE_VALID ∧ s.get q R.PARTNER_ID_NODE ≠ 255 then
      ((s.put Pg.identity R.NODE_ID_NODE (s.get q R.PARTNER_ID_NODE)).setF Pg.identity R.NODE_ID_VALID).setF q
        R.STITCH_STATUS_NODE_SOURCE
    else
      ((s.put Pg.identity R.NODE_ID_NODE 0).clrF Pg.identity R.NODE_ID_VALID).clrF q R.STITCH_STATUS_NODE_SOURCE

/-! ### Routes (R139, R155, R156) -/

/-- The route indices that are not all zero, or stand in a list. -/
def routeIndices (s : State) (more : List Nat) : List Nat :=
  let l := s.regs.flatMap fun c =>
    let o := c.1 % 0x1000000
    if c.1 / 0x1000000 = Pg.routes ∧ 0x800 ≤ o then [(o - 0x800) / 2, (o - 0x800) / 2 + 1] else []
  l ++ more.filter fun i => !l.contains i

/-- The position before the hub at `q` in the forward direction of a ring. -/
def upstream (s : State) (ring q : Nat) : Nat :=
  if s.ringSize = 0 then 0 else if ring = 0 then (q + s.ringSize - 1) % s.ringSize else (q + 1) % s.ringSize

/-- The position after the hub at `q` in the forward direction of a ring. -/
def downstream (s : State) (ring q : Nat) : Nat :=
  if s.ringSize = 0 then 0 else if ring = 0 then (q + 1) % s.ringSize else (q + s.ringSize - 1) % s.ringSize

/-- The break after hub `x` of a ring has been reported. -/
def broken (s : State) (ring x : Nat) : Bool := s.ring.breaks.any fun b => b.ring == ring && b.x == x && b.xDown

/-- REACHABLE of a position (R155): not both of its links on the active data ring are reported down. -/
def posReachable (s : State) (q : Nat) : Bool :=
  !(s.broken s.dataRing q && s.broken s.dataRing (s.upstream s.dataRing q))

/-- The forward path from here to position `d` crosses the break after `x` on the data ring (R156). -/
def crosses (s : State) (x d : Nat) : Bool :=
  let n := s.ringSize
  let p := s.ringPos
  n != 0 &&
  if s.dataRing = 0 then decide ((x + n - p) % n < (d + n - p) % n) else decide ((p + n - x) % n < (p + n - d) % n)

/-- Entries follow the breaks (R155); what is not usable any more, or is again, shows in the mirror (R222). -/
def refreshRoutes (s : State) : State :=
  let t := (s.routeIndices []).foldl (fun t i =>
    let e := t.route i
    if bitOf e 10 then t.setRoute i (bitsPut e 11 1 (b2n (t.posReachable (e % 1024)))) else t) s
  let cnt (r : Nat) : Nat := satAdd 8 0 (t.ring.breaks.filter fun b => b.ring == r && b.xDown).length
  ((t.put Pg.redun R.REDUN_STATUS_BREAKS_A (cnt 0)).put Pg.redun R.REDUN_STATUS_BREAKS_B (cnt 1)).refreshReach

/-- Build the route table from the ANNOUNCE frames of this discovery (R136, R139): forward, unsteered; two hubs of one
number and position make both entries invalid. -/
def buildRoutes (s : State) (fresh : Bool) : State :=
  let l := s.ring.anns.filter fun a => a.valid && a.node < 255
  let ix (a : Ann) : Nat := a.node * 4 + a.hub
  let bad := (l.filter fun a => l.any fun b => ix b == ix a && b.uid != a.uid).map ix
  let t := (s.routeIndices (l.map ix)).foldl (fun t i =>
    let old := t.route i
    match l.find? fun a => ix a == i with
    | none => t.setRoute i 0
    | some a =>
      let stitch := t.nodeValid && a.node == t.node && a.hub != t.hubPos
      let dir := if fresh then 0 else bitsOf old 12 2
      t.setRoute i (a.pos % 1024 + b2n (!bad.contains i) * 2 ^ 10 + b2n (t.posReachable a.pos) * 2 ^ 11 + dir * 2 ^ 12
        + b2n stitch * 2 ^ 14)) s
  let new := bad.filter fun i => !s.ring.conflicts.contains i
  let t := new.eraseDups.foldl (fun t i =>
    (t.count Pg.master R.CNT_MGMT_NODE).eventFault Pg.master E.P060_NODE_CONFLICT K.NODE_CONFLICT i) t
  (t.modRing fun r => { r with conflicts := bad.eraseDups }).refreshRoutes

/-- Positions are discarded: routes to ring destinations are invalid, no master is named (R131). -/
def forget (s : State) : State :=
  let t := (s.routeIndices []).foldl (fun t i =>
    if bitOf (t.route i) 14 then t else t.setRoute i 0) s
  let t := t.modRing fun r => { r with anns := [], conflicts := [], breaks := [], keepPos := false }
  ((((t.put Pg.master R.RING_STATUS_POSITION 0).put Pg.master R.RING_STATUS_RING_SIZE 0).clrF Pg.master
    R.RING_STATUS_IS_MASTER).clrF Pg.master R.MASTER_ID_VALID).refreshRoutes

/-! ### Discovery (R131 to R135) -/

/-- Send this hub's CLAIM (R130, R132). -/
def claimOut (s : State) : State := s.flood 0x01 (s.ownCred.bytes s.ring.term)

/-- Enter DISCOVER with CLAIM sent; positions kept or discarded (R131). -/
def discover (s : State) (keep : Bool) : State :=
  let known := keep && s.ringSize != 0
  let t := if known then s.clrF Pg.master R.RING_STATUS_IS_MASTER else s.forget
  let t := t.modRing fun r =>
    { r with best := some s.ownCred, claims := [s.ownCred], counts := [], tokens := [], resultA := none, keepPos := known,
             early := none }
  ((t.count Pg.master R.CNT_DISC_DISCOVERIES).setRingState 1).claimOut

/-- No ring side is ACTIVE: ISOLATED (R131). -/
def isolate (s : State) : State :=
  ((s.forget).modRing fun r => { r with best := none, claims := [], counts := [], tokens := [], early := none }).setRingState 0

/-- A received CLAIM (R131, R132). DESIGN CHOICE, log entry 39. -/
def claimIn (s : State) (p : List Byte) : State :=
  let c := credOf p
  let t := (s.seeTerm (leNat (bytesAt p 12 4))).modRing fun r =>
    { r with claims := r.claims.filter (·.uid != c.uid) ++ [c] }
  if s.ringState = 1 then
    match s.ring.best with
    | none => t.modRing fun r => { r with best := some c }
    | some b => if c.better b then t.modRing fun r => { r with best := some c } else t
  else t

/-- The payload of a POSITION token (R129). -/
def tokenBytes (count dir ring dead term uid : Nat) : List Byte :=
  leBytes 2 count ++ [BitVec.ofNat 8 (dir + ring * 2 + dead * 4), 0] ++ leBytes 4 term ++ leBytes 8 uid

/-- The payload of RING_INFO (R129). -/
def infoBytes (s : State) (size ring opn seg term loop uid : Nat) : List Byte :=
  leBytes 2 size ++ [BitVec.ofNat 8 (ring + opn * 2 + seg * 4 + b2n (s.on Pg.master R.MASTER_CFG_AUTO_NODE) * 8), 0]
    ++ leBytes 4 term ++ leBytes 4 loop ++ leBytes 8 uid

/-- Record an ANNOUNCE of a hub (R135, R136). -/
def addAnn (s : State) (a : Ann) : State :=
  s.modRing fun r => { r with anns := r.anns.filter (·.uid != a.uid) ++ [a] }

/-- Send this hub's ANNOUNCE, and record it. -/
def announceOut (s : State) : State :=
  let a : Ann := { uid := s.uid, pos := s.ringPos, node := s.node, hub := s.hubPos, valid := s.nodeValid }
  (s.addAnn a).flood 0x04 (leBytes 2 a.pos ++ [BitVec.ofNat 8 a.node, BitVec.ofNat 8 (a.hub + b2n a.valid * 4)]
    ++ leBytes 8 a.uid ++ leBytes 4 (s.rd Pg.master R.MASTER_TERM.off).toNat)

/-- This hub takes an assigned node number, and announces it (R136). -/
def takeNode (s : State) (n : Nat) : State :=
  let t := (s.modRing fun r => { r with assigned := some n }).refreshNode
  (t.when (4 ≤ t.ringState) fun t => t.announceOut).buildRoutes false

/-- The master gives each lead hub without a node number the lowest one not in use, by ascending position (R136). -/
def autoNodes (s : State) : State :=
  if s.on Pg.master R.MASTER_CFG_AUTO_NODE then
    let free (used : List Nat) : Nat := ((List.range 255).find? fun n => !used.contains n).getD 255
    let need := (List.range s.ringSize).flatMap fun p => s.ring.anns.filter fun a => a.pos == p && !a.valid && a.hub == 0
    let step (acc : State × List Nat) (a : Ann) : State × List Nat :=
      let n := free acc.2
      if n = 255 then acc
      else if a.uid = s.uid then (acc.1.takeNode n, n :: acc.2)
      else (acc.1.flood 0x0A (leBytes 2 a.pos ++ [BitVec.ofNat 8 n, 0] ++ leBytes 8 a.uid), n :: acc.2)
    (need.foldl step (s, (s.ring.anns.filter (·.valid)).map (·.node))).1
  else s

/-- The two sides towards one neighbour name different hubs (R123). -/
def orderDiffers (s : State) : Bool :=
  [(0, 2), (1, 3)].any fun e =>
    let a := Pg.link e.1
    let b := Pg.link e.2
    s.linkActive e.1 && s.linkActive e.2 && s.on a R.PARTNER_ID_VALID && s.on b R.PARTNER_ID_VALID
      && (s.get a R.PARTNER_ID_NODE != s.get b R.PARTNER_ID_NODE || s.get a R.PARTNER_ID_HUB != s.get b R.PARTNER_ID_HUB
        || s.get a R.PARTNER_ID_NODE_VALID != s.get b R.PARTNER_ID_NODE_VALID)

/-- Compare the neighbours of the two rings (R123). -/
def checkOrder (s : State) : State :=
  if s.orderDiffers ∧ !s.on Pg.redun R.REDUN_STATUS_B_EXCLUDED then
    (s.setF Pg.redun R.REDUN_STATUS_B_EXCLUDED).eventFault Pg.master E.P060_RING_ORDER_MISMATCH K.RING_ORDER_MISMATCH 0
  else s

/-- Enter RUN or SEGMENTED (R131): the route table is built; an exclusion of ring B ends where the order is equal. -/
def enterRun (s : State) : State :=
  let seg := s.on Pg.master R.RING_STATUS_SEGMENTED
  let t := (s.buildRoutes (!s.ring.keepPos)).setRingState (if seg then 5 else 4)
  let t := (t.modRing fun r => { r with keepPos := false }).event Pg.master E.P060_RUN_ENTERED
  let t := t.when seg fun t => t.eventFault Pg.master E.P060_SEGMENTED K.SEGMENTED s.ringSize
  let t := if t.orderDiffers then t.checkOrder else t.clrF Pg.redun R.REDUN_STATUS_B_EXCLUDED
  t.when t.isMaster fun t => t.autoNodes

/-- Every other hub has announced (R131). -/
def allAnnounced (s : State) : Bool := s.ringSize ≤ (s.ring.anns.filter (·.uid != s.uid)).length + 1

/-- The position that RING_INFO gives this hub (R121, R133): kept; 0 at the master; from the counts the tokens left. -/
def positionFor (s : State) (ring n master : Nat) : Option Nat :=
  let cnt (d : Nat) : Option Nat := (s.ring.counts.find? fun c => c.1 == ring && c.2.1 == d).map (·.2.2)
  if s.ring.keepPos ∧ s.ringSize = n then some s.ringPos
  else if master = s.uid then some 0
  else
    match ring, cnt 0, cnt 1 with
    | 0, some f, _ => some f
    | 0, none, some r => some (n - r)
    | _, some f, _ => some ((n - f) % Nat.max 1 n)
    | _, none, some r => some r
    | _, none, none => none

/-- A received or own RING_INFO (R131, R135). -/
def infoIn (s : State) (p : List Byte) : State :=
  let n := leNat (bytesAt p 0 2)
  let fl := (p.getD 2 0).toNat
  let term := leNat (bytesAt p 4 4)
  let uid := leNat (bytesAt p 12 8)
  let t := s.seeTerm term
  if s.ringState = 1 then t.modRing fun r => { r with early := some p }
  else
    match s.ring.best with
    | none => t
    | some b =>
      if s.ringState ≠ 2 ∨ b.uid ≠ uid then t
      else
        match s.positionFor (fl % 2) n uid with
        | none => t
        | some pos =>
          let kept := s.ring.keepPos && s.ringSize == n
          let t := ((t.put Pg.master R.RING_STATUS_POSITION pos).put Pg.master R.RING_STATUS_RING_SIZE (Nat.min n 1024)).put
            Pg.master R.RING_STATUS_DISC_RING (fl % 2)
          let t := (t.putB Pg.master R.RING_STATUS_OPEN (bitOf fl 1)).putB Pg.master R.RING_STATUS_SEGMENTED (bitOf fl 2)
          let loop := leNat (bytesAt p 8 4)
          let t := (t.wr Pg.master R.LOOP_NS.off (BitVec.ofNat 32 loop)).wr Pg.redun R.FENCE_NS.off
            (BitVec.ofNat 32 (loop + 2000))
          let mpos := if kept then ((s.ring.anns.find? (·.uid == uid)).map (·.pos)).getD 0 else 0
          let t := (t.setMaster b mpos term).modRing fun r => { r with autoNode := bitOf fl 3, keepPos := kept }
          if kept then t.enterRun
          else
            let u := (t.setRingState 3).announceOut
            u.when u.allAnnounced fun u => u.enterRun

/-- The master sends RING_INFO and acts on it (R135). -/
def infoOut (s : State) (ring n : Nat) (opn seg : Bool) (loop : Nat) : State :=
  let p := s.infoBytes n ring (b2n opn) (b2n seg) s.ring.term loop s.uid
  (s.flood 0x03 p).infoIn p

/-- Both tokens of the ring in hand have ended: repeat on ring B, or give the result (R133, R134). -/
def tokensDone (s : State) : State × Bool :=
  match s.ring.tokens.find? (·.dir == 0), s.ring.tokens.find? (·.dir == 1) with
  | some f, some r =>
    let opn := f.dead || r.dead
    let n := Nat.min 1024 (if opn then f.count + r.count + 1 else f.count)
    let loop := if opn then 2 * (f.took + r.took) else f.took
    let claimants := s.ring.claims.length
    if s.ring.tokenRing = 0 ∧ n < claimants then
      (s.modRing fun g => { g with resultA := some (n, opn, loop), tokenRing := 1, tokens := [], tokenAt := s.ns }, true)
    else
      let pick : Nat × Nat × Bool × Nat :=
        match s.ring.resultA with
        | some a => if n ≤ a.1 then (0, a.1, a.2.1, a.2.2) else (1, n, opn, loop)
        | none => (s.ring.tokenRing, n, opn, loop)
      (s.infoOut pick.1 pick.2.1 pick.2.2.1 (decide (pick.2.1 < claimants)) pick.2.2.2, false)
  | _, _ => (s, false)

/-- A token ends at the master: with its COUNT, at a dead end or not. -/
def tokenBack (s : State) (dir count : Nat) (dead : Bool) : State :=
  if s.ring.tokens.any (·.dir == dir) then s
  else s.modRing fun r =>
    { r with tokens := r.tokens ++ [{ dir := dir, ring := r.tokenRing, count := count, dead := dead,
                                      took := s.ns - r.tokenAt }] }

/-- Send the two tokens of a ring; where a link is not ACTIVE the master is its own dead end (R133). -/
def tokensOut (s : State) (ring : Nat) : State :=
  [0, 1].foldl (fun t d =>
    if t.linkActive (sideOf ring d) then t.mgmtOut (sideOf ring d) 0x02 (tokenBytes 1 d ring 0 t.ring.term t.uid)
    else t.tokenBack d 0 true) s

/-- Go on after a token has ended: the second ring, or the result. -/
def tokensNext (s : State) : State :=
  let r := s.tokensDone
  if r.2 then ((r.1.tokensOut 1).tokensDone).1 else r.1

/-- The settle timer expires (R131): the best candidate sends the tokens; with positions kept, RING_INFO at once. -/
def settleExpired (s : State) : State :=
  let t := (s.count Pg.master R.CNT_DISC_ELECTIONS).put Pg.master R.CLAIMANTS s.ring.claims.length
  let t := t.setRingState 2
  let mine := match s.ring.best with
    | some b => b.uid == s.uid && b.cand
    | none => false
  if mine then
    let t := t.modRing fun r =>
      { r with term := (r.term + 1) % 2 ^ 32, tokens := [], tokenRing := 0, resultA := none, tokenAt := s.ns }
    if s.ring.keepPos then
      t.infoOut (s.get Pg.master R.RING_STATUS_DISC_RING) s.ringSize (s.on Pg.master R.RING_STATUS_OPEN)
        (s.on Pg.master R.RING_STATUS_SEGMENTED) (s.rd Pg.master R.LOOP_NS.off).toNat
    else (t.tokensOut 0).tokensNext
  else
    match s.ring.early with
    | some p => t.infoIn p
    | none => t

/-- A token that is sent back to the master from a dead end: as a unicast frame where the master has a node number
(R129, R133), else hop by hop. -/
def deadEnd (s : State) (k : Nat) (uid : Nat) (p : List Byte) : State :=
  match s.ring.claims.find? (·.uid == uid) with
  | some c =>
    if c.nodeValid then
      let r := s.mgmtFrame 0x02 p
      (r.1.ringOut k { r.2 with mcast := false, dstNode := c.node, dstHub := c.hub, ring := k / 2 }).1
    else s.mgmtOut k 0x02 p
  | none => s.mgmtOut k 0x02 p

/-- A received POSITION token (R133). -/
def positionIn (s : State) (p : List Byte) : State :=
  let count := leNat (bytesAt p 0 2)
  let fl := (p.getD 2 0).toNat
  let dir := fl % 2
  let ring := bitsOf fl 1 1
  let dead := bitOf fl 2
  let term := leNat (bytesAt p 4 4)
  let uid := leNat (bytesAt p 8 8)
  if uid = s.uid then
    if s.ringState = 2 ∧ term = s.ring.term ∧ ring = s.ring.tokenRing then (s.tokenBack dir count dead).tokensNext else s
  else
    let t := s.seeTerm term
    let ahead := sideOf ring dir
    let back := sideOf ring (1 - dir)
    if dead then if t.linkActive back then t.mgmtOut back 0x02 p else t
    else
      let t := t.modRing fun r =>
        { r with counts := r.counts.filter (fun c => !(c.1 == ring && c.2.1 == dir)) ++ [(ring, dir, count)] }
      if t.linkActive ahead then t.mgmtOut ahead 0x02 (tokenBytes (count + 1) dir ring 0 term uid)
      else t.deadEnd back uid (tokenBytes count dir ring 1 term uid)

/-- The token timer expires (R131). -/
def tokenExpired (s : State) : State :=
  if s.ringState = 2 then (s.event Pg.master E.P060_DISCOVERY_RESTART).discover s.ring.keepPos
  else if s.ringState = 3 then s.enterRun
  else s

/-- A received ANNOUNCE (R135, R136, R154, R222). -/
def announceIn (s : State) (p : List Byte) : State :=
  let x := (p.getD 3 0).toNat
  let a : Ann := { uid := leNat (bytesAt p 4 8), pos := leNat (bytesAt p 0 2) % 1024, node := (p.getD 2 0).toNat,
                   hub := x % 4, valid := bitOf x 2 }
  let t := (s.addAnn a).seeTerm (leNat (bytesAt p 12 4))
  let t := t.when a.valid fun t =>
    (t.modRing fun r => { r with e2e := r.e2e.filter fun e => !(e.1 == a.node && e.2.1 == a.hub) }).announcedOwner
      (a.node * 4 + a.hub)
  if s.ringState = 3 then t.when t.allAnnounced fun t => t.enterRun
  else if 4 ≤ s.ringState then t.buildRoutes false
  else t

/-! ### Beacons (R137, R138) -/

/-- BASE_CYCLE_US as it acts (R142). -/
def baseCycle (s : State) : Nat := clamp 5 10000 (s.get Pg.sched R.SCHED_CFG_BASE_CYCLE_US)

/-- CYCLE_ORIGIN. -/
def cycleOrigin (s : State) : Nat :=
  (s.rd Pg.sched R.ORIGIN_LO.off).toNat + 2 ^ 32 * (s.rd Pg.sched R.ORIGIN_HI.off).toNat

/-- The master's beacon (R129, R137). -/
def beaconOut (s : State) : State :=
  if s.isMaster ∧ 4 ≤ s.ringState then
    let head := s.infoBytes s.ringSize (s.get Pg.master R.RING_STATUS_DISC_RING) (s.get Pg.master R.RING_STATUS_OPEN)
      (s.get Pg.master R.RING_STATUS_SEGMENTED) (s.rd Pg.master R.MASTER_TERM.off).toNat (s.rd Pg.master R.LOOP_NS.off).toNat
      s.uid
    s.flood 0x05 (head ++ [BitVec.ofNat 8 (s.get Pg.redun R.REDUN_STATUS_BREAKS_A),
      BitVec.ofNat 8 (s.get Pg.redun R.REDUN_STATUS_BREAKS_B), BitVec.ofNat 8 s.dataRing, 0]
      ++ leBytes 2 (s.get Pg.sched R.SCHED_CFG_BASE_CYCLE_US) ++ [0, 0] ++ leBytes 8 s.cycleOrigin)
  else s

/-- A beacon of a master other than this hub's own (R138). -/
def foreignBeacon (s : State) (uid size term : Nat) : State :=
  if size ≠ s.ringSize then s.discover false
  else
    match s.ring.claims.find? (·.uid == uid) with
    | none => s.when s.isMaster fun t => t.claimOut
    | some c =>
      let own := if s.isMaster then some s.ownCred else s.ring.claims.find? (·.uid == s.masterUid)
      if own.any fun o => !c.better o then s
      else
        let pos := ((s.ring.anns.find? (·.uid == uid)).map (·.pos)).getD 0
        (s.setMaster c pos term).when s.isMaster fun t => t.flood 0x01 (c.bytes term)

/-- A received MASTER_BEACON (R137, R138). -/
def beaconIn (s : State) (p : List Byte) : State :=
  let uid := leNat (bytesAt p 12 8)
  let differs := leNat (bytesAt p 24 2) != s.get Pg.sched R.SCHED_CFG_BASE_CYCLE_US
    || leNat (bytesAt p 28 8) != s.cycleOrigin
  let t := (s.seeTerm (leNat (bytesAt p 4 4))).modRing fun r => { r with mismatch := differs }
  let t := t.when differs fun t => t.eventFault Pg.sched E.P061_CYCLE_MISMATCH K.CYCLE_MISMATCH 0
  if s.ringState < 4 ∨ uid = s.masterUid then t
  else t.foreignBeacon uid (leNat (bytesAt p 0 2)) (leNat (bytesAt p 4 4))

/-- BEACON_MISS periods without a beacon (R131, R137): re-election with positions kept. -/
def beaconLost (s : State) : State :=
  if 4 ≤ s.ringState ∧ !s.isMaster then
    ((s.count Pg.master R.CNT_MGMT_BEACON).eventFault Pg.master E.P060_BEACON_LOST K.BEACON_LOST 0).discover true
  else s

/-! ### Breaks, wraps, steering, failover (R151 to R161) -/

/-- Valid destinations of the ring but this hub. -/
def ringDests (s : State) : List Nat :=
  (s.routeIndices []).filter fun i =>
    bitOf (s.route i) 10 && !bitOf (s.route i) 14 && !(s.nodeValid && i == s.selfIndex)

/-- The directions follow the steered breaks of the data ring (R156); others are forward again (R165). -/
def applySteering (s : State) : State :=
  let xs := (s.ring.breaks.filter fun b => b.steered && b.ring == s.dataRing).map (·.x)
  s.ringDests.foldl (fun t i =>
    let st := xs.any fun x => t.crosses x (t.route i % 1024)
    t.steer i (b2n st) st) s

/-- The data ring changes (R157, R159): every route is fenced, forward and unsteered. -/
def switchDataRing (s : State) (ring : Nat) : State :=
  if ring = s.dataRing then s
  else
    let t := s.ringDests.foldl (fun t i => (t.setRoute i (bitsPut (t.route i) 12 2 0)).fenceDst i) s
    let t := t.modRing fun r =>
      { r with failedOver := ring != s.get Pg.redun R.REDUN_CFG_DATA_RING, breaks := r.breaks.map fun b => { b with steered := false } }
    ((t.put Pg.redun R.REDUN_STATUS_DATA_RING_ACTIVE ring).event Pg.redun E.P062_FAILOVER).refreshRoutes

/-- Breaks reported on a ring. -/
def breakCount (s : State) (ring : Nat) : Nat := (s.ring.breaks.filter fun b => b.ring == ring && b.xDown).length

/-- The master orders a data ring (R159). -/
def orderDataRing (s : State) (ring : Nat) : State :=
  (s.flood 0x09 ([BitVec.ofNat 8 ring, 0, 0, 0] ++ leBytes 4 (s.rd Pg.master R.MASTER_TERM.off).toNat)).switchDataRing ring

/-- The failover rule at the master (R159). -/
def failover (s : State) : State :=
  let r := s.dataRing
  let o := 1 - r
  if s.isMaster ∧ s.on Pg.redun R.REDUN_CFG_AUTO_FAILOVER ∧ 2 ≤ s.breakCount r ∧ s.breakCount o ≤ 1
      ∧ !(o == 1 && s.on Pg.redun R.REDUN_STATUS_B_EXCLUDED) then s.orderDataRing o else s

/-- The configured data ring has held at most one break for UNWRAP_HOLD: the master orders it again (R159). -/
def failBack (s : State) : State :=
  let c := s.get Pg.redun R.REDUN_CFG_DATA_RING
  if s.isMaster ∧ s.ring.failedOver ∧ s.breakCount c ≤ 1 then s.orderDataRing c else s

/-- A break after hub `x` of a ring is known here (R155). -/
def breakIn (s : State) (ring x y : Nat) : State :=
  let t := s.modRing fun r =>
    if r.breaks.any fun b => b.ring == ring && b.x == x then
      { r with breaks := r.breaks.map fun b => if b.ring = ring ∧ b.x = x then { b with xDown := true, yDown := true } else b }
    else { r with breaks := r.breaks ++ [{ ring := ring, x := x, y := y, xDown := true, yDown := true }] }
  t.refreshRoutes.failover

/-- WRAP_POINT (X) or WRAP_END (Y) of a ring. -/
def wrapBit (ring : Nat) (point : Bool) : Fld :=
  if ring = 0 then (if point then R.REDUN_STATUS_WRAP_POINT_A else R.REDUN_STATUS_WRAP_END_A)
  else (if point then R.REDUN_STATUS_WRAP_POINT_B else R.REDUN_STATUS_WRAP_END_B)

/-- A ROUTE_UPDATE (R156), received or the master's own. -/
def routeUpdate (s : State) (ring x : Nat) (st : Bool) : State :=
  let t := s.modRing fun r =>
    if r.breaks.any fun b => b.ring == ring && b.x == x then
      { r with breaks := r.breaks.map fun b => if b.ring = ring ∧ b.x = x then { b with steered := st } else b }
    else if st then
      { r with breaks := r.breaks ++ [{ ring := ring, x := x, y := s.downstream ring x, xDown := false, yDown := false, steered := true }] }
    else r
  (t.modRing fun r => { r with breaks := r.breaks.filter fun b => b.xDown || b.yDown || b.steered }).applySteering.refreshRoutes

/-- The master steers, or unsteers, a break (R156, R158). -/
def orderSteer (s : State) (ring x : Nat) (st : Bool) : State :=
  (s.flood 0x08 ([BitVec.ofNat 8 ring, BitVec.ofNat 8 (b2n st)] ++ leBytes 2 x ++ leBytes 4
    (s.rd Pg.master R.MASTER_TERM.off).toNat)).routeUpdate ring x st

/-- The break after `x` has healed (R155, R158); the master unsteers it. -/
def healIn (s : State) (ring x : Nat) : State :=
  let steered := s.ring.breaks.any fun b => b.ring == ring && b.x == x && b.steered
  let t := s.modRing fun r =>
    { r with breaks := if steered then r.breaks.map fun b =>
                          if b.ring = ring ∧ b.x = x then { b with xDown := false, yDown := false } else b
                       else r.breaks.filter fun b => !(b.ring == ring && b.x == x) }
  let t := t.when (s.ringPos == s.downstream ring x) fun t => t.clrF Pg.redun (wrapBit ring false)
  let t := t.refreshRoutes
  t.when (steered && t.isMaster) fun t => t.orderSteer ring x false

/-- A ring side has gone down (R131, R151, R155): the hub becomes X or Y, tells the ring, or is isolated. -/
def ringSideDown (s : State) (k cause : Nat) : State :=
  let ring := k / 2
  let fwd := isForward k
  let t := s.modRing fun r => { r with unwrapping := r.unwrapping.filter (· != k) }
  if !([0, 1, 2, 3].any t.sideUp) then t.isolate
  else if t.ringState < 4 ∨ t.ringSize < 2 then t.when fwd fun t => t.modRing fun r => { r with wrapping := k :: r.wrapping.filter (· != k) }
  else
    let x := if fwd then t.ringPos else t.upstream ring t.ringPos
    let y := t.downstream ring x
    let t := t.when fwd fun t => t.modRing fun r => { r with wrapping := k :: r.wrapping.filter (· != k) }
    let t := ((t.setF Pg.redun (wrapBit ring fwd)).count Pg.redun R.CNT_WRAP_WRAPS).eventFault Pg.redun E.P062_WRAP K.WRAP ring
    let t := t.flood 0x06 ([BitVec.ofNat 8 ring, 0] ++ leBytes 2 x ++ leBytes 2 y ++ [BitVec.ofNat 8 cause])
    let t := t.breakIn ring x y
    t.fenceRelease (1024 + k)

/-- A ring side has entered ACTIVE (R123, R131, R158). -/
def ringSideUp (s : State) (k : Nat) (partnerChanged : Bool) : State :=
  let t := s.checkOrder
  let t := t.when (t.ring.wrapping.contains k) fun t =>
    if t.get Pg.redun (wrapBit (k / 2) true) = 1 then t.setF Pg.redun R.REDUN_STATUS_UNWRAP_PENDING
    else t.modRing fun r => { r with wrapping := r.wrapping.filter (· != k) }
  if t.ringState = 0 then t.discover false
  else if 4 ≤ t.ringState ∧ partnerChanged then t.discover false
  else t

/-- The hold of a restored link ends at X (R158 steps 1 and 2). -/
def unwrapStart (s : State) (k : Nat) : State :=
  if s.ring.wrapping.contains k ∧ s.linkActive k ∧ !s.ring.unwrapping.contains k then
    let ring := k / 2
    let x := s.ringPos
    let y := s.downstream ring x
    let t := s.flood 0x07 ([BitVec.ofNat 8 ring, 0] ++ leBytes 2 x ++ leBytes 2 y)
    (t.modRing fun r => { r with unwrapping := k :: r.unwrapping }).healIn ring x
  else s

/-- X stops wrapping and holds the frames for the restored link (R158 steps 3 and 4). -/
def unwrapStop (s : State) (k : Nat) : State :=
  if s.ring.unwrapping.contains k then
    let t := s.modRing fun r =>
      { r with wrapping := r.wrapping.filter (· != k), unwrapping := r.unwrapping.filter (· != k),
               fences := if r.fences.any (·.key == 1024 + k) then r.fences else r.fences ++ [{ key := 1024 + k }] }
    let t := (t.clrF Pg.redun (wrapBit (k / 2) true)).setF Pg.redun R.REDUN_STATUS_FENCE_ACTIVE
    let t := (t.count Pg.redun R.CNT_WRAP_UNWRAPS).event Pg.redun E.P062_UNWRAP
    t.putB Pg.redun R.REDUN_STATUS_UNWRAP_PENDING (!t.ring.wrapping.isEmpty)
  else s

/-! ### Messages (R129) -/

/-- A ring management message that is delivered here, by its code. -/
def mgmtMessage (s : State) (code : Nat) (p : List Byte) : State :=
  let b (i : Nat) : Nat := (p.getD i 0).toNat
  let h (i : Nat) : Nat := leNat (bytesAt p i 2)
  match code with
  | 0x01 => s.claimIn p
  | 0x02 => s.positionIn p
  | 0x03 => s.infoIn p
  | 0x04 => s.announceIn p
  | 0x05 => s.beaconIn p
  | 0x06 => s.breakIn (b 0 % 2) (h 2 % 1024) (h 4 % 1024)
  | 0x07 => s.healIn (b 0 % 2) (h 2 % 1024)
  | 0x08 => (s.seeTerm (leNat (bytesAt p 4 4))).routeUpdate (b 0 % 2) (h 2 % 1024) (bitOf (b 1) 0)
  | 0x09 => (s.seeTerm (leNat (bytesAt p 4 4))).switchDataRing (b 0 % 2)
  | 0x0A =>
    if leNat (bytesAt p 4 8) = s.uid ∧ s.hubPos = 0 ∧ !s.nodeValid ∧ b 2 ≠ 255 then s.takeNode (b 2) else s
  | _ => s

/-- A RING_MGMT frame delivered at a side (R129): one of a wrong length or code is counted there and acts on nothing. -/
def mgmtIn (s : State) (k code : Nat) (p : List Byte) : State :=
  if !s.domainOn 4 then s
  else if mgmtLen code = some p.length then s.mgmtMessage code p
  else s.count (Pg.link k) R.CNT_FMT_ERR

/-! ### The duplicate filter and the sequence check (R149, R154) -/

/-- A scheduled frame to be delivered: it passes as the first copy, or is discarded as the second (R149). -/
def dupPass (s : State) (f : Frame) : State × Bool :=
  let key (e : Nat × Nat × Nat × Nat) : Bool := e.1 == f.srcNode && e.2.1 == f.srcHub && e.2.2.1 == f.seq
  if s.ring.dup.any key then
    ((s.modRing fun r => { r with dup := r.dup.filter fun e => !key e }).count Pg.redun R.CNT_DUP_DISCARD, false)
  else
    let full := 4096 ≤ s.ring.dup.length
    let t := s.when full fun t =>
      (t.count Pg.redun R.CNT_DUP_EVICT).eventFault Pg.redun E.P062_DUP_EVICT K.DUP_EVICT 0
    (t.modRing fun r =>
      { r with dup := (if full then r.dup.drop 1 else r.dup) ++ [(f.srcNode, f.srcHub, f.seq, s.ns)] }, true)

/-- An express or bulk frame to be delivered (R154). DEDUCED, log entry 26. -/
def seqPass (s : State) (f : Frame) : State × Bool :=
  let key (e : Nat × Nat × Nat × Nat) : Bool := e.1 == f.srcNode && e.2.1 == f.srcHub && e.2.2.1 == f.cls
  let take (t : State) : State := t.modRing fun r =>
    { r with e2e := r.e2e.filter (fun e => !key e) ++ [(f.srcNode, f.srcHub, f.cls, f.seq)] }
  match s.ring.e2e.find? key with
  | none => (take s, true)
  | some e =>
    let d := (f.seq + 65536 - e.2.2.2) % 65536
    if 1 ≤ d ∧ d ≤ 32767 then (take s, true)
    else if f.resent then (s.count Pg.redun R.CNT_E2E_DUP, false)
    else (take ((s.count Pg.redun R.CNT_E2E_ORDER).event Pg.redun E.P062_E2E_ORDER), true)

/-! ### The schedule (R142 to R148, R624) -/

/-- Word `w` of an active schedule entry; of a staged one. -/
def schedW (s : State) (i w : Nat) : Nat := (s.rd Pg.schedTable (16 * i + 4 * w)).toNat
def schedS (s : State) (i w : Nat) : Nat := (s.rdStaged Pg.schedTable (16 * i + 4 * w)).toNat

/-- An entry with VALID at 1 breaks a condition of R144, tested against a base cycle in µs. -/
def schedBad (w0 w1 w2 base : Nat) : Bool :=
  let k := bitsOf w0 24 4
  bitOf w0 31 && (2 ≤ bitsOf w1 10 2 || base * 1000 ≤ w0 % 2 ^ 24 || 10 < k || 2 ^ k ≤ w1 % 1024
    || bitsOf w2 16 6 == 0 || 32 < bitsOf w2 16 6 || 16384 < w2 % 2 ^ 14 + bitsOf w2 16 6
    || (!bitOf w1 12 && bitsOf w1 16 8 == 255))

/-- The staged base cycle as it acts. -/
def stagedCycle (s : State) : Nat := clamp 5 10000 (bitsOf (s.rdStaged Pg.sched R.SCHED_CFG.off).toNat 0 14)

/-- Count omitted records or firings. -/
def schedSkip (s : State) (f : Fld) (n : Nat) : State :=
  s.when (0 < n) fun t => (t.countN Pg.sched f n).event Pg.sched E.P061_SCHED_SKIP

/-- The bundle of an entry is assembled and sent (R145, R148). -/
def schedBundle (s : State) (i lateNs : Nat) : State :=
  let w0 := s.schedW i 0
  let w1 := s.schedW i 1
  let w2 := s.schedW i 2
  let cand := (List.range (bitsOf w2 16 6)).map (w2 % 2 ^ 14 + ·)
  let l := s.fitting 256 (cand.filter fun j => s.publishes j && (s.mir j).version != 0)
  let t := s.schedSkip R.CNT_SCHED_SKIP_RECORD (cand.length - l.length)
  if l = [] then t
  else
    let f := { s.bundle 0 (bitsOf w0 28 3) l with
      mcast := bitOf w1 12, tag := i, dstNode := bitsOf w1 16 8, dstHub := bitsOf w1 24 2 }
    let r := t.sendScheduled f
    let t := r.1.countN Pg.sched R.CNT_SCHED_TX r.2
    let t := t.when (s.get Pg.sched R.LATE_NS % 65536 < lateNs && r.2 != 0) fun t =>
      (t.count Pg.sched R.CNT_SCHED_LATE).eventFault Pg.sched E.P061_SCHED_LATE K.SCHED_LATE i
    t.when (bitOf w1 12 && s.ringSize ≤ 1 && s.nodeValid) fun t => t.bundleIn s.selfIndex (l.map s.recordOf)

/-- Entry `i` reaches its fire time in a cycle; `skipped` says that the time lies within a forward step (R624). -/
def schedFire (s : State) (i cycle : Nat) (skipped : Bool) (lateNs : Nat) : State :=
  let w0 := s.schedW i 0
  let w1 := s.schedW i 1
  let done := s.ring.fired.any fun e => e.1 == i && cycle ≤ e.2
  if !s.domainOn 4 ∨ !s.on Pg.sched R.SCHED_CFG_SCHED_EN ∨ !bitOf w0 31 ∨ schedBad w0 w1 (s.schedW i 2) s.baseCycle
      ∨ cycle % 2 ^ bitsOf w0 24 4 ≠ w1 % 1024 ∨ done then s
  else if !s.timeValid then s.schedSkip R.CNT_SCHED_SKIP_TIME_INVALID 1
  else
    let t := s.modRing fun r => { r with fired := r.fired.filter (·.1 != i) ++ [(i, cycle)] }
    if skipped then t.schedSkip R.CNT_SCHED_SKIP_TIME_INVALID 1
    else if bitsOf w1 10 2 = 0 then t
    else t.schedBundle i lateNs

/-- Entries that become active in a state that R144 forbids are counted once. -/
def schedActivated (s : State) : State :=
  let idx := s.regs.filterMap fun c =>
    if c.1 / 0x1000000 = Pg.schedTable ∧ c.1 % 16 = 0 then some (c.1 % 0x1000000 / 16) else none
  let bad := idx.filter fun i => schedBad (s.schedW i 0) (s.schedW i 1) (s.schedW i 2) s.baseCycle
  let new := bad.filter fun i => !s.ring.badCounted.contains i
  (s.schedSkip R.CNT_SCHED_SKIP_RECORD new.length).modRing fun r => { r with badCounted := bad }

/-- SCHED_CMD (R143, R144). -/
def schedCmd (s : State) (v : Nat) : State :=
  let i := s.get Pg.sched R.SCHED_IDX % 4096
  let w (n : Nat) : Nat := s.get Pg.sched (R.SCHED_W n)
  let t := s.when (bitOf v 2) fun t => t.cntClear Pg.sched
  let t := t.when (bitOf v 1) fun t =>
    if schedBad (w 0) (w 1) (w 2) s.stagedCycle then t.event Pg.sched E.P061_SCHED_INVALID
    else [0, 1, 2, 3].foldl (fun t n => t.stage Pg.schedTable (16 * i + 4 * n) (BitVec.ofNat 32 (w n))) t
  t.when (bitOf v 0) fun t =>
    let st := t.on Pg.sched R.PAGE_CTRL_VIEW_STAGED
    [0, 1, 2, 3].foldl (fun u n =>
      u.wr Pg.sched (R.SCHED_W n).off (BitVec.ofNat 32 (if st then t.schedS i n else t.schedW i n))) t

/-! ### Writes to the pages of ring control -/

/-- The effect of a write to a page of ring control. -/
def wrRing (p : Nat) (s : State) (off : Nat) (v : Word) : State :=
  if p = Pg.master ∧ off = R.RING_CMD.off then
    let t := s.when (bitOf v.toNat 1) fun t => t.cntClear p
    t.when (bitOf v.toNat 0 && 4 ≤ t.ringState) fun t => t.discover false
  else if p = Pg.master ∧ off = R.MASTER_CFG.off then (s.storeWrite p off v).refreshNode
  else if p = Pg.sched ∧ off = R.SCHED_CMD.off then s.schedCmd v.toNat
  else if p = Pg.redun ∧ off = R.REDUN_CFG.off then
    (s.storeWrite p off v).when (bitOf v.toNat 3) fun t => t.cntClear p
  else if p = Pg.routes ∧ off = R.ROUTE_STEER.off then
    if bitOf v.toNat 31 then
      if s.policyAct 1 then s.event p E.P063_STEER_REFUSED
      else (s.steer (v.toNat % 1024) (bitsOf v.toNat 12 1) true).refreshRoutes
    else s
  else s.storeWrite p off v

/-- A ring management row acts only while the CORE domain runs it. -/
def ringAlive (s : State) (f : State → State) : State := if s.domainOn 4 then f s else s

end State

/-- CLAIM (R132). -/
def execClaim (k : Fin 4) (payload : List Byte) (s : State) : Host.Outcome State Fault Refusal :=
  finishAll (s.mgmtIn k 0x01 payload)

/-- CLAIM_RESEND (R132). -/
def execClaimResend (s : State) : Host.Outcome State Fault Refusal :=
  finishAll (s.ringAlive fun t => if t.ringState = 1 then t.claimOut else t)

/-- SETTLE_TIMER_EXPIRY (R131). -/
def execSettleTimerExpiry (s : State) : Host.Outcome State Fault Refusal :=
  finishAll (s.ringAlive fun t => if t.ringState = 1 then t.settleExpired else t)

/-- POSITION (R133). -/
def execPosition (k : Fin 4) (payload : List Byte) (s : State) : Host.Outcome State Fault Refusal :=
  finishAll (s.mgmtIn k 0x02 payload)

/-- TOKEN_TIMER_EXPIRY (R131). -/
def execTokenTimerExpiry (s : State) : Host.Outcome State Fault Refusal := finishAll (s.ringAlive State.tokenExpired)

/-- RING_INFO (R135). -/
def execRingInfo (k : Fin 4) (payload : List Byte) (s : State) : Host.Outcome State Fault Refusal :=
  finishAll (s.mgmtIn k 0x03 payload)

/-- ANNOUNCE (R136). -/
def execAnnounce (k : Fin 4) (payload : List Byte) (s : State) : Host.Outcome State Fault Refusal :=
  finishAll (s.mgmtIn k 0x04 payload)

/-- ASSIGN_NODE (R136). -/
def execAssignNode (k : Fin 4) (payload : List Byte) (s : State) : Host.Outcome State Fault Refusal :=
  finishAll (s.mgmtIn k 0x0A payload)

/-- MASTER_BEACON_SEND (R137). -/
def execMasterBeaconSend (s : State) : Host.Outcome State Fault Refusal := finishAll (s.ringAlive State.beaconOut)

/-- MASTER_BEACON (R137, R138). -/
def execMasterBeacon (k : Fin 4) (payload : List Byte) (s : State) : Host.Outcome State Fault Refusal :=
  finishAll (s.mgmtIn k 0x05 payload)

/-- BEACON_LOST (R137). -/
def execBeaconLost (s : State) : Host.Outcome State Fault Refusal := finishAll (s.ringAlive State.beaconLost)

/-- REDISCOVER (R131). -/
def execRediscover (a : Agent) (s : State) : Host.Outcome State Fault Refusal :=
  finishAll (s.poke a Pg.master R.RING_CMD.off 1 (State.wrRing Pg.master))

/-- WRAP_NOTICE (R155). -/
def execWrapNotice (k : Fin 4) (payload : List Byte) (s : State) : Host.Outcome State Fault Refusal :=
  finishAll (s.mgmtIn k 0x06 payload)

/-- UNWRAP_NOTICE (R158). -/
def execUnwrapNotice (k : Fin 4) (payload : List Byte) (s : State) : Host.Outcome State Fault Refusal :=
  finishAll (s.mgmtIn k 0x07 payload)

/-- ROUTE_UPDATE (R156). -/
def execRouteUpdate (k : Fin 4) (payload : List Byte) (s : State) : Host.Outcome State Fault Refusal :=
  finishAll (s.mgmtIn k 0x08 payload)

/-- DATA_RING_SWITCH (R159). -/
def execDataRingSwitch (k : Fin 4) (payload : List Byte) (s : State) : Host.Outcome State Fault Refusal :=
  finishAll (s.mgmtIn k 0x09 payload)

/-- FENCE_RELEASE (R157, R158). -/
def execFenceRelease (key : Fin 1028) (s : State) : Host.Outcome State Fault Refusal :=
  finishAll (s.ringAlive fun t => t.fenceRelease key)

/-- UNWRAP_HOLD_EXPIRY (R158, R159): of a restored link at X, or of the configured data ring at the master. -/
def execUnwrapHoldExpiry (k : Option (Fin 4)) (s : State) : Host.Outcome State Fault Refusal :=
  finishAll <| s.ringAlive fun t =>
    match k with
    | some k => t.unwrapStart k
    | none => t.failBack

/-- UNWRAP_STOP (R158). -/
def execUnwrapStop (k : Fin 4) (s : State) : Host.Outcome State Fault Refusal :=
  finishAll (s.ringAlive fun t => t.unwrapStop k)

/-- ROUTE_STEER (R165). -/
def execRouteSteer (a : Agent) (v : Word) (s : State) : Host.Outcome State Fault Refusal :=
  finishAll (s.poke a Pg.routes R.ROUTE_STEER.off v (State.wrRing Pg.routes))

/-- E2E_ENTRY_EXPIRY (R154). -/
def execE2eEntryExpiry (node : BitVec 8) (hub : BitVec 2) (cls : Fin 3) (s : State) :
    Host.Outcome State Fault Refusal :=
  finishAll (s.modRing fun r =>
    { r with e2e := r.e2e.filter fun e => !(e.1 == node.toNat && e.2.1 == hub.toNat && e.2.2.1 == cls.val) })

/-- DUP_AGE_EXPIRY (R149). -/
def execDupAgeExpiry (node : BitVec 8) (hub : BitVec 2) (seq : BitVec 16) (s : State) :
    Host.Outcome State Fault Refusal :=
  let key (e : Nat × Nat × Nat × Nat) : Bool := e.1 == node.toNat && e.2.1 == hub.toNat && e.2.2.1 == seq.toNat
  finishAll <|
    if s.ring.dup.any key then
      (s.modRing fun r => { r with dup := r.dup.filter fun e => !key e }).count Pg.redun R.CNT_DUP_EXPIRED
    else s

/-- SCHED_FIRE (R145, R147, R624). -/
def execSchedFire (i : Fin 4096) (cycle : BitVec 64) (skipped : Bool) (lateNs : BitVec 32) (s : State) :
    Host.Outcome State Fault Refusal :=
  finishAll (s.schedFire i cycle.toNat skipped lateNs.toNat)

/-- SCHED_STORE (R144). -/
def execSchedStore (a : Agent) (s : State) : Host.Outcome State Fault Refusal :=
  finishAll (s.poke a Pg.sched R.SCHED_CMD.off 2 (State.wrRing Pg.sched))

/-- SCHED_LOAD (R143). -/
def execSchedLoad (a : Agent) (s : State) : Host.Outcome State Fault Refusal :=
  finishAll (s.poke a Pg.sched R.SCHED_CMD.off 1 (State.wrRing Pg.sched))

end Sys2Proof.Machine
end

