-- ==== Sys2Proof/Machine/Link.lean ====
section
/-! DEFINITION. The Yalloth link (R84 to R120): link states, control symbols, retry, the receiver's frames, the transmitter,
the transit express path (R17, R170 to R173). -/

namespace Sys2Proof.Machine

open Sys2Proof (Word Byte Agent Code AccessKind Instr LaneId LinkId EngineId)

/-- Event bits of a ring side or stitch port page (R120). -/
def evUp : Nat := 0
def evDown : Nat := 1
def evDist : Nat := 2
def evMismatch : Nat := 3
def evReplayLimit : Nat := 4
def evPartner : Nat := 5
def evLpIn : Nat := 6
def evLpOut : Nat := 7
def evProtocol : Nat := 8
def evLpRefused : Nat := 10
def evPeer : Nat := 11

namespace State

/-- Every lane of a side or port is in UP. -/
def lanesUp (s : State) (k : Nat) : Bool := (linkLanes k).all fun l => s.laneSt l == 5

/-- A lane of a side in low-power idle is neither in UP nor on its way back by fast exit. -/
def idleBroken (s : State) (k : Nat) : Bool :=
  (linkLanes k).any fun l => s.laneSt l != 5 && s.laneSt l != 6 && s.laneSt l != 7

/-- Set LINK_STATUS.STATE: 0 DISABLED, 1 LANES, 2 INIT, 3 ACTIVE, 4 LP_IDLE, 5 DOWN. -/
def setLinkSt (s : State) (k n : Nat) : State := s.put (Pg.link k) R.LINK_STATUS_STATE n

/-- Send a control symbol. -/
def sym (s : State) (k kind fields : Nat) : State := s.emit (.symbol k kind fields)

/-- The SIDE of a link as the marker ORIGIN (R62, R90). -/
def sideCode (k : Nat) : Nat := if k < 4 then k else 4

/-- The fields of this end's INIT (R90). -/
def initFields (s : State) (k : Nat) : Nat :=
  let l := s.link k
  (if s.nodeValid then s.node else 0)
  + (s.hubPos * 64 + sideCode k * 8 + b2n l.retryEn * 4 + s.get (Pg.link k) R.LINK_CFG_LP_ALLOWED * 2 + b2n s.nodeValid) * 2 ^ 8
  + 2 ^ 16 + l.gen * 2 ^ 24

/-- Bytes 1 to 2 and 4 to 5 of INIT, which INIT_ACK copies. -/
def ackPart (f : Nat) : Nat := f % 2 ^ 16 + bitsOf f 24 16 * 2 ^ 24

/-- Enter INIT (R105). -/
def enterInit (s : State) (k : Nat) : State :=
  let t := s.modLink k fun l =>
    { l with gen := (l.gen + 1) % 65536, initLast := none, initRun := 0, initAck := false, rtts := [],
             retryEn := s.on (Pg.link k) R.LINK_CFG_RETRY_EN }
  (t.setLinkSt k 2).sym k 0x66 (t.initFields k)

/-- A stitch partner that R126 does not accept. -/
def peerWrong (s : State) (k fields : Nat) : Bool :=
  let hub := bitsOf fields 14 2
  4 ≤ k && (hub != (s.hubPos + (k - 3)) % 4 || (s.nodeValid && bitOf fields 8 && fields % 256 != s.node))

/-- Set STITCH_STATUS.EXPECTED_HUB (R126). -/
def expectHub (s : State) (k : Nat) : State :=
  s.when (4 ≤ k) fun t => t.put (Pg.link k) R.STITCH_STATUS_EXPECTED_HUB ((s.hubPos + (k - 3)) % 4)

/-- The largest of the four round trips. -/
def rttOf (l : Link) : Nat := satAdd 16 (l.rtts.foldl Nat.max 0) 0

/-- Settle retry at the entry to ACTIVE (R107). -/
def settleRetry (s : State) (k : Nat) (own partner : Bool) (rtt : Nat) : State :=
  let p := Pg.link k
  let far := own && partner && decide (10240 < rtt)
  let t := (s.putB p R.LINK_STATUS_RETRY_ACTIVE (own && partner && !far)).putB p R.LINK_STATUS_DIST_LIMIT far
  let t := t.when far fun t => t.eventFault p evDist K.DIST_LIMIT rtt
  t.when (own != partner) fun t => t.eventFault p evMismatch K.RETRY_MISMATCH 0

/-- INIT is complete (R105, R106): the link enters ACTIVE. -/
def tryActive (s : State) (k : Nat) : State :=
  let l := s.link k
  let p := Pg.link k
  match l.initLast with
  | none => s
  | some f =>
    if s.linkSt k ≠ 2 ∨ l.initRun < 3 ∨ !l.initAck ∨ l.rtts.length < 4 ∨ s.peerWrong k f then s
    else
      let b2 := bitsOf f 8 8
      let who := (f % 256, b2 / 64, bitsOf b2 3 3)
      let changed := l.partner.any fun q => q != who
      let ident := f % 256 + b2 / 64 * 2 ^ 8 + bitsOf b2 3 3 * 2 ^ 10 + b2 % 2 * 2 ^ 13 + bitsOf b2 2 1 * 2 ^ 14 + 2 ^ 31
      let t := (s.wr p R.PARTNER_ID.off (BitVec.ofNat 32 ident)).put p R.RTT_NS (rttOf l)
      let t := t.modLink k fun l =>
        { gen := l.gen, retryEn := l.retryEn, partner := some who, activeSince := some s.ns }
      let t := (t.setLinkSt k 3).event p evUp
      let t := t.settleRetry k l.retryEn (bitOf b2 2) (rttOf l)
      let t := (t.clrF p R.LINK_STATUS_REPLAY_STALL).when changed fun t => t.event p evPartner
      if k < 4 then t.ringSideUp k changed else t.refreshNode.refreshReach

/-! ### The transmitter -/

/-- Retry runs on the link. -/
def retryOn (s : State) (k : Nat) : Bool := s.on (Pg.link k) R.LINK_STATUS_RETRY_ACTIVE

/-- The flits that a replay buffer holds (R108): 4,096, or fewer under the credit throttle (R591). -/
def replayLimit (s : State) (k : Nat) : Nat :=
  if s.chaffRuns && s.on (Pg.chaff 2) (R.CT_REPLAY_EN k) then clamp 64 4096 (s.get (Pg.chaff 2) (R.CT_REPLAY_FLITS k))
  else 4096

/-- The frame finds room in the replay buffer. DESIGN CHOICE, log entry 33. -/
def replayRoom (s : State) (k : Nat) (f : Frame) : Bool :=
  !s.retryOn k || decide ((s.link k).replay.length + f.flits ≤ s.replayLimit k)

/-- The flits of a frame from place `i` on. -/
def flitsFrom (f : Frame) (i : Nat) (stomp : Bool) : List Flit :=
  (List.range (f.flits - i)).map fun n => { frame := f, idx := i + n, stomp := stomp }

/-- Enter flits into the replay buffer, ahead of the last `behind` flits that are not yet sent. -/
def replayPush (s : State) (k : Nat) (l : List Flit) (behind : Nat) : State :=
  if s.retryOn k then
    s.modLink k fun x =>
      let n := x.replay.length - behind
      { x with replay := x.replay.take n ++ l ++ x.replay.drop n }
  else s

/-- A frame of the urgent list cuts into a bulk frame of which `unsent` flits remain (R102). -/
def preempts (s : State) (k : Nat) (f : Frame) (unsent : Nat) : State :=
  if 0 < unsent ∧ f.urgent then
    (s.count (Pg.link k) R.CNT_PREEMPT_PRE).modLink k fun l => { l with txPreempts := l.txPreempts + 1 }
  else if f.urgent then s
  else s.modLink k fun l => { l with txBulk := some f, txPreempts := 0 }

/-- A good frame leaves by a side or port. DESIGN CHOICE, log entry 33. -/
def transmit (s : State) (k : Nat) (f : Frame) (unsent : Nat) : State :=
  let behind := if f.urgent then unsent else 0
  let t := (s.preempts k f unsent).replayPush k (flitsFrom f 0 false) behind
  let t := (t.count48 (Pg.link k) R.FRAMES_TX_LO R.FRAMES_TX_HI).emit (.frame k f.header f.payload false)
  (t.bundleGone f).mirrorAt k 1 f

/-- Replay from a number (R111, R113): REPLAY, then every buffered flit from it in the original order. -/
def replayFrom (s : State) (k seq : Nat) : State :=
  let l := s.link k
  let off := (seq + 65536 - l.base) % 65536
  if l.replay.length < off then s
  else
    let again := l.replay.drop off
    let t := ((s.sym k 0x4B seq).count (Pg.link k) R.CNT_REPLAY_REPLAYS).countN (Pg.link k) R.CNT_REPLAY_FLITS again.length
    let t := again.foldl (fun t x =>
      if x.idx = 0 then t.emit (.frame k x.frame.header x.frame.payload x.stomp) else t) t
    t.modLink k fun l => { l with tries := l.tries + 1 }

/-- A received ACK (R108). -/
def ackIn (s : State) (k seq : Nat) : State :=
  let l := s.link k
  let n := (seq + 65537 - l.base) % 65536
  if 1 ≤ n ∧ n ≤ l.replay.length ∧ s.retryOn k then
    (s.modLink k fun l => { l with base := (l.base + n) % 65536, replay := l.replay.drop n, tries := 0 }).clrF (Pg.link k)
      R.LINK_STATUS_REPLAY_STALL
  else s

/-- The complete frames of a replay buffer, in the order of their header flits (R114). -/
def completeFrames : List Flit → List Frame
  | [] => []
  | x :: t =>
    if x.idx = 0 ∧ (x.frame.flits = 1 ∨ t.any fun y => y.frame == x.frame && y.idx + 1 == x.frame.flits) then
      if x.stomp ∨ t.any (fun y => y.frame == x.frame && y.stomp) then completeFrames t
      else x.frame :: completeFrames t
    else completeFrames t

/-- The frames that a replay buffer holds incomplete. -/
def incompleteFrames : List Flit → Nat
  | [] => 0
  | x :: t =>
    if x.idx = 0 ∧ x.frame.flits ≠ 1 ∧ !(t.any fun y => y.frame == x.frame && y.idx + 1 == x.frame.flits) then
      incompleteFrames t + 1
    else incompleteFrames t

/-! ### Cut-through (R17, R115, R170 to R172) -/

/-- The forwarded copy of a cut-through frame ends: good, or by STOMP. -/
def cutEnd (s : State) (k : Nat) (f : Frame) (stomp : Bool) (area : List Byte) : State :=
  let t := s.modLink k fun l => { l with txCut := l.txCut.filter (· != f) }
  let g := { f with payload := area.take f.plen }
  let t := t.replayPush k (flitsFrom g 1 stomp) 0
  let t := t.modLink k fun l => { l with replay := l.replay.map fun x =>
    if x.idx = 0 ∧ x.frame = f then { x with frame := g, stomp := stomp } else x }
  let t := t.emit (.frame k f.header area stomp)
  if stomp then t.count (Pg.link k) R.CNT_STOMP_TX
  else (t.count48 (Pg.link k) R.FRAMES_TX_LO R.FRAMES_TX_HI).mirrorAt k 1 g

/-- A frame that a receiver held open is given up: its forwarded copy is stomped. -/
def dropOpen (s : State) (o : Option RxOpen) : State :=
  match o with
  | some { cut := some c, .. } => s.cutEnd c.1 c.2 true (List.replicate (32 * (c.2.flits - 1)) 0)
  | _ => s

/-- The egress side is free for a frame on the transit express path (R170), of whose bulk frame `unsent` flits remain. -/
def sideFree (s : State) (k : Nat) (f : Frame) (unsent : Nat) : Bool :=
  let q := s.core.queued.filter (·.point == k)
  s.linkActive k && !s.on (Pg.link k) R.LINK_STATUS_REPLAY_STALL && s.replayRoom k f && !s.ring.wrapping.contains k
    && s.on Pg.core R.CORE_CFG_TRANSIT_EN
    && (if f.urgent then
          !(q.any (·.frame.urgent)) && !((s.link k).txCut.any (·.urgent)) && (unsent == 0 || decide ((s.link k).txPreempts < 16))
        else q.isEmpty && (s.link k).txCut.isEmpty && unsent == 0)

/-- What a hub does with a frame that arrives at a side or port (R96, R124, R130, R140, R141, R153): whether it delivers
it, and what it forwards; `expired` counts a frame discarded for HOPS. -/
structure Passage where
  deliver : Bool := false
  onward : Option Frame := none
  expired : Bool := false
  deriving DecidableEq, Repr

/-- The passage of a frame. -/
def passage (s : State) (k : Nat) (f : Frame) : Passage :=
  let own := s.ownFrame f
  let step : Frame := { f with hops := f.hops - 1 }
  if f.ftype = 0x20 ∨ f.ftype = 0x21 then { deliver := true }
  else if 4 ≤ k then { deliver := f.mcast || (s.nodeValid && f.dstNode == s.node && f.dstHub == s.hubPos) }
  else if f.mcast then
    if f.wrapped ∧ f.ftype ≠ 0x30 then
      if own then { onward := some { f with wrapped := false, hops := s.ringSize - 2 } }
      else if f.hops = 0 then { expired := true } else { onward := some step }
    else if own then {}
    else if f.ftype = 0x30 ∧ f.aux = 0x02 then { deliver := true }
    else { deliver := true, onward := if f.hops = 0 then none else some step }
  else if s.nodeValid ∧ f.dstNode = s.node ∧ f.dstHub = s.hubPos then { deliver := true }
  else if own ∧ !f.wrapped then {}
  else if f.hops = 0 then { expired := true }
  else { onward := some step }

/-- The cut-through decision at a good header (R17, R170 to R172). -/
def cutStart (s : State) (k : Nat) (f : Frame) (unsent : Nat) : State × Option (Nat × Frame) :=
  let w := s.passage k f
  match w.onward with
  | none => (s, none)
  | some g =>
    let e := otherSide k
    if f.ftype = 0x30 ∨ (w.deliver ∧ !s.on Pg.core R.CORE_CFG_MCAST_CUT) ∨ !s.sideFree e g unsent then (s, none)
    else
      let t := ((s.preempts e g unsent).replayPush e [{ frame := g, idx := 0 }] (if g.urgent then unsent else 0)).count
        Pg.core R.CNT_TRANSIT
      (t.modLink e fun l => { l with txCut := l.txCut ++ [g] }, some (e, g))

/-! ### The receiver (R103, R104, R109 to R112) -/

/-- `a` lies from 1 to 4,096 flits after `b`, modulo 65,536. -/
def laterFlit (a b : Nat) : Bool :=
  let d := (a + 65536 - b) % 65536
  decide (1 ≤ d) && decide (d ≤ 4096)

/-- A failure on the link (R110, R114): with retry on, one NAK; the open frames are given up. `num` is the number of the
header flit of the frame that failed. -/
def rxFail (s : State) (k reason num : Nat) : State :=
  let l := s.link k
  let first := match l.suspended with
    | some o => o.num
    | none => num
  let t := (s.dropOpen l.opened).dropOpen l.suspended
  let t := t.modLink k fun l => { l with opened := none, suspended := none }
  if s.retryOn k then
    ((t.count (Pg.link k) R.CNT_NAK_SENT).sym k 0x33 (first + reason * 2 ^ 16)).modLink k fun l =>
      { l with nak := some first, rxNext := first }
  else t

/-- A format error (R87, R89, R94, R103). -/
def formatError (s : State) (k num : Nat) : State :=
  ((s.count (Pg.link k) R.CNT_FMT_ERR).eventFault (Pg.link k) evProtocol K.PROTOCOL_ERR 3).rxFail k 3 num

/-- A received REPLAY (R110). -/
def replayIn (s : State) (k seq : Nat) : State :=
  let l := s.link k
  let gap (next : Nat) : State :=
    let t := (s.dropOpen l.opened).dropOpen l.suspended
    ((t.count (Pg.link k) R.CNT_NAK_SENT).sym k 0x33 (next + 5 * 2 ^ 16)).modLink k fun l =>
      { l with nak := some next, rxNext := next, opened := none, suspended := none }
  if !s.retryOn k then s
  else
    match l.nak with
    | some n =>
      if n = seq ∨ laterFlit n seq then s.modLink k fun l => { l with nak := none, rxNum := seq }
      else gap n
    | none =>
      if laterFlit seq l.rxNum then gap l.rxNum
      else
        ((s.dropOpen l.opened).dropOpen l.suspended).modLink k fun l =>
          { l with rxNext := l.rxNum, rxNum := seq, opened := none, suspended := none }

/-- The number of the oldest flit not yet acknowledged by this receiver is after `num`: it was received before. -/
def received (l : Link) (num : Nat) : Bool := laterFlit l.rxNext num

/-- A header flit (R94, R103, R104, R112); `since` flits of the open bulk frame came before it. -/
def headerIn (s : State) (k : Nat) (bs : List Byte) (since unsent : Nat) : State :=
  let l := s.link k
  if s.linkSt k ≠ 3 ∨ l.nak.isSome then s
  else
    let num := (l.rxNum + since) % 65536
    let t := s.modLink k fun l =>
      { l with rxNum := (num + 1) % 65536, opened := l.opened.map fun o => { o with got := o.got + since } }
    match checkHeader bs with
    | .badCrc => (t.count (Pg.link k) R.CNT_HDR_ERR).rxFail k 1 num
    | .badFormat => t.formatError k num
    | .good f plen =>
      let g := { f with payload := List.replicate plen 0 }
      let clash := match l.opened with
        | some o => o.frame.urgent || !g.urgent
        | none => false
      if clash then t.formatError k num
      else
        let dup := l.delivered.contains num
        let skip := dup || received l num
        let t := t.when dup fun t => t.count (Pg.link k) R.CNT_PREEMPT_REPLAY_DUP
        let t := t.when (!skip && (t.passage k g).expired) fun t => t.count (Pg.link k) R.CNT_DROP_HOP_EXPIRED
        let r := if skip ∨ 4 ≤ k then (t, none) else t.cutStart k g unsent
        r.1.modLink k fun l =>
          { l with suspended := l.opened, opened := some { frame := g, num := num, cut := r.2, skip := skip } }

/-- What the last flit of a frame shows (R99). -/
inductive Judged where
  | good
  | stomped
  | bad (reason : Nat)
  deriving DecidableEq, Repr

/-- Judge a frame (R99). -/
def judge (f : Frame) (got : Nat) (area tail : List Byte) (badSync : Bool) : Judged :=
  let ty := tail.getD 0 0
  if badSync then .bad 4
  else if got ≠ f.flits ∨ area.length ≠ 32 * (f.flits - 1) ∨ (ty ≠ 0x87 ∧ ty ≠ 0x99) then .bad 3
  else if ty = 0x99 then .stomped
  else if leNat (bytesAt tail 4 4) ≠ crc32c area then .bad 2
  else .good

/-- Acknowledge what has been received in order, unless an older frame is open (R109, R112). DEDUCED, log entry 38. -/
def acknowledge (s : State) (k num : Nat) : State :=
  let l := s.link k
  match l.opened with
  | some _ => s.modLink k fun l => { l with delivered := l.delivered ++ [num] }
  | none =>
    let t := s.modLink k fun l => { l with delivered := [], rxNext := l.rxNum }
    t.when (s.retryOn k) fun t => t.sym k 0x2D ((l.rxNum + 65535) % 65536)

/-- A good frame goes on (R140, R151 to R153, R171, R174): its forwarded copy ends or is queued; `deliver` takes it here,
with the number of the stored frame that a queued copy shares with it (R176). -/
def goodFrame (s : State) (k : Nat) (f : Frame) (cut : Option (Nat × Frame)) (area : List Byte)
    (deliver : State → Frame → Option Nat → State) : State :=
  let w := s.passage k f
  let t := (s.count48 (Pg.link k) R.FRAMES_RX_LO R.FRAMES_RX_HI).mirrorAt k 0 f
  let r : State × Option Nat := match cut, w.onward with
    | some c, _ => (t.cutEnd c.1 c.2 false area, none)
    | none, some g =>
      let x := t.ringOut (otherSide k) g
      (x.1, if x.2 then some (x.1.core.nextId - 1) else none)
    | none, none => (t, none)
  let t := r.1.when (4 ≤ k && !w.deliver) fun t => t.unreachable
  let t := t.when (w.deliver && w.onward.isSome) fun t => t.count Pg.core R.CNT_MCAST_COPIES
  t.when w.deliver fun t => deliver t f r.2

/-- The last flit of the open frame (R99, R109 to R112): `flits` of it came since its header, or since it resumed. -/
def lastFlit (s : State) (k flits : Nat) (area tail : List Byte) (badSync : Bool)
    (deliver : State → Frame → Option Nat → State) : State :=
  let l := s.link k
  if s.linkSt k ≠ 3 ∨ l.nak.isSome then s
  else
    let t := s.modLink k fun l => { l with rxNum := (l.rxNum + flits) % 65536 }
    match l.opened with
    | none => t.formatError k l.rxNum
    | some o =>
      let t := t.modLink k fun l => { l with opened := l.suspended, suspended := none }
      if o.skip then t
      else
        let f := { o.frame with payload := area.take o.frame.plen }
        match judge o.frame (o.got + flits) area tail badSync with
        | .good => (t.acknowledge k o.num).goodFrame k f o.cut area deliver
        | .stomped =>
          let t := (t.count (Pg.link k) R.CNT_STOMP_RX).acknowledge k o.num
          match o.cut with
          | some c => t.cutEnd c.1 c.2 true area
          | none => t
        | .bad reason =>
          let t := match o.cut with
            | some c => t.cutEnd c.1 c.2 true area
            | none => t
          let t := t.modLink k fun l => { l with suspended := l.opened, opened := none }
          if reason = 3 then t.formatError k o.num
          else (t.when (reason == 2) fun t => t.count (Pg.link k) R.CNT_CRC_ERR).rxFail k reason o.num

/-! ### Loss (R105, R114, R116, R151, R184) -/

/-- What a link that leaves ACTIVE or LP_IDLE does to the frames it held and to the ring. -/
def linkLost (s : State) (k cause : Nat) : State :=
  let l := s.link k
  let back := if s.retryOn k then (completeFrames l.replay).map fun f => { f with resent := true } else []
  let lost := if s.retryOn k then incompleteFrames l.replay
    else (if l.opened.isSome then 1 else 0) + (if l.suspended.isSome then 1 else 0) + l.txCut.length
  let t := s.countN (Pg.link k) R.CNT_DROP_DOWN_DISCARD lost
  let t := (t.dropOpen l.opened).dropOpen l.suspended
  let t := t.modLink k fun l =>
    { gen := l.gen, retryEn := l.retryEn, partner := l.partner, initLast := none }
  let t := (t.clrF (Pg.link k) R.LINK_STATUS_RETRY_ACTIVE).clrF (Pg.link k) R.LINK_STATUS_REPLAY_STALL
  if k < 4 then (t.ringSideDown k cause).drainSide k back
  else (t.drainSide k back).refreshNode.refreshReach

/-- The link goes DOWN (R105, R116). -/
def linkDown (s : State) (k cause : Nat) : State :=
  let p := Pg.link k
  let was := s.linkSt k
  let t := (s.put p R.LINK_STATUS_LAST_DOWN_CAUSE cause).setLinkSt k 5
  let t := (t.count p R.CNT_LINK_LINK_DOWN).eventFault p evDown K.LINK_DOWN cause
  let t := t.when (cause == 4) fun t => t.eventFault p evReplayLimit K.REPLAY_LIMIT 0
  let t := t.sym k 0xC3 cause
  t.when (was == 3 || was == 4) fun t => t.linkLost k cause

/-- A page's ENABLE set to 1 for a side or port: the lanes start, unless R57 or R60 refuse it. -/
def linkEnable (s : State) (k : Nat) : State :=
  let r := s.enableCheck k
  if r.2 then
    let t := ((r.1.putKept (Pg.link k) R.PAGE_CTRL_ENABLE 1).setLinkSt k 1).expectHub k
    (linkLanes k).foldl (fun t l => t.laneStart l) t
  else r.1

/-- ENABLE set to 0: the lanes stop, and what the link held is treated as at a loss. -/
def linkDisable (s : State) (k : Nat) : State :=
  let was := s.linkSt k
  let t := (s.putKept (Pg.link k) R.PAGE_CTRL_ENABLE 0).setLinkSt k 0
  let t := (linkLanes k).foldl (fun t l => t.laneStop l) t
  t.when (was == 3 || was == 4) fun t => t.linkLost k 0

/-! ### Low-power idle (R117, R118) -/

/-- Set or clear IDLE_REQ on the lanes of a side. -/
def idleReq (s : State) (k : Nat) (on : Bool) : State :=
  (linkLanes k).foldl (fun t l =>
    t.wrLaneCmd l (bitsPut (t.rd (Pg.lane l) R.LANE_CMD.off).toNat 1 1 (b2n on))) s

/-- Scheduled slots are configured for a side: SCHED_EN, a valid entry, and the side is one that its frames leave by. -/
def scheduledSide (s : State) (k : Nat) : Bool :=
  s.on Pg.sched R.SCHED_CFG_SCHED_EN && isForward k
    && (k / 2 == s.dataRing || (s.on Pg.redun R.REDUN_CFG_DUAL_EN && !s.on Pg.redun R.REDUN_STATUS_B_EXCLUDED))
    && s.regs.any fun c => c.1 / 0x1000000 == Pg.schedTable && c.1 % 16 == 0 && bitOf c.2.toNat 31

/-- The reason to deny low-power idle (R90, R117); 0 for none. -/
def lpDenial (s : State) (k : Nat) : Nat :=
  let l := s.link k
  if !s.on (Pg.link k) R.LINK_CFG_LP_ALLOWED then 1
  else if s.core.queued.any (·.point == k) then 2
  else if s.scheduledSide k then 3
  else if !l.replay.isEmpty ∨ l.opened.isSome ∨ l.suspended.isSome then 4
  else 0

/-- Low-power idle is agreed. -/
def enterLp (s : State) (k : Nat) : State :=
  let t := (s.setLinkSt k 4).event (Pg.link k) evLpIn
  ((t.count (Pg.link k) R.CNT_LINK_LP_ENTRY).modLink k fun l => { l with idleExpected := true, lpAsked := false }).idleReq k true

/-- Ask for low-power idle. -/
def askLp (s : State) (k : Nat) : State :=
  if s.linkSt k = 3 then (s.sym k 0x96 0).modLink k fun l => { l with lpAsked := true } else s

/-- A received LP_ENTER (R117). -/
def lpEnterIn (s : State) (k : Nat) : State :=
  if s.linkSt k ≠ 3 then s
  else if (s.link k).lpAsked then s.enterLp k
  else if s.lpDenial k = 0 then (s.sym k 0x96 0).enterLp k
  else s.sym k 0xB4 (s.lpDenial k)

/-! ### Symbols and writes -/

/-- A control symbol arrives (R90): one that fails its CRC-8 is counted and ignored. -/
def symbolIn (s : State) (k kind : Nat) (bytes : BitVec 56) (f : State → Nat → State) : State :=
  if !s.pageOn (Pg.link k) ∨ s.linkSt k < 2 then s
  else
    match symbolFields kind bytes with
    | some x => f s x
    | none => s.count (Pg.link k) R.CNT_CTL_ERR

/-- A received INIT (R105, R126). -/
def initIn (s : State) (k f : Nat) : State :=
  let p := Pg.link k
  let x := f % 2 ^ 40
  if s.linkSt k ≠ 2 then s
  else if s.peerWrong k x then
    let first := !s.on p R.STITCH_STATUS_PEER_MISMATCH
    let t := (s.setF p R.STITCH_STATUS_PEER_MISMATCH).when first fun t =>
      t.eventFault p evPeer K.PEER_MISMATCH (bitsOf x 14 2)
    (t.modLink k fun l => { l with initLast := some x, initRun := 0 }).sym k 0x66 (s.initFields k)
  else
    let t := s.when (4 ≤ k) fun t => t.clrF p R.STITCH_STATUS_PEER_MISMATCH
    let t := t.modLink k fun l =>
      { l with initRun := if l.initLast = some x then l.initRun + 1 else 1, initLast := some x }
    (t.sym k 0x69 (ackPart x)).tryActive k

/-- The effect of a write to a ring side or stitch port page. -/
def wrLink (k : Nat) (s : State) (off : Nat) (v : Word) : State :=
  let p := Pg.link k
  let x := v.toNat
  if off = R.PAGE_CTRL.off then
    let on := bitOf x 0 && !s.blockStopped p
    let was := s.on p R.PAGE_CTRL_ENABLE
    let t := s.when (!was && on) fun t => t.linkEnable k
    let t := t.when (was && !on) fun t => t.linkDisable k
    t.storeWrite p off (BitVec.ofNat 32 (bitsPut x 0 1 (t.get p R.PAGE_CTRL_ENABLE)))
  else if off = R.LINK_CTRL.off then
    let was := s.on p R.LINK_CTRL_LP_REQ
    let t := (s.touch (32 + k)).putB p R.LINK_CTRL_LP_REQ (bitOf x 0)
    let t := t.when (bitOf x 2) fun t => ((t.cntClear p).wr (Pg.liveHigh p) R.FRAMES_TX_HI.off 0).wr (Pg.liveHigh p)
      R.FRAMES_RX_HI.off 0
    let t := t.when (bitOf x 1 && t.linkSt k != 0) fun t => t.linkDown k 6
    if bitOf x 0 ∧ !was then t.askLp k
    else if !bitOf x 0 ∧ was ∧ t.linkSt k = 4 then t.idleReq k false
    else t
  else s.storeWrite p off v

/-- A command acts on a link only while its domain is on. -/
def onLink (s : State) (k : Nat) (f : State → State) : State := if s.pageOn (Pg.link k) then f s else s

end State

/-- LINK_ENABLE (R57, R60, R105). -/
def execLinkEnable (a : Agent) (k : LinkId) (s : State) : Host.Outcome State Fault Refusal :=
  finishAll (s.poke a (Pg.link k) R.PAGE_CTRL.off (s.withField (Pg.link k) R.PAGE_CTRL_ENABLE 1) (State.wrLink k))

/-- LINK_DISABLE (R105). -/
def execLinkDisable (a : Agent) (k : LinkId) (s : State) : Host.Outcome State Fault Refusal :=
  finishAll (s.poke a (Pg.link k) R.PAGE_CTRL.off (s.withField (Pg.link k) R.PAGE_CTRL_ENABLE 0) (State.wrLink k))

/-- CONTROL_FLIT_DEADLINE (R88): a control flit of what the state sends. -/
def execControlFlitDeadline (k : LinkId) (s : State) : Host.Outcome State Fault Refusal :=
  finishAll <| s.onLink k fun t =>
    if t.linkSt k = 2 then t.sym k 0x66 (t.initFields k)
    else if t.linkSt k = 3 then t.sym k 0x1E 0
    else if t.linkSt k = 5 ∧ t.lanesUp k then t.sym k 0xC3 (t.get (Pg.link k) R.LINK_STATUS_LAST_DOWN_CAUSE)
    else t

/-- IDLE (R89). -/
def execIdle (k : LinkId) (bytes : BitVec 56) (s : State) : Host.Outcome State Fault Refusal :=
  finishAll (s.symbolIn k 0x1E bytes fun t _ => t)

/-- ACK (R108). -/
def execAck (k : LinkId) (bytes : BitVec 56) (s : State) : Host.Outcome State Fault Refusal :=
  finishAll (s.symbolIn k 0x2D bytes fun t f => t.ackIn k (f % 65536))

/-- NAK (R111). -/
def execNak (k : LinkId) (bytes : BitVec 56) (s : State) : Host.Outcome State Fault Refusal :=
  finishAll <| s.symbolIn k 0x33 bytes fun t f =>
    if t.linkSt k = 3 ∧ t.retryOn k then (t.count (Pg.link k) R.CNT_NAK_RECEIVED).replayFrom k (f % 65536) else t

/-- REPLAY (R110). -/
def execReplay (k : LinkId) (bytes : BitVec 56) (s : State) : Host.Outcome State Fault Refusal :=
  finishAll (s.symbolIn k 0x4B bytes fun t f => if t.linkSt k = 3 then t.replayIn k (f % 65536) else t)

/-- STATUS (R118). -/
def execStatus (k : LinkId) (bytes : BitVec 56) (s : State) : Host.Outcome State Fault Refusal :=
  finishAll (s.symbolIn k 0x55 bytes fun t f => t.put (Pg.link k) R.LINK_STATUS_PARTNER_RX_UP (f % 2))

/-- INIT (R105, R126). -/
def execInit (k : LinkId) (bytes : BitVec 56) (s : State) : Host.Outcome State Fault Refusal :=
  finishAll (s.symbolIn k 0x66 bytes fun t f => t.initIn k f)

/-- INIT_ACK (R105). -/
def execInitAck (k : LinkId) (bytes : BitVec 56) (s : State) : Host.Outcome State Fault Refusal :=
  finishAll <| s.symbolIn k 0x69 bytes fun t f =>
    if t.linkSt k = 2 ∧ State.ackPart f = State.ackPart (t.initFields k) then
      (t.modLink k fun l => { l with initAck := true }).tryActive k
    else t

/-- PING (R106). -/
def execPing (k : LinkId) (bytes : BitVec 56) (s : State) : Host.Outcome State Fault Refusal :=
  finishAll (s.symbolIn k 0x78 bytes fun t f => t.sym k 0x7F (f % 65536))

/-- PONG (R105): the round trip in ns that it closes. -/
def execPong (k : LinkId) (bytes : BitVec 56) (rtt : BitVec 32) (s : State) : Host.Outcome State Fault Refusal :=
  finishAll <| s.symbolIn k 0x7F bytes fun t _ =>
    if t.linkSt k = 2 then
      (t.modLink k fun l => { l with rtts := if l.rtts.length < 4 then l.rtts ++ [rtt.toNat] else l.rtts }).tryActive k
    else t

/-- LANES_UP (R105). -/
def execLanesUp (k : LinkId) (s : State) : Host.Outcome State Fault Refusal :=
  finishAll (s.onLink k fun t => if t.linkSt k = 1 ∧ t.lanesUp k then t.enterInit k else t)

/-- INIT_TIMEOUT (R105, R126). -/
def execInitTimeout (k : LinkId) (s : State) : Host.Outcome State Fault Refusal :=
  finishAll <| s.onLink k fun t =>
    if t.linkSt k = 2 ∧ !t.on (Pg.link k) R.STITCH_STATUS_PEER_MISMATCH then t.linkDown k 5 else t

/-- LINK_DOWN (R116): a LINK_DOWN symbol, or a lane that has left UP. -/
def execLinkDown (k : LinkId) (symbol : Option (BitVec 56)) (s : State) : Host.Outcome State Fault Refusal :=
  finishAll <|
    match symbol with
    | some bytes => s.symbolIn k 0xC3 bytes fun t _ => if t.linkSt k = 3 ∨ t.linkSt k = 4 then t.linkDown k 3 else t
    | none => s.onLink k fun t =>
      if t.linkSt k = 3 ∧ !t.lanesUp k then t.linkDown k 1
      else if t.linkSt k = 4 ∧ t.idleBroken k then t.linkDown k 7
      else t

/-- SILENCE_TIMEOUT (R116). -/
def execSilenceTimeout (k : LinkId) (s : State) : Host.Outcome State Fault Refusal :=
  finishAll (s.onLink k fun t => if t.linkSt k = 3 then t.linkDown k 2 else t)

/-- LINK_RESET (R105). -/
def execLinkReset (a : Agent) (k : LinkId) (s : State) : Host.Outcome State Fault Refusal :=
  finishAll (s.poke a (Pg.link k) R.LINK_CTRL.off (s.withField (Pg.link k) R.LINK_CTRL_LINK_RESET 1) (State.wrLink k))

/-- HOLDOFF_EXPIRY (R105, R106). -/
def execHoldoffExpiry (k : LinkId) (s : State) : Host.Outcome State Fault Refusal :=
  finishAll <| s.onLink k fun t =>
    if t.linkSt k = 5 then (if t.lanesUp k then t.enterInit k else t.setLinkSt k 1) else t

/-- REPLAY_TIMEOUT (R113). -/
def execReplayTimeout (k : LinkId) (s : State) : Host.Outcome State Fault Refusal :=
  finishAll <| s.onLink k fun t =>
    if t.linkSt k = 3 ∧ t.retryOn k ∧ !(t.link k).replay.isEmpty then
      if Nat.max 1 (t.get (Pg.link k) R.LINK_CFG_REPLAY_LIMIT) ≤ (t.link k).tries then t.linkDown k 4
      else t.replayFrom k (t.link k).base
    else t

/-- FRAME_HEADER (R94, R103). -/
def execFrameHeader (k : LinkId) (header : List Byte) (since unsent : BitVec 4) (s : State) :
    Host.Outcome State Fault Refusal :=
  finishAll (s.onLink k fun t => t.headerIn k header since.toNat unsent.toNat)

/-- LP_REQ_WRITE (R117, R118). -/
def execLpReqWrite (a : Agent) (k : LinkId) (on : Bool) (s : State) : Host.Outcome State Fault Refusal :=
  finishAll (s.poke a (Pg.link k) R.LINK_CTRL.off (s.withField (Pg.link k) R.LINK_CTRL_LP_REQ (b2n on)) (State.wrLink k))

/-- LP_ENTER (R117). -/
def execLpEnter (k : LinkId) (bytes : BitVec 56) (s : State) : Host.Outcome State Fault Refusal :=
  finishAll (s.symbolIn k 0x96 bytes fun t _ => t.lpEnterIn k)

/-- LP_DENY (R117). -/
def execLpDeny (k : LinkId) (bytes : BitVec 56) (s : State) : Host.Outcome State Fault Refusal :=
  finishAll <| s.symbolIn k 0xB4 bytes fun t _ =>
    (t.modLink k fun l => { l with lpAsked := false }).event (Pg.link k) evLpRefused

/-- LP_IDLE_EXIT (R105, R118): the lanes are back in UP, or the exit has failed. -/
def execLpIdleExit (k : LinkId) (s : State) : Host.Outcome State Fault Refusal :=
  finishAll <| s.onLink k fun t =>
    if t.linkSt k = 4 then
      if t.lanesUp k then
        (((t.setLinkSt k 3).event (Pg.link k) evLpOut).modLink k fun l =>
          { l with idleExpected := false, lpAsked := false }).idleReq k false
      else if t.idleBroken k then t.linkDown k 7
      else t
    else t

/-- LP_STATUS_INTERVAL (R118): the hub leaves electrical idle and sends STATUS. -/
def execLpStatusInterval (k : LinkId) (s : State) : Host.Outcome State Fault Refusal :=
  finishAll <| s.onLink k fun t =>
    if t.linkSt k = 4 then
      (t.idleReq k false).sym k 0x55 (b2n ((linkLanes k).all fun l => t.laneSt l == 5)
        + t.get (Pg.link k) R.LINK_STATUS_RETRY_ACTIVE * 2 + t.get (Pg.link k) R.LINK_CTRL_LP_REQ * 4)
    else t

end Sys2Proof.Machine
end

