-- ==== Sys2Proof/Machine/Operands.lean ====
section
/-! DEFINITION. The operand forms of an access through the fabric: fabric addresses (R38), byte enables (R243), the pieces of
a run of bytes (R244). -/

namespace Sys2Proof.Machine

/-- NODE × 4 + HUB, REGION and OFFSET of a fabric address (R38). -/
def addrHub (a : Nat) : Nat := bitsOf a 38 10
def addrRegion (a : Nat) : Nat := bitsOf a 32 6
def addrOff (a : Nat) : Nat := a % 2 ^ 32

/-- Byte enables of a run of `len` bytes from a byte address: the first word's, and the last word's in [7:4] (R243). -/
def enables (addr len : Nat) : Nat :=
  let lo := addr % 4
  let fin := (addr + len - 1) % 4
  let low := notW 4 (2 ^ lo - 1)
  let high := 2 ^ (fin + 1) - 1
  if addr / 4 = (addr + len - 1) / 4 then (Nat.land low high) * 17 else low + high * 16

/-- The words that a run of bytes touches. -/
def wordsSpan (addr len : Nat) : Nat := if len = 0 then 0 else (addr + len - 1) / 4 - addr / 4 + 1

/-- Cut a run into pieces of at most 240 bytes of whole words, none across a 4 KiB boundary (R244): start and length. -/
def piecesOf : Nat → Nat → Nat → List (Nat × Nat)
  | 0, _, _ => []
  | fuel + 1, addr, len =>
    if len = 0 then []
    else
      let n := Nat.min len (Nat.min (240 - addr % 4) (4096 - addr % 4096))
      (addr, n) :: piecesOf fuel (addr + n) (len - n)

end Sys2Proof.Machine
end

