-- ==== Sys2Proof/Machine/Bridge.lean ====
section
/-! DEFINITION. The bridge (R241 to R267): requests and their slots, completions, the far-error and orphaned-read logs, the
command record. What a target performs stands in Access, since it reaches every page. -/

namespace Sys2Proof.Machine

open Sys2Proof (Word Byte Agent Code AccessKind Instr LaneId LinkId EngineId)

/-- The request is posted: a write of a PCIe host (R241). A write of the management function or of a command port is not. -/
def Req.posted (r : Req) : Bool :=
  r.write && r.cmd.isNone && (match r.src with
    | .usb _ => false
    | _ => true)

namespace State

/-- The address names this hub itself (R42). DEDUCED, log entry 18. -/
def isSelf (s : State) (addr : Nat) : Bool := s.nodeValid && addrHub addr == s.selfIndex

/-- A path to a hub exists (R140, R254); a hub without a node number sends nothing (R124). -/
def canReach (s : State) (o : Nat) : Bool := s.nodeValid && s.ownerReachable o

/-- READ_DISCARD in µs as it acts (R250). -/
def readDiscardUs (s : State) : Nat := clamp 1 1000000 (s.get Pg.bridge R.READ_DISCARD % 2 ^ 20)

/-- PREFETCH_AGE in µs as it acts (R258). -/
def prefetchAgeUs (s : State) : Nat := clamp 1 1000 (s.get Pg.bridge R.PREFETCH_AGE % 1024)

/-- How many outstanding slots the bridge may use (R246): 256, or fewer under the credit throttle (R591). -/
def slotLimit (s : State) : Nat :=
  if s.chaffRuns && s.on (Pg.chaff 2) R.CT_BRIDGE_EN then clamp 1 256 (s.get (Pg.chaff 2) R.CT_BRIDGE_SLOTS) else 256

/-- The entries of the target's request buffer (R247): 64, or fewer under the credit throttle. -/
def targetLimit (s : State) : Nat :=
  if s.chaffRuns && s.on (Pg.chaff 2) R.CT_BRIDGE_EN then clamp 1 64 (s.get (Pg.chaff 2) R.CT_BRIDGE_TARGET) else 64

/-- AGENT of a request of this hub (R245, R525): its host, an engine, or THERMAL. -/
def raAgent (s : State) (r : Req) : Nat :=
  let here := s.node * 4 + s.hubPos
  match r.src with
  | .engine _ => 0xC000 + here
  | .thermal _ => 0xE000 + here
  | _ => 0x8000 + (if r.agent = usbHost.toNat then 0x2000 else 0) + here

/-- The header and data of a request's payload (R243). -/
def reqPayload (s : State) (r : Req) : List Byte :=
  let first := r.addr / 4 * 4
  let be := enables r.addr r.len
  let pre := match r.src with
    | .prefetch _ => 64
    | _ => 0
  let pad := List.replicate (r.addr - first) (0 : Byte)
  let data := if r.write then bytesAt (pad ++ r.data) 0 (4 * wordsSpan r.addr r.len) else []
  leBytes 4 (addrOff first) ++ [BitVec.ofNat 8 (addrRegion r.addr + pre + b2n r.cmd.isSome * 128),
    BitVec.ofNat 8 (if r.write then 0 else be)] ++ leBytes 2 (s.raAgent r) ++ leBytes 4 (r.cmd.getD 0) ++ data

/-- The frame of a request, with its tag (R242, R243). -/
def reqFrame (s : State) (r : Req) (tag : Nat) : Frame :=
  let node := addrHub r.addr / 4
  { cls := 2, prio := s.get Pg.bridge R.BRIDGE_CFG_PRIO,
    ftype := if r.write then (if r.posted then 0x11 else 0x12) else 0x10,
    dstNode := node, dstHub := addrHub r.addr % 4, mcast := node == 255, tag := tag,
    aux := if r.write then enables r.addr r.len else wordsSpan r.addr r.len, payload := s.reqPayload r }

/-! ### Logs (R251, R253, R254, R266) -/

/-- Count an entry lost by a full log. -/
def logLost (s : State) (f : Fld) : State :=
  (s.put Pg.logs f (satAdd 16 (s.get Pg.logs f) 1)).event Pg.logs E.P07B_LOG_LOST

/-- Enter a far error. -/
def farError (s : State) (outcome : Nat) (isLocal : Bool) (agent addr : Nat) : State :=
  if s.bridge.far.length < 64 then
    (s.modBridge fun b => { b with far := b.far ++ [{ outcome := outcome, isLocal := isLocal, agent := agent, addr := addr,
                                                      time := s.uptime }] }).event Pg.logs E.P07B_FAR_ERROR
  else s.logLost R.FEL_LOST

/-- Enter an orphaned read. -/
def orphan (s : State) (agent addr : Nat) (data : List Byte) : State :=
  if s.bridge.orphans.length < 16 then
    (s.modBridge fun b => { b with orphans := b.orphans ++ [{ agent := agent, addr := addr, data := data, time := s.uptime }] }).event
      Pg.logs E.P07B_ORPHANED_READ
  else s.logLost R.ORL_LOST

/-- A read of FEL_POP (R266). -/
def felPop (s : State) : State × Word :=
  match s.bridge.far with
  | [] => (s, 0)
  | x :: t =>
    let u := s.modBridge fun b => { b with far := t }
    let u := (u.wr Pg.logs R.FEL_ADDR_LO.off (BitVec.ofNat 32 x.addr)).wr Pg.logs R.FEL_ADDR_HI.off
      (BitVec.ofNat 32 (x.addr / 2 ^ 32 % 2 ^ 16))
    (u.wr Pg.logs R.FEL_TIME.off (BitVec.ofNat 32 x.time),
     BitVec.ofNat 32 (2 ^ 31 + x.outcome % 16 * 2 ^ 24 + b2n x.isLocal * 2 ^ 20 + x.agent % 2 ^ 16))

/-- A read of ORL_POP (R266). -/
def orlPop (s : State) : State × Word :=
  match s.bridge.orphans with
  | [] => (s, 0)
  | x :: t =>
    let u := s.modBridge fun b => { b with orphans := t }
    let u := (u.wr Pg.logs R.ORL_ADDR_LO.off (BitVec.ofNat 32 x.addr)).wr Pg.logs R.ORL_ADDR_HI.off
      (BitVec.ofNat 32 (x.addr / 2 ^ 32 % 2 ^ 16))
    let u := u.wr Pg.logs R.ORL_TIME.off (BitVec.ofNat 32 x.time)
    ((List.range 60).foldl (fun u i => u.wr Pg.logs (R.ORL_DATA i).off (BitVec.ofNat 32 (leNat (bytesAt x.data (4 * i) 4)))) u,
     BitVec.ofNat 32 (2 ^ 31 + x.data.length % 256 * 2 ^ 16 + x.agent % 2 ^ 16))

/-! ### What a source receives (R244, R250, R255, R261, R264) -/

/-- A local agent identifier. -/
def agentOf (n : Nat) : Agent := BitVec.ofNat 16 n

/-- A command port is done. -/
def portDone (s : State) (p outcome original : Nat) : State :=
  let t := (s.clrF Pg.ports (R.CP_CTRL_BUSY p)).setF Pg.ports (R.CP_CTRL_DONE p)
  ((t.put Pg.ports (R.CP_CTRL_OUTCOME p) outcome).put Pg.ports (R.CP_CTRL_ORIGINAL p) original).event Pg.ports
    E.P07A_CP_DONE

/-- The prefetch that a host read which came back OK asks for (R257): the next 240 bytes through a prefetching window, cut at
the end of the 4 KiB page. -/
def prefetchNext (s : State) (off len : Nat) : State :=
  let w := off / 2 ^ 30 % 16
  if s.on Pg.windows (R.WIN_CTRL_EN w) && s.on Pg.windows (R.WIN_CTRL_PREFETCH w) then
    let next := off + len
    let addr := s.get Pg.windows (R.WIN_CTRL_BASE w) * 2 ^ 30 + next % 2 ^ 30
    let n := Nat.min 240 (4096 - addr % 4096)
    if next % 4096 = 0 ∧ 0 < len then s
    else
      let r : Req := { src := .prefetch w, agent := pcieHost.toNat, addr := addr, len := n }
      if s.isSelf addr then s.modBridge fun b => { b with work := b.work ++ [r] }
      else s.modBridge fun b => { b with waiting := b.waiting ++ [r] }
  else s

/-- A piece of a host read has its bytes; the last one answers the host, in address order (R244). -/
def pieceDone (s : State) (id piece : Nat) (data : List Byte) (good : Bool) : State :=
  match s.bridge.reads.find? (·.id == id) with
  | none => s
  | some r =>
    let q := { r with pieces := r.pieces.set piece (some data), ok := r.ok && good }
    if q.pieces.all (·.isSome) then
      let bytes := q.pieces.flatMap fun x => x.getD []
      let t := (s.modBridge fun b => { b with reads := b.reads.filter (·.id != id) }).emit
        (.readData pcieHost (2 ^ 40 + q.off) (wordsOf (bytes.length + 1) bytes) 0)
      t.when q.ok fun t => t.prefetchNext q.off q.len
    else s.modBridge fun b => { b with reads := b.reads.map fun x => if x.id = id then q else x }

/-- A remote outcome of 0x8 to 0xC enters the access fault log of the requesting hub (R34, R53, R255). -/
def logRemote (s : State) (r : Req) (outcome : Nat) : State :=
  if 8 ≤ outcome ∧ outcome ≤ 12 then
    s.logAccess (Code.ofNum outcome) (if r.write then .nonPosted else .read) (agentOf r.agent) r.addr none
  else s

/-- The source of a request receives its outcome and data (R244, R250, R257, R261, R264). `slot` and `gen` name the slot it
held. -/
def answerTo (s : State) (r : Req) (slot gen outcome original : Nat) (data : List Byte) : State :=
  let t := s.logRemote r outcome
  match r.src with
  | .hostRead id piece => t.pieceDone id piece (if outcome = 0 then bytesAt data 0 r.len else List.replicate r.len 0xFF) (outcome == 0)
  | .hostWrite => t
  | .port p => t.portDone p outcome original
  | .engine e =>
    t.modBridge fun b => { b with answers := b.answers ++
      [{ engine := e, slot := slot, gen := gen, addr := r.addr, outcome := outcome, data := data }] }
  | .prefetch w =>
    if outcome = 0 then
      t.modBridge fun b => { b with prefetched := b.prefetched.filter (·.win != w) ++
        [{ win := w, addr := r.addr, data := data, at_ := s.ns }] }
    else if outcome = 0xE then t.count Pg.bridge R.CNT_PREFETCH_PREFETCHES
    else t
  | .thermal _ => t.modRal fun r =>
    { r with rateJobs := match r.rateJobs with
      | [] => []
      | j :: l => (j.1, j.2.1, if outcome = 0 then j.2.2 + 1 else 0xFF) :: l }
  | .usb piece =>
    { t with usb := { t.usb with parts := t.usb.parts.set piece (some (outcome, original, data)) } }

/-! ### Slots (R242, R246, R250, R251) -/

/-- The generation of a slot. -/
def slotGen (s : State) (n : Nat) : Nat := look n s.bridge.gens

/-- The lowest free slot. -/
def freeSlot (s : State) : Option Nat :=
  if s.bridge.slots.length < s.slotLimit then
    (List.range 256).find? fun n => !s.bridge.slots.any (·.n == n)
  else none

/-- Send a request in a slot, or without one when it is posted (R246, R254). -/
def sendReq (s : State) (r : Req) (slot : Option Nat) : State :=
  let gen := match slot with
    | some n => s.slotGen n
    | none => 0
  let tag := match slot with
    | some n => n + gen * 256
    | none => 0
  if !s.canReach (addrHub r.addr) ∧ addrHub r.addr / 4 ≠ 255 then
    let t := s.unreachable
    match slot with
    | some n => t.answerTo r n gen 8 0 []
    | none => t.farError 8 true (s.raAgent r) r.addr
  else
    let t := (s.count Pg.bridge R.CNT_REQ_REQUESTS).sendOwn (s.reqFrame r tag) |>.1
    match slot with
    | some n => t.modBridge fun b => { b with slots := b.slots ++ [{ n := n, gen := gen, req := r }] }
    | none => t

/-- Issue a request of this hub (R42, R241, R246): performed here, sent, or left to wait for a slot. -/
def issue (s : State) (r : Req) : State :=
  if s.isSelf r.addr then s.modBridge fun b => { b with work := b.work ++ [r] }
  else if r.posted then s.sendReq r none
  else
    match s.freeSlot with
    | some n => if s.bridge.waiting.isEmpty then s.sendReq r (some n) else s.modBridge fun b => { b with waiting := b.waiting ++ [r] }
    | none => s.modBridge fun b => { b with waiting := b.waiting ++ [r] }

/-- Waiting requests, oldest first, take free slots (R246). -/
def takeSlots : Nat → State → State
  | 0, s => s
  | n + 1, s =>
    match s.freeSlot, s.bridge.waiting with
    | some m, r :: rest => takeSlots n ((s.modBridge fun b => { b with waiting := rest }).sendReq r (some m))
    | _, _ => s

/-- Every waiting request takes a slot while one is free. -/
def takeSlot (s : State) : State := takeSlots s.bridge.waiting.length s

/-- Release a slot: its generation advances (R242), and the oldest waiting request takes a free one. -/
def releaseSlot (s : State) (n : Nat) : State :=
  (s.modBridge fun b =>
    { b with slots := b.slots.filter (·.n != n), gens := file n ((look n b.gens + 1) % 256) b.gens }).takeSlot

/-- The host read that a request is a piece of ended with a reset of the endpoint (R397). -/
def readGone (s : State) (r : Req) : Bool :=
  match r.src with
  | .hostRead id _ => !s.bridge.reads.any (·.id == id)
  | _ => false

/-- A received completion (R251): its slot's source is answered, or it is late. -/
def completionIn (s : State) (src tag aux : Nat) (p : List Byte) : State :=
  let n := tag % 256
  let gen := tag / 256 % 256
  let data := bytesAt (p.drop 8) 0 (leNat (bytesAt p 6 2))
  let late (s : State) (agent : Nat) (fetch : Bool) : State :=
    if aux = 0 ∧ !data.isEmpty ∧ !fetch then
      s.orphan agent (src * 2 ^ 38 + bitsOf (p.getD 4 0).toNat 0 6 * 2 ^ 32 + leNat (bytesAt p 0 4)) data
    else s.count Pg.bridge R.CNT_LATE
  match s.bridge.slots.find? fun x => x.n == n && x.gen == gen with
  | some x =>
    if s.readGone x.req then late (s.releaseSlot n) (s.raAgent x.req) false else
    let t := s.when (aux == 0xA) fun t => t.count Pg.bridge R.CNT_BUSY_RECEIVED
    let lead := x.req.addr % 4
    let got := if x.req.write then [] else bytesAt (data.drop lead) 0 x.req.len
    let t := (t.releaseSlot n).answerTo x.req n gen aux (bitsOf (p.getD 5 0).toNat 0 4) got
    t.takeSlot
  | none =>
    let past := s.bridge.past.find? fun x => x.1 == n && x.2.1 == gen
    late s ((past.map (·.2.2.1)).getD 0xFFFF) (past.any (·.2.2.2))

/-- The read discard timer of a slot runs out (R250, R264). -/
def discardSlot (s : State) (n : Nat) : State :=
  match s.bridge.slots.find? (·.n == n) with
  | some x =>
    let t := ((s.count Pg.bridge R.CNT_DISCARDED).event Pg.bridge E.P078_DISCARDED).releaseSlot n
    let fetch := match x.req.src with
      | .prefetch _ => true
      | _ => false
    (t.modBridge fun b => { b with past := b.past.filter (·.1 != n) ++ [(n, x.gen, s.raAgent x.req, fetch)] }).answerTo x.req
      n x.gen 9 0 []
  | none =>
    match s.bridge.answers.find? (·.slot == n) with
    | some a =>
      let t := s.modBridge fun b => { b with answers := b.answers.filter (·.slot != n) }
      if a.outcome = 0 then t.orphan (0xC000 + s.node * 4 + s.hubPos) a.addr a.data else t
    | none => s

/-! ### Command ports (R261) -/

/-- CP_CTRL.GO. -/
def cpGo (s : State) (a : Agent) (p : Nat) : State :=
  if s.on Pg.ports (R.CP_CTRL_BUSY p) then
    (s.setF Pg.ports (R.CP_CTRL_CP_REFUSED p)).event Pg.ports E.P07A_CP_REFUSED
  else
    let len := clamp 1 16 (s.get Pg.ports (R.CP_CTRL_LEN p))
    let addr := s.get Pg.ports (R.CP_ADDR_LO p) + 2 ^ 32 * (s.get Pg.ports (R.CP_ADDR_HI p) % 2 ^ 16)
    let data := (List.range 4).flatMap fun i => leBytes 4 (s.get Pg.ports (R.CP_DATA p i))
    let t := ((s.setF Pg.ports (R.CP_CTRL_BUSY p)).clrF Pg.ports (R.CP_CTRL_DONE p)).clrF Pg.ports (R.CP_CTRL_CP_REFUSED p)
    let r : Req := { src := .port p, agent := a.toNat, addr := addr, write := true, len := len, data := data.take len,
                     cmd := some (s.get Pg.ports (R.CP_SEQ p)) }
    if addrHub addr / 4 = 255 then t.portDone p Code.unsupported.num 0
    else t.issue r

/-! ### The command record (R262) -/

/-- What the record says of a command: `none` to perform it; else ORIGINAL of its DUPLICATE. -/
def cmdCheck (s : State) (agent seq : Nat) : Option Nat :=
  match s.bridge.cmds.find? (·.agent == agent) with
  | none => none
  | some e =>
    let d := (seq + 2 ^ 32 - e.seq) % 2 ^ 32
    if 1 ≤ d ∧ d < 2 ^ 31 then none else if d = 0 then some e.outcome else some 15

/-- Record the outcome of a command. -/
def cmdRecord (s : State) (agent seq outcome : Nat) : State :=
  let e (i : Nat) : CmdRec := { idx := i, agent := agent, seq := seq, outcome := outcome, time := s.uptime }
  let l := s.bridge.cmds
  match l.find? (·.agent == agent) with
  | some x => s.modBridge fun b => { b with cmds := l.filter (·.agent != agent) ++ [e x.idx] }
  | none =>
    match (List.range 32).find? fun i => !l.any (·.idx == i) with
    | some i => s.modBridge fun b => { b with cmds := l ++ [e i] }
    | none =>
      match l with
      | [] => s
      | x :: t =>
        ((s.modBridge fun b => { b with cmds := t ++ [e x.idx] }).put Pg.record R.CR_EVICT
          (satAdd 16 (s.get Pg.record R.CR_EVICT) 1)).event Pg.record E.P00E_CR_EVICT

/-- An agent has used its entry. -/
def cmdUsed (s : State) (agent : Nat) : State :=
  s.modBridge fun b => { b with cmds := b.cmds.filter (·.agent != agent) ++ b.cmds.filter (·.agent == agent) }

/-! ### Answers of a target (R242, R247, R253) -/

/-- Where a target's answer goes: the requester, the PRIO and tag of its request. -/
structure Asker where
  src : Nat
  prio : Nat
  tag : Nat
  deriving DecidableEq, Repr

/-- Send a completion (R243). -/
def completeTo (s : State) (q : Asker) (region off outcome original : Nat) (data : List Byte) : State :=
  let t := s.when (outcome == 0xA) fun t => (t.count Pg.bridge R.CNT_BUSY_TARGET_BUSY).event Pg.bridge E.P078_TARGET_BUSY
  (t.sendOwn { cls := 2, prio := q.prio, ftype := 0x13, dstNode := q.src / 4, dstHub := q.src % 4, tag := q.tag,
               aux := outcome,
               payload := leBytes 4 off ++ [BitVec.ofNat 8 region, BitVec.ofNat 8 original] ++ leBytes 2 data.length ++ data }).1

/-- Send a far error (R253). -/
def farErrorTo (s : State) (src region off agent outcome : Nat) : State :=
  let t := s.when (outcome == 0xA) fun t => (t.count Pg.bridge R.CNT_BUSY_TARGET_BUSY).event Pg.bridge E.P078_TARGET_BUSY
  (t.sendOwn { cls := 1, prio := s.get Pg.bridge R.BRIDGE_CFG_PRIO, ftype := 0x14, dstNode := src / 4, dstHub := src % 4,
               aux := outcome, payload := leBytes 4 off ++ [BitVec.ofNat 8 region, 0] ++ leBytes 2 agent }).1

/-! ### Writes to the pages of the bridge -/

/-- The effect of a write to a page of the bridge, or of the command record. -/
def wrBridge (a : Agent) (p : Nat) (s : State) (off : Nat) (v : Word) : State :=
  if p = Pg.bridge ∧ off = R.BRIDGE_CMD.off then
    s.when (bitOf v.toNat 0) fun t => [Pg.bridge, Pg.ports, Pg.logs].foldl cntClear t
  else if p = Pg.ports ∧ off % 0x20 = 0x0C ∧ 0x04C ≤ off ∧ off < 0x0C0 then
    let port := (off - 0x040) / 0x20
    let t := s.put Pg.ports (R.CP_CTRL_LEN port) v.toNat
    if bitOf v.toNat 8 then t.cpGo a port else t
  else if p = Pg.record ∧ off = R.CR_CMD.off then
    s.when (bitOf v.toNat 0) fun t => t.modBridge fun b => { b with cmds := [] }
  else s.storeWrite p off v

/-- A received far error (R253). -/
def farErrorIn (s : State) (src aux : Nat) (p : List Byte) : State :=
  s.farError (aux % 16) false (leNat (bytesAt p 6 2))
    (src * 2 ^ 38 + bitsOf (p.getD 4 0).toNat 0 6 * 2 ^ 32 + leNat (bytesAt p 0 4))

end State

/-- FEL_POP (R266). -/
def execFelPop (a : Agent) (s : State) : Host.Outcome State Fault Refusal :=
  finishAll (s.guardedRead a Pg.logs R.FEL_POP.off State.felPop)

/-- ORL_POP (R266). -/
def execOrlPop (a : Agent) (s : State) : Host.Outcome State Fault Refusal :=
  finishAll (s.guardedRead a Pg.logs R.ORL_POP.off State.orlPop)

/-- CLEAR_ALL (R263). -/
def execClearAll (a : Agent) (s : State) : Host.Outcome State Fault Refusal :=
  finishAll (s.poke a Pg.record R.CR_CMD.off 1 (State.wrBridge a Pg.record))

/-- RA_FAR_ERROR (R253). -/
def execRaFarError (src : Fin 1024) (aux : BitVec 16) (payload : List Byte) (s : State) :
    Host.Outcome State Fault Refusal :=
  finishAll (if s.domainOn 4 then s.farErrorIn src aux.toNat payload else s)

end Sys2Proof.Machine
end

