-- ==== Sys2Proof/Machine/Engine.lean ====
section
/-! DEFINITION. Port engines: cells, enabling, bindings, raw messages, the downstream queue, what comes up and goes down with
an engine (R268 to R285, R302 to R308, R625). The modes stand in Ports and Can. -/

namespace Sys2Proof.Machine

open Sys2Proof (Word Byte Agent Code AccessKind Instr EngineId BankId BusResult)

/-- The engine and the function that a word of CELL_CFG gives cell `c`, where it gives one (R273). -/
def cellUse (c w : Nat) : Option (Nat × Nat) :=
  let g := c / 40
  let at_ (b : Nat) : Option (Nat × Nat) := some (16 * b + bitsOf w 2 4, bitsOf w 6 3)
  match w % 4 with
  | 0 => none
  | 1 => at_ g
  | 2 => if 1 ≤ g then at_ (g - 1) else none
  | _ => if g ≤ 6 then at_ (g + 1) else none

/-- The OWNER of a word of CELL_CFG is allowed for cell `c` (R273). -/
def ownerAllowed (c w : Nat) : Bool :=
  let g := c / 40
  let k := c % 40
  match w % 4 with
  | 2 => k ≤ 3 && 1 ≤ g
  | 3 => 36 ≤ k && g ≤ 6
  | _ => true

/-- The functions that a mode requires (R270); modes 7 and 8 require at least one of 0 to 3. -/
def requiredFuncs (m : Nat) : List Nat :=
  match m with
  | 1 | 4 | 5 | 6 | 9 => [0, 1]
  | 2 | 3 => [0, 1, 2, 3]
  | _ => []

/-- A raw record (R282). -/
def rawBytes (flags rkind ts : Nat) (data : List Byte) : List Byte :=
  leBytes 2 data.length ++ [BitVec.ofNat 8 flags, BitVec.ofNat 8 rkind] ++ leBytes 8 ts
    ++ bytesAt data 0 (4 * ((data.length + 3) / 4))

/-- LEN, RKIND and data of a raw record. -/
def rawLen (p : List Byte) : Nat := (p.getD 0 0).toNat
def rawKind (p : List Byte) : Nat := (p.getD 3 0).toNat
def rawData (p : List Byte) : List Byte := bytesAt p 12 (rawLen p)

/-- A raw record is well formed (R282). -/
def rawFormed (p : List Byte) : Bool :=
  p.length == 12 + 4 * ((rawLen p + 3) / 4) && rawLen p ≤ 240 && (p.getD 1 0).toNat == 0

/-- The data length of a DLC (R324). -/
def dlcLen (fdf : Bool) (dlc : Nat) : Nat :=
  if dlc ≤ 8 then dlc else if fdf then [12, 16, 20, 24, 32, 48, 64].getD (dlc - 9) 64 else 8

/-- A CAN transmit record is one that R328 does not refuse. -/
def canRawOk (fdEn : Bool) (p : List Byte) : Bool :=
  let d := rawData p
  let w := leNat (bytesAt d 0 4)
  let c := (d.getD 4 0).toNat
  let fdf := bitOf w 31
  8 ≤ d.length && d.length == 8 + dlcLen fdf (c % 16) && !(fdf && !fdEn) && !(bitOf w 30 && fdf) && !(bitOf c 4 && !fdf)

/-- Bits [28:0] of an identifier that a base frame must have at 0. -/
def baseOk (ide : Bool) (key : Nat) : Bool := ide || key / 2 ^ 11 == 0

namespace State

/-! ### An engine's parts -/

/-- Count in a register of an engine, `p` its page or that of its mode; reaching all ones sets COUNTER_SAT (R307). -/
def engCountN (s : State) (e p : Nat) (f : Fld) (n : Nat) : State :=
  let x := s.get p f
  let y := satAdd f.w x n
  (s.put p f y).when (x < 2 ^ f.w - 1 && y == 2 ^ f.w - 1) fun t => t.event (Pg.engine e) E.ENG_COUNTER_SAT

/-- Count one in the engine's page; in the page of its mode `m`. -/
def engCount (s : State) (e : Nat) (f : Fld) : State := s.engCountN e (Pg.engine e) f 1
def modeCount (s : State) (e m : Nat) (f : Fld) : State := s.engCountN e (Pg.mode e m) f 1

/-- An event of an engine. -/
def engEvent (s : State) (e bit : Nat) : State := s.event (Pg.engine e) bit

/-- A protocol error is counted: the counter and PROTOCOL_ERR (R308). -/
def protoErr (s : State) (e m : Nat) (f : Fld) : State := (s.modeCount e m f).engEvent e E.ENG_PROTOCOL_ERR

/-- The timestamp of an event of the engine (R285): the captured time with TS_COMP added; 0 while the TIME domain is off
(R15). -/
def engStamp (s : State) (e at_ : Nat) : Nat :=
  if s.domainOn 1 then
    (((at_ : Int) + signedOf 16 (s.rd (Pg.engine e) R.TS_COMP.off).toNat) % (2 ^ 64 : Nat)).toNat
  else 0

/-- TS_INVALID of a timestamp that the engine takes now (R15, R365, R367). -/
def engTsBad (s : State) (e : Nat) : Bool := !s.unitValid (e / 16)

/-! ### Cells (R272 to R275) -/

/-- CELL_CFG of a cell. -/
def cellWord (s : State) (c : Nat) : Nat := (s.rd (Pg.bank (c / 40)) (0x800 + 4 * (c % 40))).toNat

/-- The cells assigned to an engine, with their functions. -/
def engCells (s : State) (e : Nat) : List (Nat × Nat) :=
  (List.range 320).filterMap fun c =>
    match cellUse c (s.cellWord c) with
    | some (x, f) => if x = e then some (c, f) else none
    | none => none

/-- The engine is enabled. DESIGN CHOICE, log entry 9. -/
def engOn (s : State) (e : Nat) : Bool := s.on (Pg.engine e) R.PAGE_CTRL_ENABLE

/-- VIO_OK follows the selected and the measured voltage (R272). -/
def vioCheck (s : State) (g : Nat) : State :=
  let p := Pg.bank g
  let was := s.on p R.BANK_STATUS_VIO_OK
  let ok := s.get p R.BANK_CFG_VIO_SEL != 0 && s.get p R.BANK_CFG_VIO_SEL == s.get p R.BANK_STATUS_VIO_MEAS
  let t := s.putB p R.BANK_STATUS_VIO_OK ok
  if ok then t
  else
    let u := t.event p E.BANK_VIO_MISMATCH
    if was then
      (List.range 128).foldl (fun v e =>
        v.when (v.engOn e && (v.engCells e).any fun x => x.1 / 40 == g) fun v =>
          v.eventFault (Pg.engine e) E.ENG_VIO_LOST K.VIO_LOST g) u
    else u

/-- A write to CELL_CFG (R273, R274): refused whole, or applied. -/
def cellWrite (s : State) (c : Nat) (v : Word) : State :=
  let p := Pg.bank (c / 40)
  let old := s.cellWord c
  let new := v.toNat
  let busy (w : Nat) : Bool := match cellUse c w with
    | some (e, _) => s.engOn e
    | none => false
  if !ownerAllowed c new || (old % 2 ^ 9 != new % 2 ^ 9 && (busy old || busy new)) then
    (s.wr p R.CELL_REFUSE.off (BitVec.ofNat 32 (2 ^ 31 + c % 40))).event p E.BANK_CELL_REFUSED
  else s.storeWrite p (0x800 + 4 * (c % 40)) v

/-- The effect of a write to a bank page. -/
def wrBank (b : Nat) (s : State) (off : Nat) (v : Word) : State :=
  if 0x800 ≤ off ∧ off < 0x8A0 then s.cellWrite (40 * b + (off - 0x800) / 4) v
  else if off = R.BANK_CFG.off then (s.storeWrite (Pg.bank b) off v).vioCheck b
  else s.storeWrite (Pg.bank b) off v

/-! ### Enabling (R269 to R271, R314) -/

/-- The bit timing of a CAN FD engine is one that R314 refuses. DESIGN CHOICE, log entry 43. -/
def canTimingBad (s : State) (e : Nat) : Bool :=
  let g (f : Fld) : Nat := s.mget e 6 f + 1
  let nq := 1 + g R.CAN_NBT_NTSEG1 + g R.CAN_NBT_NTSEG2
  let n := g R.CAN_NBT_NBRP * nq
  let dq := 1 + g R.CAN_DBT_DTSEG1 + g R.CAN_DBT_DTSEG2
  let d := g R.CAN_DBT_DBRP * dq
  n < 80 || nq < 8 || g R.CAN_NBT_NTSEG1 < g R.CAN_NBT_NSJW || g R.CAN_NBT_NTSEG2 < g R.CAN_NBT_NSJW
    || (s.mon e 6 R.CAN_CFG_FD_EN && (d < 8 || dq < 5 || n < d || g R.CAN_DBT_DTSEG1 < g R.CAN_DBT_DSJW
          || g R.CAN_DBT_DTSEG2 < g R.CAN_DBT_DSJW))
    || (s.mon e 6 R.CAN_CFG_TDC_EN && 2 < g R.CAN_DBT_DBRP)

/-- A mode register holds a value outside its range (R271, R286, R291, R292, R301, R314). DESIGN CHOICE, log entry
43. -/
def modeRangeBad (s : State) (e : Nat) : Bool :=
  let g (f : Fld) : Nat := s.mget e (s.engMode e) f
  match s.engMode e with
  | 1 => g R.UART_CFG_DATA_BITS < 5 || 9 < g R.UART_CFG_DATA_BITS || 4 < g R.UART_CFG_PARITY || 2 < g R.UART_CFG_STOP
          || g R.BAUD_DIV % 2 ^ 28 < 320
  | 2 => g R.SPIC_CFG_SCLK_DIV == 0 || (g R.SPIC_CFG_SCLK_SRC == 1 && 80 * g R.SPIC_CFG_SCLK_DIV < 500)
          || g R.SPIC_TIMING_CS_SETUP == 0 || g R.SPIC_TIMING_CS_HOLD == 0 || g R.SPIC_TIMING_CS_GAP == 0
  | 6 => s.canTimingBad e
  | 9 => g R.ENC_CFG_RESOLUTION == 3 || g R.ENC_CFG_INDEX_MODE == 3
  | _ => false

/-- The lowest reason why an enable is refused (R271); 0 for none. DESIGN CHOICE, log entry 43. -/
def enableReason (s : State) (e : Nat) : Nat :=
  let m := s.engMode e
  let cells := s.engCells e
  let has (f : Nat) : Bool := cells.any (·.2 == f)
  let groups := cells.map fun c => c.1 / 40
  let vio (g : Nat) : Nat := s.get (Pg.bank g) R.BANK_CFG_VIO_SEL
  if !(requiredFuncs m).all has || ((m == 7 || m == 8) && !([0, 1, 2, 3].any has)) then 1
  else if cells.any fun c => 1 < (cells.filter (·.2 == c.2)).length then 2
  else if groups.any fun g => groups.any fun h => vio g != vio h then 3
  else if groups.any fun g => !s.on (Pg.bank g) R.BANK_STATUS_VIO_OK then 4
  else if 10 ≤ m then 5
  else if s.modeRangeBad e then 6
  else if ((m == 2 && s.mget e 2 R.SPIC_CFG_SCLK_SRC == 0) || m == 6)
      && !s.on (Pg.bank (e / 16)) R.BANK_STATUS_CLK80_LOCK then 7
  else 0

/-- ENG_REFUSED with a reason (R270, R271). -/
def engRefuse (s : State) (e reason : Nat) : State :=
  (s.put (Pg.engine e) R.ENG_STATUS_REFUSE reason).engEvent e E.ENG_ENG_REFUSED

/-! ### Bindings (R276 to R279, R323, R324, R334) -/

/-- ROLE and LEN of the entry match the table of R277 (R323 in CAN FD mode). -/
def roleLenOk (s : State) (e b i : Nat) : Bool :=
  let pub := s.publishes i
  let n := s.lenOf i
  match s.engMode e, s.slotKind e b with
  | 7, 1 => n == 1
  | 7, 2 => pub && n == 4
  | 6, 2 => pub && n == 4
  | 8, _ => !pub && n == 4
  | 9, _ => pub && n == 4
  | _, _ => true

/-- KEY and parameters of a slot are valid for the mode (R277, R323, R324). -/
def slotParamsOk (s : State) (e b i : Nat) : Bool :=
  let m := s.engMode e
  let k := s.slotKind e b
  let pub := s.publishes i
  let vpos := s.slotVpos e b
  let a := s.slotA e b
  let pb := s.slotB e b
  let key := s.slotW e b 1
  let c := s.slotW e b 2
  let d := s.slotW e b 3
  let rsv := bitsOf (s.slotW e b 0) 4 4 == 0
  rsv && (match m with
  | 1 => k == 1 && a ≤ 4 && pb == 0 && d == 0
  | 2 => k == 1 && vpos == 0 && a ≤ 4 && pb < 16 && c < 256 && d == 0
  | 3 => k == 1 && vpos == 0 && a ≤ 3 && pb == 0 && key < 256 && c == 0 && d == 0
  | 4 => k == 1 && vpos == 0 && a ≤ 2 && pb == 0 && key < 2 ^ 24 && !bitOf key 7 && c < 256 && d == 0
  | 5 => (k == 1 || k == 3) && vpos == 0 && a == 0 && pb == 0 && key < 2 ^ 24 && bitsOf key 1 7 == 0
          && (if k == 3 then c < 2 ^ 16 else c == 0 && d == 0)
  | 6 =>
    let ide := bitOf a 0
    let fdf := bitOf a 1
    let fdOk := !fdf || s.mon e 6 R.CAN_CFG_FD_EN
    if pub then
      (k == 1 || k == 2) && (k == 1 || vpos == 0) && vpos ≤ 63 && a % 64 == Nat.land a 0x2B && a < 64 && pb == 0
        && key < 2 ^ 29 && baseOk ide key && c < 2 ^ 29 && d == 0 && fdOk
    else
      k == 1 && vpos ≤ 63 && a == Nat.land a 0x37 && pb < 16 && key < 2 ^ 29 && baseOk ide key && c < 256
        && (d == 0 || (100 ≤ d && d ≤ 1000000)) && (fdf || (pb ≤ 8 && !bitOf a 2)) && fdOk
        && vpos + s.lenOf i ≤ dlcLen fdf pb
  | 7 => (k == 1 || k == 2) && vpos == 0 && a == 0 && pb == 0 && c == 0 && d == 0
          && (if k == 2 then key < 16 && 4 ≤ key else key == 0)
  | 8 => k == 1 && vpos == 0 && a == 0 && pb == 0 && c == 0 && d == 0 && key < 4
  | 9 => k == 1 && vpos == 0 && a == 0 && pb == 0 && c == 0 && d == 0 && key < 2
  | _ => false)

/-- The lowest reason of R278 why a slot in use is inactive; 0 while it is active. -/
def bindReason (s : State) (e b : Nat) : Nat :=
  let names := s.namedBy e b
  if s.engMode e = 0 ∨ (e % 2 = 1 ∧ s.canPaired e) then 4
  else if s.slotKind e b = 3 then
    if names ≠ [] then 5 else if s.slotParamsOk e b 0 then 0 else 4
  else
    match names with
    | [] => 1
    | [i] => if !s.roleLenOk e b i then 3 else if s.slotParamsOk e b i then 0 else 4
    | _ => 2

/-- An active publish binding delivers a sample (R279). -/
def engPublish (s : State) (e b : Nat) (value : List Byte) (ts : Nat) : State :=
  match s.pubEntry e b with
  | some i => s.sourceUpdate i value true ts
  | none => s

/-- The value of an active subscribe binding that is not yet acted on (R279): none while the entry is not VALID. -/
def subValue (s : State) (e b : Nat) : Option (Nat × List Byte) :=
  match s.subEntry e b with
  | some i => if (s.mir i).untaken && s.validity i == 1 then some (i, (s.mir i).value) else none
  | none => none

/-- The present state of a binding that describes one (R625), where it does. -/
def presentState (s : State) (e b : Nat) : Option (List Byte) :=
  let count := some (leBytes 4 (look b (s.eng e).counts))
  match s.engMode e, s.slotKind e b with
  | 7, 1 => some [BitVec.ofNat 8 (s.mget e 7 R.DISC_STATE_FILTERED)]
  | 7, 2 => count
  | 6, 2 => count
  | 9, _ => some (leBytes 4 (s.mget e 9 (if s.slotW e b 1 = 0 then R.ENC_COUNT else R.ENC_INDEX_COUNT)))
  | _, _ => none

/-- BINDING_ACTIVATION_UPDATE (R625): the present state of the slots of a list, while the engine is up. -/
def publishPresent (s : State) (e : Nat) (slots : List Nat) : State :=
  if s.engUp e then
    slots.foldl (fun t b =>
      match t.presentState e b with
      | some v => t.engPublish e b v t.stamp
      | none => t) s
  else s

/-- BINDING_EVALUATE (R278): BIND_STATUS, the lowest inactive slot in BIND_FAULT, BIND_MISMATCH; slots that become active
start their counts at 0 and publish a present state. -/
def bindEval (s : State) (e : Nat) : State :=
  let p := Pg.engine e
  let used := (List.range 32).filter fun b => s.slotKind e b != 0
  let good := used.filter fun b => s.bindReason e b == 0
  let fresh := good.filter fun b => !s.slotOn e b
  let t := s.wr p R.BIND_STATUS.off (BitVec.ofNat 32 (good.foldl (fun x b => x + 2 ^ b) 0))
  let t := match used.find? fun b => s.bindReason e b != 0 with
    | some b =>
      (t.wr p R.BIND_FAULT.off (BitVec.ofNat 32 (2 ^ 31 + s.bindReason e b * 2 ^ 5 + b))).event p E.ENG_BIND_MISMATCH
    | none => t
  let t := t.modEng e fun g => { g with counts := fresh.foldl (fun c b => file b 0 c) g.counts }
  t.publishPresent e fresh

/-! ### The receive buffer and the staging area (R282 to R284) -/

/-- RX_LEVEL: bytes held. -/
def rxLevel (s : State) (e : Nat) : Nat := ((s.eng e).rx.map (·.length)).sum

/-- RX_LEN: bytes of the next record. -/
def rxLen (s : State) (e : Nat) : Nat := match (s.eng e).rx with
  | [] => 0
  | r :: _ => r.length

/-- A record enters the receive buffer, or is discarded whole (R283). -/
def rxPut (s : State) (e : Nat) (r : List Byte) : State :=
  if s.rxLevel e + r.length ≤ 2048 then
    (s.modEng e fun g => { g with rx := g.rx ++ [r] }).when ((s.eng e).rx.isEmpty) fun t => t.engEvent e E.ENG_RX_MSG
  else (s.engCount e R.ENG_CNT_DROP_RX_DROP).engEvent e E.ENG_RX_DROP

/-- A read of RX_DATA (R284, R196): the next word; the last word frees the record. -/
def rxRead (s : State) (e : Nat) : State × Word :=
  match (s.eng e).rx with
  | [] => (s, 0)
  | r :: rest =>
    let n := (s.eng e).rxRead
    let w := BitVec.ofNat 32 (leNat (bytesAt r (4 * n) 4))
    if (r.length + 3) / 4 ≤ n + 1 then
      ((s.modEng e fun g => { g with rx := rest, rxRead := 0 }).when (!rest.isEmpty) fun t => t.engEvent e E.ENG_RX_MSG, w)
    else (s.modEng e fun g => { g with rxRead := n + 1 }, w)

/-- RAW_REFUSED without a count: a TX_DATA or TX_COMMIT write that is ignored (R284, R308). -/
def rawIgnored (s : State) (e : Nat) : State := s.engEvent e E.ENG_RAW_REFUSED

/-- A RAW_PORT frame that an engine refuses (R284). -/
def rawRefused (s : State) (e : Nat) : State := (s.engCount e R.ENG_CNT_DROP_RAW_REFUSED).engEvent e E.ENG_RAW_REFUSED

/-- A RAW_PORT frame that enters at a point of this hub (R283, R284, R423), to an engine of this hub or of another: whether
it was queued. -/
def rawSendOk (s : State) (point dst engine action prio : Nat) (r : List Byte) : State × Bool :=
  let f : Frame := { cls := 2, prio := prio, ftype := 0x41, dstNode := dst / 4, dstHub := dst % 4,
                     aux := engine + action * 128, payload := r }
  if s.nodeValid && dst == s.selfIndex then
    let t := s.entered point f
    t.1.toEngine engine t.2
  else s.sendFrom point f

/-- A received message that no binding claims (R283). `flags` without TS_INVALID. -/
def rawRecord (s : State) (e flags rkind at_ : Nat) (data : List Byte) : State :=
  let p := Pg.engine e
  if s.on p R.ENG_CFG_RAW_RX_EN then
    let r := rawBytes (flags % 128 + b2n (s.engTsBad e) * 128) rkind (s.engStamp e at_) (data.take 240)
    if s.on p R.ENG_CFG_RAW_FWD then
      (s.rawSendOk (10 + e) (s.get p R.RAW_DEST_NODE * 4 + s.get p R.RAW_DEST_HUB) (s.get p R.RAW_DEST_ENGINE)
        (s.get p R.RAW_DEST_ACTION) (s.get p R.ENG_CFG_RAW_PRIO) r).1
    else s.rxPut e r
  else s

/-- A write to TX_DATA (R284). -/
def txData (s : State) (e : Nat) (v : Word) : State :=
  if 240 ≤ (s.eng e).stage.length then s.rawIgnored e
  else s.modEng e fun g => { g with stage := g.stage ++ leBytes 4 v.toNat }

/-- A write to TX_COMMIT (R284): a record of the first staged bytes, admitted to the engine's own queue. -/
def txCommit (s : State) (e len rkind : Nat) : State :=
  let st := (s.eng e).stage
  if st.length < len then s.rawIgnored e
  else
    let r := rawBytes (b2n (!s.timeValid) * 128) rkind s.stamp (st.take len)
    let f := s.entered (10 + e)
      { cls := 2, prio := s.get (Pg.engine e) R.ENG_CFG_RAW_PRIO, ftype := 0x41, dstNode := s.node, dstHub := s.hubPos,
        aux := e, payload := r }
    ((f.1.toEngine e f.2).1).modEng e fun g => { g with stage := [] }

/-! ### Taking RAW_PORT frames (R183, R187, R284, R317) -/

/-- The points an engine takes frames from: its own; both of its pair for the active engine; none for a standby engine
(R335, R336). -/
def engPoints (s : State) (e : Nat) : List Nat :=
  match s.canRole e with
  | 1 => [10 + e / 2 * 2, 11 + e / 2 * 2]
  | 2 => []
  | _ => [10 + e]

/-- The frame that R183 gives the engine next. -/
def takeNext (s : State) (e : Nat) : Option Queued :=
  let ps := s.engPoints e
  let l := s.core.queued.filter fun q => ps.contains q.point
  match bestOf (l.filter (·.frame.urgent)) with
  | some q => some q
  | none => bestOf (l.filter fun q => !q.frame.urgent)

/-- STALE_DROP (R187): the frame is older than STALE_MS of its engine. -/
def stale (s : State) (q : Queued) : Bool :=
  let ms := Nat.min 1000 (s.get Pg.hold (R.STALE_MS (q.point - 10)) % 1024)
  ms != 0 && q.at_ + 1000 * ms < s.uptime

/-- The mode can transmit raw records (R282), and the record is one it transmits. -/
def rawSends (s : State) (e : Nat) (p : List Byte) : Bool :=
  rawFormed p && (match s.engMode e with
  | 1 => rawKind p == 0
  | 2 => rawKind p < 8
  | 4 => rawKind p ≤ 240 && 1 ≤ rawLen p
  | 6 => canRawOk (s.mon e 6 R.CAN_CFG_FD_EN) p
  | _ => false)

/-- The engine can begin a raw transmission now: a controller at a boundary; a CAN FD engine whose raw buffer is empty and
that is not in listen-only mode (R280, R311, R317). -/
def rawFree (s : State) (e : Nat) : Bool :=
  if s.engMode e = 6 then (s.eng e).raw.isNone && s.mget e 6 R.CAN_CFG_OPMODE != 1 else (s.eng e).work.isNone

/-- The engine takes a frame out of its queue: its last cell leaves the core (R192), and a mark has arrived (R181). -/
def engTake (s : State) (q : Queued) : State := (s.leaves q).mirrorAt q.point 1 q.frame

/-- An engine takes frames until one is placed or begun, or until it can take none (R183, R187, R284). -/
def rawTake : Nat → State → Nat → State
  | 0, s, _ => s
  | n + 1, s, e =>
    match s.takeNext e with
    | none => s
    | some q =>
      let x := q.point - 10
      let p := q.frame.payload
      if s.stale q then rawTake n (((s.unqueue q).count Pg.hold R.CNT_STALE).event Pg.hold E.P06F_STALE_DROP) e
      else if bitOf q.frame.aux 7 then
        if !rawFormed p then rawTake n ((s.engTake q).rawRefused x) e
        else if s.rxLevel x + p.length ≤ 2048 then (s.engTake q).rxPut x p
        else s
      else if s.engMode e = 6 ∧ s.mget e 6 R.CAN_CFG_OPMODE = 1 then s
      else if !s.rawSends e p then rawTake n ((s.engTake q).rawRefused x) e
      else if !s.rawFree e then s
      else if s.engMode e = 6 then (s.engTake q).modEng e fun g => { g with raw := some q }
      else (s.engTake q).modEng e fun g => { g with work := some (.raw (rawKind p) (rawData p)) }

/-- An engine that is up takes from its queues. -/
def rawTakeAll (s : State) (e : Nat) : State := if s.engUp e then rawTake (s.core.queued.length + 1) s e else s

/-! ### The downstream queue (R259, R260, R302 to R304) -/

/-- The profile that a downstream offset names. -/
def devProf (addr : Nat) : Nat := bitsOf addr 26 2

/-- The engine of a downstream address (R39). -/
def devEngine (addr : Nat) : Nat := (addrRegion addr - 8) * 4 + bitsOf addr 30 2

/-- Bytes of a unit of the profile (R303). -/
def devUnit (s : State) (addr : Nat) : Nat :=
  2 ^ s.get (Pg.engine (devEngine addr)) (R.DEV_PROF_A_UNIT (devProf addr))

/-- A downstream access is one that R302 refuses. -/
def devRefused (s : State) (addr : Nat) : Bool :=
  let e := devEngine addr
  let p := Pg.engine e
  let i := devProf addr
  let m := s.engMode e
  !(m == 2 || m == 4) || bitsOf addr 28 2 != 0 || bitOf addr 23
    || (m == 2 && bitsOf addr 16 7 != 0) || (m == 4 && bitsOf addr 24 2 != 0)
    || !s.on p (R.DEV_PROF_A_EN i) || s.get p (R.DEV_PROF_A_UNIT i) == 3 || s.get p (R.DEV_PROF_A_REG_BYTES i) == 3
    || s.get p (R.DEV_PROF_A_ADDR_SHIFT i) == 3

/-- A window that a read changes (R256, R305). -/
def devSensitive (s : State) (addr : Nat) : Bool :=
  s.on (Pg.engine (devEngine addr)) (R.DEV_PROF_A_READ_SENSITIVE (devProf addr))

/-- The units of a request over its enabled bytes (R259): none where a unit is covered in part. -/
def devTodo (w : Nat) (write : Bool) (cells : List (Nat × Byte)) : Option (List (Nat × List Byte)) :=
  let units := (cells.map fun c => c.1 / w * w).eraseDups
  let byteAt (a : Nat) : Byte := match cells.find? (·.1 == a) with
    | some c => c.2
    | none => 0
  if units.all fun u => (List.range w).all fun j => cells.any (·.1 == u + j) then
    some (units.map fun u => (u, if write then (List.range w).map fun j => byteAt (u + j) else []))
  else none

/-- A request of this hub itself has been performed: its source is answered; a failed posted write is a far error (R42,
R253). -/
def selfDone (s : State) (r : Req) (outcome original : Nat) (data : List Byte) (failed : Nat) : State :=
  if r.posted then
    if outcome = 0 then s else s.farError outcome true (s.raAgent r) failed
  else
    match r.src with
    | .engine e => s.answerTo r (256 + e) 0 outcome original data
    | _ => s.answerTo r 256 0 outcome original data

/-- A downstream request ends: its completion or far error names the failed unit (R260), a command is recorded (R262). -/
def devFinish (s : State) (e : Nat) (q : DevReq) (outcome failed : Nat) : State :=
  let t := s.when (outcome == 11) fun t => (t.engCount e R.CNT_DEV_DEVICE_ERROR).engEvent e E.ENG_DEVICE_ERROR
  let at_ := if outcome = 0 then q.addr else failed
  let base := q.addr / 4 * 4
  let byteAt (n : Nat) : Byte := match q.got.find? fun g => g.1 ≤ base + n && base + n < g.1 + g.2.length with
    | some g => g.2.getD (base + n - g.1) 0
    | none => 0
  let data := if q.write ∨ outcome ≠ 0 then [] else (List.range (4 * q.words)).map byteAt
  let t := match q.cmd with
    | some c => t.cmdRecord q.agent c outcome
    | none => t
  match q.own with
  | some r => t.selfDone r outcome 0 (bytesAt data (q.addr - base) r.len) at_
  | none =>
    if q.posted then if outcome = 0 then t else t.farErrorTo q.src (addrRegion at_) (addrOff at_) q.agent outcome
    else t.completeTo { src := q.src, prio := q.prio, tag := q.tag } (addrRegion at_) (addrOff at_) outcome 0 data

/-- A request enters the downstream queue (R248, R304): TARGET_BUSY when it is full, DEVICE_ERROR while the engine is down
(R255). -/
def devEnqueue (s : State) (e : Nat) (q : DevReq) : State :=
  if !s.engUp e then s.devFinish e q 11 q.addr
  else if q.todo.isEmpty then s.devFinish e q 0 q.addr
  else if 8 ≤ (s.eng e).down.length then s.devFinish e q 10 q.addr
  else s.modEng e fun g => { g with down := g.down ++ [q] }

/-- The unit at the head of the queue has been performed: the next one, or the end (R259, R260). -/
def devUnitDone (s : State) (e : Nat) (ok : Bool) (data : List Byte) : State :=
  match (s.eng e).down with
  | [] => s
  | q :: rest =>
    match q.todo with
    | [] => (s.modEng e fun g => { g with down := rest }).devFinish e q 0 q.addr
    | u :: more =>
      if !ok then (s.modEng e fun g => { g with down := rest }).devFinish e q 11 u.1
      else
        let n := { q with todo := more, got := if q.write then q.got else q.got ++ [(u.1, data)] }
        if more.isEmpty then (s.modEng e fun g => { g with down := rest }).devFinish e n 0 q.addr
        else s.modEng e fun g => { g with down := n :: rest }

/-! ### Coming up and going down (R185 to R190, R216, R304, R334 to R338) -/

/-- A CAN FD engine's transmit set moves to its partner (R336). -/
def moveSet (s : State) (a b : Nat) : State :=
  let x := s.eng a
  let y := s.eng b
  let pend := y.pend ++ x.pend.filter fun n => !y.pend.contains n
  (s.modEng b fun g => { g with pend := pend, raw := if y.raw.isSome then y.raw else x.raw, runs := [] }).modEng a fun g =>
    { g with pend := [], raw := if y.raw.isSome then x.raw else none, attempt := none, abort := false, runs := [] }

/-- Give the roles of a pair: `a` active, `b` standby or without a role while it is down (R334, R336). -/
def setRoles (s : State) (a b : Nat) : State :=
  let t := (s.setF (Pg.mode a 6) R.CAN_STATUS_PAIR_ACTIVE).clrF (Pg.mode a 6) R.CAN_STATUS_PAIR_STANDBY
  (t.clrF (Pg.mode b 6) R.CAN_STATUS_PAIR_ACTIVE).putB (Pg.mode b 6) R.CAN_STATUS_PAIR_STANDBY (t.engUp b)

/-- A pair forms, or no longer stands (R334): the slots of both engines are evaluated anew. An engine that stays down
outside a pair has its hold window (R186, R189). -/
def pairSync (s : State) (e : Nat) : State :=
  let a := e / 2 * 2
  let b := a + 1
  let bits (x : Nat) : Nat := s.mget x 6 R.CAN_STATUS_PAIR_ACTIVE + s.mget x 6 R.CAN_STATUS_PAIR_STANDBY
  let had := bits a + bits b != 0
  if s.canPaired e && !had then
    let t := if s.engUp a then (s.moveSet b a).setRoles a b else (s.moveSet a b).setRoles b a
    (t.bindEval a).bindEval b
  else if !s.canPaired e && had then
    let clear (t : State) (x : Nat) : State :=
      let u := (t.clrF (Pg.mode x 6) R.CAN_STATUS_PAIR_ACTIVE).clrF (Pg.mode x 6) R.CAN_STATUS_PAIR_STANDBY
      u.when (!u.engUp x && !u.holding x) fun u =>
        (u.modCore fun c => { c with downEngines := c.downEngines.filter (· != x) }).portDown x
    let t := clear (clear s a) b
    if t.engOn b then t.bindEval b else t
  else s

/-- The entries whose slot is on an engine, subscribed. -/
def engSubs (s : State) (e : Nat) : List Nat := (s.dirRole 2).filter fun i => s.unitKind i == 2 && s.unitOf i == e

/-- The engine comes up (R185, R187, R190, R216, R338). -/
def engineUp (s : State) (e : Nat) : State :=
  let t := (s.portUp e).engEvent e E.ENG_UP_CHANGED
  let t := t.publishPresent e ((List.range 32).filter fun b => t.slotOn e b)
  let t := (t.engSubs e).foldl presentTo t
  if t.engMode e = 6 ∧ t.canPaired e then
    if t.engUp (partner e) then t.when (t.canRole e == 0) fun t => t.setF (Pg.mode e 6) R.CAN_STATUS_PAIR_STANDBY
    else if t.canRole e = 1 then t
    else (t.moveSet (partner e) e).setRoles e (partner e)
  else t

/-- The engine goes down (R186, R216, R304, R330): its queued requests fail, its publish entries lose their source, its raw
buffer returns to the head of its queue unless a partner that is up takes it. -/
def engineFall (s : State) (e : Nat) : State :=
  let x := s.eng e
  let back := s.engMode e == 6 && 2 ≤ s.mget e 6 R.CAN_STATUS_STATE && !(s.canPaired e && s.engUp (partner e))
  let t := s.modEng e fun g =>
    { g with down := [], work := none, due := [], ticks := 0, msg := [], msgFlags := 0, msgAt := none, addressed := false,
             stretch := none, attempt := none, abort := false, breakAsked := false, alertAsked := false,
             raw := if back then none else g.raw }
  let t := match x.raw with
    | some q => t.when back fun t => t.modCore fun c => { c with queued := q :: c.queued }
    | none => t
  let t := (t.portDown e).engEvent e E.ENG_UP_CHANGED
  let t := x.down.foldl (fun t q => t.devFinish e q 11 ((q.todo.head?.map (·.1)).getD q.addr)) t
  let t := ((t.dirRole 1).filter fun i => t.unitKind i == 2 && t.unitOf i == e).foldl sourceDown t
  t.when (t.engMode e == 6) fun t => t.clrF (Pg.mode e 6) R.CAN_STATUS_PAIR_STANDBY

/-- The engine's being up or down follows R185. -/
def engineSync (s : State) (e : Nat) : State :=
  let is := s.engineDown e
  if s.engUp e && is then s.engineFall e else if !s.engUp e && !is then s.engineUp e else s

/-- A write of ENABLE 1 (R271, R332): refused with a reason, or the engine evaluates its slots and comes up. -/
def engineEnable (s : State) (e : Nat) : State :=
  let r := s.enableReason e
  if r ≠ 0 then s.engRefuse e r
  else
    let t := (s.putKept (Pg.engine e) R.PAGE_CTRL_ENABLE 1).modEng e fun g => { g with quiet := s.engMode e == 6, counts := [] }
    ((t.bindEval e).engineSync e).pairSync e

/-- A write of ENABLE 0 (R185). -/
def engineDisable (s : State) (e : Nat) : State := ((s.putKept (Pg.engine e) R.PAGE_CTRL_ENABLE 0).engineSync e).pairSync e

/-- The levels that a cell can show. -/
inductive CellDrive where
  | highZ
  | level (b : Bool)
  | traffic
  deriving DecidableEq, Repr

/-- What a cell drives (R272, R275, R299, R306, R311, R312, R330): the level where the rules give one; `traffic` where the
engine's own traffic is on the ball. -/
def cellOut (s : State) (c : Nat) : CellDrive :=
  let w := s.cellWord c
  let safe : CellDrive := match bitsOf w 16 2 with
    | 1 => .level false
    | 2 => .level true
    | _ => .highZ
  if !s.on (Pg.bank (c / 40)) R.BANK_STATUS_VIO_OK then .highZ
  else
    match cellUse c w with
    | none => .highZ
    | some (e, f) =>
      let m := s.engMode e
      let forced := bitOf (s.get Pg.thresher R.THR_STATUS_SAFE_BANK) (e / 16)
      if forced && m == 6 && f == 0 then .level true
      else if forced && bitsOf w 16 2 != 3 then safe
      else if m = 6 ∧ f = 2 then
        .level (!s.engOn e || (s.mon e 6 R.CAN_CFG_STBY_BUSOFF && 2 ≤ s.mget e 6 R.CAN_STATUS_STATE))
      else if !s.engOn e then .highZ
      else if m = 7 then
        if bitOf (s.mget e 7 R.LINE_CFG_OUT) f then
          let bad := s.on (Pg.engine e) R.ENG_CFG_INVALID_SAFE && (List.range 32).any fun b =>
            match s.subEntry e b with
            | some i => s.validity i != 1
            | none => false
          if bad && bitsOf w 16 2 != 3 then safe else .level (bitOf (s.mget e 7 R.DISC_STATE_DRIVEN) f != bitOf w 15)
        else .highZ
      else if m = 6 ∧ f = 0 then
        if !s.engUp e || s.mget e 6 R.CAN_CFG_OPMODE == 1 || s.mget e 6 R.CAN_CFG_OPMODE == 2 then .level true else .traffic
      else .traffic

/-! ### Work of a controller engine (R280, R281) -/

/-- POLL_US of a controller engine; 0 where it has none. -/
def pollUs (s : State) (e : Nat) : Nat :=
  match s.engMode e with
  | 2 => s.mget e 2 R.POLL_US % 65536
  | 4 => s.mget e 4 R.I2C_POLL_US % 65536
  | _ => 0

/-- A poll tick (R281). -/
def pollTick (s : State) (e : Nat) : State :=
  if !s.engUp e ∨ s.pollUs e = 0 then s
  else
    let n := (s.eng e).ticks + 1
    let now := (List.range 32).filter fun b =>
      let d := s.slotW e b 2 % 256
      (s.pubEntry e b).isSome && d != 0 && n % d == 0
    let late := now.filter fun b => (s.eng e).due.contains b
    let t := s.modEng e fun g => { g with ticks := n, due := g.due ++ now.filter fun b => !g.due.contains b }
    t.when (!late.isEmpty) fun t =>
      (t.engCountN e (Pg.engine e) R.CNT_DEV_POLL_LATE late.length).engEvent e E.ENG_POLL_LATE

/-- The engine's next piece of work at a boundary (R280, R290, R298). DESIGN CHOICE, log entry 48. -/
def boundary (s : State) (e : Nat) : State :=
  let g := s.eng e
  let set (t : State) (w : EngWork) : State := t.modEng e fun x => { x with work := some w }
  if !s.engUp e ∨ g.work.isSome ∨ !([1, 2, 4].contains (s.engMode e)) then s
  else if g.breakAsked then (set s .sendBreak).modEng e fun x => { x with breakAsked := false }
  else if g.alertAsked then (set s .alert).modEng e fun x => { x with alertAsked := false }
  else
    match (List.range 32).find? fun b => g.due.contains b && (s.pubEntry e b).isSome with
    | some b => (set s (.poll b)).modEng e fun x => { x with due := x.due.filter (· != b) }
    | none =>
      match (List.range 32).find? fun b => (s.subValue e b).isSome with
      | some b =>
        match s.subValue e b with
        | some (i, v) => (set s (.value b v)).sinkTook i
        | none => s
      | none => if g.down.isEmpty then s.rawTakeAll e else set s .device

/-- The work in progress is over. -/
def workDone (s : State) (e : Nat) : State := s.modEng e fun g => { g with work := none }

end State

end Sys2Proof.Machine
end

