-- ==== Sys2Proof/Machine/Ports.lean ====
section
/-! DEFINITION. The port modes but CAN FD (R286 to R301), and the commands of port engines and banks. -/

namespace Sys2Proof.Machine

open Sys2Proof (Word Byte Agent Code AccessKind Instr EngineId BankId BusResult)

/-- The first `n` bytes of a word, byte 0 in [7:0]. -/
def wordBytes (n w : Nat) : List Byte := (leBytes 4 w).take n

namespace State

/-! ### UART (R286 to R290) -/

/-- The message matches the pattern of a slot and holds its value (R277). DEDUCED, log entry 44. -/
def uartMatch (s : State) (e b : Nat) (msg : List Byte) : Bool :=
  let n := s.slotA e b
  let mask := s.slotW e b 2
  let key := s.slotW e b 1
  match s.pubEntry e b with
  | none => false
  | some i =>
    n ≤ msg.length && s.slotVpos e b + s.lenOf i ≤ msg.length
      && (List.range n).all fun j =>
        Nat.land (Nat.xor (msg.getD j 0).toNat (bitsOf key (8 * j) 8)) (bitsOf mask (8 * j) 8) == 0

/-- The message ends (R288): the slots it matches take their values, else it is a raw record. DEDUCED, log entry 44. -/
def uartEnd (s : State) (e flags : Nat) : State :=
  let g := s.eng e
  if g.msg.isEmpty ∧ g.msgAt.isNone then s
  else
    let at_ := g.msgAt.getD 0
    let hits := if g.msgOwn then [] else (List.range 32).filter fun b => s.uartMatch e b g.msg
    let all := Nat.lor g.msgFlags (flags + (if g.lost then 8 else 0))
    let t := (s.engCount e R.CNT_RX_MSG).modEng e fun x =>
      { x with msg := [], msgFlags := 0, msgAt := none, msgOwn := false, lost := if hits.isEmpty then false else x.lost }
    if hits.isEmpty then t.rawRecord e all 0 at_ g.msg
    else hits.foldl (fun t b =>
      match t.pubEntry e b with
      | some i => t.engPublish e b (bytesAt g.msg (t.slotVpos e b) (t.lenOf i)) (t.engStamp e at_)
      | none => t) t

/-- MAX_LEN as it acts (R288). -/
def uartMax (s : State) (e : Nat) : Nat :=
  let n := s.mget e 1 R.UART_FRAME_MAX_LEN
  if n = 0 ∨ 240 < n then 240 else n

/-- The receive buffer holds no room for the message with one more byte (R288). -/
def uartFull (s : State) (e : Nat) : Bool :=
  s.on (Pg.engine e) R.ENG_CFG_RAW_RX_EN && !s.on (Pg.engine e) R.ENG_CFG_RAW_FWD
    && 2048 < s.rxLevel e + 12 + 4 * (((s.eng e).msg.length + 4) / 4)

/-- A received character (R287 to R290). DEDUCED, log entry 44. -/
def uartChar (s : State) (e : Nat) (ch : Nat) (parity framing driving : Bool) (at_ : Nat) : State :=
  let g := s.eng e
  let nine := s.mget e 1 R.UART_CFG_DATA_BITS == 9
  let ninth := nine && bitOf ch 8
  let filter := nine && s.mon e 1 R.UART_CFG_ADDR9
  let addressed := if filter && ninth then ch == s.mget e 1 R.UART_CFG_OWN_ADDR9 else g.addressed
  if driving && s.mon e 1 R.UART_CFG_RS485 && !s.mon e 1 R.UART_CFG_ECHO then s
  else
    let t := s.when parity fun t => t.protoErr e 1 R.UART_CNT_PARITY
    let t := t.when framing fun t => t.protoErr e 1 R.UART_CNT_FRAMING
    let t := t.modEng e fun x => { x with addressed := addressed }
    if filter && !addressed then t
    else if t.uartFull e then (t.modeCount e 1 R.UART_CNT2_OVERRUNS).modEng e fun x => { x with lost := true }
    else
      let first := g.msg.isEmpty && g.msgAt.isNone
      let fl := b2n parity + b2n framing * 2 + (if first && ninth then 16 else 0)
      let t := t.modEng e fun x =>
        { x with msg := x.msg ++ [BitVec.ofNat 8 ch], msgFlags := Nat.lor x.msgFlags fl,
                 msgAt := if first then some at_ else x.msgAt, msgOwn := if first then driving else x.msgOwn }
      let n := (t.eng e).msg.length
      if t.mon e 1 R.UART_FRAME_DELIM_EN && ch % 256 == t.mget e 1 R.UART_FRAME_DELIM then t.uartEnd e 0
      else if t.uartMax e ≤ n then t.uartEnd e (if 240 ≤ n then 32 else 0)
      else t

/-- A break is received (R287, R288). -/
def uartBreak (s : State) (e : Nat) : State :=
  ((s.modeCount e 1 R.UART_CNT2_BREAKS).engEvent e E.ENG_BREAK_RX).uartEnd e 4

/-- The engine transmits its message, or its break (R289, R290): nothing while CTS is inactive under RTS_CTS. -/
def uartSend (s : State) (e : Nat) : State :=
  let cts := (s.eng e).cts
  let send (d : List Byte) : State :=
    ((s.emit (.bytes (Pg.engine e) 0 d)).engCount e R.CNT_TX_MSG).workDone e
  match (s.eng e).work with
  | some .sendBreak =>
    (s.emit (.bytes (Pg.engine e) 1 [BitVec.ofNat 8 (Nat.max 13 (s.mget e 1 R.UART_BREAK % 256))])).workDone e
  | some (.value b d) =>
    if s.mon e 1 R.UART_CFG_RTS_CTS && !cts then s else send (wordBytes (s.slotA e b) (s.slotW e b 1) ++ d)
  | some (.raw _ d) => if s.mon e 1 R.UART_CFG_RTS_CTS && !cts then s else send d
  | _ => s

/-! ### SPI (R291 to R293) -/

/-- A controller transaction leaves the engine on its chip select (R292). -/
def spiOut (s : State) (e cs : Nat) (d : List Byte) : State :=
  (((s.emit (.bytes (Pg.engine e) (16 + cs) d)).modeCount e 2 R.SPIC_CNT).engCount e R.CNT_TX_MSG).workDone e

/-- Command and dummy bytes of an SPI slot (R277). -/
def spiCommand (s : State) (e b : Nat) (dummies : Bool) : List Byte :=
  wordBytes (s.slotA e b) (s.slotW e b 1) ++ (if dummies then List.replicate (bitsOf (s.slotB e b) 2 2) 0 else [])

/-- An SPI controller transaction of a poll slot, a subscribe binding or a raw record (R277, R282, R292). -/
def spiTransaction (s : State) (e : Nat) (data : List Byte) (at_ : Nat) : State :=
  match (s.eng e).work with
  | some (.poll b) =>
    match s.pubEntry e b with
    | some i =>
      (s.spiOut e (s.slotB e b % 4) (s.spiCommand e b true ++ List.replicate (s.lenOf i) 0)).engPublish e b
        (bytesAt data 0 (s.lenOf i)) (s.engStamp e at_)
    | none => s.workDone e
  | some (.value b d) => s.spiOut e (s.slotB e b % 4) (s.spiCommand e b false ++ d)
  | some (.raw k d) =>
    let t := s.spiOut e (k % 4) d
    if bitOf k 2 then (t.engCount e R.CNT_RX_MSG).rawRecord e 0 k at_ (bytesAt data 0 d.length) else t
  | _ => s

/-- The active slot of an SPI target whose command byte is `cmd`. -/
def spiSlot (s : State) (e cmd : Nat) : Option Nat :=
  (List.range 32).find? fun b => s.slotOn e b && s.slotW e b 1 % 256 == cmd

/-- A transaction of an SPI target, from select to release (R293). DEDUCED, log entry 47. -/
def spiTarget (s : State) (e : Nat) (data : List Byte) (at_ : Nat) : State :=
  match data with
  | [] => s
  | cmd :: body =>
    let s := s.engCount e R.CNT_RX_MSG
    let fill := BitVec.ofNat 8 (s.mget e 3 R.SPIT_CFG_FILL)
    let miso (t : State) (d : List Byte) : State := t.emit (.bytes (Pg.engine e) 4 d)
    match s.spiSlot e cmd.toNat with
    | none =>
      (miso (s.modeCount e 3 R.SPIT_CNT_UNMATCHED) (List.replicate body.length fill)).rawRecord e 0 0 at_ data
    | some b =>
      match s.pubEntry e b, s.subEntry e b with
      | some i, _ =>
        if body.length = s.lenOf i then s.engPublish e b body (s.engStamp e at_)
        else (s.protoErr e 3 R.SPIT_CNT_LENGTH).rawRecord e 64 0 at_ data
      | none, some i =>
        let lead := List.replicate (s.slotA e b) fill
        let v := if s.validity i = 1 then (s.mir i).value else List.replicate (s.lenOf i) fill
        let d := lead ++ v
        let t := s.when (s.validity i == 1) fun t => t.sinkTook i
        miso t (d.take body.length ++ List.replicate (body.length - d.length) fill)
      | none, none => s

/-! ### I²C and SMBus (R294 to R298) -/

/-- How a transaction of an I²C controller ended, with its lost arbitrations counted (R297): whether it succeeded, and the
FLAGS of a raw record. -/
def i2cEnd (s : State) (e losses : Nat) (r : BusResult) : State × Bool × Nat :=
  let limit := s.mget e 4 R.I2C_CFG_ARB_RETRY
  let t := s.engCountN e (Pg.mode e 4) R.I2C_CNT_ARBITRATION (Nat.min losses (limit + 1))
  if limit < losses then (t, false, 2)
  else
    match r with
    | .ok => (t, true, 0)
    | .nak => (t.protoErr e 4 R.I2C_CNT_NAKS, false, 1)
    | .pec => (t.protoErr e 4 R.I2C_CNT2_PEC, false, 8)
    | .stuck => (t.eventFault (Pg.engine e) E.ENG_BUS_STUCK K.BUS_STUCK 0, false, 0)

/-- Bytes on the wire of an I²C slot: device address and register address, most significant byte first (R277, R303). -/
def i2cHead (s : State) (e b : Nat) : List Byte :=
  let key := s.slotW e b 1
  BitVec.ofNat 8 (key % 128 * 2) :: beBytes (s.slotA e b) (bitsOf key 8 16)

/-- A transaction of an I²C controller: a poll slot, a subscribe binding, a raw record, the Alert Response Address (R277,
R282, R294, R297, R298). -/
def i2cTransaction (s : State) (e losses : Nat) (r : BusResult) (data : List Byte) (at_ : Nat) : State :=
  let send (t : State) (d : List Byte) : State :=
    ((t.emit (.bytes (Pg.engine e) 3 d)).engCount e R.CNT_TX_MSG).workDone e
  let x := s.i2cEnd e losses r
  match (s.eng e).work with
  | some (.poll b) =>
    match s.pubEntry e b with
    | some i =>
      let t := send x.1 (s.i2cHead e b)
      if x.2.1 then t.engPublish e b (bytesAt data 0 (s.lenOf i)) (s.engStamp e at_) else t
    | none => s.workDone e
  | some (.value b d) => send x.1 (s.i2cHead e b ++ d)
  | some (.raw k d) =>
    let t := send x.1 d
    if x.2.1 && k == 0 then t
    else
      let got := if x.2.1 then bytesAt data 0 k else []
      (t.engCount e R.CNT_RX_MSG).rawRecord e x.2.2 got.length at_ got
  | some .alert =>
    let t := send x.1 [0x19]
    if x.2.1 then (t.engCount e R.CNT_RX_MSG).rawRecord e 0 1 at_ (bytesAt data 0 1) else t
  | _ => s

/-- The work in progress of an I²C controller fails without its end on the bus (R295, R298). -/
def i2cGiveUp (s : State) (e flags at_ : Nat) : State :=
  match (s.eng e).work with
  | some .device => (s.workDone e).devUnitDone e false []
  | some (.raw _ _) => ((s.workDone e).engCount e R.CNT_RX_MSG).rawRecord e flags 0 at_ []
  | some _ => s.workDone e
  | none => s

/-- A stretch limit is reached (R295, R296, R308). -/
def stretchHit (s : State) (e : Nat) : State := (s.modeCount e 4 R.I2C_CNT2_STRETCH).engEvent e E.ENG_STRETCH_LIMIT

/-- A kept answer leaves for the orphaned-read log (R264). -/
def dropAnswers (s : State) (e : Nat) (p : Answer → Bool) : State :=
  let gone := s.bridge.answers.filter fun a => a.engine == e && p a
  let t := s.modBridge fun b => { b with answers := b.answers.filter fun a => !(a.engine == e && p a) }
  gone.foldl (fun t a => t.when (a.outcome == 0) fun t => t.orphan (0xC000 + t.node * 4 + t.hubPos) a.addr a.data) t

/-- The engine has a request outstanding for an address. DESIGN CHOICE, log entry 46. -/
def asking (s : State) (e addr : Nat) : Bool :=
  let mine (r : Req) : Bool := decide (r.src = .engine e) && r.addr == addr
  s.bridge.slots.any (fun x => mine x.req) || s.bridge.waiting.any mine || s.bridge.work.any mine
    || s.engs.any fun x => x.2.down.any fun q => match q.own with
      | some r => mine r
      | none => false

/-- A controller reads a register of the target (R264, R277, R296). -/
def targetRead (s : State) (e b : Nat) : State :=
  let t := s.modEng e fun g => { g with stretch := some b }
  if s.slotKind e b = 3 then
    let addr := s.remoteAddr e b
    let t := t.dropAnswers e fun a => a.addr != addr
    let t := if (t.keptFor e addr).isSome || t.asking e addr then t
      else t.issue { src := .engine e, agent := 0xC000 + s.node * 4 + s.hubPos, addr := addr, len := Config.targetBytes.val + 1 }
    t.targetServe e
  else t.targetServe e

/-- A controller's access to the engine as a target (R277, R282, R296, R298). DESIGN CHOICE, log entry 46, DEDUCED,
log entry 47. -/
def i2cTarget (s : State) (e : Nat) (own : Bool) (reg : Nat) (write : Bool) (data : List Byte) (pecOk : Bool)
    (at_ : Nat) : State :=
  let two := s.mon e 4 R.I2C_CFG_TGT_REG_BYTES
  let regBytes := beBytes (if two then 2 else 1) reg
  let key := b2n own + (if two then reg else reg % 256) * 256
  if own && !s.mon e 4 R.I2C_CFG_ADDR1_EN then s
  else
    let s := s.engCount e R.CNT_RX_MSG
    let hit := (List.range 32).find? fun b =>
      s.slotOn e b && s.slotW e b 1 == key && (if write then (s.pubEntry e b).isSome else (s.pubEntry e b).isNone)
    match hit with
    | none => s.rawRecord e 0 (b2n own) at_ (regBytes ++ data)
    | some b =>
      if write then
        match s.pubEntry e b with
        | some i =>
          if s.smbus e && 1 < s.lenOf i && !pecOk then s.protoErr e 4 R.I2C_CNT2_PEC
          else if data.length = s.lenOf i then s.engPublish e b data (s.engStamp e at_)
          else s.rawRecord e (b2n (data.length < s.lenOf i)) (b2n own) at_ (regBytes ++ data)
        | none => s
      else s.targetRead e b

/-- One unit of a downstream access as one bus transaction (R303, R304). -/
def devTransaction (s : State) (e losses : Nat) (r : BusResult) (data : List Byte) : State :=
  match (s.eng e).work, (s.eng e).down with
  | some .device, q :: _ =>
    match q.todo with
    | [] => (s.workDone e).devUnitDone e true []
    | u :: _ =>
      let p := Pg.engine e
      let i := devProf u.1
      let big := s.on p (R.DEV_PROF_A_BIG_ENDIAN i)
      let reg := beBytes (s.get p (R.DEV_PROF_A_REG_BYTES i)) (u.1 % 65536 / 2 ^ s.get p (R.DEV_PROF_A_ADDR_SHIFT i))
      let wire := if big then u.2.reverse else u.2
      let inn := bytesAt data 0 (s.devUnit u.1)
      let got := if big then inn.reverse else inn
      if s.engMode e = 2 then
        let cmd := BitVec.ofNat 8 (s.get p (if q.write then R.DEV_PROF_B_WRITE_CMD i else R.DEV_PROF_B_READ_CMD i))
        let pad := if q.write then [] else List.replicate (s.get p (R.DEV_PROF_A_DUMMY i)) 0
        (s.spiOut e (bitsOf u.1 24 2) (cmd :: reg ++ pad ++ wire)).devUnitDone e true got
      else
        let dev := bitsOf u.1 16 7 * 2
        let x := s.i2cEnd e losses r
        let bytes := (BitVec.ofNat 8 dev :: reg) ++ wire
        let sent := if q.write && s.on p (R.DEV_PROF_A_PEC i) && s.smbus e then bytes ++ [pec bytes]
          else if q.write then bytes else bytes ++ [BitVec.ofNat 8 (dev + 1)]
        (((x.1.emit (.bytes p 3 sent)).engCount e R.CNT_TX_MSG).workDone e).devUnitDone e x.2.1 got
  | _, _ => s

/-- BUS_RECOVER (R297): nine clocks at most and STOP; `stuck` says that SDA stays low. DEDUCED, log entry 47. -/
def busRecover (s : State) (e : Nat) (stuck : Bool) : State :=
  s.inMode e 4 fun t =>
    (t.emit (.bytes (Pg.engine e) 7 [])).when stuck fun t => t.eventFault (Pg.engine e) E.ENG_BUS_STUCK K.BUS_STUCK 0

/-! ### Discrete, PWM, encoder (R299 to R301) -/

/-- An accepted edge of a line (R299). -/
def discreteEdge (s : State) (e line : Nat) (level : Bool) (at_ : Nat) : State :=
  let p := Pg.mode e 7
  let old := s.get p R.DISC_STATE_FILTERED
  if bitOf old line = level ∨ !(s.engCells e).any (·.2 == line) then s
  else
    let ts := s.engStamp e at_
    let t := s.put p R.DISC_STATE_FILTERED (bitsPut old line 1 (b2n level))
    let t := t.engCountN e p (R.DISC_EDGES line) 1
    (List.range 32).foldl (fun t b =>
      if !t.slotOn e b then t
      else if t.slotKind e b = 2 then
        let key := t.slotW e b 1
        if key % 4 = line ∧ bitOf key (if level then 2 else 3) then
          let n := (look b (t.eng e).counts + 1) % 2 ^ 32
          (t.modEng e fun g => { g with counts := file b n g.counts }).engPublish e b (leBytes 4 n) ts
        else t
      else t.engPublish e b [BitVec.ofNat 8 (t.get p R.DISC_STATE_FILTERED)] ts) t

/-- PWM_PERIOD as it acts. -/
def pwmPeriod (s : State) (e : Nat) : Nat := Nat.max 8 (s.mget e 8 R.PWM_PERIOD)

/-- The start of a PWM period (R300): duties that arrived at least four bank cycles before it take effect. DEDUCED,
log entry 49. -/
def pwmStart (s : State) (e : Nat) (late : Nat) : State :=
  (List.range 32).foldl (fun t b =>
    let ch := t.slotW e b 1 % 4
    match t.subValue e b with
    | some (i, v) =>
      if bitOf late ch then t
      else (t.put (Pg.mode e 8) (R.PWM_DUTY ch) (Nat.min (leNat v) (t.pwmPeriod e))).sinkTook i
    | none => t) s

/-- The count moves by `d` and an encoder binding publishes it (R301). PRESUMED, log entry 45. -/
def encMove (s : State) (e : Nat) (d : Int) (ts : Nat) : State :=
  let p := Pg.mode e 9
  let n := ofSigned 32 ((s.get p R.ENC_COUNT : Int) + d)
  (List.range 32).foldl (fun t b => if t.slotW e b 1 = 0 then t.engPublish e b (leBytes 4 n) ts else t)
    (s.put p R.ENC_COUNT n)

/-- A transition of A, B or both (R301): ×4 counts each transition, ×2 those of A, ×1 those of A while B is low.
PRESUMED, log entry 45. -/
def encStep (s : State) (e : Nat) (a b : Bool) (at_ : Nat) : State :=
  let g := s.eng e
  let t := s.modEng e fun x => { x with encA := a, encB := b }
  if a != g.encA && b != g.encB then t.protoErr e 9 R.ENC_ERR
  else if a == g.encA && b == g.encB then t
  else
    let up := if a != g.encA then a != b else a == b
    let r := s.mget e 9 R.ENC_CFG_RESOLUTION
    let counts := r == 2 || (a != g.encA && (r == 1 || !b))
    let d : Int := if up != s.mon e 9 R.ENC_CFG_INVERT_DIR then 1 else -1
    if counts then t.encMove e d (s.engStamp e at_) else t

/-- A rising edge of Z (R301). -/
def encIndex (s : State) (e at_ : Nat) : State :=
  let p := Pg.mode e 9
  let mode := s.get p R.ENC_CFG_INDEX_MODE
  let n := s.get p R.ENC_COUNT
  let ts := s.engStamp e at_
  if mode = 1 ∨ mode = 2 then
    let t := (List.range 32).foldl (fun t b => if t.slotW e b 1 = 1 then t.engPublish e b (leBytes 4 n) ts else t)
      (s.put p R.ENC_INDEX_COUNT n)
    if mode = 2 then t.encMove e (-(n : Int)) ts else t
  else s

end State

/-- VIO_CHANGE (R272): what bank `g` measures on its VDDIO. -/
def execVioChange (g : BankId) (meas : BitVec 2) (s : State) : Host.Outcome State Fault Refusal :=
  finishAll <|
    if s.pageOn (Pg.bank g) then (s.put (Pg.bank g) R.BANK_STATUS_VIO_MEAS meas.toNat).vioCheck g else s

/-- CLK80_UNLOCK (R269). -/
def execClk80Unlock (b : BankId) (s : State) : Host.Outcome State Fault Refusal :=
  finishAll <|
    if s.pageOn (Pg.bank b) && s.on (Pg.bank b) R.BANK_STATUS_CLK80_LOCK then
      (s.clrF (Pg.bank b) R.BANK_STATUS_CLK80_LOCK).eventFault (Pg.bank b) E.BANK_CLK80_UNLOCK K.CLK80_UNLOCK 0
    else s

/-- CELL_CFG_WRITE (R273, R274). -/
def execCellCfgWrite (a : Agent) (c : Fin 320) (v : Word) (s : State) : Host.Outcome State Fault Refusal :=
  finishAll (s.poke a (Pg.bank (c / 40)) (0x800 + 4 * (c % 40)) v (State.wrBank (c / 40)))

/-- POLL_TICK (R281). -/
def execPollTick (e : EngineId) (s : State) : Host.Outcome State Fault Refusal := finishAll (s.pollTick e)

/-- CONTROLLER_BOUNDARY (R280). -/
def execControllerBoundary (e : EngineId) (s : State) : Host.Outcome State Fault Refusal := finishAll (s.boundary e)

/-- DOWNSTREAM_UNIT (R303). -/
def execDownstreamUnit (e : EngineId) (losses : BitVec 4) (r : BusResult) (data : List Byte) (s : State) :
    Host.Outcome State Fault Refusal :=
  finishAll (s.devTransaction e losses.toNat r data)

/-- RAW_PORT_TAKE (R284). -/
def execRawPortTake (e : EngineId) (s : State) : Host.Outcome State Fault Refusal := finishAll (s.rawTakeAll e)

/-- RAW_RECORD (R283). -/
def execRawRecord (e : EngineId) (flags rkind : Byte) (at_ : BitVec 64) (data : List Byte) (s : State) :
    Host.Outcome State Fault Refusal :=
  finishAll <|
    if s.engUp e && (1 ≤ s.engMode e && s.engMode e ≤ 6) then
      (s.engCount e R.CNT_RX_MSG).rawRecord e flags.toNat rkind.toNat at_.toNat data
    else s

/-- RX_DATA_READ (R284, R196). -/
def execRxDataRead (a : Agent) (e : EngineId) (s : State) : Host.Outcome State Fault Refusal :=
  finishAll (s.guardedRead a (Pg.engine e) R.RX_DATA.off fun t => t.rxRead e)

/-- UART_CHARACTER (R287). -/
def execUartCharacter (e : EngineId) (ch : BitVec 9) (parity framing driving : Bool) (at_ : BitVec 64) (s : State) :
    Host.Outcome State Fault Refusal :=
  finishAll (s.inMode e 1 fun t => t.uartChar e ch.toNat parity framing driving at_.toNat)

/-- UART_IDLE_GAP (R288). -/
def execUartIdleGap (e : EngineId) (s : State) : Host.Outcome State Fault Refusal :=
  finishAll (s.inMode e 1 fun t => if t.mget e 1 R.UART_FRAME_IDLE_BITS = 0 then t else t.uartEnd e 0)

/-- UART_BREAK (R287). -/
def execUartBreak (e : EngineId) (s : State) : Host.Outcome State Fault Refusal :=
  finishAll (s.inMode e 1 fun t => t.uartBreak e)

/-- UART_TRANSMIT (R289). -/
def execUartTransmit (e : EngineId) (s : State) : Host.Outcome State Fault Refusal :=
  finishAll (s.inMode e 1 fun t => t.uartSend e)

/-- UART_CTS_CHANGE (R290). -/
def execUartCtsChange (e : EngineId) (active : Bool) (s : State) : Host.Outcome State Fault Refusal :=
  finishAll (s.inMode e 1 fun t => t.modEng e fun g => { g with cts := active })

/-- CLK80_LOCK (R269). -/
def execClk80Lock (b : BankId) (s : State) : Host.Outcome State Fault Refusal :=
  finishAll (if s.pageOn (Pg.bank b) then s.setF (Pg.bank b) R.BANK_STATUS_CLK80_LOCK else s)

/-- SPI_TRANSACTION (R292). -/
def execSpiTransaction (e : EngineId) (data : List Byte) (at_ : BitVec 64) (s : State) :
    Host.Outcome State Fault Refusal :=
  finishAll (s.inMode e 2 fun t => t.spiTransaction e data at_.toNat)

/-- SPI_TARGET_SELECT (R293): the bytes of a transaction, the command byte first. -/
def execSpiTargetSelect (e : EngineId) (data : List Byte) (at_ : BitVec 64) (s : State) :
    Host.Outcome State Fault Refusal :=
  finishAll (s.inMode e 3 fun t => t.spiTarget e data at_.toNat)

/-- I2C_TRANSACTION (R294, R297). -/
def execI2cTransaction (e : EngineId) (losses : BitVec 4) (r : BusResult) (data : List Byte) (at_ : BitVec 64) (s : State) :
    Host.Outcome State Fault Refusal :=
  finishAll (s.inMode e 4 fun t => t.i2cTransaction e losses.toNat r data at_.toNat)

/-- I2C_TARGET_ACCESS (R296). -/
def execI2cTargetAccess (e : EngineId) (own : Bool) (reg : BitVec 16) (write : Bool) (data : List Byte) (pecOk : Bool)
    (at_ : BitVec 64) (s : State) : Host.Outcome State Fault Refusal :=
  finishAll (s.inMode e 5 fun t => t.i2cTarget e own reg.toNat write data pecOk at_.toNat)

/-- CTRL_STRETCH_LIMIT (R295). -/
def execCtrlStretchLimit (e : EngineId) (at_ : BitVec 64) (s : State) : Host.Outcome State Fault Refusal :=
  finishAll (s.inMode e 4 fun t => if (t.eng e).work.isSome then (t.stretchHit e).i2cGiveUp e 4 at_.toNat else t)

/-- TGT_STRETCH_LIMIT (R296). -/
def execTgtStretchLimit (e : EngineId) (s : State) : Host.Outcome State Fault Refusal :=
  finishAll (s.inMode e 5 fun t =>
    if (t.eng e).stretch.isSome then ((t.stretchHit e).modEng e fun g => { g with stretch := none }).targetNak e else t)

/-- KEPT_ANSWER_EXPIRY (R264). -/
def execKeptAnswerExpiry (e : EngineId) (s : State) : Host.Outcome State Fault Refusal :=
  finishAll (if s.domainOn 4 then s.dropAnswers e fun _ => true else s)

/-- SMBUS_TIMEOUT (R298). DEDUCED, log entry 47. -/
def execSmbusTimeout (e : EngineId) (at_ : BitVec 64) (s : State) : Host.Outcome State Fault Refusal :=
  finishAll <|
    if !s.smbus e then s
    else if s.engMode e = 5 then s.inMode e 5 fun t => t.modEng e fun g => { g with stretch := none }
    else s.inMode e 4 fun t => t.i2cGiveUp e 4 at_.toNat

/-- SMBALERT (R298). -/
def execSmbalert (e : EngineId) (s : State) : Host.Outcome State Fault Refusal :=
  finishAll <|
    if s.engUp e && (s.engMode e == 4 || s.engMode e == 5) && s.smbus e then
      (s.engEvent e E.ENG_SMBALERT).when (s.engMode e == 4 && s.mon e 4 R.I2C_CFG_ALERT_ARA) fun t =>
        t.modEng e fun g => { g with alertAsked := true }
    else s

/-- DISCRETE_EDGE (R299). -/
def execDiscreteEdge (e : EngineId) (line : Fin 4) (level : Bool) (at_ : BitVec 64) (s : State) :
    Host.Outcome State Fault Refusal :=
  finishAll (s.inMode e 7 fun t => t.discreteEdge e line level at_.toNat)

/-- PWM_PERIOD_START (R300): bit n of `late` says that channel n's newest duty came within four bank cycles. -/
def execPwmPeriodStart (e : EngineId) (late : BitVec 4) (s : State) : Host.Outcome State Fault Refusal :=
  finishAll (s.inMode e 8 fun t => t.pwmStart e late.toNat)

/-- ENCODER_TRANSITION (R301): the filtered levels of A and B. -/
def execEncoderTransition (e : EngineId) (a b : Bool) (at_ : BitVec 64) (s : State) : Host.Outcome State Fault Refusal :=
  finishAll (s.inMode e 9 fun t => t.encStep e a b at_.toNat)

/-- ENCODER_INDEX (R301). -/
def execEncoderIndex (e : EngineId) (at_ : BitVec 64) (s : State) : Host.Outcome State Fault Refusal :=
  finishAll (s.inMode e 9 fun t => t.encIndex e at_.toNat)

end Sys2Proof.Machine
end

