-- ==== Sys2Proof/Machine/Can.lean ====
section
/-! DEFINITION. CAN FD ports (R309 to R341), and the register writes of engine pages. -/

namespace Sys2Proof.Machine

open Sys2Proof (Word Byte Agent Code AccessKind Instr EngineId BankId CanFail CanRx)

/-- Header word 0 of R328. -/
def canHead (ident : Nat) (ide rtr fdf : Bool) : Nat := ident % 2 ^ 29 + b2n ide * 2 ^ 29 + b2n rtr * 2 ^ 30 + b2n fdf * 2 ^ 31

/-- The arbitration field as a number: a lower one wins (R318). -/
def canKey (head : Nat) : Nat :=
  let id := head % 2 ^ 29
  let ide := bitOf head 29
  let rtr := b2n (bitOf head 30)
  if ide then id / 2 ^ 18 * 2 ^ 21 + 2 ^ 20 + 2 ^ 19 + id % 2 ^ 18 * 2 + rtr else id % 2 ^ 11 * 2 ^ 21 + rtr * 2 ^ 20

/-- The candidate that wins: the lowest arbitration field, then the lowest slot, the raw buffer last (R318). -/
def canWinner : List CanTry → Option CanTry
  | [] => none
  | x :: t =>
    match canWinner t with
    | none => some x
    | some y => if canKey y.head * 64 + y.cand < canKey x.head * 64 + x.cand then some y else some x

namespace State

/-- Page of the CAN FD registers of an engine. -/
def canPg (e : Nat) : Nat := Pg.mode e 6

/-! ### Error states (R329 to R331) -/

/-- ERR_WARN, error passive and error active follow the counters (R329); ERR_WARN on reaching EWL. `tec` and `rec` are the
counters before. -/
def canState (s : State) (e tec rec : Nat) : State :=
  let p := canPg e
  let ewl := Nat.max 1 (s.get p R.CAN_CFG_EWL)
  let a := s.get p R.CAN_ERR_TEC
  let b := s.get p R.CAN_ERR_REC
  let reached := (tec < ewl && ewl ≤ a) || (rec < ewl && ewl ≤ b)
  let passive := 127 < a || 127 < b
  let t := s.putB p R.CAN_ERR_RP (127 < b)
  let t := t.when reached fun t => (t.setF p R.CAN_STATUS_ERR_WARN).engEvent e E.ENG_ERR_WARN
  let st := s.get p R.CAN_STATUS_STATE
  if passive && st == 0 then
    (t.put p R.CAN_STATUS_STATE 1).eventFault (Pg.engine e) E.ENG_ERR_PASSIVE K.ERR_PASSIVE a
  else if !passive && st == 1 then t.put p R.CAN_STATUS_STATE 0
  else t

/-- Set the error counters. -/
def canCounters (s : State) (e tec rec : Nat) : State :=
  let p := canPg e
  let a := s.get p R.CAN_ERR_TEC
  let b := s.get p R.CAN_ERR_REC
  ((s.put p R.CAN_ERR_TEC tec).put p R.CAN_ERR_REC (Nat.min 255 rec)).canState e a b

/-- BUS_OFF (R330): the engine stops and is down. -/
def canBusOff (s : State) (e : Nat) : State :=
  let p := canPg e
  (((s.put p R.CAN_STATUS_STATE 2).modeCount e 6 R.CNT_CAN_EVT_BUS).eventFault (Pg.engine e) E.ENG_BUS_OFF K.BUS_OFF 0).engineSync e

/-- The last error code of a phase (R329). -/
def canLast (s : State) (e code : Nat) (dataPhase : Bool) : State :=
  s.put (canPg e) (if dataPhase then R.CAN_STATUS_DLEC else R.CAN_STATUS_LEC) code

/-! ### The transmit set (R317 to R321) -/

/-- The data field of a binding message (R323). -/
def canPayload (s : State) (h b : Nat) (v : List Byte) : List Byte :=
  let a := s.slotA h b
  let n := dlcLen (bitOf a 1) (s.slotB h b % 16)
  overlay (List.replicate n (BitVec.ofNat 8 (s.slotW h b 2))) (s.slotVpos h b) (if bitOf a 5 then v.reverse else v)

/-- ESI: the engine is error passive. -/
def canEsi (s : State) (e : Nat) : Bool := s.get (canPg e) R.CAN_STATUS_STATE == 1

/-- A pending binding as a candidate (R317, R323): none while its entry is not VALID. -/
def canBinding (s : State) (e b : Nat) : Option CanTry :=
  let h := s.slotHome e
  match s.subEntry h b with
  | some i =>
    if s.validity i = 1 then
      let a := s.slotA h b
      some { cand := b, head := canHead (s.slotW h b 1) (bitOf a 0) false (bitOf a 1),
             ctl := s.slotB h b % 16 + b2n (bitOf a 2) * 16 + b2n (s.canEsi e && bitOf a 1) * 32,
             data := s.canPayload h b (s.mir i).value }
    else none
  | none => none

/-- The raw buffer as a candidate (R328). -/
def canRawTry (s : State) (e : Nat) : Option CanTry :=
  (s.eng e).raw.map fun q =>
    let d := rawData q.frame.payload
    let head := leNat (bytesAt d 0 4)
    { cand := 32, head := head, ctl := (d.getD 4 0).toNat % 32 + b2n (s.canEsi e && bitOf head 31) * 32,
      data := if bitOf head 30 then [] else d.drop 8 }

/-- The candidates of the transmit set. -/
def canSet (s : State) (e : Nat) : List CanTry :=
  ((s.eng e).pend.filterMap (s.canBinding e)) ++ (s.canRawTry e).toList

/-- The engine may start a frame (R311, R322, R331, R332, R335). -/
def canMayStart (s : State) (e : Nat) : Bool :=
  s.engUp e && s.engMode e == 6 && s.canRole e != 2 && s.mget e 6 R.CAN_CFG_OPMODE != 1 && !(s.eng e).quiet
    && (s.eng e).attempt.isNone && !s.on (Pg.bank (e / 16)) R.BANK_STATUS_SAFE_ACTIVE

/-- Start an attempt with the candidate that would win (R318, R319): a binding carries its newest value. -/
def canAttempt (s : State) (e : Nat) : State :=
  if s.canMayStart e then
    let t := s.rawTakeAll e
    match canWinner (t.canSet e) with
    | none => t
    | some c =>
      let u := t.modEng e fun g => { g with attempt := some c }
      match t.subEntry (t.slotHome e) c.cand with
      | some i => if c.cand < 32 then u.sinkTook i else u
      | none => u
  else s

/-- Empty the raw buffer on request (R321). -/
def canAbort (s : State) (e : Nat) : State :=
  if (s.eng e).abort then
    let t := s.modEng e fun g => { g with abort := false, raw := none }
    if (s.eng e).raw.isSome then (t.modeCount e 6 R.CNT_CAN_LEN_FRAMES).engEvent e E.ENG_TX_ABORTED else t
  else s

/-- The roles of a pair are exchanged (R337): when the standby is up and error active, else the write is refused.
DEDUCED, log entry 51. -/
def pairSwap (s : State) (e : Nat) : State :=
  let a := e / 2 * 2
  let refuse (t : State) : State := t.engEvent a E.ENG_PAIR_SWAP_REFUSED
  let t := s.modEng a fun g => { g with swap := false }
  if !s.canPaired a ∨ s.engMode a ≠ 6 then refuse t
  else
    let act := if s.canRole a = 1 then a else a + 1
    let sb := partner act
    if (s.eng act).attempt.isSome then s.modEng a fun g => { g with swap := true }
    else if s.engUp sb && s.get (canPg sb) R.CAN_STATUS_STATE == 0 then
      (((t.moveSet act sb).setRoles sb act).modeCount sb 6 R.CNT_CAN_EVT2_FAILOVERS).engEvent a E.ENG_PAIR_SWAP_DONE
    else refuse t

/-- What waits for the end of an attempt: an abort, a swap (R321, R337). DEDUCED, log entry 51. -/
def attemptOver (s : State) (e : Nat) : State :=
  let t := (s.modEng e fun g => { g with attempt := none }).canAbort e
  if (t.eng (e / 2 * 2)).swap then t.pairSwap e else t

/-- An entry of the transmit timestamp queue, in the order of the timestamps (R387, R388). -/
def txStamp (s : State) (x : TxStamp) : State :=
  let l := s.time.txts
  if 32 ≤ l.length then
    ((s.count Pg.units ⟨R.TXTS_LOST.off, 0, 16⟩).setF Pg.units
      R.TXTS_STATUS_OVERFLOW).eventFault Pg.units E.P01B_TXTS_OVERFLOW K.TXTS_OVERFLOW 0
  else
    let before (y : TxStamp) : Bool := y.ts < x.ts || (y.ts == x.ts && y.source ≤ x.source)
    let t := { s with time := { s.time with txts := l.filter before ++ [x] ++ l.filter fun y => !before y } }
    t.when l.isEmpty fun t => t.event Pg.units E.P01B_TXTS_READY

/-! ### Receiving (R325 to R328) -/

/-- A received frame matches a publish slot (R325). -/
def canMatches (s : State) (h b : Nat) (ident : Nat) (ide fdf : Bool) : Bool :=
  let a := s.slotA h b
  (s.pubEntry h b).isSome && bitOf a 0 == ide && (!bitOf a 3 || bitOf a 1 == fdf)
    && Nat.land (Nat.xor ident (s.slotW h b 1)) (s.slotW h b 2) == 0

/-- One slot takes a received frame (R325). -/
def canTake (s : State) (e h b : Nat) (data : List Byte) (ts : Nat) : State :=
  match s.pubEntry h b with
  | none => s
  | some i =>
    if s.slotKind h b = 2 then
      let n := (look b (s.eng h).counts + 1) % 2 ^ 32
      (s.modEng h fun g => { g with counts := file b n g.counts }).engPublish h b (leBytes 4 n) ts
    else if data.length < s.slotVpos h b + s.lenOf i then
      (s.modeCount e 6 R.CNT_CAN_LEN_LENGTH).engEvent e E.ENG_LEN_MISMATCH
    else
      let v := bytesAt data (s.slotVpos h b) (s.lenOf i)
      s.engPublish h b (if bitOf (s.slotA h b) 5 then v.reverse else v) ts

/-- A slot takes the frame: of SKIND 2, or of SKIND 1 with its value within the data. -/
def canTakes (s : State) (h b : Nat) (data : List Byte) : Bool :=
  match s.pubEntry h b with
  | none => false
  | some i => s.slotKind h b == 2 || s.slotVpos h b + s.lenOf i ≤ data.length

/-- The data of a CAN raw record (R328). -/
def canRecord (head ctl : Nat) (data : List Byte) : List Byte :=
  leBytes 4 head ++ [BitVec.ofNat 8 ctl, 0, 0, 0] ++ data

/-- A valid frame is received (R325, R329, R335). PRESUMED, log entry 50. -/
def canGood (s : State) (e head ctl : Nat) (data : List Byte) (at_ : Nat) : State :=
  let p := canPg e
  let rec_ := s.get p R.CAN_ERR_REC
  let s1 := ((s.modeCount e 6 R.CNT_CAN_RX).engCount e R.CNT_RX_MSG)
  let s2 :=
    if rec_ = 0 then s1
    else if rec_ ≤ 127 then s1.canCounters e (s.get p R.CAN_ERR_TEC) (rec_ - 1)
    else s1.draw.canCounters e (s.get p R.CAN_ERR_TEC) (119 + s1.freeWord.toNat % 9)
  let flags := b2n (bitOf ctl 5) + (if s.canRole e = 2 then 2 else 0)
  if s.canRole e = 2 then s2.rawRecord e flags 0 at_ (canRecord head ctl data)
  else
    let h := s.slotHome e
    let hits := (List.range 32).filter fun b => s.canMatches h b (head % 2 ^ 29) (bitOf head 29) (bitOf head 31)
    let t := hits.foldl (fun t b => t.canTake e h b data (s.engStamp e at_)) s2
    if hits.any fun b => s.canTakes h b data then t else t.rawRecord e flags 0 at_ (canRecord head ctl data)

/-- A receiver detects an error (R329). PRESUMED, log entry 50. -/
def canRxError (s : State) (e code : Nat) (dataPhase byEight : Bool) : State :=
  let p := canPg e
  let t := (s.canLast e code dataPhase).modeCount e 6 R.CNT_CAN_ERR_RECEIVE
  t.canCounters e (s.get p R.CAN_ERR_TEC) (s.get p R.CAN_ERR_REC + (if byEight then 8 else 1))

/-- PROTOCOL_EXCEPTION (R310). -/
def canException (s : State) (e : Nat) : State :=
  (((s.modeCount e 6 R.CNT_CAN_EVT2_PROTOCOL).setF (canPg e) R.CAN_STATUS_PEX).engEvent e E.ENG_PEX).modEng e fun g =>
    { g with quiet := true }

/-- A frame on the bus as the receiver finds it (R310, R325, R329). -/
def canReceive (s : State) (e : Nat) (out : CanRx) (head ctl : Nat) (data : List Byte) (at_ : Nat) : State :=
  let fd := s.mon e 6 R.CAN_CFG_FD_EN
  match out with
  | .good =>
    if bitOf head 31 && !fd then s.canRxError e 2 false false
    else s.canGood e head ctl (bytesAt data 0 (dlcLen (bitOf head 31) (ctl % 16))) at_
  | .recessiveRes => if fd && s.mon e 6 R.CAN_CFG_PEX_EN then s.canException e else s.canRxError e 2 false false

/-- A received remote frame (R326). -/
def canRemote (s : State) (e ident : Nat) (ide : Bool) (dlc at_ : Nat) : State :=
  let h := s.slotHome e
  let s1 := (s.modeCount e 6 R.CNT_CAN_RX).engCount e R.CNT_RX_MSG
  let raw (t : State) (flags : Nat) : State := t.rawRecord e flags 0 at_ (canRecord (canHead ident ide true false) dlc [])
  if s.canRole e = 2 then raw s1 2
  else
    let hits := (List.range 32).filter fun b =>
      let a := s.slotA h b
      (s.subEntry h b).isSome && bitOf a 4 && bitOf a 0 == ide && s.slotW h b 1 % 2 ^ 29 == ident
    if hits.isEmpty then raw s1 0
    else if s.mget e 6 R.CAN_CFG_OPMODE = 1 then s1
    else s1.modEng e fun g => { g with pend := g.pend ++ hits.filter fun b => !g.pend.contains b }

/-! ### The end of an attempt (R319, R320, R333) -/

/-- A frame passes its end of frame without error (R316, R320, R325, R327); `tdcv` is the transmitter delay measured in it. -/
def canSent (s : State) (e tdcv at_ : Nat) : State :=
  match (s.eng e).attempt with
  | none => s
  | some c =>
    let p := canPg e
    let mode := s.mget e 6 R.CAN_CFG_OPMODE
    let tec := s.get p R.CAN_ERR_TEC
    let t := (s.modeCount e 6 R.CNT_CAN_TX).engCount e R.CNT_TX_MSG
    let t := if mode = 2 then t else t.emit (.bytes (Pg.engine e) 6 (canRecord c.head c.ctl c.data))
    let t := t.canCounters e (tec - 1) (s.get p R.CAN_ERR_REC)
    let t := t.when (bitOf c.ctl 4 && s.mon e 6 R.CAN_CFG_TDC_EN) fun t => t.put p R.CAN_STATUS_TDCV tdcv
    let kind := match (s.eng e).raw with
      | some q => rawKind q.frame.payload
      | none => 0
    let t := t.when (c.cand == 32 && kind != 0) fun t =>
      t.txStamp { ident := kind, source := e, ts := t.engStamp e at_, invalid := t.engTsBad e }
    let t := t.modEng e fun g =>
      { g with runs := file c.cand 0 g.runs, raw := if c.cand = 32 then none else g.raw,
               pend := if c.cand < 32 ∧ !c.renewed then g.pend.filter (· != c.cand) else g.pend }
    let t := t.attemptOver e
    if mode = 2 ∨ mode = 3 then
      if bitOf c.head 30 then t.canRemote e (c.head % 2 ^ 29) (bitOf c.head 29) (c.ctl % 16) at_
      else t.canGood e c.head c.ctl c.data at_
    else t

/-- COLLISION_SUSPECTED (R333): the third consecutive bit error in the data field for a candidate. -/
def canCollision (s : State) (e : Nat) (c : CanTry) (inData : Bool) : State :=
  let n := if inData then look c.cand (s.eng e).runs + 1 else 0
  let t := s.modEng e fun g => { g with runs := file c.cand n g.runs }
  if n = 3 then
    (t.wr (canPg e) R.COLL_LAST.off (BitVec.ofNat 32 (2 ^ 31 + c.head % 2 ^ 30))).eventFault (Pg.engine e)
      E.ENG_COLLISION_SUSPECTED K.COLLISION_SUSPECTED (c.head % 2 ^ 29)
  else t

/-- An attempt ends without success (R316, R319, R329, R330, R333). -/
def canFailed (s : State) (e : Nat) (why : CanFail) : State :=
  match (s.eng e).attempt with
  | none => s
  | some c =>
    let p := canPg e
    match why with
    | .arbitration => ((s.modeCount e 6 R.CNT_CAN_EVT_ARBITRATION).canCollision e c false).attemptOver e
    | .error code dp inData exempt tdc =>
      let t := s.when tdc fun t =>
        (t.setF p R.CAN_STATUS_TDC_ERR).eventFault (Pg.engine e) E.ENG_TDC_ERR K.TDC_ERR (t.get p R.CAN_STATUS_TDCV)
      let t := (t.canLast e code.val dp).modeCount e 6 R.CNT_CAN_ERR_TRANSMIT
      let t := t.canCollision e c inData
      let tec := s.get p R.CAN_ERR_TEC + (if exempt then 0 else 8)
      let t := (t.attemptOver e).canCounters e tec (s.get p R.CAN_ERR_REC)
      if 255 < tec then t.canBusOff e else t

/-! ### Failover (R336) -/

/-- The active engine of a pair is down and the standby is up: the standby takes over. DEDUCED, log entry 51. -/
def pairFailover (s : State) (e : Nat) : State :=
  let k := e / 2 * 2
  let act := if s.canRole k = 1 then k else k + 1
  let sb := partner act
  if s.engMode k = 6 ∧ s.canPaired k ∧ s.canRole act = 1 ∧ !s.engUp act ∧ s.engUp sb then
    let t := (s.moveSet act sb).setRoles sb act
    let last := match canWinner (t.canSet sb) with
      | some c => 2 ^ 31 + c.head % 2 ^ 30
      | none => 2 ^ 31 + 2 ^ 30
    let t := (t.wr (canPg sb) R.PAIR_LAST.off (BitVec.ofNat 32 last)).modeCount sb 6 R.CNT_CAN_EVT2_FAILOVERS
    let one (t : State) (x : Nat) : State := t.eventFault (Pg.engine x) E.ENG_PAIR_FAILOVER K.PAIR_FAILOVER last
    one (one t k) (k + 1)
  else s

/-! ### Writes to engine pages -/

/-- CAN_CMD (R321, R331, R337). -/
def canCommand (s : State) (e x : Nat) : State :=
  let p := canPg e
  let t := s.when (bitOf x 0 && s.get p R.CAN_STATUS_STATE == 2) fun t =>
    ((t.put p R.CAN_STATUS_STATE 3).canCounters e 0 0).clrF p R.CAN_ERR_RP
  let t := t.when (bitOf x 1 && e % 2 == 0) fun t => (t.touch (64 + e / 2)).pairSwap e
  t.when (bitOf x 2 && (t.eng e).raw.isSome) fun t =>
    let u := t.modEng e fun g => { g with abort := true }
    if (t.eng e).attempt.isSome then u else u.canAbort e

/-- Zero the counters of the active mode's registers (R307). -/
def cntClearMode (s : State) (e : Nat) : State :=
  let p := Pg.mode e (s.engMode e)
  (modeRegs (s.engMode e)).foldl (fun t d =>
    if d.cnt = 0 then t
    else (List.range d.count).foldl (fun u i =>
      let off := d.off + d.stride * i
      u.wr p off (u.rd p off &&& ~~~(BitVec.ofNat 32 d.cnt))) t) s

/-- ENG_CMD (R290, R297, R307). A BUS_RECOVER whose end on the bus no command gives leaves SDA at a free level. -/
def engCommand (s : State) (e x : Nat) (stuck : Option Bool) : State :=
  let t := s.when (bitOf x 0) fun t => (t.cntClear (Pg.engine e)).cntClearMode e
  let t := t.when (bitOf x 1) fun t => t.modEng e fun g => { g with rx := [], rxRead := 0 }
  let t := t.when (bitOf x 2) fun t => t.modEng e fun g => { g with stage := [] }
  let t := t.when (bitOf x 3) fun t =>
    match stuck with
    | some b => t.busRecover e b
    | none => t.draw.busRecover e (bitOf t.freeWord.toNat 0)
  t.when (bitOf x 4) fun t => t.inMode e 1 fun t => t.modEng e fun g => { g with breakAsked := true }

/-- The effect of a write to an engine page. -/
def wrEngineWith (e : Nat) (stuck : Option Bool) (s : State) (off : Nat) (v : Word) : State :=
  let p := Pg.engine e
  let x := v.toNat
  let m := s.engMode e
  if off = R.PAGE_CTRL.off then
    let was := s.engOn e
    let t := if !was && bitOf x 0 && !s.blockStopped p then s.engineEnable e
      else if was && !bitOf x 0 then s.engineDisable e else s
    (t.storeWrite p off (BitVec.ofNat 32 (bitsPut x 0 1 (b2n (t.engOn e))))).engineSync e
  else if off = R.ENG_CFG.off then
    if s.engOn e && x % 16 != m then
      (s.storeWrite p off (BitVec.ofNat 32 (bitsPut x 0 4 m))).engRefuse e 6
    else s.storeWrite p off v
  else if off = R.ENG_CMD.off then s.engCommand e x stuck
  else if off = R.TX_DATA.off then s.txData e v
  else if off = R.TX_COMMIT.off then s.txCommit e (x % 256) (bitsOf x 8 8)
  else if m = 6 ∧ off = R.CAN_CMD.off then s.canCommand e x
  else if m = 6 ∧ (off = R.CAN_NBT.off ∨ off = R.CAN_DBT.off) ∧ s.engOn e then
    if s.rd (canPg e) off = v then s else s.engRefuse e 6
  else if m = 6 ∧ off = R.CAN_CFG.off then (s.storeWrite p off v).pairSync e
  else if m = 9 ∧ off = R.ENC_PRESET.off then s.wr (Pg.mode e 9) R.ENC_COUNT.off v
  else s.storeWrite p off v

/-- The effect of a write to an engine page by a register write alone. DESIGN CHOICE, log entry 43. -/
def wrEngine (e : Nat) (s : State) (off : Nat) (v : Word) : State := s.wrEngineWith e none off v

/-- A command bit of an engine register. -/
def engPoke (s : State) (a : Agent) (e : Nat) (f : Fld) : State :=
  s.poke a (Pg.engine e) f.off (s.withField (Pg.engine e) f 1) (wrEngine e)

/-- A read of CAN_STATUS (R340): LEC and DLEC become 7, conditions that have ended clear. -/
def canStatusRead (s : State) (e : Nat) : State × Word :=
  if s.engMode e = 6 then
    let p := canPg e
    let ewl := Nat.max 1 (s.get p R.CAN_CFG_EWL)
    let v := bitsPut (s.rd p R.CAN_STATUS.off).toNat 6 1 (b2n (!(s.eng e).pend.isEmpty || (s.eng e).raw.isSome))
    let t := (s.put p R.CAN_STATUS_LEC 7).put p R.CAN_STATUS_DLEC 7
    let t := t.when (s.get p R.CAN_ERR_TEC < ewl && s.get p R.CAN_ERR_REC < ewl) fun t => t.clrF p R.CAN_STATUS_ERR_WARN
    let t := t.when (!(s.eng e).quiet) fun t => t.clrF p R.CAN_STATUS_PEX
    (t.clrF p R.CAN_STATUS_TDC_ERR, BitVec.ofNat 32 v)
  else (s, 0)

/-- A SOFT_RESET of an engine empties its receive buffer and staging area too (R304). -/
def engineReset (s : State) (e : Nat) : State := { s with engs := tabSet {} e {} s.engs }

end State

/-- ENGINE_ENABLE (R271). -/
def execEngineEnable (a : Agent) (e : EngineId) (s : State) : Host.Outcome State Fault Refusal :=
  finishAll (s.engPoke a e R.PAGE_CTRL_ENABLE)

/-- ENGINE_DISABLE (R185). -/
def execEngineDisable (a : Agent) (e : EngineId) (s : State) : Host.Outcome State Fault Refusal :=
  finishAll (s.poke a (Pg.engine e) R.PAGE_CTRL.off (s.withField (Pg.engine e) R.PAGE_CTRL_ENABLE 0) (State.wrEngine e))

/-- RX_FLUSH (R307). -/
def execRxFlush (a : Agent) (e : EngineId) (s : State) : Host.Outcome State Fault Refusal :=
  finishAll (s.engPoke a e R.ENG_CMD_RX_FLUSH)

/-- TX_DATA (R284). -/
def execTxData (a : Agent) (e : EngineId) (v : Word) (s : State) : Host.Outcome State Fault Refusal :=
  finishAll (s.poke a (Pg.engine e) R.TX_DATA.off v (State.wrEngine e))

/-- TX_COMMIT (R284). -/
def execTxCommit (a : Agent) (e : EngineId) (len rkind : Byte) (s : State) : Host.Outcome State Fault Refusal :=
  finishAll (s.poke a (Pg.engine e) R.TX_COMMIT.off (BitVec.ofNat 32 (len.toNat + rkind.toNat * 256)) (State.wrEngine e))

/-- TX_STAGE_CLEAR (R307). -/
def execTxStageClear (a : Agent) (e : EngineId) (s : State) : Host.Outcome State Fault Refusal :=
  finishAll (s.engPoke a e R.ENG_CMD_TX_STAGE_CLEAR)

/-- SEND_BREAK (R290). -/
def execSendBreak (a : Agent) (e : EngineId) (s : State) : Host.Outcome State Fault Refusal :=
  finishAll (s.engPoke a e R.ENG_CMD_SEND_BREAK)

/-- BUS_RECOVER (R297). -/
def execBusRecover (a : Agent) (e : EngineId) (stuck : Bool) (s : State) : Host.Outcome State Fault Refusal :=
  finishAll (s.poke a (Pg.engine e) R.ENG_CMD.off (s.withField (Pg.engine e) R.ENG_CMD_BUS_RECOVER 1)
    (State.wrEngineWith e (some stuck)))

/-- ENC_PRESET (R307). -/
def execEncPreset (a : Agent) (e : EngineId) (v : Word) (s : State) : Host.Outcome State Fault Refusal :=
  finishAll (s.poke a (Pg.engine e) R.ENC_PRESET.off v (State.wrEngine e))

/-- CAN_TX_ATTEMPT (R318). -/
def execCanTxAttempt (e : EngineId) (s : State) : Host.Outcome State Fault Refusal := finishAll (s.canAttempt e)

/-- CAN_FRAME_SENT (R320). -/
def execCanFrameSent (e : EngineId) (tdcv : BitVec 7) (at_ : BitVec 64) (s : State) : Host.Outcome State Fault Refusal :=
  finishAll (s.inMode e 6 fun t => t.canSent e tdcv.toNat at_.toNat)

/-- CAN_ATTEMPT_FAILED (R319). -/
def execCanAttemptFailed (e : EngineId) (why : CanFail) (s : State) : Host.Outcome State Fault Refusal :=
  finishAll (s.inMode e 6 fun t => t.canFailed e why)

/-- CAN_FRAME_RECEIVED (R325). -/
def execCanFrameReceived (e : EngineId) (out : CanRx) (ident : BitVec 29) (ide fdf brs esi : Bool) (dlc : BitVec 4)
    (data : List Byte) (at_ : BitVec 64) (s : State) : Host.Outcome State Fault Refusal :=
  finishAll (s.inMode e 6 fun t =>
    if (t.eng e).quiet then t
    else t.canReceive e out (canHead ident.toNat ide false fdf) (dlc.toNat + b2n brs * 16 + b2n esi * 32) data at_.toNat)

/-- CAN_REMOTE_FRAME (R326). -/
def execCanRemoteFrame (e : EngineId) (ident : BitVec 29) (ide : Bool) (dlc : BitVec 4) (at_ : BitVec 64) (s : State) :
    Host.Outcome State Fault Refusal :=
  finishAll (s.inMode e 6 fun t => if (t.eng e).quiet then t else t.canRemote e ident.toNat ide dlc.toNat at_.toNat)

/-- CAN_RX_ERROR (R329). -/
def execCanRxError (e : EngineId) (code : Fin 7) (dataPhase byEight : Bool) (s : State) :
    Host.Outcome State Fault Refusal :=
  finishAll (s.inMode e 6 fun t => if (t.eng e).quiet then t else t.canRxError e code.val dataPhase byEight)

/-- CAN_CYCLE_TIMER (R317): CYCLE_US of a slot has passed. -/
def execCanCycleTimer (e : EngineId) (slot : Fin 32) (s : State) : Host.Outcome State Fault Refusal :=
  finishAll <|
    let x := if s.canRole e = 1 ∨ s.canRole e = 0 then e.val else State.partner e
    let h := s.slotHome x
    if s.engMode e = 6 ∧ (s.subEntry h slot).isSome ∧ s.slotW h slot 3 ≠ 0 ∧ s.mget x 6 R.CAN_CFG_OPMODE ≠ 1 then
      s.modEng x fun g => { g with pend := if g.pend.contains slot.val then g.pend else g.pend ++ [slot.val] }
    else s

/-- RESTART (R331). -/
def execRestart (a : Agent) (e : EngineId) (s : State) : Host.Outcome State Fault Refusal :=
  finishAll (s.engPoke a e R.CAN_CMD_RESTART)

/-- INTEGRATION_DONE (R331). -/
def execIntegrationDone (e : EngineId) (s : State) : Host.Outcome State Fault Refusal :=
  finishAll <|
    if s.engMode e = 6 ∧ s.engOn e ∧ s.mget e 6 R.CAN_STATUS_STATE = 3 then
      ((s.put (State.canPg e) R.CAN_STATUS_STATE 0).engEvent e E.ENG_INTEGRATION_DONE).engineSync e
    else s

/-- ENABLE_INTEGRATION_DONE (R310, R332): 11 consecutive recessive bits. -/
def execEnableIntegrationDone (e : EngineId) (s : State) : Host.Outcome State Fault Refusal :=
  finishAll (s.inMode e 6 fun t => t.modEng e fun g => { g with quiet := false })

/-- ABORT_TX (R321). -/
def execAbortTx (a : Agent) (e : EngineId) (s : State) : Host.Outcome State Fault Refusal :=
  finishAll (s.engPoke a e R.CAN_CMD_ABORT_TX)

/-- PAIR_FAILOVER (R336). -/
def execPairFailover (e : EngineId) (s : State) : Host.Outcome State Fault Refusal := finishAll (s.pairFailover e)

/-- PAIR_SWAP (R337). -/
def execPairSwap (a : Agent) (e : EngineId) (s : State) : Host.Outcome State Fault Refusal :=
  finishAll (s.engPoke a e R.CAN_CMD_PAIR_SWAP)

/-- CAN_STATUS_READ (R340). -/
def execCanStatusRead (a : Agent) (e : EngineId) (s : State) : Host.Outcome State Fault Refusal :=
  finishAll (s.guardedRead a (Pg.engine e) R.CAN_STATUS.off fun t => t.canStatusRead e)

end Sys2Proof.Machine
end

