-- ==== Sys2Proof/Machine/Reaction.lean ====
section
/-! DEFINITION. The Thresher's active table and the safe states that its entries hold (R494, R500, R501, R503, R508). -/

namespace Sys2Proof.Machine

open Sys2Proof (Word Byte Agent Code AccessKind Instr)

namespace State

/-- Word `w` of entry `n` of the active table. -/
def actW (s : State) (n w : Nat) : Nat := (s.rd Pg.active (0x800 + 16 * n + 4 * w)).toNat

/-- VALID, PAGE, KIND, SEVERITY and reaction word of an entry. -/
def actValid (s : State) (n : Nat) : Bool := bitOf (s.actW n 0) 31
def actPage (s : State) (n : Nat) : Nat := s.actW n 0 % 2 ^ 12
def actKind (s : State) (n : Nat) : Nat := bitsOf (s.actW n 0) 12 8
def actSev (s : State) (n : Nat) : Nat := bitsOf (s.actW n 0) 20 3
def actReact (s : State) (n : Nat) : Nat := bitsOf (s.actW n 0) 23 6

/-- The valid entries, ascending. -/
def actUsed (s : State) : List Nat := (List.range 128).filter s.actValid

/-- The reactions that hold: page and reaction word, of active entries and of R507. -/
def heldReactions (s : State) : List (Nat × Nat) := (s.actUsed.map fun n => (s.actPage n, s.actReact n)) ++ s.thr.fullHeld

/-- The safe state of the hub holds (R503); of bank `b`. -/
def hubSafe (s : State) : Bool :=
  s.on Pg.thresher R.THR_CTRL_SAFE_FORCE || s.heldReactions.any fun h => bitOf h.2 3
def bankSafe (s : State) (b : Nat) : Bool :=
  s.hubSafe || s.heldReactions.any fun h => bitOf h.2 2 && bankOf h.1 == some b

/-- The bank's own view of its safe state (R306). -/
def bankShow (s : State) (b : Nat) (on : Bool) : State :=
  let p := Pg.bank b
  if s.pageOn p then
    let t := (s.putB p R.BANK_STATUS_SAFE_ACTIVE on).when (on && !s.on p R.BANK_STATUS_SAFE_ACTIVE) fun t =>
      t.event p E.BANK_SAFE_FORCED
    (List.range 16).foldl (fun t n => t.putB (Pg.engine (16 * b + n)) R.ENG_STATUS_SAFE_FORCED on) t
  else s

/-- Safe states follow their causes (R501, R503), with their events, counts and what they force. -/
def safeRefresh (s : State) : State :=
  let p := Pg.thresher
  let hub := s.hubSafe
  let banks := (List.range 8).filter s.bankSafe
  let bits := banks.foldl (fun x b => x + 2 ^ b) 0
  let oldHub := s.on p R.THR_STATUS_SAFE_HUB
  let old := s.get p R.THR_STATUS_SAFE_BANK
  let began := (hub && !oldHub) || banks.any fun b => !bitOf old b
  let ended := (oldHub && !hub) || (List.range 8).any fun b => bitOf old b && !banks.contains b
  let t := ((s.putB p R.THR_STATUS_SAFE_HUB hub).put p R.THR_STATUS_SAFE_BANK bits).putB p R.THR_STATUS_FORCED
    (s.on p R.THR_CTRL_SAFE_FORCE)
  let t := t.putB p R.THR_STATUS_FIELD_SAFE t.fieldForced
  let t := (t.put p R.THR_STATUS_ACTIVE_COUNT t.actUsed.length).put p R.THR_STATUS_HIGHEST
    ((t.actUsed.map t.actSev).foldl Nat.max 0)
  let t := t.when began fun t => (t.count p R.CNT_SAFE_SAFE).event p E.P010_SAFE_ENTERED
  let t := t.when ended fun t => t.event p E.P010_SAFE_RELEASED
  ((List.range 8).foldl (fun t b => t.bankShow b (banks.contains b)) t).outDriveAll

/-- An entry is cleared (R508): FAULT_LAST.VALID of its page clears, safe states follow, an engine without a further fault
of severity S3 or above may come up (R185). -/
def actClear (s : State) (n : Nat) : State :=
  let p := s.actPage n
  let t := [0, 4, 8, 12].foldl (fun t o => t.wr Pg.active (0x800 + 16 * n + o) 0) s
  let t := t.put p ⟨R.FAULT_LAST.off, 31, 1⟩ 0
  let t := t.safeRefresh
  if isEngine p then t.engineSync (p - 0x100) else t

/-- A clear that the source block accepts through its own register clears the matching entry (R508). -/
def sourceCleared (s : State) (page kind addr : Nat) : State :=
  match s.actUsed.find? fun n => s.actPage n == page && s.actKind n == kind && s.actW n 1 == addr with
  | some n => s.actClear n
  | none => s

end State

end Sys2Proof.Machine
end

