-- ==== Sys2Proof/Machine/Field.lean ====
section
/-! DEFINITION. Field inputs and outputs (R342 to R360), and the synchronous latch where it samples engines and inputs (R235,
R347). -/

namespace Sys2Proof.Machine

open Sys2Proof (Word Byte Agent Code AccessKind Instr)

namespace State

/-- The data of a field input beside its pages, and a change of it. -/
def fin (s : State) (i : Nat) : FieldIn := tabGet {} i s.field.ins
def modFin (s : State) (i : Nat) (f : FieldIn → FieldIn) : State :=
  { s with field := { s.field with ins := tabSet {} i (f (s.fin i)) s.field.ins } }

/-- Bit `i` of a pair of registers for 64 lines. -/
def pairFld (lo : Fld) (i : Nat) : Fld := ⟨lo.off + 4 * (i / 32), i % 32, 1⟩

/-- The branch is on (FUSE_STATUS.STATE on). -/
def branchOn (s : State) (j : Nat) : Bool := s.get Pg.fuses (R.FUSE_STATUS_STATE j) == 3

/-! ### Inputs (R343 to R349) -/

/-- The accepted level of an input, after INV (R344). -/
def finLevel (s : State) (i : Nat) : Bool := (s.fin i).ball != s.on Pg.finCfg (R.FIN_CFG_INV i)

/-- The publish entry of an input (R346): one alone, of LEN 0. -/
def finEntry (s : State) (i : Nat) : Option Nat :=
  match (s.dirRole 1).filter fun j => s.unitKind j == 3 && s.unitOf j == i with
  | [j] => if s.lenOf j = 1 then some j else none
  | _ => none

/-- The input is down (R348). -/
def finDown (s : State) (i : Nat) : Bool := s.on Pg.fin (pairFld R.FIN_FAULT_LO i)

/-- The value an input publishes (R346). -/
def finValue (s : State) (i : Nat) : List Byte := [BitVec.ofNat 8 (b2n (s.finLevel i))]

/-- A source update of an input's entry (R212, R216): valid while the input is up. -/
def finPublish (s : State) (i ts : Nat) : State :=
  match s.finEntry i with
  | some j => if s.finDown i then s else s.sourceUpdate j (s.finValue i) true ts
  | none => s

/-- The registers that show an input's level; its history (R344, R347). -/
def finShow (s : State) (i ts : Nat) : State :=
  let l := s.finLevel i
  let t := (s.putB Pg.fin (pairFld R.FIN_STATE_LO i) l).putB Pg.fin (R.FIN_STAT_LEVEL i) l
  let t := t.putB Pg.fin (R.FIN_STAT_TS_INVALID i) (!s.timeValid)
  t.modFin i fun x => { x with hist := (ts, l) :: x.hist.take 4, last := ts }

/-- The timestamp of a transition (R345). DEDUCED, log entry 52. -/
def finStamp (s : State) (at_ : Nat) : Nat :=
  if s.domainOn 1 then
    (((at_ : Int) + signedOf 16 (s.rd Pg.finCfg R.FIN_GLOBAL.off).toNat) % (2 ^ 64 : Nat)).toNat
  else 0

/-- An accepted transition at the ball (R344 to R346). -/
def finAccept (s : State) (i : Nat) (level : Bool) (at_ : Nat) : State :=
  if (s.fin i).ball = level then s
  else
    let ts := s.finStamp at_
    let t := (s.modFin i fun x => { x with ball := level }).putB Pg.fin (R.FIN_STAT_RAW i) level
    ((t.count Pg.fin (R.FIN_STAT_EDGES i)).finShow i ts).finPublish i ts

/-- The branch that supplies an input is off, and the check is on (R348). -/
def finGroupOff (s : State) (i : Nat) : Bool :=
  bitOf (s.rd Pg.finCfg R.FIN_GROUP_SUP.off).toNat (i / 8) && !s.branchOn (i / 8)

/-- Some condition of R348 holds for an input. -/
def finCause (s : State) (i : Nat) : Bool :=
  ((s.fin i).wireBreak && s.on Pg.finCfg (R.FIN_CFG_WB_EN i)) || (s.fin i).overvolt || s.finGroupOff i || s.die.lost

/-- An input goes down (R216, R348). -/
def finFall (s : State) (i : Nat) : State :=
  let t := (s.setF Pg.fin (pairFld R.FIN_FAULT_LO i)).event Pg.fin E.P025_INPUT_FAULT
  if s.finDown i then t
  else
    match s.finEntry i with
    | some j => t.sourceDown j
    | none => t

/-- A condition of an input is found, with its fault kind. -/
def finFault (s : State) (i kind : Nat) (flag : Fld) : State := ((s.setF Pg.fin flag).finFall i).raise Pg.fin kind i

/-- An input's fault is cleared: it comes up and publishes its present level (R216, R349). -/
def finUp (s : State) (i : Nat) : State :=
  let t := s.clrF Pg.fin (pairFld R.FIN_FAULT_LO i)
  let t := ((t.clrF Pg.fin (R.FIN_STAT_WIRE_BREAK i)).clrF Pg.fin (R.FIN_STAT_OVERVOLT i)).clrF Pg.fin (R.FIN_STAT_GROUP_OFF i)
  let t := [K.WIRE_BREAK, K.INPUT_OVERVOLT].foldl (fun t k => t.sourceCleared Pg.fin k i) t
  let t := t.sourceCleared Pg.fin K.GROUP_OFF (i / 8)
  t.finPublish i t.stamp

/-- A write of 1 to a bit of FIN_FAULT (R349). -/
def finClear (s : State) (i : Nat) : State :=
  if !s.finDown i then s
  else if s.finCause i then s.event Pg.fin E.P025_CLEAR_REFUSED
  else s.finUp i

/-- The GROUP_OFF condition of the inputs of a group follows its branch (R342, R348). -/
def groupCheck (s : State) (g : Nat) : State :=
  let ins := (List.range 8).map (8 * g + ·)
  let news := ins.filter fun i => s.finGroupOff i && !s.on Pg.fin (R.FIN_STAT_GROUP_OFF i)
  let t := news.foldl (fun t i => (t.setF Pg.fin (R.FIN_STAT_GROUP_OFF i)).finFall i) s
  if news.isEmpty then t else t.raise Pg.fin K.GROUP_OFF g

/-- The die-to-die link is lost: every input goes down (R348). The loss ends: inputs without another condition come up
(R349). -/
def finDieLost (s : State) : State := (List.range 64).foldl finFall s
def finDieBack (s : State) : State :=
  (List.range 64).foldl (fun t i =>
    let flagged := t.on Pg.fin (R.FIN_STAT_WIRE_BREAK i) || t.on Pg.fin (R.FIN_STAT_OVERVOLT i)
      || t.on Pg.fin (R.FIN_STAT_GROUP_OFF i)
    if t.finDown i && !flagged && !t.finCause i then t.finUp i else t) s

/-- A write of FIN_CFG (R344): a change of INV changes the accepted level at once. -/
def finConfigure (s : State) (i : Nat) (v : Word) : State :=
  let was := s.finLevel i
  let t := s.storeWrite Pg.finCfg (0x800 + 4 * i) v
  if t.finLevel i = was then t else (t.finShow i t.stamp).finPublish i t.stamp

/-- The bindings of field lines are evaluated (R346, R350). -/
def fieldBindings (s : State) : State :=
  let bad (role kind n : Nat) (good : State → Nat → Option Nat) : Bool :=
    (List.range n).any fun x =>
      ((s.dirRole role).any fun i => s.unitKind i == kind && s.unitOf i == x) && (good s x).isNone
  let t := s.when (bad 1 3 64 finEntry) fun t => t.event Pg.finCfg E.P024_BIND_MISMATCH
  (t.when (bad 2 4 32 outEntry) fun t => t.event Pg.foutCfg E.P026_BIND_MISMATCH).outDriveAll

/-- The present levels of inputs whose binding becomes active (R625). -/
def finPresent (s : State) : State := (List.range 64).foldl (fun t i => t.finPublish i t.stamp) s

/-! ### Outputs (R350 to R358) -/

/-- The measured currents of the outputs (R354), and their sum over those that are on. -/
def foutMeasure (s : State) (cur : List (BitVec 12)) : State :=
  let t := (List.range 32).foldl (fun t o =>
    let c := (cur.getD o 0).toNat
    (t.put Pg.fout (R.FOUT_STAT_CURRENT o) c).when (t.on Pg.fout (R.FOUT_STAT_ON o)) fun t =>
      t.modFout o fun x => { x with current := c }) s
  t.put Pg.fout R.FOUT_AGG_MA ((List.range 32).map fun o => t.get Pg.fout (R.FOUT_STAT_CURRENT o)).sum

/-- An output latches a fault and turns off (R352 to R354). -/
def foutLatch (s : State) (o : Nat) (flag cnt : Fld) (kind : Nat) : State :=
  let p := Pg.fout
  let t := ((s.setF p flag).setF p ⟨R.FOUT_FAULT.off, o, 1⟩).clrF p (R.FOUT_STAT_IN_LIMIT o)
  let t := ((t.count p cnt).event p E.P027_OUTPUT_FAULT).raise p kind o
  t.outDrive o

/-- The output that shedding takes next (R354): on, above 5 mA, the highest rank, the highest number. -/
def shedNext (s : State) : Option Nat :=
  let l := (List.range 32).filter fun o => s.on Pg.fout (R.FOUT_STAT_ON o) && 5 < s.get Pg.fout (R.FOUT_STAT_CURRENT o)
  let key (o : Nat) : Nat := s.get Pg.foutCfg (R.FOUT_CFG_SHED o) * 32 + o
  l.foldl (fun b o => match b with
    | none => some o
    | some x => if key x < key o then some o else b) none

/-- Shed one output, while the sum is above `limit` mA (R354). -/
def shed (s : State) (cur : List (BitVec 12)) (limit : Nat) : State :=
  let t := s.foutMeasure cur
  if t.get Pg.fout R.FOUT_AGG_MA ≤ limit then { t with field := { t.field with shedding := false } }
  else
    match t.shedNext with
    | none => { t with field := { t.field with shedding := false } }
    | some o =>
      let u := t.foutLatch o (R.FOUT_STAT_SHED o) R.CNT_FOUT_SHED K.OUTPUT_SHED
      let left := u.get Pg.fout R.FOUT_AGG_MA - u.get Pg.fout (R.FOUT_STAT_CURRENT o)
      { u with field := { u.field with shedding := decide (5500 < left) } }

/-- The cause of an output's latched fault persists (R355). -/
def foutCause (s : State) (o : Nat) : Bool :=
  (s.on Pg.fout (R.FOUT_STAT_THERMAL o) && (s.fout o).hot)
    || (s.on Pg.fout (R.FOUT_STAT_SHED o) && 5500 < s.get Pg.fout R.FOUT_AGG_MA + (s.fout o).current)

/-- A write of 1 to a bit of FOUT_FAULT (R355). -/
def foutClear (s : State) (o : Nat) : State :=
  let p := Pg.fout
  if !s.outLatched o then s
  else if s.foutCause o then s.event p E.P027_CLEAR_REFUSED
  else
    let t := s.clrF p ⟨R.FOUT_FAULT.off, o, 1⟩
    let t := ((t.clrF p (R.FOUT_STAT_OVERCURRENT o)).clrF p (R.FOUT_STAT_THERMAL o)).clrF p (R.FOUT_STAT_SHED o)
    let t := [K.OUTPUT_OVERCURRENT, K.OUTPUT_THERMAL, K.OUTPUT_SHED].foldl (fun t k => t.sourceCleared p k o) t
    t.outDrive o

/-- An open-load flag of an output changes (R356). -/
def openLoad (s : State) (o : Nat) (flag : Fld) (on : Bool) (kind : Nat) : State :=
  let p := Pg.fout
  let t := s.putB p flag on
  let any := t.on p (R.FOUT_STAT_OPEN_ON o) || t.on p (R.FOUT_STAT_OPEN_OFF o)
  let t := t.putB p ⟨R.FOUT_OPEN.off, o, 1⟩ any
  t.when (on && !s.on p flag) fun t => t.eventFault p E.P027_OPEN_LOAD kind o

/-- The branch of an output is off, as FOUT_STAT shows (R342). -/
def outBranches (s : State) : State :=
  (List.range 32).foldl (fun t o => t.putB Pg.fout (R.FOUT_STAT_BRANCH_OFF o) (!t.branchOn (o / 4))) s

/-- A branch has changed (R342). -/
def branchChanged (s : State) (j : Nat) : State := s.outBranches.groupCheck j

/-- The effect of a write to a page of the field lines. -/
def wrField (p : Nat) (s : State) (off : Nat) (v : Word) : State :=
  let x := v.toNat
  if p = Pg.finCfg ∧ 0x800 ≤ off ∧ off < 0x900 then s.finConfigure ((off - 0x800) / 4) v
  else if p = Pg.finCfg ∧ off = R.FIN_GROUP_SUP.off then
    (List.range 8).foldl groupCheck (s.storeWrite p off v)
  else if p = Pg.fin ∧ (off = R.FIN_FAULT_LO.off ∨ off = R.FIN_FAULT_HI.off) then
    let base := if off = R.FIN_FAULT_LO.off then 0 else 32
    (List.range 32).foldl (fun t n => if bitOf x n then t.finClear (base + n) else t) s
  else if p = Pg.fin ∧ off = R.FIN_CMD.off then s.when (bitOf x 0) fun t => t.cntClear Pg.fin
  else if p = Pg.foutCfg ∧ off = R.FOUT_SET.off then (s.storeWrite p off v).outDriveAll
  else if p = Pg.foutCfg ∧ 0x800 ≤ off then
    let o := (off - 0x800) / 4
    let t := s.storeWrite p off v
    (t.modFout o fun y => { y with safe := t.get p (R.FOUT_CFG_SAFE o) }).outDrive o
  else if p = Pg.fout ∧ off = R.FOUT_FAULT.off then
    (List.range 32).foldl (fun t n => if bitOf x n then t.foutClear n else t) s
  else if p = Pg.fout ∧ off = R.FOUT_CMD.off then s.when (bitOf x 0) fun t => t.cntClear Pg.fout
  else s.storeWrite p off v

/-- What the field lines report reaches the logic die while the die-to-die link is up. -/
def overLink (s : State) (f : State → State) : State := if s.die.up then f s else s

/-! ### The synchronous latch (R235, R236, R347) -/

/-- The sample of a publish entry at the latch edge; a field input's follows from its history. -/
def latchSample (s : State) (at_ i : Nat) : Sample :=
  let m := s.mir i
  let e := s.unitOf i
  let line := s.unitKind i == 2 && (s.engMode e == 7 || s.engMode e == 9)
  let now := if line then
      if (s.pubEntry e (s.bindOf i)).isSome then (s.presentState e (s.bindOf i)).getD m.value else m.value
    else m.value
  { index := i, version := m.version, time := at_, valid := m.srcValid, value := bytesAt now 0 (s.lenOf i),
    field := s.unitKind i == 3 }

/-- The fabric time reaches LATCH_TIME of an armed key (R235, R236). -/
def latchFire (s : State) (key at_ : Nat) : State :=
  match s.sig.armed.find? (·.key == key) with
  | none => s
  | some x =>
    let t := s.disarm key
    if !s.timeValid then t.latchMissed key x.time 1
    else if !s.domainOn 4 then t
    else
      let l := (s.dirRole 1).filter fun i => dLatchEn (s.dirW i 0)
      let t := t.modSig fun g =>
        { g with fired := g.fired ++ [{ key := key, time := x.time, invalid := false, samples := l.map (s.latchSample at_) }] }
      ((t.count Pg.latch R.CNT_LATCH_FIRED).wr Pg.latch R.LATCH_LAST.off (BitVec.ofNat 32 (2 ^ 31 + key))).event Pg.latch
        E.P073_LATCH_FIRED

/-- The level of an input at LATCH_TIME (R347): from its last transitions; with more than four since, the last level with
VALID 0. -/
def fieldSample (s : State) (time : Nat) (q : Sample) : Sample :=
  if q.field then
    let i := s.unitOf q.index
    let after := (s.fin i).hist.filter fun h => time < h.1
    let level := match after.getLast? with
      | none => s.finLevel i
      | some h => !h.2
    if 4 < after.length then { q with field := false, valid := false, value := s.finValue i }
    else { q with field := false, value := [BitVec.ofNat 8 (b2n level)],
                  version := (s.mir q.index).version - after.length }
  else q

/-- The front-end evaluates the inputs of a fired latch. -/
def fieldLatch (s : State) (key : Nat) : State :=
  s.modSig fun g =>
    { g with fired := g.fired.map fun x =>
        if x.key = key then { x with samples := x.samples.map (s.fieldSample x.time) } else x }

end State

/-- FIELD_INPUT_ACCEPT (R344). -/
def execFieldInputAccept (i : Fin 64) (level : Bool) (at_ : BitVec 64) (s : State) : Host.Outcome State Fault Refusal :=
  finishAll (s.overLink fun t => t.finAccept i level at_.toNat)

/-- FIN_INV_WRITE (R344). -/
def execFinInvWrite (a : Agent) (i : Fin 64) (inv : Bool) (s : State) : Host.Outcome State Fault Refusal :=
  finishAll (s.poke a Pg.finCfg (0x800 + 4 * i.val) (s.withField Pg.finCfg (R.FIN_CFG_INV i) (b2n inv))
    (State.wrField Pg.finCfg))

/-- WIRE_BREAK (R348): the condition is found, or has ended. DEDUCED, log entry 52. -/
def execWireBreak (i : Fin 64) (present : Bool) (s : State) : Host.Outcome State Fault Refusal :=
  finishAll <| s.overLink fun t =>
    let u := t.modFin i fun x => { x with wireBreak := present }
    if present && t.on Pg.finCfg (R.FIN_CFG_WB_EN i) then u.finFault i K.WIRE_BREAK (R.FIN_STAT_WIRE_BREAK i) else u

/-- INPUT_OVERVOLT (R348): the condition is found, or has ended. DEDUCED, log entry 52. -/
def execInputOvervolt (i : Fin 64) (present : Bool) (s : State) : Host.Outcome State Fault Refusal :=
  finishAll <| s.overLink fun t =>
    let u := t.modFin i fun x => { x with overvolt := present }
    if present then u.finFault i K.INPUT_OVERVOLT (R.FIN_STAT_OVERVOLT i) else u

/-- FIN_FAULT_CLEAR (R349). -/
def execFinFaultClear (a : Agent) (i : Fin 64) (s : State) : Host.Outcome State Fault Refusal :=
  finishAll (s.poke a Pg.fin (R.FIN_FAULT_LO.off + 4 * (i.val / 32)) (BitVec.ofNat 32 (2 ^ (i.val % 32)))
    (State.wrField Pg.fin))

/-- FOUT_SET_WRITE (R350). -/
def execFoutSetWrite (a : Agent) (v : Word) (s : State) : Host.Outcome State Fault Refusal :=
  finishAll (s.poke a Pg.foutCfg R.FOUT_SET.off v (State.wrField Pg.foutCfg))

/-- OUTPUT_CURRENT_LIMIT (R352). -/
def execOutputCurrentLimit (o : Fin 32) (inLimit : Bool) (s : State) : Host.Outcome State Fault Refusal :=
  finishAll (s.overLink fun t =>
    t.putB Pg.fout (R.FOUT_STAT_IN_LIMIT o) (inLimit && t.on Pg.fout (R.FOUT_STAT_ON o)))

/-- OUTPUT_LIMIT_EXPIRY (R352). -/
def execOutputLimitExpiry (o : Fin 32) (s : State) : Host.Outcome State Fault Refusal :=
  finishAll (s.overLink fun t =>
    if t.on Pg.fout (R.FOUT_STAT_IN_LIMIT o) then
      t.foutLatch o (R.FOUT_STAT_OVERCURRENT o) R.CNT_FOUT_OVERCURRENT K.OUTPUT_OVERCURRENT
    else t)

/-- OUTPUT_SHORT (R352). -/
def execOutputShort (o : Fin 32) (s : State) : Host.Outcome State Fault Refusal :=
  finishAll (s.overLink fun t =>
    if t.on Pg.fout (R.FOUT_STAT_ON o) then
      t.foutLatch o (R.FOUT_STAT_OVERCURRENT o) R.CNT_FOUT_OVERCURRENT K.OUTPUT_OVERCURRENT
    else t)

/-- OUTPUT_THERMAL (R353, R355): the channel reaches 150 °C, or has cooled to 135 °C. DEDUCED, log entry 52. -/
def execOutputThermal (o : Fin 32) (present : Bool) (s : State) : Host.Outcome State Fault Refusal :=
  finishAll <| s.overLink fun t =>
    let u := t.modFout o fun x => { x with hot := present }
    if present then u.foutLatch o (R.FOUT_STAT_THERMAL o) R.CNT_FOUT_OVERCURRENT K.OUTPUT_THERMAL else u

/-- AGGREGATE_SHED (R354): the sum of these currents has stayed above 6,000 mA for AGG_MS. -/
def execAggregateShed (currents : List (BitVec 12)) (s : State) : Host.Outcome State Fault Refusal :=
  finishAll (s.overLink fun t => t.shed currents 6000)

/-- SHED_NEXT (R354): 100 µs later. -/
def execShedNext (currents : List (BitVec 12)) (s : State) : Host.Outcome State Fault Refusal :=
  finishAll (s.overLink fun t => if t.field.shedding then t.shed currents 5500 else t.foutMeasure currents)

/-- FOUT_FAULT_CLEAR (R355). -/
def execFoutFaultClear (a : Agent) (o : Fin 32) (s : State) : Host.Outcome State Fault Refusal :=
  finishAll (s.poke a Pg.fout R.FOUT_FAULT.off (BitVec.ofNat 32 (2 ^ o.val)) (State.wrField Pg.fout))

/-- OPEN_ON (R356). -/
def execOpenOn (o : Fin 32) (s : State) : Host.Outcome State Fault Refusal :=
  finishAll (s.overLink fun t =>
    if t.on Pg.foutCfg (R.FOUT_CFG_OL_ON_EN o) && t.on Pg.fout (R.FOUT_STAT_ON o) && t.branchOn (o / 4) then
      t.openLoad o (R.FOUT_STAT_OPEN_ON o) true K.OPEN_ON
    else t)

/-- OPEN_OFF (R356). -/
def execOpenOff (o : Fin 32) (s : State) : Host.Outcome State Fault Refusal :=
  finishAll (s.overLink fun t =>
    if t.on Pg.foutCfg (R.FOUT_CFG_OL_OFF_EN o) && !t.on Pg.fout (R.FOUT_STAT_ON o) && t.branchOn (o / 4) then
      t.openLoad o (R.FOUT_STAT_OPEN_OFF o) true K.OPEN_OFF
    else t)

/-- OPEN_LOAD_END (R356). -/
def execOpenLoadEnd (o : Fin 32) (off : Bool) (s : State) : Host.Outcome State Fault Refusal :=
  finishAll (s.overLink fun t =>
    t.openLoad o (if off then R.FOUT_STAT_OPEN_OFF o else R.FOUT_STAT_OPEN_ON o) false 0)

/-- FRESHNESS_TIMEOUT (R221): an accepted value has not been followed within the entry's timeout. -/
def execFreshnessTimeout (i : Fin 16384) (s : State) : Host.Outcome State Fault Refusal :=
  finishAll <|
    if s.domainOn 4 ∧ s.subscribes i ∧ (s.mir i).got ∧ bitsOf (s.dirW i 1) 12 4 ≠ 0 then
      s.mirChange i false fun m => { m with stale := true }
    else s

/-- LATCH_FIRE (R235). -/
def execLatchFire (key : BitVec 18) (at_ : BitVec 64) (s : State) : Host.Outcome State Fault Refusal :=
  finishAll (s.latchFire key.toNat at_.toNat)

/-- FIELD_LATCH_EVALUATE (R347). -/
def execFieldLatchEvaluate (key : BitVec 18) (s : State) : Host.Outcome State Fault Refusal :=
  finishAll (s.fieldLatch key.toNat)

end Sys2Proof.Machine
end

