-- ==== Sys2Proof/Machine/Dlog.lean ====
section
/-! DEFINITION. Ralusk's decision log (R531, R532), and what a policy's decision goes through (R514, R515, R529). -/

namespace Sys2Proof.Machine

open Sys2Proof (Word Byte Agent Code AccessKind Instr LaneId LinkId EngineId)

namespace State

/-- A policy makes decisions (R514, R515): in advise mode while Ralusk runs, or in act mode. -/
def policyDecides (s : State) (p : Nat) : Bool :=
  s.policyAct p || (s.domainOn 0 && s.policyMode p == 1 && (s.raluskState == 2 || (s.raluskState == 4 && (p == 4 || p == 5))))

/-- The next number after a log's sequence number: 0xFFFF_FFFF is skipped (R504). -/
def logNext (n : Nat) : Nat := if n + 1 = 2 ^ 32 - 1 then 0 else (n + 1) % 2 ^ 32

/-- The store takes a log entry now (R486, R506): it is present and not frozen. -/
def storeOpen (s : State) : Bool := !s.on Pg.seed R.SEED_STATUS_FROZEN

/-- An entry for the store's log area (R532, R506): written, or it waits for the freeze to end, or it is lost. -/
def dlogPersist (s : State) (e : ThrEntry) : State :=
  if s.storeOpen then
    (s.modRal fun r => { r with area := (e :: r.area).take 8192 }).count Pg.dlog R.CNT_DLOG_ENTRIES
  else if s.ral.persist.length < 16 then s.modRal fun r => { r with persist := r.persist ++ [e] }
  else (s.count Pg.dlog R.CNT_DLOG_LOST).eventFault Pg.dlog E.P00D_DLOG_LOST K.DLOG_LOST 0

/-- The freeze has ended: the entries that waited are written (R506, R532). -/
def dlogFlush (s : State) : State :=
  let l := s.ral.persist
  (s.modRal fun r => { r with persist := [], area := (l.reverse ++ r.area).take 8192 }).countN Pg.dlog R.CNT_DLOG_ENTRIES
    l.length

/-- ACTION codes of the decision log (R531). -/
def actAdvised : Nat := 0
def actWritten : Nat := 1
def actPreempted : Nat := 2
def actRefused : Nat := 3
def actBound : Nat := 4
def actSummary : Nat := 5

/-- Log a decision (R531), with its count, its event and its fault (R536 to R538). -/
def logDecision (s : State) (policy action inst page off before after : Nat) : State :=
  let t := if action = 1 then s.count Pg.ralusk R.CNT_DECIDE_WRITTEN
    else if action = 0 then s.count Pg.ralusk R.CNT_DECIDE_ADVISED
    else if action = 2 ∨ action = 3 then s.count Pg.ralusk R.CNT_RALUSK_PREEMPTED
    else if action = 4 then s.raise Pg.ralusk K.POLICY_BOUND policy
    else s
  if !bitOf (s.rd Pg.dlog R.DLOG_FILTER.off).toNat policy then t
  else
    let seq := (s.rd Pg.dlog R.DLOG_HEAD.off).toNat
    let time := s.stamp
    let w (n : Nat) : Word := BitVec.ofNat 32 n
    let e : ThrEntry :=
      { seq := seq, words := [w seq, w (policy + action * 2 ^ 8 + inst % 2 ^ 16 * 2 ^ 16), w (page + off * 2 ^ 16), w before,
                              w after, w time, w (time / 2 ^ 32), w s.uptime] }
    let t := (t.modRal fun r => { r with log := (e :: r.log).take 1024 }).wr Pg.dlog R.DLOG_HEAD.off
      (w (logNext seq))
    let t := if action = 0 then t.event Pg.ralusk E.P00C_ADVICE else if action = 1 then t.event Pg.ralusk E.P00C_DECISION
      else if action = 2 ∨ action = 3 then t.event Pg.ralusk E.P00C_REFUSED
      else if action = 4 then t.event Pg.ralusk E.P00C_BOUND_REACHED else t
    t.when (action = 1 ∨ action = 3 ∨ action = 4) fun u => u.dlogPersist e

/-- A decision that meets a bound (R521, R526): logged once in a run of clamped decisions. -/
def logClamp (s : State) (policy key inst page off before after : Nat) (clamped : Bool) : State :=
  if clamped then
    let t := s.modRal fun r => { r with clamped := addNew key r.clamped }
    t.when (!s.ral.clamped.contains key) fun u => u.logDecision policy actBound inst page off before after
  else s.modRal fun r => { r with clamped := r.clamped.filter (· != key) }

/-- The write set of a policy (R517): the page and offset of each field that it may write; PATH sends frames, logged with
page 0 and offset 0. -/
def policyScope (policy page off : Nat) : Bool :=
  match policy with
  | 0 => isLane page && (off == R.RX_EQ.off || off == R.EYE_CTRL.off)
  | 1 => page == 0 && off == 0
  | 2 => page == Pg.qprof && 0x800 ≤ off && off < 0x900 && off % 16 == 0
  | 3 => (page == Pg.power && off == R.PD_REQ.off) || (0x058 ≤ page && page ≤ 0x05B && off == R.LINK_CTRL.off)
  | 4 => isLane page && off == R.LANE_CFG.off
  | 5 => page == Pg.prime && (off == (R.P_FREQ 0).off || off == (R.P_ADJ 0).off)
  | 6 => page == Pg.gleaner && off == R.GLEAN_CFG.off
  | _ => isEngine page && page % 2 == 0 && off == R.CAN_CMD.off

/-- A decision: logged as ADVISED, or written and logged as WRITTEN (R514); a write outside the policy's set is discarded
and reported (R517). -/
def decideTo (s : State) (policy inst page off before after : Nat) (write : State → State) : State :=
  if s.policyAct policy then
    if policyScope policy page off then (write s).logDecision policy actWritten inst page off before after
    else s.raise Pg.ralusk K.RALUSK_SCOPE (page * 2 ^ 12 + off)
  else if s.policyDecides policy then s.logDecision policy actAdvised inst page off before after
  else s

/-- OVERRIDE_HOLD_S keeps Ralusk from a field (R529). -/
def overridden (s : State) (key : Nat) : Bool :=
  let at_ := look key s.ral.touched
  at_ != 0 && s.ns + 1 < at_ + s.get Pg.ralusk R.OVERRIDE_HOLD_S % 65536 * 1000000000

end State

end Sys2Proof.Machine
end

