-- ==== Sys2Proof/Machine/Time.lean ====
section
/-! DEFINITION. Fabric time (R361 to R391): the prime clocks, the local time units, PTP on the ring, the servo, the external
reference, the measurement and transmit timestamp queues. Times inside are in 2^-16 ns where PTP needs the fraction. -/

namespace Sys2Proof.Machine

open Sys2Proof (Word Byte Agent Code AccessKind Instr LaneId LinkId EngineId)

namespace State

/-- Change the time data beside its pages. -/
def modTime (s : State) (f : TimeBase → TimeBase) : State := { s with time := f s.time }

/-- A PTP port, and a change of it. -/
def ptpPort (s : State) (k : Nat) : PtpPort := s.time.ports.getD k {}
def modPort (s : State) (k : Nat) (f : PtpPort → PtpPort) : State :=
  s.modTime fun t => { t with ports := t.ports.setIfInBounds k (f (t.ports.getD k {})) }

/-- A register as a signed number. -/
def sget (s : State) (p : Nat) (f : Fld) : Int := signedOf f.w (s.get p f)

/-! ### Prime clocks (R361 to R364) -/

/-- A prime clock. -/
def primeOf (s : State) (c : Nat) : Prime := if c = 0 then s.prime0 else s.prime1

/-- Change a prime clock. -/
def modPrime (s : State) (c : Nat) (f : Prime → Prime) : State :=
  if c = 0 then { s with prime0 := f s.prime0 } else { s with prime1 := f s.prime1 }

/-- A prime clock's value in 2^-32 ns. -/
def primeValue (p : Prime) : Nat := (p.sec * 1000000000 + p.ns) * 2 ^ 32 + p.frac

/-- A prime clock set to a value in 2^-32 ns; the seconds count has 48 bits. -/
def primeAt (p : Prime) (v : Int) : Prime :=
  let n := (v % ((2 ^ 48 * 1000000000 * 2 ^ 32 : Nat) : Int)).toNat
  { p with sec := n / 2 ^ 32 / 1000000000, ns := n / 2 ^ 32 % 1000000000, frac := n % 2 ^ 32 }

/-- The servo state (R382). -/
def servo (s : State) : Nat := s.get Pg.time R.TIME_STATUS_STATE

/-- This hub is the grandmaster. -/
def isGm (s : State) : Bool := s.on Pg.time R.TIME_STATUS_IS_GM

/-- Prime 1's frequency follows the 10 MHz input (R379). DEDUCED, log entry 57. -/
def ref10Follows (s : State) : Bool :=
  s.on Pg.prime R.EXT_CFG_EXT_EN && s.on Pg.prime R.EXT_CFG_REF10_EN && s.on Pg.prime R.EXT_STATUS_REF10_OK

/-- The effective trim of a prime clock, in 2^-32 ns per ns, within ±1,000 ppm (R362, R379). -/
def trim (s : State) (c : Nat) : Int :=
  let synt := if c = 0 ∨ s.ref10Follows then s.sget Pg.prime (R.P_SYNT_FREQ c) else 0
  max (-4294967) (min 4294967 (s.sget Pg.prime (R.P_FREQ c) + synt))

/-- One tick of a prime clock (R362, R363): 1 ns plus the trim; in one tick of 4,096 a pending adjustment adds or withholds
1 ns. -/
def primeTick (s : State) (c : Nat) : State :=
  let p := s.primeOf c
  let r := s.sget Pg.prime (R.P_ADJ_REMAIN c)
  let due := p.adjTicks + 1 = 4096 ∧ r ≠ 0
  let one : Int := if due then (if 0 < r then 1 else -1) else 0
  let t := s.modPrime c fun p =>
    primeAt { p with adjTicks := if r = 0 then 0 else (p.adjTicks + 1) % 4096 }
      ((primeValue p : Int) + 2 ^ 32 + s.trim c + one * 2 ^ 32)
  if due then t.put Pg.prime (R.P_ADJ_REMAIN c) (ofSigned 32 (r - one)) else t

/-- A phase adjustment replaces what is pending (R363). -/
def adjust (s : State) (c : Nat) (ns : Int) : State :=
  (s.put Pg.prime (R.P_ADJ_REMAIN c) (ofSigned 32 ns)).modPrime c fun p => { p with adjTicks := 0 }

/-- TIME_PPS_OUT takes a level (R381). -/
def ppsDrive (s : State) (high : Bool) : State :=
  if s.time.ppsHigh = high then s
  else (s.modTime fun t => { t with ppsHigh := high }).emit (.level Pg.prime (b2n high))

/-- A prime clock is stepped: a pulse of TIME_PPS_OUT that it drives ends (R381). DEDUCED, log entry 57. -/
def primeStep (s : State) (c : Nat) (f : Prime → Prime) : State :=
  (s.modPrime c f).when (s.get Pg.prime R.PPS_OUT_CFG_SRC == c) fun t => t.ppsDrive false

/-- P0_FREQ and P0_ADJ are withheld from agents (R383). -/
def servoHolds (s : State) : Bool := s.policyAct 5 && !s.on Pg.time R.TIME_CFG_SERVO_SW

/-- The values of the SET registers (R364). -/
def setValue (s : State) (c : Nat) (p : Prime) : Prime :=
  { p with sec := s.get Pg.prime (R.P_SET_SEC_LO c) + 2 ^ 32 * (s.get Pg.prime (R.P_SET_SEC_HI c) % 2 ^ 16),
           ns := Nat.min 999999999 (s.get Pg.prime (R.P_SET_NS c) % 2 ^ 30), frac := 0 }

/-- Pc_CMD.SET (R364, R379). -/
def primeSet (s : State) (c : Nat) : State :=
  if c = 0 then
    if 3 ≤ s.servo then s.event Pg.prime E.P019_SET_REFUSED
    else (s.primeStep 0 (s.setValue 0)).when s.isGm fun t => t.setF Pg.time R.TIME_STATUS_TIME_SET
  else if s.on Pg.prime R.EXT_STATUS_PPS_OK then s.modPrime 1 fun p => { p with setWait := true }
  else s.primeStep 1 (s.setValue 1)

/-! ### Local time units (R366, R367) -/

/-- The nominal increment of a unit, in 2^-32 ns. -/
def unitNominal (u : Nat) : Nat :=
  if u < 8 then 0x200000000 else if u < 13 then 0xB60B60B6 else if u = 13 then 0x100000000 else 0x10AAAAAAAB

/-- The increment of a unit as UNIT_INCR gives it. -/
def unitIncr (s : State) (u : Nat) : Nat :=
  s.get Pg.units (R.UNIT_INCR_LO u) + 2 ^ 32 * (s.get Pg.units (R.UNIT_INCR_HI u) % 32)

/-- Change a unit. -/
def modUnit (s : State) (u : Nat) (f : TUnit → TUnit) : State :=
  { s with units := s.units.setIfInBounds u (f (s.units.getD u {})) }

/-- `n` ticks of the island of a unit. -/
def unitTicks (s : State) (u n : Nat) : State :=
  s.modUnit u fun x =>
    let v : Int := (x.count * 2 ^ 32 + x.frac : Nat) + n * ((s.unitIncr u : Int) + x.trim)
    let m := (v % ((2 ^ 96 : Nat) : Int)).toNat
    { x with count := m / 2 ^ 32, frac := m % 2 ^ 32 }

/-- The trim a unit chooses, within ±500 ppm: the spec gives the bound alone. DESIGN CHOICE, log entry 56. -/
def unitTrim (s : State) (u : Nat) : Int :=
  let b := unitNominal u / 2000
  ((s.freeWord.toNat % (2 * b + 1) : Nat) : Int) - b

/-- A unit compares its count with the strobe (R367). -/
def unitStrobe (s : State) (u : Nat) : State :=
  let x := s.units.getD u {}
  let p := primeValue { s.prime0 with sec := s.now / 1000000000, ns := s.now % 1000000000 }
  let err : Int := ((x.count * 2 ^ 32 + x.frac : Nat) : Int) - p
  let off := 500 * unitNominal u < 1000000 * ((s.unitIncr u : Int) - unitNominal u).natAbs
  let bit : Fld := ⟨R.UNIT_STATUS.off, u, 1⟩
  let t := (s.putB Pg.units bit (decide (err.natAbs ≤ 2 * 2 ^ 32) && !off)).modUnit u fun x =>
    { x with trim := s.unitTrim u }
  if 4 * 2 ^ 32 < err.natAbs then
    ((t.modUnit u fun x => { x with count := s.now, frac := s.prime0.frac }).put Pg.units ⟨R.UNIT_FAULT.off, u, 1⟩ 1
      ).eventFault Pg.units E.P01B_UNIT_FAULT K.UNIT_FAULT u
  else t

/-- Every unit meets the strobe; each draws its own trim. -/
def strobe (s : State) : State := (List.range 15).foldl (fun t u => (t.unitStrobe u).draw) s

/-! ### The servo's state (R382) -/

/-- TIME_VALID rises or falls. DEDUCED, log entry 57. -/
def setValid (s : State) (v : Bool) : State :=
  if s.timeValid = v then s
  else
    let t := (s.putB Pg.time R.TIME_STATUS_TIME_VALID v).event Pg.time E.P018_TIME_VALID_CHANGED
    if v then t else (t.count Pg.time R.CNT_HOLDOVER_TIME_VALID).raise Pg.time K.TIME_VALID_LOST t.servo

/-- The servo enters a state. -/
def servoTo (s : State) (n : Nat) : State :=
  let t := (s.put Pg.time R.TIME_STATUS_STATE n).putB Pg.time R.TIME_STATUS_IS_GM (n == 2)
  let t := t.modTime fun x => { x with lockRun := 0 }
  t.when (n == 5 && s.servo != 5) fun t => (t.count Pg.time R.CNT_HOLDOVER_HOLDOVER).event Pg.time E.P018_HOLDOVER

/-- The time block is on and enabled. -/
def timeOn (s : State) : Bool := s.domainOn 1 && s.on Pg.time R.PAGE_CTRL_ENABLE

/-- DISABLED follows the domain and ENABLE (R365, R382). -/
def timeSync (s : State) : State :=
  if s.timeOn then if s.servo = 0 then s.servoTo 1 else s
  else if s.servo = 0 then s
  else (s.servoTo 0).setValid false

/-- Intervals and limits as they act. -/
def logSync (s : State) : Int := max (-10) (min 0 (s.sget Pg.time R.TIME_INTERVALS_LOG_SYNC))
def logPdelay (s : State) : Int := max (-4) (min 4 (s.sget Pg.time R.TIME_INTERVALS_LOG_PDELAY))
def logAnnounce (s : State) : Int := max (-3) (min 4 (s.sget Pg.time R.TIME_INTERVALS_LOG_ANNOUNCE))
def announceTimeout (s : State) : Nat := clamp 2 15 (s.get Pg.time R.TIME_INTERVALS_ANNOUNCE_TIMEOUT)
def stepThresh (s : State) : Nat := Nat.max 10 (s.get Pg.time R.SERVO_CFG_STEP_THRESH)
def lockNs (s : State) : Nat := Nat.max 1 (s.get Pg.time R.SERVO_CFG_LOCK_NS)
def lockCount (s : State) : Nat := Nat.max 1 (s.get Pg.time R.SERVO_CFG_LOCK_COUNT)
def holdoverMs (s : State) : Nat := Nat.max 1 (s.get Pg.time R.HOLDOVER_MS % 65536)

/-- 2^n seconds in ns. -/
def pow2s (n : Int) : Nat := if n < 0 then 1000000000 / 2 ^ n.natAbs else 1000000000 * 2 ^ n.toNat

/-! ### Datasets (R377) -/

/-- clockClass of this hub. -/
def clockClass (s : State) : Nat :=
  let follows := s.on Pg.prime R.EXT_CFG_P0_FOLLOWS_P1
  let recent := match s.time.refLost with
    | some t => s.ns ≤ t + 1000000 * s.holdoverMs
    | none => false
  if follows && s.on Pg.prime R.EXT_STATUS_P1_LOCKED then 6
  else if follows && recent then 7
  else if s.on Pg.time R.TIME_CFG_SERVO_SW && s.on Pg.time R.TIME_STATUS_TIME_SET then 13
  else 248

/-- clockAccuracy of this hub. -/
def clockAccuracy (s : State) : Nat := if s.clockClass ≤ 7 then 0x21 else 0xFE

/-- This hub's dataset. -/
def ownData (s : State) : GmData :=
  { prio1 := s.get Pg.time R.TIME_CFG_PRIORITY1, cls := s.clockClass, acc := s.clockAccuracy,
    prio2 := s.get Pg.time R.TIME_CFG_PRIORITY2, ident := s.uid, steps := 0, set_ := s.on Pg.time R.TIME_STATUS_TIME_SET }

/-- The number by which the default algorithm orders datasets: priority1, class, accuracy, priority2, identity (the
variances are equal). -/
def GmData.rank (d : GmData) : Nat :=
  (((d.prio1 * 2 ^ 8 + d.cls) * 2 ^ 8 + d.acc) * 2 ^ 8 + d.prio2) * 2 ^ 64 + d.ident

/-- The best dataset of a list. -/
def bestData : List GmData → Option GmData
  | [] => none
  | d :: l =>
    match bestData l with
    | none => some d
    | some b => if GmData.rank d < GmData.rank b ∨ (GmData.rank d = GmData.rank b ∧ d.steps ≤ b.steps) then some d else some b

/-- The Announce messages received within ANNOUNCE_TIMEOUT intervals. -/
def freshAnns (s : State) : List GmData :=
  s.time.anns.filter fun d => s.ns ≤ d.at_ + s.announceTimeout * pow2s s.logAnnounce

/-- The better grandmaster announced, if any; any announced one is better for a hub that may not be grandmaster. -/
def betterGm (s : State) : Option GmData :=
  match bestData (s.freshAnns.filter fun d => d.ident != s.uid) with
  | none => none
  | some d => if !s.on Pg.time R.TIME_CFG_GM_CAPABLE || GmData.rank d < GmData.rank s.ownData then some d else none

/-- The hub's grandmaster becomes another one (R377). -/
def setGm (s : State) (d : GmData) : State :=
  let old := s.get Pg.time R.GM_ID_LO + 2 ^ 32 * s.get Pg.time R.GM_ID_HI
  let w (n : Nat) : Word := BitVec.ofNat 32 n
  let t := ((s.wr Pg.time R.GM_ID_LO.off (w d.ident)).wr Pg.time R.GM_ID_HI.off (w (d.ident / 2 ^ 32))).wr Pg.time
    R.GM_INFO.off (w (d.cls + d.acc * 2 ^ 8 + d.prio1 * 2 ^ 16 + d.prio2 * 2 ^ 24))
  t.when (old != d.ident) fun t =>
    (t.count Pg.time R.CNT_TIME_EVT_GRANDMASTER).event Pg.time E.P018_GM_CHANGED

/-- The identity of the hub's grandmaster. -/
def gmId (s : State) : Nat := s.get Pg.time R.GM_ID_LO + 2 ^ 32 * s.get Pg.time R.GM_ID_HI

/-- The comparison after an Announce (R377, R382): a grandmaster with a better one announced goes to HOLDOVER. -/
def compareGm (s : State) : State :=
  match s.betterGm with
  | none => s
  | some d => (s.setGm d).when (s.servo == 2) fun t => t.servoTo 5

/-- The hub becomes grandmaster (R382). -/
def becomeGm (s : State) : State := ((s.servoTo 2).setGm s.ownData).setValid true

/-! ### PTP messages (R369 to R371) -/

/-- A PTP message: the header of R370 in the layout of the standard, then the body. PRESUMED, log entry 54. -/
def ptpMessage (s : State) (type k flags2 : Nat) (corr : Int) (specific seq : Nat) (interval : Int) (body : List Byte) :
    List Byte :=
  [BitVec.ofNat 8 type, 0x12] ++ beBytes 2 (34 + body.length) ++ beBytes 1 (s.get Pg.time R.TIME_CFG_DOMAIN) ++ [0]
    ++ [0, BitVec.ofNat 8 flags2] ++ beBytes 8 (ofSigned 64 corr) ++ beBytes 4 (specific % 2 ^ 32)
    ++ beBytes 8 s.uid ++ beBytes 2 (k + 1) ++ beBytes 2 seq ++ [0] ++ beBytes 1 (ofSigned 8 interval) ++ body

/-- Fields of a message: correctionField, messageTypeSpecific, clockIdentity, portNumber, sequenceId. -/
def mCorr (m : List Byte) : Int := signedOf 64 (beNat (bytesAt m 8 8))
def mSpecific (m : List Byte) : Nat := beNat (bytesAt m 16 4)
def mClock (m : List Byte) : Nat := beNat (bytesAt m 20 8)
def mPort (m : List Byte) : Nat := beNat (bytesAt m 28 2)
def mSeq (m : List Byte) : Nat := beNat (bytesAt m 30 2)

/-- originTimestamp of a Sync, in 2^-16 ns. -/
def mOrigin (m : List Byte) : Nat := (beNat (bytesAt m 34 6) * 1000000000 + beNat (bytesAt m 40 4)) * 2 ^ 16

/-- The length of a message type (R369). -/
def ptpLen (type : Nat) : Option Nat :=
  if type = 0 then some 44 else if type = 2 ∨ type = 3 then some 54 else if type = 0xB then some 64 else none

/-- A message that the hub discards is counted (R369, R371). -/
def ptpDiscard (s : State) : State := (s.count Pg.ptp R.CNT_PTP_ERR_MESSAGES).event Pg.ptp E.P01A_PTP_ERR

/-- The message passes the checks of R369 and R370. -/
def ptpGood (s : State) (type : Nat) (m : List Byte) : Bool :=
  ptpLen type == some m.length && (m.getD 0 0).toNat % 16 == type && (m.getD 1 0).toNat % 16 == 2
    && beNat (bytesAt m 2 2) == m.length && (m.getD 4 0).toNat == s.get Pg.time R.TIME_CFG_DOMAIN

/-- A PTP message leaves on one side, link-local, to the partner (R369, R371). DEDUCED, log entry 26. -/
def ptpOut (s : State) (k type : Nat) (m : List Byte) : State :=
  if !s.nodeValid || !s.linkActive k then s
  else
    let q := Pg.link k
    let r := s.entered 8
      { cls := if type = 0xB then 2 else 1, prio := 7, ftype := if type = 0xB then 0x21 else 0x20, aux := type,
        dstNode := s.get q R.PARTNER_ID_NODE, dstHub := s.get q R.PARTNER_ID_HUB, ring := k / 2 % 2, payload := m }
    (r.1.sideQueue k { r.2 with hops := 0 }).1

/-- What a received message does while the time block runs: a bad one is discarded. -/
def ptpIn (s : State) (type : Nat) (m : List Byte) (f : State → State) : State :=
  if !s.timeOn then s else if s.ptpGood type m then f s else s.ptpDiscard

/-- The ports in ACTIVE. -/
def ptpPorts (s : State) : List Nat := [0, 1, 2, 3, 4, 5, 6].filter s.linkActive

/-- The side a copy that arrived on ring side `k` is forwarded on (R374). -/
def ptpForward (s : State) (k : Nat) (m : List Byte) : Option Nat :=
  let barred := 2 ≤ k && (!s.on Pg.time R.TIME_CFG_RING_B_EN || s.on Pg.redun R.REDUN_STATUS_B_EXCLUDED)
  if k < 4 ∧ mClock m ≠ s.uid ∧ s.linkActive (otherSide k) ∧ !barred then some (otherSide k) else none

/-- The stitch ports of a lead hub on which it forwards (R374). -/
def ptpStitch (s : State) (k : Nat) : List Nat :=
  if s.hubPos = 0 ∧ k < 4 then [4, 5, 6].filter s.linkActive else []

/-! ### Peer delay (R372, R373) -/

/-- AVG_LOG. -/
def avgLog (s : State) : Nat := Nat.min 6 (s.get Pg.ptp R.PTP_CFG_AVG_LOG)

/-- LINK_DELAY + ASYM of a port, in 2^-16 ns. -/
def portDelay (s : State) (k : Nat) : Int := s.get Pg.ptp (R.LINK_DELAY k) + s.sget Pg.ptp (R.ASYM k)

/-- RATE_DEV (R378): the rate of prime 0 against the nominal rate of the transmit clock, in 2^-40. -/
def rateDev (s : State) : Int := s.trim 0 * 256

/-- A Pdelay_Req leaves (R372). -/
def pdelaySend (s : State) (k t1 : Nat) : State :=
  if !s.timeOn || !s.linkActive k then s
  else
    let seq := s.time.seqPdelay
    let t := s.ptpOut k 2 (s.ptpMessage 2 k 0 0 0 seq s.logPdelay (List.replicate 20 0))
    (t.modTime fun x => { x with seqPdelay := (seq + 1) % 65536 }).modPort k fun p => { p with asked := some (seq, t1) }

/-- A Pdelay_Req is answered on the same link (R372). -/
def pdelayAnswer (s : State) (k : Nat) (m : List Byte) (turnaround : Nat) : State :=
  let body := List.replicate 10 0 ++ bytesAt m 20 10
  s.ptpOut k 3 (s.ptpMessage 3 k 0 (signedOf 64 turnaround) (ofSigned 32 s.rateDev) (mSeq m) s.logPdelay body)

/-- A Pdelay_Resp gives a loop (R372, R373). -/
def pdelayTake (s : State) (k : Nat) (m : List Byte) (t4 : Nat) : State :=
  match (s.ptpPort k).asked with
  | none => s
  | some (seq, t1) =>
    if mSeq m ≠ seq ∨ beNat (bytesAt m 44 8) ≠ s.uid ∨ beNat (bytesAt m 52 2) ≠ k + 1 then s
    else
      let loop : Int := (t4 : Int) - t1 - mCorr m
      let loops := (loop :: (s.ptpPort k).loops).take (2 ^ s.avgLog)
      let mean := roundFree loops.sum (2 * loops.length)
      let t := s.modPort k fun p =>
        { p with loops := loops, asked := none, misses := 0, rateDev := some (signedOf 32 (mSpecific m)) }
      (t.put Pg.ptp (R.LINK_DELAY k) (ofSigned 32 mean)).setF Pg.ptp (R.PORT_STATUS_PDELAY_OK k)

/-- An answer is missing after 100 µs (R372). -/
def pdelayMiss (s : State) (k : Nat) : State :=
  if !s.timeOn || (s.ptpPort k).asked.isNone then s
  else
    let n := (s.ptpPort k).misses + 1
    let t := (s.count Pg.ptp R.CNT_PTP_ERR_PDELAY).modPort k fun p => { p with asked := none, misses := Nat.min 3 n }
    if 3 ≤ n ∧ t.on Pg.ptp (R.PORT_STATUS_PDELAY_OK k) then
      (t.clrF Pg.ptp (R.PORT_STATUS_PDELAY_OK k)).event Pg.ptp E.P01A_PDELAY_LOST
    else t

/-! ### Sync (R374 to R376) -/

/-- Prime 0 in 2^-16 ns. -/
def prime16 (s : State) : Nat := primeValue s.prime0 / 2 ^ 16

/-- The grandmaster sends a Sync on every port in ACTIVE (R374). -/
def syncSend (s : State) : State :=
  if !s.timeOn || s.servo != 2 then s
  else
    let seq := s.time.seqSync
    let flags := if s.on Pg.time R.TIME_STATUS_TIME_SET then 8 else 0
    let body := beBytes 6 s.prime0.sec ++ beBytes 4 s.prime0.ns
    let t := s.ptpPorts.foldl (fun t k => t.ptpOut k 0 (t.ptpMessage 0 k flags 0 0 seq t.logSync body)) s
    t.modTime fun x => { x with seqSync := (seq + 1) % 65536 }

/-- A Sync as it is forwarded: the delay of the arrival side and the residence are added, and one transit (R374). -/
def syncForwarded (s : State) (k : Nat) (m : List Byte) (residence : Nat) : List Byte :=
  let c := mCorr m + s.portDelay k + residence
  m.take 8 ++ beBytes 8 (ofSigned 64 c) ++ beBytes 4 ((mSpecific m + 1) % 2 ^ 32) ++ m.drop 20

/-- The stitch port to the lead hub, where the hub takes Sync from it alone (R375). -/
def stitchOnly (s : State) : Option Nat :=
  let k := 3 + (4 - s.hubPos)
  if s.on Pg.time R.TIME_CFG_STITCH_PREF && s.hubPos != 0 && s.linkActive k then some k else none

/-- A received Sync: forwarded, and offered for the selection (R374, R375). -/
def syncIn (s : State) (k : Nat) (m : List Byte) (at_ residence : Nat) : State :=
  let t := s.modPort k fun p => { p with syncAt := some s.ns }
  let t := match s.ptpForward k m with
    | some j => (t.ptpOut j 0 (s.syncForwarded k m residence)).count Pg.ptp R.CNT_SYNC_COPIES
    | none => t
  let barred : Bool := match s.stitchOnly with
    | some j => j != k
    | none => false
  if mClock m = s.uid ∨ s.time.usedSeq = some (mClock m, mSeq m) ∨ barred ∨ !s.on Pg.ptp (R.PORT_STATUS_PDELAY_OK k) then t
  else t.modTime fun x => { x with copies := x.copies ++ [{ port := k, msg := m, at_ := at_ }] }

/-- The preference among copies (R375): fewest transits, then ring A, then forward. -/
def copyRank (c : SyncCopy) : Nat :=
  mSpecific c.msg * 8 + (match c.port with | 1 => 0 | 0 => 1 | 2 => 2 | 3 => 3 | _ => 4)

/-- The preferred copy. -/
def bestCopy : List SyncCopy → Option SyncCopy
  | [] => none
  | c :: l =>
    match bestCopy l with
    | none => some c
    | some b => if copyRank c ≤ copyRank b then some c else some b

/-- PATH of a ring side that a copy arrives on: 0 A forward, 1 A reverse, 2 B forward, 3 B reverse. DEDUCED, log
entry 55. -/
def pathOf (k : Nat) : Nat := match k with | 1 => 0 | 0 => 1 | 2 => 2 | _ => 3

/-- The measured offset of a copy in 2^-16 ns (R376). -/
def offsetOf (s : State) (c : SyncCopy) : Int := (c.at_ : Int) - (mOrigin c.msg + mCorr c.msg + s.portDelay c.port)

/-- A measurement enters the queue (R384). -/
def measPush (s : State) (m : Meas) : State :=
  let l := s.time.meas
  let t := s.modTime fun x => { x with meas := (if 16 ≤ l.length then l.drop 1 else l) ++ [m] }
  (t.when (16 ≤ l.length) fun t => t.count Pg.ptp ⟨R.MEAS_LOST.off, 0, 16⟩).when l.isEmpty fun t =>
    t.event Pg.ptp E.P01A_MEASUREMENT

/-- Prime 0 is stepped by −offset in ACQUIRE (R382). DEDUCED, log entry 55. -/
def servoStep (s : State) (off : Int) : State :=
  let t := s.primeStep 0 fun p => primeAt p ((primeValue p : Int) - off * 2 ^ 16)
  ((t.count Pg.time R.CNT_TIME_EVT_STEPS).eventFault Pg.time E.P018_STEPPED K.PRIME_STEPPED 0).modTime fun x =>
    { x with lockRun := 0 }

/-- The servo's table at a usable Sync (R382). -/
def servoSync (s : State) (off : Int) : State :=
  let far := s.stepThresh * 65536 < off.natAbs
  if s.servo = 1 then s.servoTo 3
  else if s.servo = 3 then
    if far then s.servoStep off
    else if off.natAbs ≤ s.lockNs * 65536 then
      let n := s.time.lockRun + 1
      if s.lockCount ≤ n then (s.servoTo 4).setValid true else s.modTime fun x => { x with lockRun := n }
    else s.modTime fun x => { x with lockRun := 0 }
  else if s.servo = 4 then if far then (s.servoTo 3).setValid false else s
  else if s.servo = 5 then if far then (s.servoTo 3).setValid false else s.servoTo 4
  else s

/-- An estimate of 2^-47 ppb in the units of R362, clamped to ±SERVO_FREQ_MAX ppb, and whether the clamp acted (R526). -/
def servoFreq (s : State) (est : Int) : Int × Bool :=
  let m : Int := (s.get Pg.ralusk R.SERVO_POL_SERVO_FREQ_MAX : Int) * 2 ^ 47
  let c := max (-m) (min m est)
  (roundFree (c * 2 ^ 32) (1000000000 * 2 ^ 47), c != est)

/-- −x × 2^−KP_SHIFT in whole ns, clamped to ±SERVO_ADJ_MAX, and whether the clamp acted (R526). -/
def servoAdj (s : State) (off : Int) : Int × Bool :=
  let m : Int := (s.get Pg.ralusk R.SERVO_ADJ_MAX % 65536 : Nat)
  let a := roundNear (-off) (65536 * 2 ^ s.get Pg.ralusk R.SERVO_POL_KP_SHIFT)
  (max (-m) (min m a), decide (max (-m) (min m a) ≠ a))

/-- SERVO decides at a measurement (R526); `st` is the servo state it finds. -/
def servoDecide (s : State) (st : Nat) (off : Int) : State :=
  if (st = 3 ∨ st = 4) ∧ !s.on Pg.time R.TIME_CFG_SERVO_SW ∧ s.policyDecides 5 then
    let est := s.ral.estimate - off * 2 ^ (31 - s.get Pg.ralusk R.SERVO_POL_KI_SHIFT)
    let f := s.servoFreq est
    let a := s.servoAdj off
    let t := s.modRal fun r => { r with estimate := est }
    let before := t.get Pg.prime (R.P_FREQ 0)
    let t := t.logClamp 5 16 0 Pg.prime (R.P_FREQ 0).off before (ofSigned 32 f.1) f.2
    let t := t.logClamp 5 17 0 Pg.prime (R.P_ADJ 0).off 0 (ofSigned 32 a.1) a.2
    if t.policyAct 5 then (t.put Pg.prime (R.P_FREQ 0) (ofSigned 32 f.1)).adjust 0 a.1 else t
  else s

/-- The term of the syntonisation, where the port qualifies (R378). -/
def syntonise (s : State) (k : Nat) : State :=
  let p := s.ptpPort k
  let ok := match p.ratioAt with
    | some t => s.ns ≤ t + 2100000
    | none => false
  match p.rateDev with
  | some d =>
    if s.on Pg.time R.TIME_CFG_SYNT_EN && !s.isGm && ok then
      s.put Pg.prime (R.P_SYNT_FREQ 0) (ofSigned 32 (s.sget Pg.ptp (R.RATE_RATIO k) + roundFree d 256))
    else s
  | none => s

/-- SYNC_WAIT_US has passed since the first copy (R375, R376): one copy is selected, and the offset is measured. Syncs of
another clock than the announced grandmaster are not used. -/
def syncSelect (s : State) (residence : Nat) : State :=
  match s.time.copies with
  | [] => s
  | c0 :: _ =>
    let same (c : SyncCopy) : Bool := mSeq c.msg == mSeq c0.msg && mClock c.msg == mClock c0.msg
    let l := s.time.copies.filter same
    let t := s.modTime fun x => { x with copies := x.copies.filter fun c => !same c }
    let gm := match s.betterGm with
      | some d => d.ident
      | none => s.uid
    match bestCopy l with
    | none => t
    | some c =>
      if mClock c.msg ≠ gm ∨ s.servo = 0 ∨ s.servo = 2 then t
      else
        let n := mSpecific c.msg
        let via := decide (4 ≤ c.port)
        let off := s.offsetOf c
        let path := if via then s.freeWord.toNat % 4 else pathOf c.port
        let t := (t.when via draw).modTime fun x =>
          { x with usedSeq := some (mClock c.msg, mSeq c.msg), selPort := some c.port }
        let t := ((t.put Pg.time R.TIME_STATUS_PATH path).putB Pg.time R.TIME_STATUS_VIA_STITCH via).put Pg.time
          R.TIME_STATUS_PATH_TRANSITS (Nat.min 1023 n)
        let t := (t.count Pg.ptp R.CNT_SYNC_SYNC).measPush
          { seq := mSeq c.msg, path := path, stitch := via, transits := Nat.min 1023 n, offset := off, at_ := c.at_ / 2 ^ 16 }
        let t := (s.ptpStitch c.port).foldl (fun t j =>
          (t.ptpOut j 0 (s.syncForwarded c.port c.msg residence)).count Pg.ptp R.CNT_SYNC_COPIES) t
        ((t.servoSync off).servoDecide s.servo off).syntonise c.port

/-! ### Announce (R377) -/

/-- This hub's Announce leaves on every port in ACTIVE. -/
def announceSend (s : State) : State :=
  if !s.timeOn || !s.on Pg.time R.TIME_CFG_GM_CAPABLE then s
  else
    let d := s.ownData
    let seq := s.time.seqAnn
    let body := List.replicate 13 0 ++ beBytes 1 d.prio1 ++ beBytes 1 d.cls ++ beBytes 1 d.acc ++ beBytes 2 0xFFFF
      ++ beBytes 1 d.prio2 ++ beBytes 8 d.ident ++ beBytes 2 0 ++ [0xA0]
    let flags := if d.set_ then 8 else 0
    let t := s.ptpPorts.foldl (fun t k => t.ptpOut k 0xB (t.ptpMessage 0xB k flags 0 0 seq t.logAnnounce body)) s
    t.modTime fun x => { x with seqAnn := (seq + 1) % 65536 }

/-- The dataset of an Announce. PRESUMED, log entry 54. -/
def annData (s : State) (m : List Byte) : GmData :=
  let b (i n : Nat) : Nat := beNat (bytesAt m i n)
  { prio1 := b 47 1, cls := b 48 1, acc := b 49 1, prio2 := b 52 1, ident := b 53 8, steps := b 61 2,
    set_ := bitOf (b 7 1) 3, at_ := s.ns }

/-- An Announce as it is forwarded: one more step. DEDUCED, log entry 55. -/
def annForwarded (m : List Byte) : List Byte :=
  m.take 61 ++ beBytes 2 ((beNat (bytesAt m 61 2) + 1) % 65536) ++ m.drop 63

/-- A received Announce: forwarded, and compared (R377). -/
def announceTake (s : State) (k : Nat) (m : List Byte) : State :=
  let d := s.annData m
  let t := match s.ptpForward k m with
    | some j => s.ptpOut j 0xB (annForwarded m)
    | none => s
  let t := (if k = 1 ∨ k = 2 then s.ptpStitch k else []).foldl (fun t j => t.ptpOut j 0xB (annForwarded m)) t
  if d.ident = s.uid then t
  else (t.modTime fun x => { x with anns := (t.freshAnns.filter fun e => !(e.ident == d.ident && d.steps ≤ e.steps)) ++
    (if t.freshAnns.any (fun e => e.ident == d.ident && e.steps < d.steps) then [] else [d]) }).compareGm

/-- ANNOUNCE_TIMEOUT intervals without a better Announce (R382). -/
def announceExpired (s : State) : State :=
  if s.timeOn && s.on Pg.time R.TIME_CFG_GM_CAPABLE && (s.servo == 1 || s.servo == 5) then
    (s.modTime fun x => { x with anns := x.anns.filter fun d => GmData.rank s.ownData ≤ GmData.rank d }).becomeGm
  else s

/-! ### The external reference (R379, R380) -/

/-- Prime 1 is locked to the external reference, or loses it. -/
def setLocked (s : State) (b : Bool) : State :=
  let was := s.on Pg.prime R.EXT_STATUS_P1_LOCKED
  let t := s.putB Pg.prime R.EXT_STATUS_P1_LOCKED b
  (t.when (b && !was) fun t => t.event Pg.prime E.P019_P1_LOCKED).when (was && !b) fun t =>
    t.modTime fun x => { x with refLost := some s.ns }

/-- P1_LOCKED follows its conditions: the pulse qualified, its error slewed and no longer stepped, the 10 MHz good. -/
def lockCheck (s : State) : State :=
  let p := Pg.prime
  s.setLocked (s.on p R.EXT_CFG_EXT_EN && s.on p R.EXT_STATUS_PPS_OK && s.time.ppsClose
    && (!s.on p R.EXT_CFG_REF10_EN || s.on p R.EXT_STATUS_REF10_OK))

/-- The difference of the prime clocks in ns, prime 1 less prime 0, as a phase adjustment. -/
def primeGap (s : State) : Int :=
  let d : Int := ((primeValue s.prime1 : Int) - primeValue s.prime0) / 2 ^ 32
  max (-(2 ^ 31)) (min (2 ^ 31 - 1) d)

/-- Prime 0 of a grandmaster follows prime 1 (R380). -/
def follow (s : State) : State :=
  if s.isGm && s.on Pg.prime R.EXT_CFG_P0_FOLLOWS_P1 then
    (s.adjust 0 s.primeGap).put Pg.prime (R.P_FREQ 0) (ofSigned 32 (s.trim 1))
  else s

/-- The phase error of prime 1 at a pulse edge, in 2^-32 ns, within half a second (R379). -/
def ppsError (s : State) : Int :=
  let sec : Int := 1000000000 * 2 ^ 32
  let x := ((s.prime1.ns * 2 ^ 32 + s.prime1.frac : Nat) : Int) + s.sget Pg.prime R.PPS_COMP * 2 ^ 32
  let y := x % sec
  if 2 * y < sec then y else y - sec

/-- An active edge at TIME_PPS_IN (R379): the qualification, and prime 1 while it follows. DEDUCED, log entry 57. -/
def ppsEdge (s : State) (interval : Option Nat) : State :=
  let good := match interval with
    | some n => decide (999999000 ≤ n ∧ n ≤ 1000001000)
    | none => false
  let run := if good then Nat.min 2 (s.time.ppsRun + 1) else 0
  let t := s.modTime fun x => { x with ppsRun := run }
  let t := t.when (run == 2) fun t => t.setF Pg.prime R.EXT_STATUS_PPS_OK
  let err := s.ppsError
  let t := t.put Pg.prime R.PPS_LAST_ERR (ofSigned 32 (err / 2 ^ 32))
  if !s.on Pg.prime R.EXT_CFG_EXT_EN then t
  else
    let close := decide (err.natAbs < 1000 * 2 ^ 32)
    let t := if close then t.adjust 1 (-(err / 2 ^ 32)) else t.primeStep 1 fun p => primeAt p ((primeValue p : Int) - err)
    let t := t.modTime fun x => { x with ppsClose := close }
    let t := if t.prime1.setWait ∧ t.on Pg.prime R.EXT_STATUS_PPS_OK then
        t.primeStep 1 fun p => { t.setValue 1 p with ns := 0, setWait := false }
      else t
    t.lockCheck.follow

/-- PPS_OK falls (R379). -/
def ppsLost (s : State) : State :=
  let t := s.modTime fun x => { x with ppsRun := 0 }
  if t.on Pg.prime R.EXT_STATUS_PPS_OK then
    let t := (t.clrF Pg.prime R.EXT_STATUS_PPS_OK).event Pg.prime E.P019_PPS_LOST
    (t.when (t.on Pg.prime R.EXT_CFG_EXT_EN) fun t => t.raise Pg.prime K.PPS_LOST 0).lockCheck
  else t

/-- REF10_OK rises or falls; while the input is good its frequency is the term of prime 1 (R379). -/
def ref10Change (s : State) (ok : Bool) (term : Word) : State :=
  let was := s.on Pg.prime R.EXT_STATUS_REF10_OK
  let t := s.putB Pg.prime R.EXT_STATUS_REF10_OK ok
  let t := if ok then t.put Pg.prime (R.P_SYNT_FREQ 1) term.toNat else t
  (t.when (was && !ok) fun t => t.event Pg.prime E.P019_REF10_LOST).lockCheck

/-! ### Queues (R384, R387, R388) -/

/-- A read of MEAS_POP (R384). -/
def measPop (s : State) : State × Word :=
  match s.time.meas with
  | [] => (s, 0)
  | m :: l =>
    let o := max (-(2 ^ 31)) (min (2 ^ 31 - 1) m.offset)
    let t := (s.modTime fun x => { x with meas := l }).put Pg.ptp R.MEAS_OFFSET (ofSigned 32 o)
    ((t.put Pg.ptp R.MEAS_TIME_LO (m.at_ % 2 ^ 32)).put Pg.ptp R.MEAS_TIME_HI (m.at_ / 2 ^ 32 % 2 ^ 32),
     BitVec.ofNat 32 (m.seq + m.path * 2 ^ 16 + b2n m.stitch * 2 ^ 18 + m.transits * 2 ^ 20 + 2 ^ 31))

/-- A read of TXTS_POP (R387). -/
def txtsPop (s : State) : State × Word :=
  match s.time.txts with
  | [] => (s, 0)
  | x :: l =>
    let t := (s.modTime fun y => { y with txts := l }).put Pg.units R.TXTS_LO (x.ts % 2 ^ 32)
    (t.put Pg.units R.TXTS_HI (x.ts / 2 ^ 32 % 2 ^ 32),
     BitVec.ofNat 32 (x.ident + b2n x.invalid * 2 ^ 8 + x.source * 2 ^ 16 + 2 ^ 31))

/-! ### Writes to pages 0x018 to 0x01B -/

/-- TIME_CMD.SNAP (R389): prime 0, prime 1 and unit `u`. DEDUCED, log entry 57. -/
def timeSnap (s : State) (u : Nat) : State :=
  let p1 := (s.prime1.sec * 1000000000 + s.prime1.ns) % 2 ^ 64
  let free := s.freeWord.toNat + 2 ^ 32 * (Config.freeWord (s.fresh + 1)).toNat
  let x := if u < 15 then s.unitTime u else free
  let t := if u < 15 then s else s.draw.draw
  let w2 (t : State) (lo hi : Fld) (v : Nat) : State :=
    (t.wr Pg.time lo.off (BitVec.ofNat 32 v)).wr Pg.time hi.off (BitVec.ofNat 32 (v / 2 ^ 32))
  w2 (w2 (w2 t R.SNAP_P0_LO R.SNAP_P0_HI s.now) R.SNAP_P1_LO R.SNAP_P1_HI p1) R.SNAP_UNIT_LO R.SNAP_UNIT_HI x

/-- A write of TIME_CMD. -/
def timeCmd (s : State) (v : Nat) : State :=
  let t := s.when (bitOf v 0) fun t => t.timeSnap (bitsOf v 8 5)
  let t := t.when (bitOf v 1) fun t => [Pg.time, Pg.prime, Pg.ptp, Pg.units].foldl cntClear t
  t.when (bitOf v 2) fun t => t.modTime fun x => { x with txts := [] }

/-- The effect of a write to a page of the time block. -/
def wrClock (p : Nat) (s : State) (off : Nat) (v : Word) : State :=
  if p = Pg.time then
    if off = R.TIME_CMD.off then s.timeCmd v.toNat
    else if off = R.PAGE_CTRL.off then (s.storeWrite p off v).timeSync
    else s.storeWrite p off v
  else if p = Pg.prime then
    if off = (R.P_FREQ 0).off then if s.servoHolds then s else s.storeWrite p off v
    else if off = (R.P_ADJ 0).off then if s.servoHolds then s else s.adjust 0 (signedOf 32 v.toNat)
    else if off = (R.P_ADJ 1).off then s.adjust 1 (signedOf 32 v.toNat)
    else if off = (R.P_CMD 0).off then s.when (bitOf v.toNat 0) fun t => t.primeSet 0
    else if off = (R.P_CMD 1).off then s.when (bitOf v.toNat 0) fun t => t.primeSet 1
    else if off = R.EXT_CFG.off then (s.storeWrite p off v).lockCheck
    else s.storeWrite p off v
  else if p = Pg.units then
    if off = R.TXTS_STATUS.off then
      if s.time.txts.length < 32 then s.storeWrite p off v else s
    else s.storeWrite p off v
  else s.storeWrite p off v

/-- What happens in the time block while it runs. DESIGN CHOICE, log entry 9. -/
def whenTime (s : State) (f : State → State) : State := if s.timeOn then f s else s

/-- What happens in the time island while its domain is on. -/
def whenTimeDomain (s : State) (f : State → State) : State := if s.domainOn 1 then f s else s

end State

/-- P_FREQ_WRITE (R362, R383). -/
def execPFreqWrite (a : Agent) (c : Fin 2) (v : Word) (s : State) : Host.Outcome State Fault Refusal :=
  finishAll (s.poke a Pg.prime (R.P_FREQ c).off v (State.wrClock Pg.prime))

/-- P_ADJ_WRITE (R363, R383). -/
def execPAdjWrite (a : Agent) (c : Fin 2) (v : Word) (s : State) : Host.Outcome State Fault Refusal :=
  finishAll (s.poke a Pg.prime (R.P_ADJ c).off v (State.wrClock Pg.prime))

/-- SET (R364, R379). -/
def execSet (a : Agent) (c : Fin 2) (s : State) : Host.Outcome State Fault Refusal :=
  finishAll (s.poke a Pg.prime (R.P_CMD c).off 1 (State.wrClock Pg.prime))

/-- UNIT_STROBE (R367). -/
def execUnitStrobe (s : State) : Host.Outcome State Fault Refusal := finishAll (s.whenTimeDomain State.strobe)

/-- TIME_SNAP (R389). -/
def execTimeSnap (a : Agent) (u : Fin 32) (s : State) : Host.Outcome State Fault Refusal :=
  finishAll (s.poke a Pg.time R.TIME_CMD.off (BitVec.ofNat 32 (1 + u * 2 ^ 8)) (State.wrClock Pg.time))

/-- PDELAY_REQ_SEND (R372). -/
def execPdelayReqSend (k : LinkId) (t1 : BitVec 80) (s : State) : Host.Outcome State Fault Refusal :=
  finishAll (s.pdelaySend k t1.toNat)

/-- PDELAY_REQ (R372). -/
def execPdelayReq (k : LinkId) (payload : List Byte) (turnaround : BitVec 64) (s : State) :
    Host.Outcome State Fault Refusal :=
  finishAll (s.ptpIn 2 payload fun t => t.pdelayAnswer k payload turnaround.toNat)

/-- PDELAY_RESP (R372, R373). -/
def execPdelayResp (k : LinkId) (payload : List Byte) (t4 : BitVec 80) (s : State) : Host.Outcome State Fault Refusal :=
  finishAll (s.ptpIn 3 payload fun t => t.pdelayTake k payload t4.toNat)

/-- PDELAY_ANSWER_TIMEOUT (R372). -/
def execPdelayAnswerTimeout (k : LinkId) (s : State) : Host.Outcome State Fault Refusal := finishAll (s.pdelayMiss k)

/-- SYNC_SEND (R374). -/
def execSyncSend (s : State) : Host.Outcome State Fault Refusal := finishAll s.syncSend

/-- SYNC (R374, R375). -/
def execSync (k : LinkId) (payload : List Byte) (at_ : BitVec 80) (residence : BitVec 64) (s : State) :
    Host.Outcome State Fault Refusal :=
  finishAll (s.ptpIn 0 payload fun t => t.syncIn k payload at_.toNat residence.toNat)

/-- SYNC_WAIT_EXPIRY (R375, R376, R382, R526). -/
def execSyncWaitExpiry (residence : BitVec 64) (s : State) : Host.Outcome State Fault Refusal :=
  finishAll (s.whenTime fun t => t.syncSelect residence.toNat)

/-- ANNOUNCE_SEND (R377). -/
def execAnnounceSend (s : State) : Host.Outcome State Fault Refusal := finishAll s.announceSend

/-- PTP_ANNOUNCE (R377, R382). -/
def execPtpAnnounce (k : LinkId) (payload : List Byte) (s : State) : Host.Outcome State Fault Refusal :=
  finishAll (s.ptpIn 0xB payload fun t => t.announceTake k payload)

/-- ANNOUNCE_TIMEOUT (R382). -/
def execAnnounceTimeout (s : State) : Host.Outcome State Fault Refusal := finishAll s.announceExpired

/-- SYNC_LOSS_TIMEOUT (R382): FREQ and the syntonisation term stay. -/
def execSyncLossTimeout (s : State) : Host.Outcome State Fault Refusal :=
  finishAll (s.whenTime fun t => if t.servo = 4 then t.servoTo 5 else t)

/-- HOLDOVER_EXPIRY (R382). -/
def execHoldoverExpiry (s : State) : Host.Outcome State Fault Refusal :=
  finishAll (s.whenTime fun t => if t.servo = 5 then (t.servoTo 1).setValid false else t)

/-- RATE_RATIO_MEASUREMENT (R378). -/
def execRateRatioMeasurement (k : LinkId) (ratio : Word) (s : State) : Host.Outcome State Fault Refusal :=
  finishAll (s.whenTimeDomain fun t =>
    if !t.linkActive k then t
    else
      let t := (t.wr Pg.ptp (R.RATE_RATIO k).off ratio).modPort k fun p => { p with ratioAt := some t.ns }
      if t.time.selPort = some k.val then t.syntonise k else t)

/-- PPS_EDGE (R379, R380). -/
def execPpsEdge (interval : Option (BitVec 40)) (s : State) : Host.Outcome State Fault Refusal :=
  finishAll (s.whenTimeDomain fun t => t.ppsEdge (interval.map (·.toNat)))

/-- PPS_ABSENT_TIMEOUT (R379). -/
def execPpsAbsentTimeout (s : State) : Host.Outcome State Fault Refusal := finishAll (s.whenTimeDomain State.ppsLost)

/-- REF10_CHANGE (R379). -/
def execRef10Change (ok : Bool) (term : Word) (s : State) : Host.Outcome State Fault Refusal :=
  finishAll (s.whenTimeDomain fun t => t.ref10Change ok term)

/-- PPS_OUT_START (R381). -/
def execPpsOutStart (s : State) : Host.Outcome State Fault Refusal :=
  finishAll (s.whenTimeDomain fun t => if t.on Pg.prime R.PPS_OUT_CFG_EN then t.ppsDrive true else t)

/-- PPS_OUT_END (R381). -/
def execPpsOutEnd (s : State) : Host.Outcome State Fault Refusal :=
  finishAll (s.whenTimeDomain fun t => t.ppsDrive false)

/-- MEAS_POP (R384, R52). -/
def execMeasPop (a : Agent) (s : State) : Host.Outcome State Fault Refusal :=
  finishAll (s.guardedRead a Pg.ptp R.MEAS_POP.off State.measPop)

/-- TXTS_POP (R387). -/
def execTxtsPop (a : Agent) (s : State) : Host.Outcome State Fault Refusal :=
  finishAll (s.guardedRead a Pg.units R.TXTS_POP.off State.txtsPop)

/-- TXTS_OVERFLOW_CLEAR (R388). -/
def execTxtsOverflowClear (a : Agent) (s : State) : Host.Outcome State Fault Refusal :=
  finishAll (s.poke a Pg.units R.TXTS_STATUS.off 0x100 (State.wrClock Pg.units))

/-- TXTS_FLUSH (R388). -/
def execTxtsFlush (a : Agent) (s : State) : Host.Outcome State Fault Refusal :=
  finishAll (s.poke a Pg.time R.TIME_CMD.off 4 (State.wrClock Pg.time))

end Sys2Proof.Machine
end

