-- ==== Sys2Proof/Machine/Usb.lean ====
section
/-! DEFINITION. The USB service port, the embedded hub, the management function's command table, its consoles and its event
notification (R408 to R433). What a management command reaches stands in Access. -/

namespace Sys2Proof.Machine

open Sys2Proof (Word Byte Agent Code AccessKind Instr LaneId LinkId EngineId UsbReset)

namespace State

/-- Change the USB data beside its pages. -/
def modUsb (s : State) (f : Usb → Usb) : State := { s with usb := f s.usb }

/-- The management function runs (USB_STATUS.MGMT_READY): Ralusk's pages are READY. -/
def mgmtReady (s : State) : Bool := s.ready Pg.ralusk

/-- The function is configured; it is neither suspended nor in L1. -/
def usbConfigured (s : State) : Bool := s.domainOn 3 && s.usb.pull && s.on Pg.usb R.USB_STATUS_CONFIGURED
def usbAwake (s : State) : Bool := !s.on Pg.usb R.USB_STATUS_SUSPENDED && !s.on Pg.usb R.USB_STATUS_L1

/-- Something goes to the USB host: 0 a data stage, 1 STALL, 2 an acknowledged status stage, 3 a notification on EP1, 4 the
resume K of a remote wake and its length in µs, 5 the answer to LPM. -/
def toUsb (s : State) (kind : Nat) (d : List Byte) : State := s.emit (.bytes Pg.usb kind d)

/-! ### Notifications (R425) -/

/-- The notification packet. -/
def notePacket (s : State) : List Byte :=
  let live := (List.range 128).foldl (fun x n => if s.sentTo 9 n then x + 2 ^ n else x) 0
  leBytes 16 live ++ leBytes 8 (if s.unitValid 14 then s.unitTime 14 else 0) ++ leBytes 4 ((s.usb.notes + 1) % 2 ^ 32)
    ++ leBytes 4 0

/-- The notification in PENDING issues its packet when its condition holds, to a configured function that is awake.
DEDUCED, log entry 58. -/
def noteTry (s : State) : State :=
  if s.usb.note.st = 1 ∧ (s.usb.note.timer ∨ s.get Pg.mgmt R.MF_CFG_USB_COAL_US = 0) ∧ s.usbConfigured ∧ s.usbAwake then
    (s.toUsb 3 s.notePacket).modUsb fun u => { u with note := { st := 2 }, notes := (u.notes + 1) % 2 ^ 32 }
  else s

/-- A source routed to USB is live (R425); a further source renews the right to wake (R430). -/
def usbLive (s : State) : State :=
  let t := s.modUsb fun u => { u with spent := false, note := if u.note.st = 0 then { st := 1 } else u.note }
  t.noteTry

/-- EVT_ACK takes effect (R402, R425). -/
def noteAck (s : State) : State :=
  let t := s.modUsb fun u => { u with ackWait := false }
  if t.usb.note.st = 2 then
    let u := t.modUsb fun u => { u with note := {} }
    if u.usbRouted then u.usbLive else u
  else t

/-! ### The embedded hub (R409) -/

/-- A downstream port, 0 to 2 for ports 2 to 4. -/
def usbPort (s : State) (p : Nat) : UsbPort := s.usb.ports.getD p {}
def modUsbPort (s : State) (p : Nat) (f : UsbPort → UsbPort) : State :=
  s.modUsb fun u => { u with ports := u.ports.setIfInBounds p (f (u.ports.getD p {})) }

/-- A field of PORT_STATUS. -/
def portFld (p lo w : Nat) : Fld := ⟨0x044 + 4 * p, lo, w⟩

/-- The PORT_EN bit. -/
def portEnabled (s : State) (p : Nat) : Bool := bitOf (s.get Pg.usbHub R.HUB_CFG_PORT_EN) p

/-- The level that the PWREN ball of a port takes. -/
def pwren (s : State) (p : Nat) : Bool :=
  s.domainOn 3 && s.portEnabled p
    && (if s.on Pg.usbHub R.HUB_CFG_PER_PORT_POWER then (s.usbPort p).power else (s.usbPort 0).power)

/-- The status and the ball of a port follow its device, its power and PORT_EN (R409). DEDUCED, log entry 58. -/
def portShow (s : State) (p : Nat) : State :=
  let h := Pg.usbHub
  let dev := if s.portEnabled p then (s.usbPort p).dev else none
  let was := s.on h (portFld p 0 1)
  let t := (s.putB h (portFld p 0 1) dev.isSome).put h (portFld p 6 2) (match dev with | some v => v + 1 | none => 0)
  let t := if dev.isSome then t else t.clrF h (portFld p 1 1)
  let t := t.when (was != dev.isSome) fun t => t.event h E.P036_PORT_CHANGE
  let on := s.pwren p
  (t.when (on != s.on h (portFld p 5 1)) fun t => t.emit (.level (0x340 + p) (b2n on))).putB h (portFld p 5 1) on

/-- All ports follow. -/
def portsShow (s : State) : State := [0, 1, 2].foldl portShow s

/-! ### Attachment and resets (R411 to R413) -/

/-- Gathered console bytes that are lost (R413). DEDUCED, log entry 58. -/
def conLost (s : State) (k : Nat) : State :=
  if (s.usb.gather.getD k []).isEmpty then s
  else ((s.modUsb fun u => { u with gather := u.gather.setIfInBounds k [] }).count Pg.mgmt (R.CNT_CON_CON_DROP k)).event Pg.mgmt
    E.P035_CON_DROP

/-- What a bus reset, a disconnect and a loss of VBUS do (R413, R425). -/
def usbLost (s : State) : State :=
  let p := Pg.usb
  let ctrl := s.usb.nakCmd.isSome || s.usb.nakResult.isSome
  let t := s.when ctrl fun t => t.count p R.CNT_USB_ERR_CONTROL
  let t := (((t.put p R.USB_STATUS_ADDRESS 0).clrF p R.USB_STATUS_CONFIGURED).clrF p R.USB_STATUS_SUSPENDED).clrF p
    R.USB_STATUS_L1
  let t := t.clrF p R.USB_STATUS_REMOTE_WAKE_EN
  let t := [0, 1, 2].foldl (fun t q =>
    (t.when (t.on Pg.usbHub (portFld q 1 1)) fun t => t.event Pg.usbHub E.P036_PORT_CHANGE).clrF Pg.usbHub (portFld q 1 1)) t
  let t := [0, 1, 2, 3].foldl conLost t
  t.modUsb fun u => { u with nakCmd := none, nakResult := none, l1Wake := false, wakes := none, spent := false,
                             note := if u.note.st = 2 then {} else u.note }

/-- The D+ pull-up follows its three conditions (R411). -/
def pullSync (s : State) : State :=
  let want := s.domainOn 3 && s.on Pg.usb R.PAGE_CTRL_ENABLE && s.usb.vbus && !s.usb.apart
  if want = s.usb.pull then s
  else
    let t := (s.modUsb fun u => { u with pull := want }).emit (.level Pg.usb (b2n want))
    if want then t else (t.put Pg.usb R.USB_STATUS_SPEED 0).usbLost

/-- A bus reset (R412, R413). -/
def busReset (s : State) (chirps : Bool) : State :=
  if s.usb.pull && s.domainOn 3 then
    let t := s.usbLost.modUsb fun u => { u with resets := satAdd 16 u.resets 1 }
    ((t.put Pg.usb R.USB_STATUS_SPEED (if s.on Pg.usb R.USB_CFG_HS_EN && chirps then 2 else 1)).count Pg.usb
      R.CNT_USB_RESET_BUS).event Pg.usb E.P034_BUS_RESET
  else s

/-- USB_VBUS falls. -/
def vbusLost (s : State) : State :=
  if s.usb.vbus then
    ((s.modUsb fun u => { u with vbus := false }).when (s.domainOn 3) fun t => t.event Pg.usb E.P034_VBUS_LOST).pullSync
  else s

/-! ### Suspend, L1, wake (R428 to R431) -/

/-- A console has data for the host. -/
def conHasIn (s : State) : Bool :=
  [0, 1, 2, 3].any fun k => s.on Pg.mgmt (R.CON_CFG_EN k) && 0 < s.rxLevel (s.get Pg.mgmt (R.CON_CFG_MAILBOX k))

/-- The bus goes idle for 3 ms. -/
def usbSuspend (s : State) : State :=
  if s.domainOn 3 && s.usb.pull && !s.on Pg.usb R.USB_STATUS_SUSPENDED then
    (((s.setF Pg.usb R.USB_STATUS_SUSPENDED).clrF Pg.usb R.USB_STATUS_L1).count Pg.usb R.CNT_USB_PM_SUSPENDS).event Pg.usb
      E.P034_SUSPEND
  else s

/-- Suspend or L1 ends (R430, R431): a wake that is outstanding has been delivered. -/
def usbResume (s : State) : State :=
  if s.domainOn 3 && !s.usbAwake then
    let t := ((s.clrF Pg.usb R.USB_STATUS_SUSPENDED).clrF Pg.usb R.USB_STATUS_L1).event Pg.usb E.P034_RESUME
    let t := t.when s.usb.wakes.isSome fun t =>
      (t.count Pg.usb R.CNT_WAKE_DELIVERED).event Pg.usb E.P034_WAKE_DELIVERED
    (t.modUsb fun u => { u with wakes := none, spent := false, l1Wake := false }).noteTry
  else s

/-- An LPM transaction (R429): ACK and L1, or NYET. -/
def usbLpm (s : State) (remoteWake : Bool) : State :=
  if !s.domainOn 3 || !s.usb.pull || !s.usbAwake then s
  else if s.on Pg.usb R.USB_CFG_L1_ALLOWED && s.usb.nakCmd.isNone && s.usb.nakResult.isNone && !s.conHasIn then
    (((s.toUsb 5 [0]).setF Pg.usb R.USB_STATUS_L1).count Pg.usb R.CNT_USB_PM_L1).modUsb fun u =>
      { u with l1Wake := remoteWake }
  else s.toUsb 5 [1]

/-- The resume K leaves. -/
def wakeK (s : State) : State :=
  let us := if s.on Pg.usb R.USB_STATUS_L1 then 50 else 1000 * Nat.max 1 (s.get Pg.usb R.USB_CFG_WAKE_K_MS)
  s.toUsb 4 (leBytes 2 us)

/-- Something waits that a wake is for. -/
def wakeCause (s : State) : Bool := s.usb.note.st == 1 || s.conHasIn

/-- Remote wake (R429, R430). -/
def remoteWake (s : State) : State :=
  let susp := s.on Pg.usb R.USB_STATUS_SUSPENDED && s.on Pg.usb R.USB_STATUS_REMOTE_WAKE_EN
  let l1 := s.on Pg.usb R.USB_STATUS_L1 && s.usb.l1Wake
  if s.domainOn 3 && s.usb.pull && (susp || l1) && s.wakeCause && s.usb.wakes.isNone && !s.usb.spent then
    s.wakeK.modUsb fun u => { u with wakes := some 0 }
  else s

/-- 100 ms without a resume (R430). -/
def wakeRetry (s : State) : State :=
  match s.usb.wakes with
  | none => s
  | some n =>
    if s.domainOn 3 && !s.usbAwake then
      let t := s.count Pg.usb R.CNT_WAKE_WAKE_IGNORED
      if n < s.get Pg.usb R.USB_CFG_WAKE_RETRIES then t.wakeK.modUsb fun u => { u with wakes := some (n + 1) }
      else t.modUsb fun u => { u with wakes := none, spent := true }
    else s

/-! ### Management commands (R415 to R422) -/

/-- The command of a data stage; `none` when it is malformed (R416). -/
def parseCmd (d : List Byte) : Option MfCmd :=
  let op := (d.getD 4 0).toNat
  let once := (d.getD 5 0).toNat
  let len := leNat (bytesAt d 6 2)
  let lenOk := if op = 3 then len == 0 else decide (1 ≤ len ∧ len ≤ 1008)
  let sizeOk := if op = 2 then d.length == 16 + len else d.length == 16
  if (op = 1 ∨ op = 2 ∨ op = 3) ∧ once < 2 ∧ bytesAt d 14 2 = [0, 0] ∧ lenOk ∧ sizeOk ∧ (once = 1 → op = 2 ∧ len ≤ 16) then
    some { seq := leNat (bytesAt d 0 4), op := op, once := once == 1, len := len, addr := leNat (bytesAt d 8 6),
           data := d.drop 16 }
  else none

/-- A refusal of a command (R416, R417, R421): counted, with its event. -/
def cmdRefused (s : State) : State := (s.count Pg.mgmt R.CNT_MF_COMMANDS_16).event Pg.mgmt E.P035_CMD_REFUSED

/-- A new entry of the results table (R419): in a free place, else in that of the oldest entry with STATE 3. -/
def addResult (s : State) (e : Nat → MfEntry) : State :=
  let l := s.usb.results
  match (List.range 32).find? fun i => !l.any (·.slot == i) with
  | some i => s.modUsb fun u => { u with results := l ++ [e i] }
  | none =>
    match l.find? (·.st == 3) with
    | some x => s.modUsb fun u => { u with results := l.filter (·.slot != x.slot) ++ [e x.slot] }
    | none => s

/-- The SEQ follows the last accepted one (R417). -/
def seqFollows (s : State) (q : Nat) : Bool :=
  match s.usb.lastSeq with
  | none => true
  | some l => let d := (q + 2 ^ 32 - l) % 2 ^ 32
              1 ≤ d && d < 2 ^ 31

/-- The decision on a command whose data stage has come (R416, R417). -/
def cmdDecide (s : State) (d : List Byte) : State :=
  match parseCmd d with
  | none => (s.toUsb 1 []).cmdRefused
  | some c =>
    if s.usb.results.any (·.seq == c.seq) then s.toUsb 2 []
    else if s.seqFollows c.seq then
      let t := s.addResult fun i => { slot := i, seq := c.seq, st := 1 }
      ((t.modUsb fun u => { u with queue := u.queue ++ [c], lastSeq := some c.seq }).wr Pg.mgmt R.MF_LAST_ACCEPTED.off
        (BitVec.ofNat 32 c.seq)).toUsb 2 []
    else
      let t := s.addResult fun i =>
        { slot := i, seq := c.seq, st := 3, outcome := Code.duplicate.num, original := 15, at_ := s.uptime }
      ((t.cmdRefused).event Pg.mgmt E.P035_CMD_DONE).toUsb 2 []

/-- A new SETUP ends a control transfer that the hub still answers with NAK. -/
def newSetup (s : State) : State :=
  (s.when (s.usb.nakCmd.isSome || s.usb.nakResult.isSome) fun t => t.count Pg.usb R.CNT_USB_ERR_CONTROL).modUsb fun u =>
    { u with nakCmd := none, nakResult := none }

/-- A CMD (R415 to R417, R421): decided, or its data stage is answered with NAK. -/
def cmdIn (s : State) (wIndex : Nat) (d : List Byte) : State :=
  if !s.usbConfigured || !s.usbAwake then s
  else
    let t := s.newSetup
    if wIndex ≠ 0 ∨ d.length < 16 ∨ 1024 < d.length then t.toUsb 1 []
    else if 8 ≤ t.usb.queue.length ∨ !t.mgmtReady then t.modUsb fun u => { u with nakCmd := some d }
    else t.cmdDecide d

/-- A data stage that was answered with NAK goes on once the queue has room (R421). -/
def cmdGoesOn (s : State) : State :=
  match s.usb.nakCmd with
  | some d => if s.usb.queue.length < 8 ∧ s.mgmtReady then (s.modUsb fun u => { u with nakCmd := none }).cmdDecide d else s
  | none => s

/-- The result entry as RESULT returns it (R415, R420). -/
def entryBytes (e : MfEntry) (len : Nat) : List Byte :=
  (leBytes 4 e.seq ++ [BitVec.ofNat 8 e.st, BitVec.ofNat 8 (e.outcome + e.original * 16)]
    ++ leBytes 2 (Nat.min e.data.length (len - 16)) ++ leBytes 4 e.at_ ++ leBytes 4 0 ++ e.data).take len

/-- RESULT for a SEQ's low half (R420). DEDUCED, log entry 58. -/
def resultReq (s : State) (wIndex seq len : Nat) : State :=
  if !s.usbConfigured || !s.usbAwake then s
  else
    let t := s.newSetup
    if wIndex ≠ 0 ∨ len < 16 ∨ 1024 < len ∨ !t.mgmtReady then t.toUsb 1 []
    else
      match t.usb.results.find? fun e => e.seq % 65536 == seq with
      | none => t.toUsb 0 (leBytes 2 seq ++ List.replicate 14 0)
      | some e => if e.st = 3 then t.toUsb 0 (entryBytes e len) else t.modUsb fun u => { u with nakResult := some (e.seq, len) }

/-- NAKing has lasted CMD_NAK_MS (R420, R421). -/
def nakTimeout (s : State) (result : Bool) : State :=
  if result then
    match s.usb.nakResult with
    | some (q, len) =>
      let t := s.modUsb fun u => { u with nakResult := none }
      match s.usb.results.find? (·.seq == q) with
      | some e => t.toUsb 0 (entryBytes e len)
      | none => t.toUsb 0 (leBytes 2 (q % 65536) ++ List.replicate 14 0)
    | none => s
  else if s.usb.nakCmd.isSome then ((s.modUsb fun u => { u with nakCmd := none }).toUsb 1 []).cmdRefused
  else s

/-- INFO (R415). -/
def infoReq (s : State) (wIndex len : Nat) : State :=
  if !s.usbConfigured || !s.usbAwake then s
  else
    let t := s.newSetup
    if wIndex ≠ 0 ∨ len ≠ 16 then t.toUsb 1 []
    else
      let b := b2n s.mgmtReady + 2 * b2n (s.on Pg.usb R.USB_STATUS_REMOTE_WAKE_EN) + 4 * b2n (s.on Pg.usb R.USB_CFG_L1_ALLOWED)
      t.toUsb 0 ([BitVec.ofNat 8 b, BitVec.ofNat 8 s.usb.queue.length] ++ leBytes 2 s.usb.resets
        ++ leBytes 4 (s.rd Pg.mgmt R.MF_LAST_ACCEPTED.off).toNat ++ leBytes 4 (s.rd Pg.mgmt R.MF_LAST_DONE.off).toNat
        ++ leBytes 4 s.uptime)

/-- EVT_ACK (R425): it waits for the commands accepted before it. DEDUCED, log entry 58. -/
def evtAck (s : State) (wIndex : Nat) : State :=
  if !s.usbConfigured || !s.usbAwake then s
  else
    let t := s.newSetup
    if wIndex ≠ 0 ∨ !t.mgmtReady then t.toUsb 1 []
    else
      let u := t.toUsb 2 []
      if u.usb.queue.isEmpty && u.usb.run.isNone then u.noteAck else u.modUsb fun x => { x with ackWait := true }

/-- The entry of a command takes a new state. -/
def setResult (s : State) (seq : Nat) (f : MfEntry → MfEntry) : State :=
  s.modUsb fun u => { u with results := u.results.map fun e => if e.seq = seq then f e else e }

/-- A command completes (R419): the first outcome other than OK of its pieces, and what a read returned. -/
def mgmtDone (s : State) : State :=
  match s.usb.run with
  | none => s
  | some c =>
    if !s.mgmtReady || s.usb.parts.any (·.isNone) then s
    else
      let parts := s.usb.parts.map fun p => p.getD (0, 0, [])
      let bad := parts.find? fun p => p.1 != 0
      let outcome := (bad.map (·.1)).getD 0
      let original := (bad.map (·.2.1)).getD 0
      let data := if c.op = 1 then (parts.flatMap (·.2.2)).take c.len else []
      let t := s.setResult c.seq fun e => { e with st := 3, outcome := outcome, original := original, data := data, at_ := s.uptime }
      let t := (t.modUsb fun u => { u with run := none, parts := [] }).count Pg.mgmt R.CNT_MF_COMMANDS
      let t := (t.wr Pg.mgmt R.MF_LAST_DONE.off (BitVec.ofNat 32 c.seq)).event Pg.mgmt E.P035_CMD_DONE
      let t := match t.usb.nakResult with
        | some (q, len) =>
          if q = c.seq then
            match t.usb.results.find? (·.seq == q) with
            | some e => (t.toUsb 0 (entryBytes e len)).modUsb fun u => { u with nakResult := none }
            | none => t
          else t
        | none => t
      if t.usb.ackWait && t.usb.queue.isEmpty then t.noteAck else t

/-! ### Consoles (R423, R424) -/

/-- The console works. -/
def conOn (s : State) (k : Nat) : Bool := s.on Pg.mgmt (R.CON_CFG_EN k) && s.usbConfigured && s.usbAwake && s.mgmtReady

/-- A record of gathered bytes leaves as a RAW_PORT frame. -/
def conSend (s : State) (k : Nat) (d : List Byte) : State :=
  if d.isEmpty then s
  else
    let p := Pg.mgmt
    let r := rawBytes (b2n (!s.timeValid) * 128) 0 s.stamp d
    let x := s.rawSendOk 8 (s.get p (R.CON_CFG_NODE k) * 4 + s.get p (R.CON_CFG_HUB k)) (s.get p (R.CON_CFG_ENGINE k)) 0
      (s.get p (R.CON_CFG_PRIO k)) r
    if x.2 then x.1.count p (R.CNT_CON_RECORDS k)
    else (x.1.count p (R.CNT_CON_CON_DROP k)).event p E.P035_CON_DROP

/-- Whole records of 240 bytes leave; what remains. -/
def conFull : Nat → State → Nat → List Byte → State × List Byte
  | 0, s, _, d => (s, d)
  | n + 1, s, k, d => if 240 ≤ d.length then conFull n (s.conSend k (d.take 240)) k (d.drop 240) else (s, d)

/-- A packet on a console's OUT endpoint. -/
def conOut (s : State) (k : Nat) (d : List Byte) : State :=
  let max := if s.get Pg.usb R.USB_STATUS_SPEED = 2 then 512 else 64
  if !s.conOn k ∨ max < d.length then s
  else
    let x := conFull 4 s k (s.usb.gather.getD k [] ++ d)
    if d.length < max then (x.1.conSend k x.2).modUsb fun u => { u with gather := u.gather.setIfInBounds k [] }
    else x.1.modUsb fun u => { u with gather := u.gather.setIfInBounds k x.2 }

/-- CON_IDLE_US without a packet. -/
def conIdle (s : State) (k : Nat) : State :=
  if s.conOn k then (s.conSend k (s.usb.gather.getD k [])).modUsb fun u => { u with gather := u.gather.setIfInBounds k [] } else s

/-- A record of the mailbox engine goes to the host, without its head (R424). -/
def conIn (s : State) (k : Nat) : State :=
  if !s.conOn k then s
  else
    let e := s.get Pg.mgmt (R.CON_CFG_MAILBOX k)
    match (s.eng e).rx with
    | [] => s
    | r :: rest =>
      let t := (s.modEng e fun g => { g with rx := rest, rxRead := 0 }).emit (.bytes Pg.mgmt k (r.drop 12))
      (t.when (!rest.isEmpty) fun t => t.engEvent e E.ENG_RX_MSG).rawTakeAll e

/-! ### SOF (R426, R427) -/

/-- A SOF of the host. -/
def sofIn (s : State) (frame : Nat) : State :=
  let p := Pg.usb
  if !s.domainOn 3 || !s.usb.pull || !s.usbAwake then s
  else
    let same := s.on p R.SOF_FRAME_VALID && s.get p R.SOF_FRAME_FRAME == frame
    let micro := if s.get p R.USB_STATUS_SPEED = 2 ∧ same then (s.get p R.SOF_FRAME_MICRO + 1) % 8 else 0
    let at_ := s.unitTime 14
    let t := (s.wr p R.SOF_FRAME.off (BitVec.ofNat 32 (frame + micro * 2 ^ 11 + 2 ^ 31))).modUsb fun u => { u with sofTs := at_ }
    let n := Nat.min 14 (s.get p R.SOF_CAP_CFG_LOG)
    if s.on p R.SOF_CAP_CFG_EN && (frame * 8 + micro) % 2 ^ n == 0 then
      if 16 ≤ t.usb.caps.length then t.count p ⟨R.SOF_CAP_LOST.off, 0, 16⟩
      else (t.modUsb fun u => { u with caps := u.caps ++ [(frame * 8 + micro, at_)] }).when t.usb.caps.isEmpty fun t =>
        t.event p E.P034_SOF_CAPTURE
    else t

/-- A read of SOF_CAP_POP. -/
def sofPop (s : State) : State × Word :=
  match s.usb.caps with
  | [] => (s, 0)
  | (f, at_) :: l =>
    let t := (s.modUsb fun u => { u with caps := l }).put Pg.usb R.SOF_CAP_TS_LO (at_ % 2 ^ 32)
    (t.put Pg.usb R.SOF_CAP_TS_HI (at_ / 2 ^ 32 % 2 ^ 32), BitVec.ofNat 32 (f + 2 ^ 31))

/-! ### Writes to pages 0x034 to 0x036 -/

/-- The effect of a write to a USB page. -/
def wrUsb (p : Nat) (s : State) (off : Nat) (v : Word) : State :=
  if p = Pg.usb then
    if off = R.USB_CMD.off then
      let t := s.when (bitOf v.toNat 0) fun t => t.cntClear p
      t.when (bitOf v.toNat 1) fun t => (t.modUsb fun u => { u with apart := true }).pullSync
    else if off = R.PAGE_CTRL.off then (s.storeWrite p off v).pullSync
    else s.storeWrite p off v
  else if p = Pg.mgmt then
    if off = R.MF_CMD.off then
      let t := s.when (bitOf v.toNat 0) fun t => t.cntClear p
      t.when (bitOf v.toNat 1) fun t => t.modUsb fun u => { u with results := [] }
    else s.storeWrite p off v
  else if off = R.HUB_CMD.off then s.when (bitOf v.toNat 0) fun t => t.cntClear p
  else if off = R.HUB_CFG.off then (s.storeWrite p off v).portsShow
  else s.storeWrite p off v

end State

/-- USB_ATTACH (R411): USB_VBUS has been valid for 10 ms. -/
def execUsbAttach (s : State) : Host.Outcome State Fault Refusal :=
  finishAll (s.modUsb fun u => { u with vbus := true }).pullSync

/-- DISCONNECT (R411). -/
def execDisconnect (a : Agent) (s : State) : Host.Outcome State Fault Refusal :=
  finishAll (s.poke a Pg.usb R.USB_CMD.off 2 (State.wrUsb Pg.usb))

/-- DISCONNECT_END (R411). -/
def execDisconnectEnd (s : State) : Host.Outcome State Fault Refusal :=
  finishAll (s.modUsb fun u => { u with apart := false }).pullSync

/-- BUS_RESET (R411 to R413). -/
def execBusReset (cause : UsbReset) (s : State) : Host.Outcome State Fault Refusal :=
  finishAll <|
    match cause with
    | .bus chirps => s.busReset chirps
    | .vbusLost => s.vbusLost

/-- USB_SUSPEND (R428). -/
def execUsbSuspend (s : State) : Host.Outcome State Fault Refusal := finishAll s.usbSuspend

/-- USB_RESUME (R430, R431). -/
def execUsbResume (s : State) : Host.Outcome State Fault Refusal := finishAll s.usbResume

/-- LPM (R429). -/
def execLpm (remoteWake : Bool) (s : State) : Host.Outcome State Fault Refusal := finishAll (s.usbLpm remoteWake)

/-- REMOTE_WAKE (R429, R430): the bus has been idle for 5 ms. -/
def execRemoteWake (s : State) : Host.Outcome State Fault Refusal := finishAll s.remoteWake

/-- WAKE_RETRY (R430). -/
def execWakeRetry (s : State) : Host.Outcome State Fault Refusal := finishAll s.wakeRetry

/-- USB_OVERCURRENT (R409): the OCN ball of a port stays low for OC_FILTER_MS. -/
def execUsbOvercurrent (p : Fin 3) (s : State) : Host.Outcome State Fault Refusal :=
  finishAll <|
    if s.domainOn 3 then
      let h := Pg.usbHub
      let t := (s.modUsbPort p fun q => { q with power := false }).setF h (State.portFld p 4 1)
      ((t.count h R.CNT_HUB_OVER).eventFault h E.P036_USB_OVERCURRENT K.USB_OVERCURRENT (p + 2)).portsShow
    else s

/-- SET_PORT_POWER (R409): the host sets or clears PORT_POWER of a port. -/
def execSetPortPower (p : Fin 3) (on : Bool) (s : State) : Host.Outcome State Fault Refusal :=
  finishAll <|
    if s.usbConfigured then
      let t := s.modUsbPort p fun q => { q with power := on }
      (t.when on fun t => t.clrF Pg.usbHub (State.portFld p 4 1)).portsShow
    else s

/-- CMD (R415 to R417, R421). -/
def execCmd (wIndex : BitVec 16) (data : List Byte) (s : State) : Host.Outcome State Fault Refusal :=
  finishAll (s.cmdIn wIndex.toNat data)

/-- CMD_NAK_TIMEOUT (R420, R421). -/
def execCmdNakTimeout (result : Bool) (s : State) : Host.Outcome State Fault Refusal := finishAll (s.nakTimeout result)

/-- RESULT_REQUEST (R415, R420). -/
def execResultRequest (wIndex wValue wLength : BitVec 16) (s : State) : Host.Outcome State Fault Refusal :=
  finishAll (s.resultReq wIndex.toNat wValue.toNat wLength.toNat)

/-- INFO (R415). -/
def execInfo (wIndex wLength : BitVec 16) (s : State) : Host.Outcome State Fault Refusal :=
  finishAll (s.infoReq wIndex.toNat wLength.toNat)

/-- EVT_ACK (R425). -/
def execEvtAck (wIndex : BitVec 16) (s : State) : Host.Outcome State Fault Refusal := finishAll (s.evtAck wIndex.toNat)

/-- MGMT_COMMAND_DONE (R419). -/
def execMgmtCommandDone (s : State) : Host.Outcome State Fault Refusal := finishAll s.mgmtDone

/-- RESULTS_CLEAR (R419). -/
def execResultsClear (a : Agent) (s : State) : Host.Outcome State Fault Refusal :=
  finishAll (s.poke a Pg.mgmt R.MF_CMD.off 2 (State.wrUsb Pg.mgmt))

/-- USB_NOTIFY_TIMER (R425). -/
def execUsbNotifyTimer (s : State) : Host.Outcome State Fault Refusal :=
  finishAll (if s.usb.note.st = 1 then (s.modUsb fun u => { u with note := { st := 1, timer := true } }).noteTry else s)

/-- CONSOLE_OUT_PACKET (R423). -/
def execConsoleOutPacket (k : Fin 4) (data : List Byte) (s : State) : Host.Outcome State Fault Refusal :=
  finishAll (s.conOut k data)

/-- CON_IDLE_EXPIRY (R423). -/
def execConIdleExpiry (k : Fin 4) (s : State) : Host.Outcome State Fault Refusal := finishAll (s.conIdle k)

/-- CONSOLE_IN_DRAIN (R424). -/
def execConsoleInDrain (k : Fin 4) (s : State) : Host.Outcome State Fault Refusal := finishAll (s.conIn k)

/-- SET_LINE_CODING (R424). -/
def execSetLineCoding (k : Fin 4) (rate : Word) (rest : BitVec 24) (s : State) : Host.Outcome State Fault Refusal :=
  finishAll <|
    if s.usbConfigured then
      (s.wr Pg.mgmt (R.CON_LINE k).off rate).modUsb fun u => { u with coding := u.coding.setIfInBounds k rest.toNat }
    else s

/-- SOF (R426, R427). -/
def execSof (frame : BitVec 11) (s : State) : Host.Outcome State Fault Refusal := finishAll (s.sofIn frame.toNat)

/-- SOF_MISSED (R426). -/
def execSofMissed (s : State) : Host.Outcome State Fault Refusal :=
  finishAll <|
    if s.usbConfigured && s.usbAwake then
      (s.count Pg.usb R.CNT_USB_RESET_SOF_MISSED).event Pg.usb E.P034_SOF_MISSED
    else s

/-- SOF_CAP_POP (R427, R52). -/
def execSofCapPop (a : Agent) (s : State) : Host.Outcome State Fault Refusal :=
  finishAll (s.guardedRead a Pg.usb R.SOF_CAP_POP.off State.sofPop)

/-- USB_PORT_CONNECT_CHANGE (R409, R433): a device of a speed (0 low, 1 full, 2 high) attaches, or the device detaches. -/
def execUsbPortConnectChange (p : Fin 3) (speed : Option (Fin 3)) (s : State) : Host.Outcome State Fault Refusal :=
  finishAll (if s.domainOn 3 then (s.modUsbPort p fun q => { q with dev := speed.map (·.val) }).portShow p else s)

/-- SET_CONFIGURATION (R433, R423, R425): with the address that the host has given the function. -/
def execSetConfiguration (address : BitVec 7) (on : Bool) (s : State) : Host.Outcome State Fault Refusal :=
  finishAll <|
    if s.domainOn 3 && s.usb.pull && s.usbAwake then
      let t := (s.put Pg.usb R.USB_STATUS_ADDRESS address.toNat).putB Pg.usb R.USB_STATUS_CONFIGURED on
      if on then
        let t := t.event Pg.usb E.P034_CONFIGURED
        if t.usbRouted then t.usbLive else t
      else t
    else s

/-- DEVICE_REMOTE_WAKEUP (R430). -/
def execDeviceRemoteWakeup (on : Bool) (s : State) : Host.Outcome State Fault Refusal :=
  finishAll (if s.usbConfigured && s.usbAwake then s.putB Pg.usb R.USB_STATUS_REMOTE_WAKE_EN on else s)

end Sys2Proof.Machine
end

