-- ==== Sys2Proof/Machine/Pcie.lean ====
section
/-! DEFINITION. The PCIe endpoint and the delivery of events (R391 to R407). What a memory request reaches stands in Access. -/

namespace Sys2Proof.Machine

open Sys2Proof (Word Byte Agent Code AccessKind Instr LaneId LinkId EngineId PcieReset HostBar)

namespace State

/-- The registers of a page that are not Kept return to Factory; the page header's state stays. -/
def forgetRegs (s : State) (p : Nat) : State :=
  { s with regs := s.regs.filter fun c => c.1 / 0x1000000 != p || keptKey c.1 || c.1 % 0x1000000 < 0x28 }

/-- DL_ACTIVE. -/
def dlActive (s : State) : Bool := s.on Pg.pcie R.PCIE_STATUS_DL_ACTIVE

/-- Requests reach the endpoint: the domain is on and the link in DL_Active. -/
def hostUp (s : State) : Bool := s.domainOn 2 && s.dlActive

/-! ### Configuration space (R394) -/

/-- Change a configuration word. -/
def setCfg (s : State) (off : Nat) (v : Nat) : State :=
  { s with pcie := { s.pcie with cfg := s.pcie.cfg.set (fun _ => 0) off (BitVec.ofNat 32 v) } }

/-- The bits of a configuration word that a request can write. -/
def cfgMask (off : Nat) : Nat :=
  if off = 0x04 then 0x146 else if off = 0x10 then 0xFFE00000 else if off = 0x18 then 0xFFF00000
  else if off = 0x24 then 0xFFFFFFFC else if off = 0x3C then 0xFF else if off = 0x44 then 3
  else if off = 0x50 then 0xC0000000 else if off = 0x68 then 0x7FFF else 0

/-- A configuration word as a request reads it. DESIGN CHOICE, log entry 60. -/
def cfgRead (s : State) (off : Nat) : Word :=
  let w (n : Nat) : Word := BitVec.ofNat 32 n
  let x := s.cfgWord off
  let std := (Config.pciWord off).toNat
  if off = 0x00 then 0x12801F3B
  else if off = 0x04 then w (0x00100000 + x)
  else if off = 0x08 then 0x11800010
  else if off = 0x10 ∨ off = 0x18 ∨ off = 0x24 then w x
  else if off = 0x14 ∨ off = 0x1C then 0
  else if off = 0x20 then 0xC
  else if off = 0x2C then if s.pcie.cfg.find 0x2C = none then 0x12801F3B else w x
  else if off = 0x34 then 0x40
  else if off = 0x3C then w x
  else if off = 0x40 then 0x00035001
  else if off = 0x44 then w (std / 4 * 4 + x % 4)
  else if off = 0x50 then w (0x003F6011 + x)
  else if off = 0x54 then 0x3800
  else if off = 0x58 then 0x3C00
  else if off = 0x60 then 0x00020010
  else if off = 0x64 then w (Nat.lor (Nat.land std 0xEFFFFFF8) 0x10000001)
  else if off = 0x68 then if s.pcie.cfg.find 0x68 = none then w (std % 2 ^ 15) else w x
  else if off = 0x100 then 0x14020001
  else if off = 0x140 then 0x15010003
  else if off = 0x144 then s.rd Pg.identity R.UID_LO.off
  else if off = 0x148 then s.rd Pg.identity R.UID_HI.off
  else if off = 0x150 then 0x17010019
  else if off = 0x170 then 0x18010025
  else if off = 0x174 then w (Nat.lor std 1)
  else if off = 0x180 then 0x1B010026
  else if off = 0x1B0 then 0x00010027
  else Config.pciWord off

/-- The device is in D3hot: it takes no memory request. -/
def inD3 (s : State) : Bool := s.cfgWord 0x44 % 4 == 3

/-- Memory Space Enable. -/
def memSpace (s : State) : Bool := bitOf (s.cfgWord 0x04) 1

/-- Every vector with a live source enters PENDING or is tried. -/
def vecsLive (s : State) : State := (List.range 64).foldl vecLive s

/-- Every vector in PENDING is tried: a mask or an enable has changed (R401). -/
def vecsTry (s : State) : State := (List.range 64).foldl vecTry s

/-! ### Resets (R395 to R397) -/

/-- The PCIe island and the configuration space are reset (R396): the vectors return to IDLE and those with a live source
enter PENDING; the MSI-X table and the PBA are cleared (R395); host reads in flight lose their host (R397). `subsys` says that
the reset is a conventional one, which loads the subsystem identifiers. -/
def pcieIslandReset (s : State) (subsys : Bool) : State :=
  let keep := if subsys then (s.rd Pg.pciId R.PCI_SUBSYS.off).toNat
    else if s.pcie.cfg.find 0x2C = none then 0x12801F3B else s.cfgWord 0x2C
  let t := { s with pcie := { s.pcie with vecs := Vector.replicate 64 {}, cfg := [] } }
  let t := t.setCfg 0x2C keep
  let t := (t.forgetRegs Pg.intTime).forgetRegs Pg.pcieErr
  let t := { t with regs := t.regs.filter fun c => c.1 / 0x1000000 != Pg.interrupts || c.1 % 0x1000000 < 0x800 }
  let t := t.modBridge fun b => { b with reads := [] }
  (t.put Pg.pcie R.PCIE_STATUS_D 0).vecsLive

/-- DL_ACTIVE falls. DEDUCED, log entry 59. -/
def dlDown (s : State) : State :=
  if s.dlActive then
    ((s.wr Pg.pcie R.PCIE_STATUS.off (BitVec.ofNat 32 (Config.ltssm 0))).count Pg.pcie R.PCIE_CNT_LINK_DL_ACTIVE).eventFault
      Pg.pcie E.P030_LINK_DOWN K.PCIE_LINK_DOWN 0
  else s

/-- What resets the PCIe island (R396). -/
def pcieReset (s : State) (c : PcieReset) : State :=
  if !s.domainOn 2 then s
  else
    match c with
    | .perst => s.dlDown.pcieIslandReset true
    | .hot => (s.dlDown.pcieIslandReset true).event Pg.pcie E.P030_RESET_SEEN
    | .linkDown => s.dlDown.pcieIslandReset true
    | .flr => let t := (s.pcieIslandReset false).event Pg.pcie E.P030_RESET_SEEN
              { t with pcie := { t.pcie with flr := true } }
    | .flrDone => { s with pcie := { s.pcie with flr := false } }

/-- The link reaches DL_Active (R396, R401, R407): below the speed or width of PCIE_CFG it says so, and pending vectors may
issue. A reference that is absent, or ENABLE 0, keeps the link in Detect (R406). -/
def pcieUp (s : State) (speed width : Nat) (reversed : Bool) (inverted : Nat) : State :=
  let p := Pg.pcie
  if !s.domainOn 2 || s.dlActive || !s.on p R.PAGE_CTRL_ENABLE || s.on Pg.bringUp R.BRINGUP_STATUS_PCIE_REF_ABSENT then s
  else
    let t := (((s.put p R.PCIE_STATUS_LTSSM (Config.ltssm 1)).put p R.PCIE_STATUS_SPEED speed).put p R.PCIE_STATUS_WIDTH
      width).setF p R.PCIE_STATUS_DL_ACTIVE
    let t := (t.putB p R.PCIE_STATUS_LANES_REVERSED reversed).put p R.PCIE_STATUS_LANES inverted
    let t := t.event p E.P030_LINK_UP
    let most := Nat.min 2 (s.get p R.PCIE_CFG_MAX_WIDTH)
    let t := t.when (s.get p R.PCIE_CFG_MAX_SPEED < speed) fun u => u.event p E.P030_SPEED_REDUCED
    let t := t.when (most < width) fun u => u.event p E.P030_WIDTH_REDUCED
    t.vecsTry

/-- A configuration request (R394, R396, R471): answered, or with retry status until the endpoint's pages are READY.
DEDUCED, log entry 59. -/
def cfgRequest (s : State) (write : Bool) (off be : Nat) (data : Word) : State :=
  let answer (t : State) (status : Nat) (d : List Byte) : State := t.emit (.bytes Pg.pcie status d)
  if !s.hostUp then s
  else if s.pcie.flr || !(domainPages 2).all s.ready then answer s 1 []
  else if !write then answer s 0 (leBytes 4 (s.cfgRead off).toNat)
  else
    let lanes := (if bitOf be 0 then 0xFF else 0) + (if bitOf be 1 then 0xFF00 else 0)
      + (if bitOf be 2 then 0xFF0000 else 0) + (if bitOf be 3 then 0xFF000000 else 0)
    let m := Nat.land (cfgMask off) lanes
    let old := (s.cfgRead off).toNat
    let t := if m = 0 then s else s.setCfg off (Nat.lor (Nat.land (Nat.land old (cfgMask off)) (notW 32 m)) (Nat.land data.toNat m))
    let t := if off = 0x44 then t.put Pg.pcie R.PCIE_STATUS_D (t.cfgWord 0x44 % 4) else t
    let t := answer t 0 []
    let t := if off = 0x68 ∧ bitOf be 1 ∧ bitOf data.toNat 15 then t.pcieReset .flr else t
    t.vecsTry

/-! ### Writes -/

/-- Bit `v` of VEC_ACK (R402). -/
def vecAck (s : State) (v : Nat) : State :=
  if (s.vec v).st = 2 then (s.setVec v {}).vecLive v else s

/-- The effect of a write to a page of the events or of PCIe (R395, R401, R402, R406). -/
def wrEvents (p : Nat) (s : State) (off : Nat) (v : Word) : State :=
  if p = Pg.interrupts then
    if off = R.VEC_ACK0.off ∨ off = R.VEC_ACK1.off then
      let b := if off = R.VEC_ACK1.off then 32 else 0
      (List.range 32).foldl (fun t i => if bitOf v.toNat i then t.vecAck (b + i) else t) s
    else if off = R.INT_CMD.off then s.when (bitOf v.toNat 0) fun t => t.cntClear p
    else if 0x800 ≤ off ∧ off < 0xC00 then (s.storeWrite p off v).vecTry ((off - 0x800) / 16)
    else if 0xC00 ≤ off then s
    else s.storeWrite p off v
  else if p = Pg.pcie then
    if off = R.PCIE_CMD.off then
      let t := s.when (bitOf v.toNat 0) fun t => t.cntClear p
      t.when (bitOf v.toNat 1 && s.dlActive) fun t =>
        (t.count p R.PCIE_CNT_LINK_RECOVERY).put p R.PCIE_STATUS_LTSSM (Config.ltssm 2)
    else if off = R.PAGE_CTRL.off then
      let t := s.storeWrite p off v
      if t.on p R.PAGE_CTRL_ENABLE then t else if t.dlActive then t.pcieReset .linkDown else t
    else s.storeWrite p off v
  else if p = Pg.pcieErr then
    if off = R.ERR_CMD.off then s.when (bitOf v.toNat 0) fun t => t.cntClear p else s.storeWrite p off v
  else s.storeWrite p off v

end State

/-- PCIE_CONFIG_REQUEST (R394, R471). -/
def execPcieConfigRequest (write : Bool) (dword : BitVec 10) (be : BitVec 4) (data : Word) (s : State) :
    Host.Outcome State Fault Refusal :=
  finishAll (s.cfgRequest write (4 * dword.toNat) be.toNat data)

/-- PCIE_RESET (R395 to R397). -/
def execPcieReset (cause : PcieReset) (s : State) : Host.Outcome State Fault Refusal := finishAll (s.pcieReset cause)

/-- PCIE_LINK_UP (R396, R401). -/
def execPcieLinkUp (speed width : BitVec 2) (reversed : Bool) (inverted : BitVec 4) (s : State) :
    Host.Outcome State Fault Refusal :=
  finishAll (s.pcieUp speed.toNat width.toNat reversed inverted.toNat)

/-- RETRAIN_PCIE (R406). -/
def execRetrainPcie (a : Agent) (s : State) : Host.Outcome State Fault Refusal :=
  finishAll (s.poke a Pg.pcie R.PCIE_CMD.off 2 (State.wrEvents Pg.pcie))

/-- SOURCE_LIVE (R398 to R401, R425): a source becomes live; its vector and the USB function follow. -/
def execSourceLive (n : Fin 128) (s : State) : Host.Outcome State Fault Refusal :=
  finishAll <|
    let v := s.routeWord n % 64
    let t := if s.liveOn v n then s.vecLive v else s
    if s.sentTo 9 n then t.usbLive else t

/-- COAL_TIMER_EXPIRY (R401). -/
def execCoalTimerExpiry (v : Fin 64) (s : State) : Host.Outcome State Fault Refusal :=
  finishAll (if (s.vec v).st = 1 then (s.setVec v { st := 1, timer := true }).vecTry v else s)

/-- MSIX_UNMASK (R401): the mask of a vector is cleared by a write of the table; or the host's configuration writes set MSI-X
Enable and Bus Master Enable and clear Function Mask. -/
def execMsixUnmask (v : Option (Fin 64)) (a : Agent) (s : State) : Host.Outcome State Fault Refusal :=
  finishAll <|
    match v with
    | some v => s.poke a Pg.interrupts (0x80C + 16 * v.val) 0 (State.wrEvents Pg.interrupts)
    | none =>
      if s.hostUp && !s.pcie.flr && (domainPages 2).all s.ready then
        let t := s.setCfg 0x04 (Nat.lor (s.cfgWord 0x04) 4)
        (t.setCfg 0x50 0x80000000).vecsTry
      else s

/-- VEC_ACK (R402). -/
def execVecAck (a : Agent) (high : Bool) (bits : Word) (s : State) : Host.Outcome State Fault Refusal :=
  finishAll (s.poke a Pg.interrupts (if high then R.VEC_ACK1.off else R.VEC_ACK0.off) bits (State.wrEvents Pg.interrupts))

end Sys2Proof.Machine
end

