-- ==== Sys2Proof/Machine/Seed.lean ====
section
/-! DEFINITION. The Seed store (R473 to R486): images, restore, journal, commits, compactions. -/

namespace Sys2Proof.Machine

open Sys2Proof (Word Byte Agent Code AccessKind Instr LaneId LinkId EngineId)

/-- The page of the page index that a word of the store belongs to: the tables behind windows and index registers, and the
mode registers, belong to the page that shows them. -/
def ownerPage (p : Nat) : Nat :=
  if p < 0x200 then p
  else if p = Pg.dirTable then Pg.directory
  else if p = Pg.schedTable then Pg.sched
  else if p = Pg.qcfgTable then Pg.qprof
  else if p = Pg.routeTable ∨ p = Pg.coalTable then Pg.interrupts
  else if p = Pg.kindTable then Pg.kinds
  else if p = Pg.expTable then Pg.digest
  else if 0x400 ≤ p ∧ p < 0xC00 then 0x100 + (p - 0x400) / 16
  else p - 0x1000

/-- The page of a key. -/
def keyPage (k : Nat) : Nat := ownerPage (k / 0x1000000)

/-- SOFT_RESET is no Kept bit of PAGE_CTRL. -/
def keptWord (k : Nat) (v : Word) : Word :=
  if k % 0x1000000 = 0x00C ∧ k / 0x1000000 < 0x200 then v &&& 0xFFFFFFFD else v

/-- A bank's records up to the first that fails its CRC-32C or breaks the sequence (R483). -/
def goodRecs : List JRec → List JRec
  | [] => []
  | [r] => if r.ok then [r] else []
  | r :: q :: t => if !r.ok then [] else if q.seq = (r.seq + 1) % 2 ^ 32 then r :: goodRecs (q :: t) else [r]

/-- Apply journal records over the words of a section. -/
def applyRecs (c : Cells) (l : List JRec) : Cells :=
  l.foldl (fun c r => c.set factoryWord r.key (keptWord r.key r.val)) c

namespace State

/-- Change the store's own data. -/
def modSeed (s : State) (f : Seed → Seed) : State := { s with seed := f s.seed }

/-- Bank `n` of the journal, and writing it. -/
def bank (s : State) (n : Nat) : List JRec := if n = 0 then s.seed.bank0 else s.seed.bank1
def setBank (s : State) (n : Nat) (l : List JRec) : State :=
  s.modSeed fun x => if n = 0 then { x with bank0 := l } else { x with bank1 := l }

/-- ACTIVE_BANK, and the other. -/
def activeBank (s : State) : Nat := s.get Pg.seed R.SEED_STATUS_ACTIVE_BANK
def otherBank (s : State) : Nat := 1 - s.activeBank

/-- Image 0 (A) or 1 (B), and writing it. -/
def image (s : State) (n : Nat) : Image := if n = 0 then s.seed.imgA else s.seed.imgB
def setImage (s : State) (n : Nat) (i : Image) : State :=
  s.modSeed fun x => if n = 0 then { x with imgA := i } else { x with imgB := i }

/-- The active image (R474). -/
def activeImage (s : State) : Option Image :=
  let i := s.image (s.get Pg.seed R.SEED_STATUS_ACTIVE_IMAGE)
  if i.valid then some i else none

/-- The inactive image: A where none is active (R474). -/
def spareImage (s : State) : Nat :=
  match s.activeImage with
  | none => 0
  | some _ => 1 - s.get Pg.seed R.SEED_STATUS_ACTIVE_IMAGE

/-- One above the active GENERATION, which counts as 0 where no image is active. -/
def nextGen (s : State) : Nat :=
  match s.activeImage with
  | none => 1
  | some i => (i.gen + 1) % 2 ^ 32

/-- Every record that a restore applies, in sequence order (R475, R483). -/
def journalRecs (s : State) : List JRec :=
  goodRecs (s.bank s.otherBank) ++ goodRecs (s.bank s.activeBank) ++ s.seed.buf

/-- No restore takes place: STRAP_NORESTORE was sampled at 1 and no ADOPT has followed (R476, R479). -/
def noRestore (s : State) : Bool :=
  s.on Pg.seed R.SEED_STATUS_SUPPRESSED && !s.on Pg.seed R.SEED_STATUS_JOURNALLING

/-- The Kept words of a page that differ from Factory after its restore, and whether they are Factory values (R475, R476). -/
def restoreCells (s : State) (p : Nat) : Cells × Bool :=
  let recs (base : Nat) := s.journalRecs.filter fun r => keyPage r.key == p && decide (base ≤ r.seq)
  if s.noRestore then ([], true)
  else match s.activeImage with
    | none => (applyRecs [] (recs s.seed.powerUpSeq), true)
    | some i =>
      if i.bad.contains p then (applyRecs [] (recs s.seed.powerUpSeq), true)
      else (applyRecs (i.cells.filter fun e => keyPage e.1 == p) (recs i.base), false)

/-- The Kept words of a page that differ from Factory, as they stand. -/
def keptCells (s : State) (p : Nat) : Cells :=
  (s.regs.filter fun e => keyPage e.1 == p && keptKey e.1).map fun e => (e.1, keptWord e.1 e.2)

/-- The Kept words that are in effect: live where the domain is on, what the restore would write where it is off. -/
def liveCells (s : State) : Cells :=
  let live := (s.regs.filter fun e => keptKey e.1 && s.pageOn (keyPage e.1)).map fun e => (e.1, keptWord e.1 e.2)
  let off := ((List.range 19).filter fun d => !s.domainOn d).flatMap fun d => (domainPages d).flatMap fun p => (s.restoreCells p).1
  (live ++ off).foldl (fun (c : Cells) (e : Nat × Word) => c.set factoryWord e.1 e.2) []

/-! ### Restore -/

/-- The restore of a page (R475 to R477): Kept words, active and staged alike; RESTORED or FACTORY. -/
def restorePage (s : State) (p : Nat) : State :=
  let r := s.restoreCells p
  let bare := s.regs.filter fun e => !(keyPage e.1 == p && keptKey e.1)
  let t := { s with regs := r.1.foldl (fun (c : Cells) (e : Nat × Word) => c.set factoryWord e.1 e.2) bare,
                    staged := s.staged.filter fun e => keyPage e.1 != p }
  let t := t.put p ⟨R.EPOCH_STATE.off, 0, 1⟩ 0
  let bad := !s.noRestore && (match s.activeImage with
    | none => false
    | some i => i.bad.contains p)
  let t := t.when bad fun t => t.eventFault Pg.seed E.P006_SECTION_INVALID K.SECTION_INVALID p
  if r.2 then t.setF p R.PAGE_STATUS_FACTORY else t.setF p R.PAGE_STATUS_RESTORED

/-! ### Commits (R481, R486) -/

/-- The freeze of R486 begins: no commit, no compaction, no image write. -/
def freezeStore (s : State) : State :=
  let busy := s.on Pg.seed R.SEED_STATUS_COMPACTING
  let t := ((s.setF Pg.seed R.SEED_STATUS_FROZEN).clrF Pg.seed R.SEED_STATUS_COMPACTING).event Pg.seed E.P006_FROZEN
  t.modSeed fun x => { x with recompact := x.recompact || busy, again := false }

/-- The records move to the active bank, as far as it has room (R481). -/
def writeRecs (s : State) (n : Nat) : State :=
  let l := s.bank s.activeBank
  let m := Nat.min n (16384 - l.length)
  (s.setBank s.activeBank (l ++ s.seed.buf.take m)).modSeed fun x => { x with buf := x.buf.drop m }

/-- A commit ends (R481): LAST_COMMIT, CNT_COMMIT; one that a warning started freezes the store. DEDUCED, log entry
62. -/
def commitDone (s : State) : State :=
  match s.seed.commit with
  | none => s
  | some (n, warning) =>
    let p := Pg.seed
    let bound := (1000 + 27 * n) / 100
    let t := (s.writeRecs n).modSeed fun x => { x with commit := none, again := false }
    let t := ((t.put p R.LAST_COMMIT_RECORDS n).put p R.LAST_COMMIT_DURATION (t.freeWord.toNat % (bound + 1))).draw
    let t := (t.count p R.CNT_COMMIT_COMMITS).when warning fun t => t.count p R.CNT_COMMIT_COMMITS_16
    if warning && s.on Pg.inlet R.HS_STATUS_PFW_ACTIVE then t.freezeStore
    else t.when ((s.seed.again && !t.seed.buf.isEmpty) || decide (256 ≤ t.seed.buf.length)) fun t => t.startCommit false

/-! ### Compaction (R482, R484, R486) -/

/-- COMPACT_AT, at least 1,024. -/
def compactAt (s : State) : Nat := Nat.max 1024 (s.get Pg.seed R.SEED_COMPACT % 2 ^ 14)

/-- No compaction may start: the store is frozen or does not journal, a trial runs (R574), or an update carries a
configuration image for the hub (R567). -/
def compactHeld (s : State) : Bool :=
  s.on Pg.seed R.SEED_STATUS_FROZEN || s.noRestore || s.seed.trial.isSome || s.upd.image.isSome
    || s.on Pg.seed R.SEED_STATUS_COMPACTING

/-- Start a compaction: journalling moves to the other bank at once, unless that bank still waits to be merged. -/
def compactStart (s : State) : State :=
  if s.compactHeld then s
  else
    let t := s.when (s.bank s.otherBank).isEmpty fun t => t.put Pg.seed R.SEED_STATUS_ACTIVE_BANK s.otherBank
    (t.setF Pg.seed R.SEED_STATUS_COMPACTING).modSeed fun x => { x with recompact := false }

/-- A compaction is due: the active bank holds COMPACT_AT records, or an earlier compaction has left the other bank.
DEDUCED, log entry 62. -/
def compactDue (s : State) : Bool :=
  decide (s.compactAt ≤ (s.bank s.activeBank).length) || !(s.bank s.otherBank).isEmpty || s.seed.recompact

/-- Start one that is due. -/
def compactTry (s : State) : State := s.when s.compactDue compactStart

/-- What a compaction writes into the inactive image: the active image with the old bank's records applied, or with RESYNC
the live values of the domains that are on (R482, R484). -/
def compactCells (s : State) : Cells :=
  let old := goodRecs (s.bank s.otherBank)
  let merged := match s.activeImage with
    | none => applyRecs [] old
    | some i =>
      applyRecs (i.cells.filter fun e => !i.bad.contains (keyPage e.1))
        (old.filter fun r => if i.bad.contains (keyPage r.key) then decide (s.seed.powerUpSeq ≤ r.seq) else decide (i.base ≤ r.seq))
  if s.on Pg.seed R.SEED_STATUS_RESYNC then
    let live := (s.regs.filter fun e => keptKey e.1 && s.pageOn (keyPage e.1)).map fun e => (e.1, keptWord e.1 e.2)
    live.foldl (fun (c : Cells) (e : Nat × Word) => c.set factoryWord e.1 e.2) (merged.filter fun e => !s.pageOn (keyPage e.1))
  else merged

/-- An image becomes active (R482). -/
def activate (s : State) (n : Nat) (i : Image) : State :=
  ((s.setImage n i).put Pg.seed R.SEED_STATUS_ACTIVE_IMAGE n).event Pg.seed E.P006_COMPACT_DONE

/-- A compaction ends: header written, new image active, old bank erased. -/
def compactDone (s : State) : State :=
  if s.on Pg.seed R.SEED_STATUS_COMPACTING then
    let old := s.bank s.otherBank
    let base := match old.getLast? with
      | some r => (r.seq + 1) % 2 ^ 32
      | none => match s.activeImage with
        | some i => i.base
        | none => s.seed.powerUpSeq
    let t := s.activate s.spareImage { valid := true, gen := s.nextGen, cells := s.compactCells, base := base }
    let t := (t.setBank s.otherBank []).clrF Pg.seed R.SEED_STATUS_COMPACTING
    (t.clrF Pg.seed R.SEED_STATUS_RESYNC).count Pg.seed R.CNT_COMPACT
  else s

/-- SEED_CMD.ADOPT (R479): a complete image of the live Kept values becomes active, and journalling runs. DEDUCED,
log entry 62. -/
def adopt (s : State) : State :=
  let t := s.activate s.spareImage { valid := true, gen := s.nextGen, cells := s.liveCells, base := s.seed.seq }
  let t := (t.setF Pg.seed R.SEED_STATUS_JOURNALLING).clrF Pg.seed R.SEED_STATUS_COMPACTING
  ((t.setBank 0 []).setBank 1 []).modSeed fun x => { x with buf := [], commit := none, again := false, recompact := false }

/-! ### Commands, warnings, adaptation -/

/-- The effect of a write to page 0x006 (R481, R482, R486, R487). -/
def wrSeed (s : State) (off : Nat) (v : Word) : State :=
  if off = R.SEED_CMD.off then
    let x := v.toNat
    let t := s.when (bitOf x 3) fun t => (t.cntClear Pg.bringUp).cntClear Pg.seed
    if x % 8 = 0 then t
    else if t.on Pg.seed R.SEED_STATUS_FROZEN then t.event Pg.seed E.P006_SEED_REFUSED
    else
      let t := t.when (bitOf x 0 && (!t.seed.buf.isEmpty || t.seed.commit.isSome)) fun t => t.startCommit false
      let t := t.when (bitOf x 1) compactStart
      t.when (bitOf x 2) adopt
  else s.storeWrite Pg.seed off v

/-- The power-fail warning reaches the store (R486): it commits everything buffered, and then freezes. DEDUCED, log
entry 63. -/
def warnStore (s : State) : State := s.startCommit true

/-- The warning ends (R486): the store thaws, commits what is buffered, and takes up what waited for it. -/
def thawStore (s : State) : State :=
  if s.on Pg.seed R.SEED_STATUS_FROZEN then
    let t := (s.clrF Pg.seed R.SEED_STATUS_FROZEN).event Pg.seed E.P006_THAWED
    let t := t.when (!t.seed.buf.isEmpty) fun t => t.startCommit false
    (t.when t.seed.recompact compactStart).dlogFlush
  else s

/-- A value that hardware has adapted is recorded, at most once in ADAPT_S (R480); the DFE taps move within their bounds
(R72). -/
def adaptRecord (s : State) (p off : Nat) (v : Word) : State :=
  let k := regKey p off
  let dfe := isLane p && (off == R.DFE_A.off || off == R.DFE_B.off || off == R.DFE_C.off)
    && s.ready p && s.on p R.LANE_CFG_EQ_ADAPT
  let first := s.get p (if off = R.DFE_A.off then R.EQ_BOUNDS_DFE1_MAX else R.EQ_BOUNDS2_DFE_REST_MAX)
  let t := s.when dfe fun t =>
    t.wrAdapt p off (BitVec.ofNat 32 (tapsClamp first (s.get p R.EQ_BOUNDS2_DFE_REST_MAX) v.toNat))
  let last := (t.seed.adapted.find? fun e => e.1 == k).map (·.2)
  let wait := Nat.max 1 (t.get Pg.seed R.SEED_CFG_ADAPT_S) * 1000000000
  let t := t.when (t.seed.dirty.contains k && last.all fun at_ => decide (at_ + wait ≤ s.ns)) fun t =>
    (t.journal k (t.rd p off)).modSeed fun x =>
      { x with adapted := (k, s.ns) :: x.adapted.filter (fun e => e.1 != k), dirty := x.dirty.filter (· != k) }
  if isLane p then t.laneKeepEq (p - 0x040) else t

/-! ### A reset that reaches AON (R474, R476, R623) -/

/-- The store's part of a reset: what was not committed is lost, the active image and bank are chosen, and without a valid
image the banks are erased. -/
def seedReset (s : State) (norestore : Bool) : State :=
  let both := s.seed.imgA.valid && s.seed.imgB.valid
  let useB := s.seed.imgB.valid && (!both || decide (s.seed.imgA.gen < s.seed.imgB.gen))
  let none_ := !s.seed.imgA.valid && !s.seed.imgB.valid
  let t := s.when (none_ && !norestore) fun t => (t.setBank 0 []).setBank 1 []
  let last (n : Nat) := (t.bank n).getLast?.map (·.seq)
  let active := match last 0, last 1 with
    | some x, some y => if x < y then 1 else 0
    | none, some _ => 1
    | _, none => 0
  let seq := match last active with
    | some x => (x + 1) % 2 ^ 32
    | none => s.seed.seq
  let t := t.modSeed fun x =>
    { x with buf := [], commit := none, again := false, recompact := false, adapted := [], dirty := [], seq := seq,
             powerUpSeq := seq, readyAt := [] }
  let t := (t.putB Pg.seed R.SEED_STATUS_ACTIVE_IMAGE useB).put Pg.seed R.SEED_STATUS_ACTIVE_BANK active
  (t.putB Pg.seed R.SEED_STATUS_SUPPRESSED norestore).putB Pg.seed R.SEED_STATUS_JOURNALLING (!norestore)

/-- What the store reports as it becomes ready (R476, R483). -/
def seedReport (s : State) : State :=
  let none_ := s.activeImage.isNone && !s.noRestore
  let t := s.when none_ fun t => t.eventFault Pg.seed E.P006_IMAGE_INVALID K.IMAGE_INVALID 0
  let t := [0, 1].foldl (fun t n =>
    let lost := (t.bank n).length - (goodRecs (t.bank n)).length
    t.when (decide (0 < lost)) fun t =>
      (t.countN Pg.seed R.CNT_JOURNAL_REPLAY_DROPPED lost).eventFault Pg.seed E.P006_JOURNAL_TRUNCATED
        K.JOURNAL_TRUNCATED n) t
  t.compactTry

end State

/-- ADAPT_RECORD (R480). -/
def execAdaptRecord (p : BitVec 9) (w : BitVec 10) (v : Word) (s : State) : Host.Outcome State Fault Refusal :=
  finishAll (s.adaptRecord p.toNat (4 * w.toNat) v)

/-- COMMIT_TIMER (R481). -/
def execCommitTimer (s : State) : Host.Outcome State Fault Refusal :=
  finishAll (s.when (s.seed.commit.isNone && !s.seed.buf.isEmpty) fun t => t.startCommit false)

/-- COMMIT (R481, R486). -/
def execCommit (a : Agent) (s : State) : Host.Outcome State Fault Refusal :=
  finishAll (s.poke a Pg.seed R.SEED_CMD.off 1 State.wrSeed)

/-- COMPACT (R482): by SEED_CMD; the bank that reaches COMPACT_AT starts one as its commit ends. -/
def execCompact (a : Agent) (s : State) : Host.Outcome State Fault Refusal :=
  finishAll (s.poke a Pg.seed R.SEED_CMD.off 2 State.wrSeed)

/-- COMPACT_DONE (R482). -/
def execCompactDone (s : State) : Host.Outcome State Fault Refusal := finishAll s.compactDone

/-- ADOPT (R479). -/
def execAdopt (a : Agent) (s : State) : Host.Outcome State Fault Refusal :=
  finishAll (s.poke a Pg.seed R.SEED_CMD.off 4 State.wrSeed)

end Sys2Proof.Machine
end

