-- ==== Sys2Proof/Machine/Power.lean ====
section
/-! DEFINITION. Power entry (R434 to R457): the inlet controller, the branch fuses, the meters, the power-fail warning. -/

namespace Sys2Proof.Machine

open Sys2Proof (Word Byte Agent Code AccessKind Instr LaneId LinkId EngineId LossCause FuseCause)

/-- The number that LAST_OFF_CAUSE shows (R446). -/
def lossCode : LossCause → Nat
  | .under => 4 | .over => 5 | .reverse => 6

/-- The number that a fuse's LAST_OFF_CAUSE shows (page 0x021). -/
def fuseCode : FuseCause → Nat
  | .timer => 1 | .fastTrip => 2 | .rampTimeout => 3

/-- The relations of R439 between the effective levels, 0.1 V: OV_OFF at least UV_ON + 1.0 V, PFW_LEVEL above and OUT_LOW
below UV_ON − UV_HYST. DEDUCED, log entry 64. -/
def levelsFit (window levels : Nat) : Bool :=
  let uv := clamp 70 580 (bitsOf window 0 10)
  let hyst := clamp 1 15 (bitsOf window 10 4)
  let ov := clamp 100 640 (bitsOf window 16 10)
  let pfw := clamp 70 580 (bitsOf levels 0 10)
  let low := clamp 70 580 (bitsOf levels 16 10)
  decide (uv + 10 ≤ ov) && decide (uv - hyst < pfw) && decide (low < uv - hyst)

namespace State

/-- Change what power entry holds beside its pages. -/
def modPower (s : State) (f : Power → Power) : State := { s with power := f s.power }

/-- HS_STATUS.STATE: 0 RESET, 1 COOLDOWN, 2 INSERT, 3 RAMP, 4 PG_QUAL, 5 ON, 6 HOLD, 7 LATCHED. -/
def hsState (s : State) : Nat := s.get Pg.inlet R.HS_STATUS_STATE

/-- PGOOD is released. -/
def pgood (s : State) : Bool := s.on Pg.inlet R.HS_STATUS_PGOOD

/-- The gate of the inlet FET is driven on. -/
def hsGate (s : State) : Bool := s.hsState == 3 || s.hsState == 4 || s.hsState == 5

/-- What the inlet drives: the gate (1) and PGOOD (2), where it changes. -/
def hsDrive (s old : State) : State :=
  let x (t : State) : Nat := b2n t.hsGate + 2 * b2n t.pgood
  s.when (x s != x old) fun t => t.emit (.level Pg.inlet (x s))

/-! ### Branch fuses (R450 to R453) -/

/-- FUSE_STATUS.STATE: 0 off, 1 cooling, 2 ramp, 3 on, 4 latched. -/
def fuseState (s : State) (b : Nat) : Nat := s.get Pg.fuses (R.FUSE_STATUS_STATE b)

/-- A fuse enters a state; its outputs and inputs follow (R342). -/
def fuseTo (s : State) (b st : Nat) : State :=
  let gate (x : Nat) : Bool := x == 2 || x == 3
  let t := (s.put Pg.fuses (R.FUSE_STATUS_STATE b) st).putB Pg.fuses (R.FUSE_STATUS_POWER_GOOD b) (st == 3)
  let t := t.when (gate st != gate (s.fuseState b)) fun t => t.emit (.level (16 * Pg.fuses + b) (b2n (gate st)))
  t.branchChanged b

/-- A fuse that is ramping or on turns off. -/
def fuseOff (s : State) (b st cause : Nat) : State :=
  if s.fuseState b = 2 ∨ s.fuseState b = 3 then
    let t := (s.clrF Pg.fuses (R.FUSE_STATUS_IN_LIMIT b)).clrF Pg.fuses (R.FUSE_STATUS_TIMER_RUN b)
    (t.put Pg.fuses (R.FUSE_STATUS_LAST_OFF_CAUSE b) cause).fuseTo b st
  else s

/-- Every fuse turns off without a fault (R452). -/
def fusesOff (s : State) (cause : Nat) : State := (List.range 8).foldl (fun t b => t.fuseOff b 0 cause) s

/-- A latch follows a fault (R444): RETRY_MODE 0, or 1 and 3 with RETRY_COUNT at RETRY_MAX. -/
def latches (mode max count : Nat) : Bool := mode == 0 || (mode != 2 && decide (Nat.max 1 max ≤ count))

/-- A fuse fault (R451). -/
def fuseFault (s : State) (b : Nat) (cause : FuseCause) : State :=
  let p := Pg.fuses
  let st := s.fuseState b
  let holds := match cause with
    | .timer => (st == 2 || st == 3) && s.on p (R.FUSE_STATUS_TIMER_RUN b)
    | .fastTrip => st == 2 || st == 3
    | .rampTimeout => st == 2
  if holds then
    let n := Nat.min 15 (s.get p (R.FUSE_STATUS_RETRY_COUNT b) + 1)
    let latch := latches (s.get p (R.FUSE_CFG_RETRY_MODE b)) (s.get p (R.FUSE_CFG_RETRY_MAX b)) n
    let t := (s.fuseOff b (if latch then 4 else 1) (fuseCode cause)).put p (R.FUSE_STATUS_RETRY_COUNT b) n
    let t := (t.count p (R.FUSE_CNT_FAULTS b)).when (cause == .fastTrip) fun t => t.count p (R.FUSE_CNT_FAST b)
    let t := t.eventFault p E.P021_FUSE_TRIP K.FUSE_TRIP b
    t.when latch fun t => (t.setF p ⟨R.FUSE_FAULT.off, b, 1⟩).eventFault p E.P021_FUSE_LATCHED K.FUSE_LATCHED b
  else s

/-- The start conditions of a fuse (R450). -/
def fuseMayStart (s : State) (b : Nat) : Bool :=
  s.on Pg.fuses (R.FUSE_CFG_EN b) && s.pgood && s.power.fsupMet && s.fuseState b == 0

/-- A fuse starts: alone, and the lowest that may (R450). -/
def fuseStart (s : State) (b : Nat) : State :=
  let ramping := (List.range 8).any fun j => s.fuseState j == 2
  if !ramping && s.fuseMayStart b && (List.range b).all fun j => !s.fuseMayStart j then s.fuseTo b 2 else s

/-- A write of 1 to a bit of FUSE_FAULT (R453). DEDUCED, log entry 64. -/
def fuseClear (s : State) (b : Nat) : State :=
  if !s.on Pg.fuses ⟨R.FUSE_FAULT.off, b, 1⟩ then s
  else if s.power.fsupMet then
    ((s.clrF Pg.fuses ⟨R.FUSE_FAULT.off, b, 1⟩).fuseTo b 0).sourceCleared Pg.fuses K.FUSE_LATCHED b
  else s.event Pg.fuses E.P021_CLEAR_REFUSED

/-- FSUP enters or leaves its window (R450, R452). -/
def fsupChange (s : State) (met : Bool) : State :=
  let t := s.modPower fun x => { x with fsupMet := met }
  t.when (s.power.fsupMet && !met) fun t => (t.fusesOff 4).eventFault Pg.fuses E.P021_FSUP_FAULT K.FSUP_FAULT 0

/-! ### The inlet controller (R438 to R447) -/

/-- The inlet enters a state. -/
def hsTo (s : State) (st : Nat) : State := s.put Pg.inlet R.HS_STATUS_STATE st

/-- The gate turns off, with its cause (R446). DEDUCED, log entry 64. -/
def gateOff (s : State) (cause : Nat) : State :=
  let t := (s.clrF Pg.inlet R.HS_STATUS_IN_LIMIT).clrF Pg.inlet R.HS_STATUS_TIMER_RUN
  t.when s.hsGate fun t => t.put Pg.inlet R.HS_STATUS_LAST_OFF_CAUSE cause

/-- PGOOD falls, and every fuse turns off with it (R452). -/
def pgoodFall (s : State) : State := s.when s.pgood fun t => (t.clrF Pg.inlet R.HS_STATUS_PGOOD).fusesOff 6

/-- An inlet fault (R443, R444). -/
def inletFault (s : State) (cause : Nat) : State :=
  let p := Pg.inlet
  let n := Nat.min 15 (s.get p R.HS_STATUS_RETRY_COUNT + 1)
  let latch := latches (s.get p R.HS_RETRY_RETRY_MODE) (s.get p R.HS_RETRY_RETRY_MAX) n
  let t := (((s.gateOff cause).hsTo (if latch then 7 else 1)).put p R.HS_STATUS_RETRY_COUNT n).pgoodFall
  ((t.count p R.CNT_HS_FAULT).when (cause == 2) fun t => t.count p R.CNT_HS_FAST).hsDrive s

/-- The window is lost, or current flows back (R438). -/
def windowLost (s : State) (cause : LossCause) : State :=
  let t := s.when (cause != .reverse) fun t => t.clrF Pg.inlet R.HS_STATUS_WINDOW_MET
  if !s.hsGate then t
  else if s.pgood then
    let t := ((t.gateOff (lossCode cause)).hsTo 6).count Pg.inlet R.CNT_HS2_HOLD
    (t.event Pg.inlet E.P020_HOLD_ENTERED).hsDrive s
  else ((t.gateOff (lossCode cause)).hsTo 2).hsDrive s

/-- A valid HS_CYCLE write (R438, R447). -/
def hsCycle (s : State) : State :=
  if s.hsState = 0 ∨ s.hsState = 7 then s
  else
    let t := ((s.gateOff 7).hsTo 2).pgoodFall
    (t.modPower fun x => { x with holdOff := true }).hsDrive s

/-- HS_OUT is good in RAMP (R438). -/
def hsOutGood (s : State) : State := if s.hsState = 3 then s.hsTo (if s.pgood then 5 else 4) else s

/-- The PG count reaches PG_MS: PGOOD is released (R441). -/
def pgDone (s : State) : State :=
  if s.hsState = 4 ∧ s.on Pg.inlet R.HS_STATUS_IN_LIMIT = false ∧ s.on Pg.inlet R.HS_STATUS_TIMER_RUN = false then
    ((s.hsTo 5).setF Pg.inlet R.HS_STATUS_PGOOD).hsDrive s
  else s

/-! ### The power-fail warning (R448, R486) -/

/-- HS_VIN has crossed PFW_LEVEL: the warning reaches the store over the die-to-die link. -/
def pfwBegin (s : State) : State :=
  if s.on Pg.inlet R.HS_STATUS_PFW_ACTIVE then s
  else
    let t := ((s.setF Pg.inlet R.HS_STATUS_PFW_ACTIVE).event Pg.inlet E.P020_PFW).count Pg.inlet R.CNT_HS2_WARNINGS
    t.when s.die.up warnStore

/-- The warning ends. -/
def pfwEnd (s : State) (lowest : Nat) : State :=
  if s.on Pg.inlet R.HS_STATUS_PFW_ACTIVE then
    let t := (s.clrF Pg.inlet R.HS_STATUS_PFW_ACTIVE).event Pg.inlet E.P020_PFW_END
    (t.wr Pg.inlet R.VIN_DIP_MIN.off (BitVec.ofNat 32 (2 ^ 31 + lowest % 2 ^ 16))).thawStore
  else s

/-! ### Meters (R454 to R457) -/

/-- A current in mA from a sense voltage in µV and a resistance in µΩ; through no resistance, the spec states none. -/
def meterCurrent (s : State) (uv : Int) (uohm : Nat) : Int :=
  if uohm = 0 then signedOf 32 s.freeWord.toNat else roundFree (uv * 1000) uohm

/-- A product of mV and mA in mW. -/
def meterPower (mv ma : Int) : Int := roundFree (mv * ma) 1000

/-- A sample of a channel: MTR_LAST, its extremes, the averaging block. -/
def meterChannel (s : State) (c : Nat) (v : Int) : State :=
  let p := Pg.meters
  let w : Word := BitVec.ofNat 32 (ofSigned 32 v)
  let now (f : Fld) : Int := signedOf 32 (s.get p f)
  let t := s.wr p (R.MTR_LAST c).off w
  let t := t.when (v < now (R.MTR_MIN c)) fun t => t.wr p (R.MTR_MIN c).off w
  let t := t.when (now (R.MTR_MAX c) < v) fun t => t.wr p (R.MTR_MAX c).off w
  t.modPower fun x => { x with sums := x.sums.setIfInBounds c (x.sums.getD c 0 + v) }

/-- The energy of accumulator `a` in mJ: 48 bits, of which the high ones count behind the latched register. -/
def energy (s : State) (a : Nat) : Nat :=
  (s.rd Pg.meters (R.ENERGY_LO a).off).toNat + 2 ^ 32 * ((s.rd (Pg.liveHigh Pg.meters) (R.ENERGY_HI a).off).toNat % 2 ^ 16)

/-- Set the energy of an accumulator. -/
def setEnergy (s : State) (a x : Nat) : State :=
  (s.wr Pg.meters (R.ENERGY_LO a).off (BitVec.ofNat 32 x)).wr (Pg.liveHigh Pg.meters) (R.ENERGY_HI a).off
    (BitVec.ofNat 32 (x / 2 ^ 32 % 2 ^ 16))

/-- A power sample adds its energy over 10 µs, where it is positive (R457). -/
def energyAdd (s : State) (a : Nat) (mw : Int) : State :=
  if mw ≤ 0 then s
  else
    let total := s.power.frac.getD a 0 + mw.toNat
    let x := s.energy a + total / 100000
    let t := (s.setEnergy a (x % 2 ^ 48)).modPower fun y => { y with frac := y.frac.setIfInBounds a (total % 100000) }
    t.when (2 ^ 48 ≤ x) fun t => t.event Pg.meters E.P022_ENERGY_WRAP

/-- The samples of 10 µs (R454): HS_VIN, HS_OUT and FSUP in mV, the sense voltages of the inlet and of the branches
in µV. DESIGN CHOICE, log entry 83. -/
def meterSample (s : State) (vin vout inlet fsup : Int) (branch : List Int) : State :=
  let ma := s.meterCurrent inlet (Nat.max 100 (s.get Pg.inlet R.SENSE_UOHM % 2 ^ 16))
  let mw := meterPower vout ma
  let t := [(0, vin), (1, vout), (2, ma), (3, mw), (4, fsup)].foldl (fun t e => t.meterChannel e.1 e.2) s
  let t := t.energyAdd 0 mw
  let t := (List.range 8).foldl (fun t b =>
    let i := s.meterCurrent (branch.getD b 0) (s.get Pg.fuses (R.FUSE_SENSE b) % 2 ^ 16)
    let w := meterPower fsup i
    ((t.meterChannel (5 + b) i).meterChannel (13 + b) w).energyAdd (1 + b) w) t
  t.draw.modPower fun x => { x with count := x.count + 1 }

/-- The end of an averaging block (R456): the mean of its samples. DEDUCED, log entry 65. -/
def meterBlock (s : State) : State :=
  if s.power.count = 0 then s
  else
    let t := (List.range 21).foldl (fun t c =>
      t.wr Pg.meters (R.MTR_AVG c).off
        (BitVec.ofNat 32 (ofSigned 32 (roundFree (s.power.sums.getD c 0) s.power.count)))) s
    t.modPower fun x => { x with sums := Vector.replicate 21 0, count := 0 }

/-- MTR_CMD.ENERGY_CLEAR (R457). -/
def energyClear (s : State) (mask : Nat) : State :=
  (List.range 9).foldl (fun t a =>
    if bitOf mask a then (t.setEnergy a 0).modPower fun y => { y with frac := y.frac.setIfInBounds a 0 } else t) s

/-! ### Writes -/

/-- The effect of a write to a page of power entry. -/
def wrPower (p : Nat) (s : State) (off : Nat) (v : Word) : State :=
  let x := v.toNat
  if p = Pg.inlet ∧ (off = R.HS_WINDOW.off ∨ off = R.HS_LEVELS.off) then
    let other (o : Nat) : Nat := if o = off then x else (s.rd p o).toNat
    if levelsFit (other R.HS_WINDOW.off) (other R.HS_LEVELS.off) then s.storeWrite p off v
    else s.event p E.P020_WINDOW_REFUSED
  else if p = Pg.inlet ∧ off = R.HS_CYCLE.off then s.when (x % 2 ^ 16 == 0x0C1C) hsCycle
  else if p = Pg.inlet ∧ off = R.HS_CMD.off then s.when (bitOf x 0) fun t => t.cntClear p
  else if p = Pg.fuses ∧ off = R.FUSE_FAULT.off then
    (List.range 8).foldl (fun t b => if bitOf x b then t.fuseClear b else t) s
  else if p = Pg.fuses ∧ off = R.FUSE_CMD.off then s.when (bitOf x 0) fun t => t.cntClear p
  else if p = Pg.fuses ∧ off < R.FUSE_GLOBAL.off ∧ off % 16 = 0 then
    let b := (off - 0x40) / 16
    let t := s.storeWrite p off v
    t.when (!t.on p (R.FUSE_CFG_EN b)) fun t => t.fuseOff b 0 5
  else if p = Pg.meters ∧ off = R.MTR_CMD.off then s.energyClear x
  else s.storeWrite p off v

/-! ### The power and field die's own reset (R434, R435, R445) -/

/-- Every register of the die's pages, and what its blocks hold, as after its reset. DEDUCED, log entry 64. -/
def dieWipe (s : State) : State :=
  let keep (k : Nat) : Bool :=
    let p := k / 0x1000000
    !((0x020 ≤ p && p ≤ 0x027) || p == Pg.liveHigh Pg.meters)
  { s with regs := s.regs.filter fun e => keep e.1, field := {}, power := { s.power with
      dieUp := false, holdOff := false, fsupMet := false, frac := Vector.replicate 9 0, sums := Vector.replicate 21 0,
      count := 0 } }

/-- The die enters reset: gates off, PGOOD low, registers at Factory; it forgets that it watched the keep-alive (R7). -/
def dieResetEntry (s : State) : State :=
  if s.power.dieUp then
    let t := ((List.range 8).foldl (fun t b => t.fuseOff b 0 0) s).dieWipe
    ({ t with die := { t.die with up := false, retraining := false, watch := false, lost := false } }.hsDrive s).safeRefresh
  else s

/-- The die leaves reset (R445): it measures CRETRY and takes the straps. -/
def dieResetExit (s : State) (cretry : Nat) : State :=
  if s.power.dieUp then s
  else
    let p := Pg.inlet
    let t := s.dieWipe.modPower fun x => { x with dieUp := true, pfdNew := true }
    let t := (t.put p R.HS_START_CRETRY cretry).putB p R.HS_START_COOLDOWN_AT_START (decide (200 < cretry))
    (t.put p R.HS_STATUS_HS_RANGE Config.hsRange).hsTo (if 200 < cretry then 1 else 2)

/-- What happens on the power and field die happens while it is out of reset. DESIGN CHOICE, log entry 9. -/
def onDie (s : State) (f : State → State) : State := s.when s.power.dieUp f

end State

/-- POWER_DIE_RESET_EXIT (R434, R445). -/
def execPowerDieResetExit (cretry : BitVec 12) (s : State) : Host.Outcome State Fault Refusal :=
  finishAll (s.dieResetExit cretry.toNat)

/-- POWER_DIE_RESET_ENTRY (R434). -/
def execPowerDieResetEntry (s : State) : Host.Outcome State Fault Refusal := finishAll s.dieResetEntry

/-- INLET_WINDOW_MET (R438). -/
def execInletWindowMet (s : State) : Host.Outcome State Fault Refusal :=
  finishAll (s.onDie fun t => t.setF Pg.inlet R.HS_STATUS_WINDOW_MET)

/-- INSERT_DELAY_EXPIRY (R438). -/
def execInsertDelayExpiry (s : State) : Host.Outcome State Fault Refusal :=
  finishAll <| s.onDie fun t =>
    if t.hsState = 2 ∧ t.on Pg.inlet R.HS_STATUS_WINDOW_MET ∧ t.power.holdOff = false then (t.hsTo 3).hsDrive t else t

/-- HS_OUT_GOOD (R438). -/
def execHsOutGood (s : State) : Host.Outcome State Fault Refusal := finishAll (s.onDie State.hsOutGood)

/-- RAMP_TIMEOUT (R438). -/
def execRampTimeout (s : State) : Host.Outcome State Fault Refusal :=
  finishAll (s.onDie fun t => if t.hsState = 3 then t.inletFault 3 else t)

/-- PG_COUNT_DONE (R441). -/
def execPgCountDone (s : State) : Host.Outcome State Fault Refusal := finishAll (s.onDie State.pgDone)

/-- FAULT_TIMER_EXPIRY (R440). -/
def execFaultTimerExpiry (s : State) : Host.Outcome State Fault Refusal :=
  finishAll (s.onDie fun t => if t.hsGate && t.on Pg.inlet R.HS_STATUS_TIMER_RUN then t.inletFault 1 else t)

/-- FAST_TRIP (R440). -/
def execFastTrip (s : State) : Host.Outcome State Fault Refusal :=
  finishAll (s.onDie fun t => if t.hsGate then t.inletFault 2 else t)

/-- WINDOW_LOST (R438). -/
def execWindowLost (cause : LossCause) (s : State) : Host.Outcome State Fault Refusal :=
  finishAll (s.onDie fun t => t.windowLost cause)

/-- HOLD_RECOVER (R438). -/
def execHoldRecover (s : State) : Host.Outcome State Fault Refusal :=
  finishAll <| s.onDie fun t =>
    if t.hsState = 6 then ((t.setF Pg.inlet R.HS_STATUS_WINDOW_MET).hsTo 3).hsDrive t else t

/-- HOLD_OUT_LOW (R438). -/
def execHoldOutLow (s : State) : Host.Outcome State Fault Refusal :=
  finishAll (s.onDie fun t => if t.hsState = 6 then ((t.hsTo 2).pgoodFall).hsDrive t else t)

/-- COOLDOWN_END (R443). -/
def execCooldownEnd (s : State) : Host.Outcome State Fault Refusal :=
  finishAll (s.onDie fun t => if t.hsState = 1 then t.hsTo 2 else t)

/-- RETRY_COUNT_RESET (R444, R451): of the inlet, or of a fuse. -/
def execRetryCountReset (b : Option (Fin 8)) (s : State) : Host.Outcome State Fault Refusal :=
  finishAll <| s.onDie fun t =>
    match b with
    | none => t.when t.pgood fun t => t.put Pg.inlet R.HS_STATUS_RETRY_COUNT 0
    | some b => t.when (t.fuseState b == 3) fun t => t.put Pg.fuses (R.FUSE_STATUS_RETRY_COUNT b) 0

/-- HS_CYCLE (R447). -/
def execHsCycle (a : Agent) (v : Word) (s : State) : Host.Outcome State Fault Refusal :=
  finishAll (s.poke a Pg.inlet R.HS_CYCLE.off v (State.wrPower Pg.inlet))

/-- HS_CYCLE_OFF_EXPIRY (R447). -/
def execHsCycleOffExpiry (s : State) : Host.Outcome State Fault Refusal :=
  finishAll (s.onDie fun t => t.modPower fun x => { x with holdOff := false })

/-- HS_WINDOW_WRITE (R439): of HS_WINDOW, or of HS_LEVELS. -/
def execHsWindowWrite (a : Agent) (levels : Bool) (v : Word) (s : State) : Host.Outcome State Fault Refusal :=
  finishAll (s.poke a Pg.inlet (if levels then R.HS_LEVELS.off else R.HS_WINDOW.off) v (State.wrPower Pg.inlet))

/-- CURRENT_LIMIT_ENTRY (R440, R451): the sense voltage of the inlet or of a fuse reaches its limit, or falls below it. -/
def execCurrentLimitEntry (which : Option (Fin 8)) (limited : Bool) (s : State) : Host.Outcome State Fault Refusal :=
  finishAll <| s.onDie fun t =>
    match which with
    | none => t.when t.hsGate fun t =>
      (t.putB Pg.inlet R.HS_STATUS_IN_LIMIT limited).putB Pg.inlet R.HS_STATUS_TIMER_RUN limited
    | some b => t.when (t.fuseState b == 2 || t.fuseState b == 3) fun t =>
      (t.putB Pg.fuses (R.FUSE_STATUS_IN_LIMIT b) limited).putB Pg.fuses (R.FUSE_STATUS_TIMER_RUN b) limited

/-- PFW (R448, R486). -/
def execPfw (s : State) : Host.Outcome State Fault Refusal := finishAll (s.onDie State.pfwBegin)

/-- PFW_END (R448, R486). -/
def execPfwEnd (lowest : BitVec 16) (s : State) : Host.Outcome State Fault Refusal :=
  finishAll (s.onDie fun t => t.pfwEnd lowest.toNat)

/-- FUSE_START (R450). -/
def execFuseStart (b : Fin 8) (s : State) : Host.Outcome State Fault Refusal := finishAll (s.onDie fun t => t.fuseStart b)

/-- FUSE_POWER_GOOD (R450). -/
def execFusePowerGood (b : Fin 8) (s : State) : Host.Outcome State Fault Refusal :=
  finishAll <| s.onDie fun t =>
    if t.fuseState b = 2 ∧ t.on Pg.fuses (R.FUSE_STATUS_IN_LIMIT b) = false
        ∧ t.on Pg.fuses (R.FUSE_STATUS_TIMER_RUN b) = false then t.fuseTo b 3
    else t

/-- FUSE_FAULT (R451). -/
def execFuseFault (b : Fin 8) (cause : FuseCause) (s : State) : Host.Outcome State Fault Refusal :=
  finishAll (s.onDie fun t => t.fuseFault b cause)

/-- FUSE_COOL_EXPIRY (R451). -/
def execFuseCoolExpiry (b : Fin 8) (s : State) : Host.Outcome State Fault Refusal :=
  finishAll (s.onDie fun t => if t.fuseState b = 1 then (t.fuseTo b 0).fuseStart b else t)

/-- FSUP_WINDOW_CHANGE (R450, R452). -/
def execFsupWindowChange (met : Bool) (s : State) : Host.Outcome State Fault Refusal :=
  finishAll (s.onDie fun t => t.fsupChange met)

/-- FUSE_FAULT_CLEAR (R453). -/
def execFuseFaultClear (a : Agent) (b : Fin 8) (s : State) : Host.Outcome State Fault Refusal :=
  finishAll (s.poke a Pg.fuses R.FUSE_FAULT.off (BitVec.ofNat 32 (2 ^ b.val)) (State.wrPower Pg.fuses))

/-- METER_SAMPLE (R454 to R457). -/
def execMeterSample (vin vout inlet fsup : Word) (branch : List Word) (s : State) : Host.Outcome State Fault Refusal :=
  let i (w : Word) : Int := signedOf 32 w.toNat
  finishAll (s.onDie fun t => t.meterSample (i vin) (i vout) (i inlet) (i fsup) (branch.map i))

/-- METER_AVG_BLOCK (R456). -/
def execMeterAvgBlock (s : State) : Host.Outcome State Fault Refusal := finishAll (s.onDie State.meterBlock)

/-- ENERGY_CLEAR (R457). -/
def execEnergyClear (a : Agent) (mask : BitVec 9) (s : State) : Host.Outcome State Fault Refusal :=
  finishAll (s.poke a Pg.meters R.MTR_CMD.off (BitVec.ofNat 32 mask.toNat) (State.wrPower Pg.meters))

/-- PD_HOT (R463): PD_TEMP takes the die temperature; above 140 °C it is a fault. -/
def execPdHot (temp : BitVec 11) (s : State) : Host.Outcome State Fault Refusal :=
  finishAll <| s.onDie fun t =>
    (t.put Pg.rails ⟨R.PD_TEMP.off, 0, 11⟩ temp.toNat).when (280 < signedOf 11 temp.toNat) fun t =>
      t.eventFault Pg.rails E.P023_PD_HOT K.PD_HOT 0

end Sys2Proof.Machine
end

