-- ==== Sys2Proof/Machine/Thresher.lean ====
section
/-! DEFINITION. The Thresher (R489 to R513): batches, first fault, log, reactions, clearing. -/

namespace Sys2Proof.Machine

open Sys2Proof (Word Byte Agent Code AccessKind Instr LaneId LinkId EngineId)

/-- The 64 bits of a fault message (R489). -/
def FaultMsg.bits (m : FaultMsg) : Nat :=
  m.page % 2 ^ 12 + m.kind % 2 ^ 8 * 2 ^ 12 + m.sev % 2 ^ 3 * 2 ^ 20 + m.tick % 2 ^ 9 * 2 ^ 23 + m.addr % 2 ^ 32 * 2 ^ 32

/-- The order of a batch (R492): severity down, then PAGE up, then KIND up. -/
def FaultMsg.before (a b : FaultMsg) : Bool :=
  decide (b.sev < a.sev) || (a.sev == b.sev && (decide (a.page < b.page) || (a.page == b.page && decide (a.kind ≤ b.kind))))

/-- Put a message into its place in a batch. -/
def placeMsg (m : FaultMsg) : List FaultMsg → List FaultMsg
  | [] => [m]
  | x :: t => if m.before x then m :: x :: t else x :: placeMsg m t

/-- The reaction bits that software may write, by severity (R498). -/
def reactMask (sev : Nat) : Nat :=
  match sev with
  | 0 | 1 => 0x21
  | 2 => 0x2F
  | 3 => 0x2E
  | 4 => 0x16
  | _ => 0x06

/-- BLOCK_STOP, SAFE_BANK or SAFE_HUB: a reaction that would be held (R507). -/
def holdsReaction (w : Nat) : Bool := bitOf w 1 || bitOf w 2 || bitOf w 3

namespace State

/-- Change the Thresher's own data. -/
def modThr (s : State) (f : Thresher → Thresher) : State := { s with thr := f s.thr }

/-! ### Causes (R496, R506) -/

/-- The motion interlock is active (R563). -/
def interlockActive (s : State) : Bool :=
  let src := s.get Pg.update R.UPD_INTERLOCK_SRC
  let level := s.on Pg.update R.UPD_INTERLOCK_LEVEL
  let i := s.get Pg.update R.UPD_INTERLOCK_INPUT
  let x := s.get Pg.update R.UPD_INTERLOCK_INDEX
  if src = 1 then s.finLevel i == level || s.finDown i
  else if src = 2 then bitOf ((s.mir x).value.getD 0 0).toNat 0 == level || s.validity x != 1
  else false

/-- The highest junction temperature, in 0.5 °C (R518). -/
def junction (s : State) : Int := s.sget Pg.ralusk R.JUNCTION_T_HIGHEST

/-- THERM_RATE_C as it acts (R524), in °C: an XI part runs it from 85 to 126, and 127 turns the rate step off; an XE part
runs it from 85 to 109. DESIGN CHOICE, log entry 1, DEDUCED, log entry 69. -/
def thermRate (s : State) : Option Nat :=
  let c := s.get Pg.ralusk R.THERM_CFG_THERM_RATE_C
  if Config.grade = 1 then (if 127 ≤ c then none else some (Nat.max 85 c)) else some (clamp 85 109 c)

/-- The top of the grade's junction range (R524), in 0.5 °C. DESIGN CHOICE, log entry 1. -/
def junctionMax : Int := if Config.grade = 1 then 230 else 250

/-- The lanes of a side run at 28.125 Gb/s. -/
def sideFast (s : State) (k : Nat) : Bool := (linkLanes k).any fun l => s.get (Pg.lane l) R.LANE_CFG_RATE == 0

/-- The cause of a fault persists: the column Persists while of the kind tables. -/
def causePersists (s : State) (page kind addr : Nat) : Bool :=
  match kind with
  | 0x02 => s.die.retraining
  | 0x03 => !s.die.up
  | 0x04 => !s.on Pg.bringUp R.BRINGUP_STATUS_AON_LOCKED
  | 0x05 | 0x06 => true
  | 0x11 => s.fuseState (addr % 8) == 1
  | 0x12 => bitOf (s.rd Pg.fuses R.FUSE_FAULT.off).toNat (addr % 8)
  | 0x13 => !s.power.fsupMet
  | 0x14 => s.power.dipped.contains addr
  | 0x15 => decide (260 < signedOf 11 (s.get Pg.rails ⟨R.PD_TEMP.off, 0, 11⟩))
  | 0x20 | 0x21 => s.finDown (addr % 64)
  | 0x22 => (List.range 8).any fun i => s.on Pg.fin (R.FIN_STAT_GROUP_OFF (8 * (addr % 8) + i)) && s.finDown (8 * (addr % 8) + i)
  | 0x23 | 0x24 | 0x25 => s.outLatched (addr % 32)
  | 0x30 => s.activeImage.isNone
  | 0x33 => s.on Pg.seed R.SEED_STATUS_RESYNC
  | 0x41 | 0x42 | 0x43 => s.laneSt (page - 0x040) != 5
  | 0x50 | 0x51 => s.linkSt (page - 0x058) != 3
  | 0x52 => s.on page R.LINK_STATUS_DIST_LIMIT
  | 0x53 => s.linkSt (page - 0x058) == 3 && !s.on page R.LINK_STATUS_RETRY_ACTIVE && (s.link (page - 0x058)).retryEn
  | 0x55 => s.on page R.STITCH_STATUS_PEER_MISMATCH
  | 0x60 => s.ring.conflicts.contains addr
  | 0x61 => s.on Pg.redun R.REDUN_STATUS_B_EXCLUDED
  | 0x62 => s.ringState == 5
  | 0x64 => s.ring.mismatch
  | 0x66 => if addr = 0 then s.on Pg.redun R.REDUN_STATUS_WRAP_POINT_A || s.on Pg.redun R.REDUN_STATUS_WRAP_END_A
      else s.on Pg.redun R.REDUN_STATUS_WRAP_POINT_B || s.on Pg.redun R.REDUN_STATUS_WRAP_END_B
  | 0x70 => s.thr.sliceFail.contains addr
  | 0x80 => s.sig.conflictAt.any fun at_ => decide (s.ns < at_ + 1000000)
  | 0xA0 => !s.on (Pg.bank (addr % 8)) R.BANK_STATUS_VIO_OK
  | 0xA2 => !s.on page R.BANK_STATUS_CLK80_LOCK
  | 0xA9 => decide (2 ≤ s.get (Pg.mode (page - 0x100) 6) R.CAN_STATUS_STATE)
  | 0xB0 => !s.timeValid
  | 0xB2 => s.on Pg.prime R.EXT_CFG_EXT_EN && !s.on Pg.prime R.EXT_STATUS_PPS_OK
  | 0xC0 => !s.dlActive
  | 0xC2 => s.on Pg.usbHub (R.HUBPORT_STATUS_OVERCURRENT addr)
  | 0xD1 => s.raluskState == 3
  | 0xD4 => s.sideFast addr && s.thermRate.any fun c => decide ((2 * c : Int) ≤ s.junction)
  | 0xD5 => decide (junctionMax < s.junction)
  | 0xD8 => (List.range 32).any fun n => s.rd Pg.digest (R.MISMATCH n).off != 0
  | 0xDB => s.staged.any fun e => keyPage e.1 == addr
  | 0xE5 => s.interlockActive
  | 0xEA => s.get Pg.security R.PASS_FAILS == 8
  | 0xEC => s.sec.jtag.isSome
  | 0xEE => s.sec.badRandom
  | _ => false

/-! ### BLOCK_STOP (R500) -/

/-- ENABLE of a page falls to 0, as a write of 0 lets it fall. -/
def stopPage (s : State) (p : Nat) : State :=
  if !(s.pageOn p && s.on p R.PAGE_CTRL_ENABLE) then s
  else if isEngine p then s.engineDisable (p - 0x100)
  else if 0x058 ≤ p ∧ p ≤ 0x05E then s.linkDisable (p - 0x058)
  else
    let t := s.putKept p R.PAGE_CTRL_ENABLE 0
    if p = Pg.time then t.timeSync
    else if p = Pg.usb then t.pullSync
    else if p = Pg.pcie then if t.dlActive then t.pcieReset .linkDown else t
    else t

/-- BLOCK_STOP begins to hold a page; for a bank page, its 16 engine pages. DEDUCED, log entry 63. -/
def blockStop (s : State) (p : Nat) : State :=
  if 0x080 ≤ p ∧ p ≤ 0x087 then (List.range 16).foldl (fun t n => t.stopPage (Pg.engine (16 * (p - 0x080) + n))) s
  else s.stopPage p

/-- The engines of a page: up or down follows the faults they hold (R185). -/
def faultEngines (s : State) (p : Nat) : State := if isEngine p then s.engineSync (p - 0x100) else s

/-! ### Log (R504, R506) -/

/-- The detection time of a message (R493), and whether it is invalid. -/
def detectTime (s : State) (m : FaultMsg) : Nat × Bool :=
  if s.domainOn 1 && s.timeValid then ((s.now + 2 ^ 64 - 5 * ((s.aonTick + 512 - m.tick % 512) % 512)) % 2 ^ 64, false)
  else (0, true)

/-- Enter a message into the log, and buffer it for the store where PERSIST is 1. -/
def logFault (s : State) (m : FaultMsg) (react : Nat) (first : Bool) (pos : Nat) : State :=
  let d := s.detectTime m
  let seq := (s.rd Pg.tlog R.LOG_HEAD.off).toNat
  let w (n : Nat) : Word := BitVec.ofNat 32 n
  let e : ThrEntry :=
    { seq := seq, words := [w seq, w (react + b2n first * 2 ^ 8 + b2n m.injected * 2 ^ 9 + b2n d.2 * 2 ^ 10 + pos % 32 * 2 ^ 11),
                            w m.bits, w (m.bits / 2 ^ 32), w d.1, w (d.1 / 2 ^ 32), w s.uptime, 0] }
  let t := (s.modThr fun x => { x with log := (e :: x.log).take 256 }).wr Pg.tlog R.LOG_HEAD.off (w (logNext seq))
  let t := t.event Pg.tlog E.P013_LOGGED
  if !bitOf react 5 then t
  else if t.thr.persist.length < 16 then t.modThr fun x => { x with persist := x.persist ++ [e] }
  else (t.count Pg.tlog R.CNT_PERSIST_LOST).event Pg.tlog E.P013_PERSIST_LOST

/-- One buffered entry is written to the log area of the store (R506), unless the store is frozen. -/
def persistOne (s : State) : State :=
  match s.thr.persist with
  | [] => s
  | e :: l =>
    if !s.storeOpen then s
    else (s.modThr fun x => { x with persist := l, area := (e :: x.area).take 8192 }).count Pg.tlog R.CNT_PERSIST_ENTRIES

/-- A message takes the empty first-fault record (R497). -/
def takeFirst (s : State) (m : FaultMsg) (n : Nat) : State :=
  let p := Pg.thresher
  let d := s.detectTime m
  let w (n : Nat) : Word := BitVec.ofNat 32 n
  let t := ((s.wr p R.FF_MSG_LO.off (w m.bits)).wr p R.FF_MSG_HI.off (w (m.bits / 2 ^ 32))).wrTime p R.FF_TIME_LO.off
    R.FF_TIME_HI.off d.1
  let t := ((t.put p R.FF_INFO_MESSAGES n).putB p R.FF_INFO_TIME_INVALID d.2).putB p R.FF_INFO_INJECTED m.injected
  ((t.wr p R.FF_UPTIME.off (w s.uptime)).setF p R.THR_STATUS_FF_VALID).event p E.P010_FIRST_FAULT

/-! ### Latching (R494, R499, R507) -/

/-- Latch a message in entry `e` of the active table. -/
def latchAt (s : State) (e : Nat) (m : FaultMsg) (react : Nat) : State :=
  let w (n : Nat) : Word := BitVec.ofNat 32 n
  let o := 0x800 + 16 * e
  let t := (s.wr Pg.active o (w (m.page + m.kind * 2 ^ 12 + m.sev * 2 ^ 20 + react * 2 ^ 23 + 2 ^ 31))).wr Pg.active (o + 4)
    (w m.addr)
  (((t.wr Pg.active (o + 8) 0).wr Pg.active (o + 12) (w s.uptime)).event Pg.active E.P012_LATCHED)

/-- The oldest S2 entry whose stored reaction holds neither BLOCK_STOP nor a safe bit. DEDUCED, log entry 66. -/
def replaceable (s : State) : Option Nat :=
  (s.actUsed.filter fun n => s.actSev n == 2 && !holdsReaction (s.actReact n)).foldl
    (fun b n => match b with
      | none => some n
      | some x => if s.actW n 3 < s.actW x 3 then some n else some x) none

/-- The place of a fault that must be latched: an entry, or held without one; `none` where it is not latched. -/
def latchPlace (s : State) (m : FaultMsg) (react : Nat) : Option (Option Nat) :=
  match (List.range 128).find? fun n => !s.actValid n with
  | some n => some (some n)
  | none => if m.sev = 2 ∧ holdsReaction react = false then none else some s.replaceable

/-- Latch a fault and apply its reactions (R499 to R501, R507, R510). DEDUCED, log entry 66. -/
def latchFault (s : State) (m : FaultMsg) (react : Nat) : State :=
  match s.latchPlace m react with
  | none => s.count Pg.thresher R.CNT_SUPPRESS_REPEATS
  | some place =>
    let t := match place with
      | some n => s.latchAt n m react
      | none =>
        let h := (m.page, react)
        ((s.modThr fun x => { x with fullHeld := if x.fullHeld.contains h then x.fullHeld else x.fullHeld ++ [h] }).setF
          Pg.thresher R.THR_STATUS_FULL_HELD).event Pg.thresher E.P010_FULL_HELD
    let t := (t.when (bitOf react 1) fun t => t.blockStop m.page).faultEngines m.page
    let t := t.safeRefresh
    t.when (m.sev == 4 && bitOf react 4) fun t => (t.modThr fun x => { x with fatal := true }).startCommit false

/-- The page and kind are held: a further message is a repeat (R494). -/
def heldEntry (s : State) (m : FaultMsg) : Option Nat :=
  s.actUsed.find? fun n => s.actPage n == m.page && s.actKind n == m.kind

/-- An S0 or S1 message of this page and kind was logged within 1 ms (R495). DEDUCED, log entry 66. -/
def lately (s : State) (m : FaultMsg) : Bool :=
  s.thr.noted.any fun x => x.1 == m.page && x.2.1 == m.kind && decide (s.ns < x.2.2 + 1000000)

/-- One message of a batch of `n`, at position `pos`. DEDUCED, log entry 66. -/
def faultOne (s : State) (m : FaultMsg) (pos n : Nat) : State :=
  let s := s.count Pg.thresher R.CNT_MSG_RECEIVED
  match s.heldEntry m with
  | some e =>
    (s.wr Pg.active (0x808 + 16 * e) (BitVec.ofNat 32 (satAdd 16 (s.actW e 2 % 65536) 1))).count Pg.thresher
      R.CNT_SUPPRESS_REPEATS
  | none =>
    let react := (s.rd Pg.kindTable (4 * m.kind)).toNat % 64
    let log := bitOf react 0
    if m.sev < 2 ∧ log ∧ s.lately m then s.count Pg.thresher R.CNT_SUPPRESS_S01
    else
      let first := !s.on Pg.thresher R.THR_STATUS_FF_VALID && decide (Nat.min 5 (s.get Pg.thresher R.THR_CFG % 8) ≤ m.sev)
      let t := (s.when first fun t => t.takeFirst m n).when log fun t => t.logFault m react first pos
      if m.sev < 2 then
        t.when log fun t => t.modThr fun x =>
          { x with noted := (m.page, m.kind, s.ns) :: x.noted.filter fun y => !(y.1 == m.page && y.2.1 == m.kind) }
      else t.latchFault m react

/-! ### Batches (R491, R492) -/

/-- The messages that the islands deliver in one AON cycle: the head of each queue. -/
def batch (s : State) : List FaultMsg := (List.range 20).filterMap fun i => s.thr.queue.find? (·.island == i)

/-- The queues after they have delivered: a held message takes the entry that has freed. -/
def delivered (s : State) : State :=
  (List.range 20).foldl (fun t i =>
    if t.thr.queue.any (·.island == i) then
      let t := t.modThr fun x => { x with queue := x.queue.eraseP (·.island == i) }
      match t.thr.held.find? (·.island == i) with
      | some m => t.modThr fun x => { x with queue := x.queue ++ [m], held := x.held.eraseP (·.island == i) }
      | none => t
    else t) s

/-- One batch (R492). DESIGN CHOICE, log entry 68. -/
def faultBatch (s : State) : State :=
  let b := s.batch.foldl (fun l m => placeMsg m l) []
  (b.foldl (fun (x : State × Nat) m => (x.1.faultOne m x.2 b.length, x.2 + 1)) (s.delivered, 0)).1

/-! ### Clearing (R508, R509) -/

/-- The source cannot answer: its page is not READY, in a SOFT_RESET, or refused; kinds of the die-to-die link are asked of
the AON front-end. -/
def sourceSilent (s : State) (page kind : Nat) : Bool :=
  decide (3 < kind) && (!s.ready page || s.islandStopped page || (0x020 ≤ page && page ≤ 0x027 && !s.die.up))

/-- The decision on a clear: 0 accepted, 1 the cause persists, 2 no valid entry, 3 the source does not answer.
DEDUCED, log entry 67. -/
def clearReason (s : State) (n : Nat) : Nat :=
  if !s.actValid n then 2
  else
    let p := s.actPage n
    let k := s.actKind n
    if (k = 0x05 ∨ k = 0x06 ∨ k = 0x70) ∧ s.causePersists p k (s.actW n 1) then 1
    else if !s.pageOn p then 0
    else if s.sourceSilent p k then 3
    else if s.causePersists p k (s.actW n 1) then 1
    else 0

/-- Decide the clear of an entry: the state, and the reason. DEDUCED, log entry 67. -/
def clearEntry (s : State) (n : Nat) : State × Nat :=
  let r := s.clearReason n
  if r = 0 then
    let lost := s.actKind n == K.DIE_LINK_LOST
    let t := s.when lost fun t => { t with die := { t.die with lost := false } }
    ((t.actClear n).when lost finDieBack, 0)
  else
    let t := s.when (r != 2) fun t => t.count Pg.thresher R.CNT_SAFE_CLEARS_REFUSED
    (t.when (r == 1) fun t => t.event Pg.active E.P012_CLEAR_REFUSED, r)

/-- The clear that CLR_CTRL asked for is decided (R508). -/
def clearDecided (s : State) : State :=
  let p := Pg.active
  if !s.on p R.CLR_CTRL_BUSY then s
  else
    let r := s.clearEntry (s.get p R.CLR_CTRL_ENTRY)
    let t := (((r.1.clrF p R.CLR_CTRL_BUSY).clrF p R.CLR_CTRL_GO).setF p R.CLR_CTRL_DONE).putB p R.CLR_CTRL_REFUSED (r.2 != 0)
    (t.put p R.CLR_CTRL_REASON r.2).event p E.P012_CLEAR_DONE

/-- CLEAR_ALL (R509): every entry, ascending. -/
def clearAllFaults (s : State) : State :=
  let r := s.actUsed.foldl (fun (x : State × Nat × Nat) n =>
    if x.1.actValid n then
      let c := x.1.clearEntry n
      (c.1.event Pg.active E.P012_CLEAR_DONE, if c.2 = 0 then (x.2.1 + 1, x.2.2) else (x.2.1, x.2.2 + 1))
    else x) (s, 0, 0)
  (r.1.put Pg.active R.CLR_ALL_RESULT_CLEARED r.2.1).put Pg.active R.CLR_ALL_RESULT_REFUSED r.2.2

/-- FF_CLEAR: the record is emptied (R497). -/
def firstClear (s : State) : State :=
  let p := Pg.thresher
  let t := [R.FF_MSG_LO, R.FF_MSG_HI, R.FF_TIME_HI, R.FF_INFO, R.FF_UPTIME].foldl (fun t f => t.wr p f.off 0) s
  (t.wrTime p R.FF_TIME_LO.off R.FF_TIME_HI.off 0).clrF p R.THR_STATUS_FF_VALID

/-! ### Writes to pages 0x010 to 0x013 -/

/-- The effect of a write to a page of the Thresher (R498, R503, R508, R509, R512). -/
def wrThr (p : Nat) (s : State) (off : Nat) (v : Word) : State :=
  let x := v.toNat
  if p = Pg.thresher ∧ off = R.THR_CTRL.off then
    let t := (s.putB p R.THR_CTRL_SAFE_FORCE (bitOf x 0)).safeRefresh
    let t := t.when (bitOf x 1) firstClear
    let t := t.when (bitOf x 2) clearAllFaults
    t.when (bitOf x 3) fun t => [Pg.thresher, Pg.kinds, Pg.active, Pg.tlog].foldl cntClear t
  else if p = Pg.kinds ∧ off = R.KIND_REACT.off then
    let k := s.get p R.KIND_IDX % 256
    match kindSeverity k with
    | none => s
    | some sev =>
      let m := reactMask sev
      let old := (s.rd Pg.kindTable (4 * k)).toNat
      s.wrKept Pg.kindTable (4 * k) (BitVec.ofNat 32 (Nat.lor (Nat.land old (notW 6 m)) (Nat.land x m)))
  else if p = Pg.active ∧ off = R.CLR_CTRL.off then
    if s.on p R.CLR_CTRL_BUSY then s
    else
      let t := s.put p R.CLR_CTRL_ENTRY (x % 128)
      t.when (bitOf x 8) fun t => ((t.setF p R.CLR_CTRL_GO).setF p R.CLR_CTRL_BUSY).clrF p R.CLR_CTRL_DONE
  else s.storeWrite p off v

end State

/-- FAULT_BATCH (R492, R494, R495, R497, R500, R501, R504, R507). DESIGN CHOICE, log entry 68. -/
def execFaultBatch (s : State) : Host.Outcome State Fault Refusal := finishAll s.faultBatch

/-- PERSIST_WRITE (R506). -/
def execPersistWrite (s : State) : Host.Outcome State Fault Refusal := finishAll s.persistOne

/-- CLR_GO (R508). -/
def execClrGo (a : Agent) (n : Fin 128) (s : State) : Host.Outcome State Fault Refusal :=
  finishAll (s.poke a Pg.active R.CLR_CTRL.off (BitVec.ofNat 32 (256 + n.val)) (State.wrThr Pg.active))

/-- CLEAR_DECIDED (R508). -/
def execClearDecided (s : State) : Host.Outcome State Fault Refusal := finishAll s.clearDecided

/-- THR_CTRL as a command writes it: SAFE_FORCE as it stands, and one command bit. -/
def thrCommand (s : State) (a : Agent) (bit : Nat) : State :=
  s.poke a Pg.thresher R.THR_CTRL.off (BitVec.ofNat 32 (s.get Pg.thresher R.THR_CTRL_SAFE_FORCE + 2 ^ bit))
    (State.wrThr Pg.thresher)

/-- THR_CLEAR_ALL (R509). -/
def execThrClearAll (a : Agent) (s : State) : Host.Outcome State Fault Refusal := finishAll (thrCommand s a 2)

/-- FF_CLEAR (R497). -/
def execFfClear (a : Agent) (s : State) : Host.Outcome State Fault Refusal := finishAll (thrCommand s a 1)

/-- SAFE_FORCE (R503). -/
def execSafeForce (a : Agent) (on : Bool) (s : State) : Host.Outcome State Fault Refusal :=
  finishAll (s.poke a Pg.thresher R.THR_CTRL.off (BitVec.ofNat 32 (b2n on)) (State.wrThr Pg.thresher))

end Sys2Proof.Machine
end

