-- ==== Sys2Proof/Machine/Epoch.lean ====
section
/-! DEFINITION. Configuration epochs (R539 to R550) and the Sheaf digest (R551 to R555). -/

namespace Sys2Proof.Machine

open Sys2Proof (Word Byte Agent Code AccessKind Instr LaneId LinkId EngineId)

/-! ### The canonical configuration (R551, R552) -/

/-- A register that shows the word of a table behind an index register: the table stands in the section, not the register. -/
def showsTable (p off : Nat) : Bool :=
  (p == Pg.qprof && off == R.QCFG_DATA.off) || (p == Pg.interrupts && (off == R.ROUTE_DATA.off || off == R.VEC_COAL.off))
  || (p == Pg.kinds && off == R.KIND_REACT.off)
  || (p == Pg.digest && (off == R.EXP_LO.off || off == R.EXP_HI.off || off == R.EXP_CTRL.off))
  || (p == Pg.directory && 0x800 ≤ off)

/-- The offsets of the registers of a list that are Kept. DEDUCED, log entry 72. -/
def keptOffs (l : List RegDesc) : List Nat :=
  l.flatMap fun d => if d.kept then (List.range d.count).map fun i => d.off + d.stride * i else []

/-- The tables that belong to a page, with how many words each has. DEDUCED, log entry 72. -/
def pageTables (p : Nat) : List (Nat × List Nat) :=
  let words (t n : Nat) : Nat × List Nat := (t, (List.range n).map (4 * ·))
  if p = Pg.directory then [words Pg.dirTable 0x10000]
  else if p = Pg.sched then [words Pg.schedTable 0x4000]
  else if p = Pg.qprof then [words Pg.qcfgTable 1112]
  else if p = Pg.interrupts then [words Pg.routeTable 128, words Pg.coalTable 64]
  else if p = Pg.kinds then [words Pg.kindTable 256]
  else if p = Pg.digest then
    [(Pg.expTable, (List.range 1024).flatMap fun i => [16 * i, 16 * i + 4, 16 * i + 8])]
  else []

/-- The used pages, ascending. -/
def usedPages : List Nat := (List.range 0x200).filter pageUsed

/-! ### EPOCH frames (R542) -/

/-- The payload of an EPOCH frame. -/
structure EpochMsg where
  num : Nat := 0
  time : Nat := 0
  ring : Bool := false
  list_ : List Nat := []
  by_ : Nat := 0
  tag : Nat := 0
  outcome : Nat := 0
  refuser : Nat := 0
  digest : Nat := 0
  deriving DecidableEq, Repr

/-- The bytes of the payload. -/
def EpochMsg.bytes (m : EpochMsg) : List Byte :=
  leBytes 4 m.num ++ leBytes 8 m.time
    ++ [BitVec.ofNat 8 (b2n m.ring + m.list_.length % 32 * 2), BitVec.ofNat 8 (m.by_ / 4), BitVec.ofNat 8 (m.by_ % 4),
        BitVec.ofNat 8 m.tag]
    ++ bytesAt ((m.list_.take 16).flatMap fun i => [BitVec.ofNat 8 (i / 4), BitVec.ofNat 8 (i % 4)]) 0 32
    ++ [BitVec.ofNat 8 m.outcome] ++ leBytes 2 m.refuser ++ [0] ++ leBytes 8 m.digest

/-- Read a payload; one of another length is no message. -/
def epochOf (p : List Byte) : Option EpochMsg :=
  let b (i : Nat) : Nat := (p.getD i 0).toNat
  if p.length ≠ 60 then none
  else some
    { num := leNat (bytesAt p 0 4), time := leNat (bytesAt p 4 8), ring := bitOf (b 12) 0,
      list_ := (List.range (Nat.min 16 (bitsOf (b 12) 1 5))).map fun j => b (16 + 2 * j) * 4 + b (17 + 2 * j) % 4,
      by_ := b 13 * 4 + b 14 % 4, tag := b 15, outcome := b 48, refuser := leNat (bytesAt p 49 2), digest := leNat (bytesAt p 52 8) }

namespace State

/-- The epoch and digest pages are in service. -/
def epochOn (s : State) (f : State → State) : State := if s.ready Pg.epoch then f s else s

/-- EPOCH_NUM. -/
def epochNum (s : State) : Nat := (s.rd Pg.epoch R.EPOCH_NUM.off).toNat

/-! ### Digests (R551 to R553) -/

/-- The keys of a page's Kept words, in the order of its section; of an engine page, the registers of its active
mode. DEDUCED, log entry 72. -/
def sectionKeys (s : State) (p : Nat) : List Nat :=
  let own := (keptOffs (regsHdr ++ blockRegs p)).filter fun o => !showsTable p o && !(isEngine p && isModeOff o)
  let mode := if isEngine p then
      let m := s.get p R.ENG_CFG_MODE
      (keptOffs (modeRegs m)).map fun o => regKey (Pg.mode (p - 0x100) m) o
    else []
  ((own.filter (· < 0x080)).map (regKey p)) ++ mode ++ ((own.filter (0x080 ≤ ·)).map (regKey p))
    ++ (pageTables p).flatMap fun t => t.2.map (regKey t.1)

/-- The section of a page: active or staged copies; a page whose domain is off contributes what its restore would
write. DEDUCED, log entry 72. -/
def section_ (s : State) (p : Nat) (staged : Bool) : List Byte :=
  let cells : Cells := if s.pageOn p then [] else (s.restoreCells p).1
  let word (k : Nat) : Nat :=
    let page := k / 0x1000000
    let off := k % 0x1000000
    let v := if !s.pageOn p then Cells.get factoryWord cells k else if staged then s.rdStaged page off else s.rd page off
    Nat.land v.toNat (canonMask page off)
  let keys := s.sectionKeys p
  leBytes 2 p ++ leBytes 2 keys.length ++ keys.flatMap fun k => leBytes 4 (word k)

/-- The Sheaf digest: the SHA-256 of the canonical configuration; and a digest truncated. -/
def sheaf (s : State) (staged : Bool) : List Byte := sha256 (usedPages.flatMap fun p => s.section_ p staged)
def truncated (d : List Byte) : Nat := leNat (d.take 8)

/-- The truncated active digest, as the registers hold it. -/
def activeDigest (s : State) : Nat := s.get Pg.digest (R.DIGEST 0) + 2 ^ 32 * s.get Pg.digest (R.DIGEST 1)
def stagedDigest (s : State) : Nat := s.get Pg.digest R.STAGED_DIG_LO + 2 ^ 32 * s.get Pg.digest R.STAGED_DIG_HI

/-- The recomputation is complete (R553). -/
def digestDone (s : State) : State :=
  let p := Pg.digest
  let d := s.sheaf false
  let e := truncated (s.sheaf true)
  let w (i : Nat) : Word := BitVec.ofNat 32 (leNat (bytesAt (d.drop (4 * i)) 0 4))
  let changed := (List.range 8).any fun i => s.rd p (R.DIGEST i).off != w i
  let t := (List.range 8).foldl (fun t i => t.wr p (R.DIGEST i).off (w i)) s
  let t := (t.put p R.STAGED_DIG_LO (e % 2 ^ 32)).put p R.STAGED_DIG_HI (e / 2 ^ 32)
  let t := (t.setF p R.DIG_STATUS_ACTIVE_CURRENT).setF p R.DIG_STATUS_STAGED_CURRENT
  let t := t.modEpoch fun x => { x with pageDigs := usedPages.map fun q => (q, truncated (sha256 (s.section_ q false))) }
  t.when changed fun t => t.event p E.P00B_DIGEST_CHANGED

/-! ### Frames -/

/-- An EPOCH frame of this hub; `mcast` is for PREPARE. -/
def epochFrame (code dst : Nat) (mcast : Bool) (m : EpochMsg) : Frame :=
  { cls := 1, prio := 7, ftype := 0x31, aux := code, dstNode := dst / 4, dstHub := dst % 4, mcast := mcast, payload := m.bytes }

/-- A decision leaves on the forward direction of both rings (R546). -/
def sendDecision (s : State) (f : Frame) : State :=
  if !s.nodeValid || s.ringSize ≤ 1 then s
  else [0, 1].foldl (fun t ring =>
    let r := t.entered 8 { f with mcast := true }
    (r.1.ringOut (sideOf ring 0) { r.2 with ring := ring }).1) s

/-! ### Every hub (R545, R547) -/

/-- Staged values break R57 or R60: the lanes of a group differ in staged RATE, or their logical lanes repeat. -/
def stagedBad (s : State) : Bool :=
  (List.range 7).any fun k =>
    s.pageOn (Pg.link k) &&
      (((groupLanes k).map fun l => (s.rdStaged (Pg.lane l) R.LANE_CFG.off).toNat % 4).eraseDups.length != 1
        || (s.sideEnabled k && s.mapInvalid k))

/-- The outcome of this hub's vote (R545). -/
def voteOutcome (s : State) : Nat :=
  if !(s.domainOn 1 && s.timeValid) then 1
  else if s.ringState ≠ 4 then 4
  else if s.stagedBad then 5
  else if s.staged.any fun e => !s.pageOn (keyPage e.1) then 10
  else 0

/-- The hub is in the scope of an epoch. -/
def inScope (s : State) (m : EpochMsg) : Bool := s.nodeValid && (m.ring || m.list_.contains s.selfIndex)

/-- The messages of the coordinator (R546), as far as its decision. -/
def runMsg (r : EpochRun) : EpochMsg :=
  { num := r.num, time := r.time, ring := r.all_, list_ := if r.all_ then [] else r.list_, by_ := r.by_, tag := r.tag }

/-- COMMIT arrives, or is this master's own (R541, R547). -/
def commitIn (s : State) (m : EpochMsg) : State :=
  if m.num ≤ s.epochNum then s
  else if s.epochState = 1 ∧ s.rd Pg.epoch R.EP_PEND_NUM.off = BitVec.ofNat 32 m.num then
    (s.put Pg.epoch R.EP_STATE_STATE 2).markPages R.EPOCH_STATE_ARMED true
  else if s.epochState = 2 ∧ s.rd Pg.epoch R.EP_PEND_NUM.off = BitVec.ofNat 32 m.num then s
  else s.modEpoch fun x => { x with others := if x.others.contains (m.num, m.time) then x.others else x.others ++ [(m.num, m.time)] }

/-- ABORT arrives, or is this master's own (R547). -/
def abortIn (s : State) (m : EpochMsg) : State :=
  if s.epochNum < m.num ∧ s.epochState = 1 ∧ s.rd Pg.epoch R.EP_PEND_NUM.off = BitVec.ofNat 32 m.num then s.epochAborted
  else s

/-- The RESULT reaches the requester: this hub, or by a frame. DEDUCED, log entry 71. -/
def sendResult (s : State) (r : EpochMsg) (outcome : Nat) (refuser : Option Nat) : State :=
  if s.nodeValid && r.by_ == s.selfIndex then s.reqDone outcome refuser
  else (s.sendOwn (epochFrame 6 r.by_ false { r with outcome := outcome, refuser := refuser.getD 0 })).1

/-! ### The master (R544, R546) -/

/-- Send the decision that stands, once more; it acts on this hub as well. -/
def decisionOut (s : State) : State :=
  match s.epoch.run with
  | none => s
  | some r =>
    match r.decision with
    | none => s
    | some (o, _) =>
      let m : EpochMsg := { runMsg r with outcome := 0 }
      let t := (s.modEpoch fun x => { x with run := some { r with sent := r.sent + 1 } }).sendDecision
        (epochFrame (if o = 0 then 4 else 5) 0 true m)
      if o = 0 then t.commitIn m else t.abortIn m

/-- The coordinator has nothing left to do for an epoch: its decision has gone out three times, and RESULT has been sent. -/
def runEnd (s : State) : State := (s.modEpoch fun x => { x with run := none }).clrF Pg.epoch R.EP_STATE_COORDINATING

/-- The master decides. -/
def decide_ (s : State) (r : EpochRun) (outcome : Nat) (refuser : Option Nat) : State :=
  let t := (s.modEpoch fun x => { x with run := some { r with decision := some (outcome, refuser) } }).decisionOut
  if outcome = 0 then t else t.sendResult (runMsg r) outcome refuser

/-- A vote arrives (R546). -/
def voteIn (s : State) (src : Nat) (m : EpochMsg) : State :=
  match s.epoch.run with
  | none => s
  | some r =>
    let exp := regKey Pg.expTable (16 * src)
    let st (o : Nat) : Nat := (s.rdStaged Pg.expTable (exp % 0x1000000 + o)).toNat
    if r.decision.isSome ∨ m.num ≠ r.num ∨ !r.list_.contains src then s
    else if m.outcome ≠ 0 then s.decide_ r m.outcome (some src)
    else if s.on Pg.digest R.DIG_CFG_CHECK_STAGED ∧ bitOf (st 8) 0 ∧ st 0 + 2 ^ 32 * st 4 ≠ m.digest then
      s.decide_ r 6 (some src)
    else
      let r := { r with votes := addNew src r.votes }
      if r.list_.all r.votes.contains then s.decide_ r 0 none else s.modEpoch fun x => { x with run := some r }

/-- The hub votes (R545): to the master, or as the master itself. -/
def vote (s : State) : State :=
  let p := Pg.epoch
  let o := s.voteOutcome
  let num := (s.rd p R.EP_PEND_NUM.off).toNat
  let t := s.modEpoch fun x => { x with voteWaits := false }
  let t := if o = 0 then (t.put p R.EP_STATE_STATE 1).event p E.P00A_PREPARED else t.epochIdle
  let m : EpochMsg :=
    { num := num, time := (s.rd p R.EP_PEND_TIME_LO.off).toNat + 2 ^ 32 * (s.rd (Pg.liveHigh p) R.EP_PEND_TIME_HI.off).toNat,
      outcome := o, digest := s.stagedDigest }
  if s.isMaster then t.voteIn s.selfIndex m
  else match s.masterIndex with
    | some i => (t.sendOwn (epochFrame 3 i false m)).1
    | none => t

/-- PREPARE arrives, or is this master's own (R542, R545, R547). A hub that has committed to an epoch takes no other
one. DEDUCED, log entry 71. -/
def prepareIn (s : State) (m : EpochMsg) : State :=
  let p := Pg.epoch
  if m.num ≤ s.epochNum ∨ s.epochState = 2 then s
  else
    let t := s.epochIdle.markPages R.EPOCH_STATE_ABORTED false
    if !s.inScope m then t
    else
      let t := ((t.setF p R.EP_STATE_IN_SCOPE).put p R.EP_PEND_NUM m.num).wrTime p R.EP_PEND_TIME_LO.off
        R.EP_PEND_TIME_HI.off m.time
      if s.on Pg.digest R.DIG_STATUS_STAGED_CURRENT then t.vote else t.modEpoch fun x => { x with voteWaits := true }

/-- A request arrives at the master (R543, R544). DEDUCED, log entry 71. -/
def requestIn (s : State) (m : EpochMsg) : State :=
  if !s.isMaster then s
  else
    let guard := Nat.max 100 (s.get Pg.epoch R.EP_CFG_GUARD_US)
    let loop := (s.rd Pg.master R.LOOP_NS.off).toNat
    let list_ := if m.ring then
        addNew s.selfIndex ((s.routeIndices []).filter fun i => bitOf (s.route i) 10)
      else if m.list_.isEmpty then [m.by_] else m.list_.eraseDups
    let far := list_.find? fun i => i != s.selfIndex && !s.ownerReachable i
    if s.epoch.run.isSome then s.sendResult m 3 none
    else if !(s.domainOn 1 && s.timeValid) then s.sendResult m 1 (some s.selfIndex)
    else if s.ringState ≠ 4 then s.sendResult m 4 (some s.selfIndex)
    else if m.time < s.now + guard * 1000 + 2 * loop + 200000 then s.sendResult m 2 none
    else if !m.ring && far.isSome then s.sendResult m 11 far
    else
      let num := (Nat.max s.epochNum s.epoch.seen + 1) % 2 ^ 32
      let r : EpochRun := { num := num, time := m.time, all_ := m.ring, list_ := list_, by_ := m.by_, tag := m.tag }
      let t := (s.modEpoch fun x => { x with run := some r }).setF Pg.epoch R.EP_STATE_COORDINATING
      ((t.sendOwn (epochFrame 2 0 true (runMsg r))).1).prepareIn (runMsg r)

/-- T − GUARD_US has come without every vote (R546). -/
def guardExpired (s : State) : State :=
  match s.epoch.run with
  | none => s
  | some r =>
    if r.decision.isSome then s
    else s.decide_ r 7 ((List.range 1024).find? fun i => r.list_.contains i && !r.votes.contains i)

/-- 10 µs after a copy of a decision (R546): three copies in all; after an abort the master is then free. -/
def decisionAgain (s : State) : State :=
  match s.epoch.run with
  | none => s
  | some r =>
    if r.decision.isNone ∨ 3 ≤ r.sent then s
    else
      let t := s.decisionOut
      t.when (2 ≤ r.sent && r.decision.any fun d => d.1 != 0) runEnd

/-- CANCEL arrives at the master (R549). -/
def cancelIn_ (s : State) (m : EpochMsg) : State :=
  match s.epoch.run with
  | none => s
  | some r => if r.decision.isNone ∧ r.by_ = m.by_ ∧ r.tag = m.tag then s.decide_ r 8 none else s

/-! ### The requester (R543, R549) -/

/-- Ask for an epoch; the outcome is none where the request waits. -/
def epochAsk (s : State) (time : Nat) (ring : Bool) (list_ : List Nat) (tag : Nat) (thermal : Option Nat) :
    State × Option Nat :=
  let lead := Nat.max 100 (s.get Pg.epoch R.EP_CFG_LEAD_MIN_US)
  let m : EpochMsg := { time := time, ring := ring, list_ := list_, by_ := s.selfIndex, tag := tag }
  if !(s.domainOn 1 && s.timeValid) then (s, some 1)
  else if time < s.now + lead * 1000 then (s, some 2)
  else if s.epoch.waiting.isSome then (s, some 3)
  else
    let t := s.modEpoch fun x => { x with waiting := some tag, thermal := thermal }
    if s.isMaster then (t.requestIn m, none)
    else match s.masterIndex with
      | some i => if s.nodeValid && s.ownerReachable i then ((t.sendOwn (epochFrame 1 i false m)).1, none) else (s, some 11)
      | none => (s, some 11)

/-- EP_CMD.REQUEST (R543). -/
def epochRequest (s : State) : State :=
  let p := Pg.epoch
  let n := Nat.min 16 (s.get p R.EP_REQ_SCOPE_COUNT)
  let list_ := (List.range n).map fun j => s.get p (R.EP_LIST_NODE j) * 4 + s.get p (R.EP_LIST_HUB j)
  let ring := s.on p R.EP_REQ_SCOPE_RING
  let tag := s.get p R.EP_REQ_SCOPE_REQ_TAG
  let time := (s.rd p R.EP_REQ_TIME_LO.off).toNat + 2 ^ 32 * (s.rd p R.EP_REQ_TIME_HI.off).toNat
  let shown := (((s.put p R.EP_REQ_STATUS_REQ_STATE 1).put p R.EP_REQ_STATUS_REQ_TAG tag).put p R.EP_REQ_STATUS_OUTCOME 0).clrF
    p R.EP_REQ_STATUS_REFUSER_VALID
  let r := shown.epochAsk time ring (if !ring && list_.isEmpty then [s.selfIndex] else list_) tag none
  match r.2 with
  | none => r.1
  | some o => s.reqShow tag o none

/-- EP_CMD.CANCEL (R549). -/
def epochCancel (s : State) : State :=
  match s.epoch.waiting, s.epoch.thermal with
  | some tag, none =>
    let m : EpochMsg := { by_ := s.selfIndex, tag := tag }
    if s.isMaster then s.cancelIn_ m
    else match s.masterIndex with
      | some i => (s.sendOwn (epochFrame 7 i false m)).1
      | none => s
  | _, _ => s

/-- RESULT arrives (R546). -/
def resultIn_ (s : State) (m : EpochMsg) : State :=
  if m.by_ = s.selfIndex ∧ s.epoch.waiting = some m.tag then
    s.reqDone m.outcome (if [1, 4, 5, 6, 7, 10, 11].contains m.outcome then some (m.refuser % 1024) else none)
  else s

/-! ### The switch (R540, R541, R547, R548) -/

/-- What the switch does in the blocks: lanes whose rate changes (R58), the schedule (R142, R144), the data ring (R157), the
directory (R210, R346, R350), the binding slots (R278, R625). `o` is the state before. -/
def blocksSwitch (s o : State) (keys : List Nat) : State :=
  let page (k : Nat) : Nat := k / 0x1000000
  let off (k : Nat) : Nat := k % 0x1000000
  let lanes := (List.range 22).filter fun l => s.get (Pg.lane l) R.LANE_CFG_RATE != o.get (Pg.lane l) R.LANE_CFG_RATE
  let t := lanes.foldl laneRetrain s
  -- the schedule
  let cycle := keys.any fun k => page k == Pg.sched
  let slots := (keys.filter fun k => page k == Pg.schedTable).map fun k => off k / 16
  let t := (t.modRing fun r =>
    { r with fired := if cycle then [] else r.fired.filter fun e => !slots.contains e.1 }).schedActivated
  -- the data ring
  let ring := s.get Pg.redun R.REDUN_CFG_DATA_RING
  let t := t.when (ring != o.get Pg.redun R.REDUN_CFG_DATA_RING) fun t => t.switchDataRing ring
  -- the directory
  let dirs := ((keys.filter fun k => page k == Pg.dirTable).map fun k => off k / 16).eraseDups
  let t := dirs.foldl (fun t i => t.dirSwitched i (o.dirW i 0) (o.dirW i 1)) t
  let t := t.when (!dirs.isEmpty) fun t =>
    let t := t.refreshReach.fieldBindings
    (dirs.filter fun i => t.publishes i && t.unitKind i == 3).foldl (fun t i =>
      t.finPublish (t.unitOf i) t.stamp) t
  -- binding slots: those whose entry or words changed become active anew
  let named (x : State) : List (Nat × Nat) := (dirs.filter fun i => x.unitKind i == 2).map fun i => (x.unitOf i, x.bindOf i)
  let changed := named o ++ named t ++ (keys.filter fun k => isEngine (page k) && decide (0x800 ≤ off k)).map fun k =>
    (page k - 0x100, (off k - 0x800) / 16)
  let t := changed.foldl (fun t x => t.clrF (Pg.engine x.1) ⟨R.BIND_STATUS.off, x.2, 1⟩) t
  (List.range 128).foldl (fun t e => t.when (t.pageOn (Pg.engine e) && t.engOn e) fun t => t.bindEval e) t

/-- Set EPOCH_NUM, which is Kept. -/
def setEpochNum (s : State) (n : Nat) : State := s.wrKept Pg.epoch R.EPOCH_NUM.off (BitVec.ofNat 32 n)

/-- The hub switches (R540): every staged value of a domain that is on becomes active and is journalled; a staged page whose
domain is off misses the switch (R548). -/
def epochSwitched (s : State) : State :=
  let p := Pg.epoch
  let num := (s.rd p R.EP_PEND_NUM.off).toNat
  let live := s.staged.filter fun e => s.pageOn (keyPage e.1)
  let dead := ((s.staged.filter fun e => !s.pageOn (keyPage e.1)).map fun e => keyPage e.1).eraseDups
  let t := live.foldl (fun t e => t.wrKept (e.1 / 0x1000000) (e.1 % 0x1000000) e.2) s
  let t := { t with staged := s.staged.filter fun e => !s.pageOn (keyPage e.1) }
  let t := (t.clrF Pg.digest R.DIG_STATUS_STAGED_CURRENT).blocksSwitch s (live.map (·.1))
  let t := dead.foldl (fun t q => (t.setF q R.EPOCH_STATE_ABORTED).raise p K.EPOCH_PAGE_MISSED q) t
  let t := rwePages.foldl (fun t q => t.when (t.pageOn q) fun t =>
    (t.clrF q R.EPOCH_STATE_ARMED).put q R.EPOCH_STATE_EPOCH (num % 65536)) t
  let t := (t.setEpochNum num).epochIdle
  let t := t.wrTime p R.EP_LAST_TIME_LO.off R.EP_LAST_TIME_HI.off
    ((s.rd p R.EP_PEND_TIME_LO.off).toNat + 2 ^ 32 * (s.rd (Pg.liveHigh p) R.EP_PEND_TIME_HI.off).toNat)
  let t := ((t.count p R.CNT_EPOCH_SWITCHES).event p E.P00A_SWITCHED).modEpoch fun x => { x with switchedAt := some s.ns }
  t.when (!(s.domainOn 1 && s.timeValid)) fun t => t.raise p K.EPOCH_TIME_INVALID num

/-- The earliest switch time that this hub knows of. DEDUCED, log entry 71. -/
def nextSwitch (s : State) : Option Nat :=
  let own := if s.epochState = 0 then []
    else [(s.rd Pg.epoch R.EP_PEND_TIME_LO.off).toNat + 2 ^ 32 * (s.rd (Pg.liveHigh Pg.epoch) R.EP_PEND_TIME_HI.off).toNat]
  let run := match s.epoch.run with
    | some r => if r.decision.any fun d => d.1 == 0 then [r.time] else []
    | none => []
  (own ++ run ++ s.epoch.others.map (·.2)).foldl (fun b t => match b with
    | none => some t
    | some x => some (Nat.min x t)) none

/-- Prime 0 reaches the switch time T; whether this hub switched. -/
def switchTime (s : State) : State × Bool :=
  match s.nextSwitch with
  | none => (s, false)
  | some time =>
    let own := s.epochState != 0
      && (s.rd Pg.epoch R.EP_PEND_TIME_LO.off).toNat + 2 ^ 32 * (s.rd (Pg.liveHigh Pg.epoch) R.EP_PEND_TIME_HI.off).toNat == time
    let t := if own && s.epochState == 2 then s.epochSwitched else if own then s.epochUndecided else s
    let nums := (s.epoch.others.filter fun x => x.2 == time).map (·.1)
    let t := t.modEpoch fun x => { x with others := x.others.filter fun y => y.2 != time }
    let n := nums.foldl Nat.max 0
    let t := t.when (decide (t.epochNum < n) && (t.ringState == 4 || t.ringState == 5)) fun t =>
      (t.setEpochNum n).modEpoch fun x => { x with switchedAt := some s.ns }
    let t := match s.epoch.run with
      | some r => if r.time = time ∧ r.decision = some (0, none) then (t.sendResult (runMsg r) 0 none).runEnd else t
      | none => t
    (t, own && s.epochState == 2)

/-! ### Beacons (R554, R555) -/

/-- A bit of MISMATCH or MISSING. -/
def mismatchBit (i : Nat) : Fld := ⟨0x800 + 4 * (i / 32), i % 32, 1⟩
def missingBit (i : Nat) : Fld := ⟨0x880 + 4 * (i / 32), i % 32, 1⟩

/-- The master examines a beacon (R555). -/
def beaconCheck (s : State) (i : Nat) (p : List Byte) : State :=
  let q := Pg.digest
  let num := leNat (bytesAt p 8 4)
  let fl := (p.getD 12 0).toNat
  let t := (s.modEpoch fun x => { x with seen := Nat.max x.seen num }).clrF q (missingBit i)
  let exp (o : Nat) : Nat := (s.rd Pg.expTable (16 * i + o)).toNat
  let soon := s.epoch.switchedAt.any fun at_ => decide (s.ns < at_ + 2000000)
  if !s.on q R.DIG_CFG_COMPARE_EN ∨ !bitOf fl 0 ∨ bitOf fl 1 ∨ soon then t
  else
    let bad := (bitOf (exp 8) 0 && exp 0 + 2 ^ 32 * exp 4 != leNat (bytesAt p 0 8)) || num != s.epochNum
    let was := s.on q (mismatchBit i)
    let t := (t.count q R.CNT_DIGEST_BEACONS).putB q (mismatchBit i) bad
    let n := ((List.range 1024).filter fun j => t.on q (mismatchBit j)).length
    let t := t.put q R.DIG_STATUS_MISMATCH n
    if bad && !was then
      let t := (t.count q R.CNT_DIGEST_MISMATCHES).event q E.P00B_MISMATCH
      if s.epoch.raised.any fun at_ => decide (s.ns < at_ + 1000000) then t
      else (t.raise q K.DIGEST_MISMATCH (((List.range 1024).find? fun j => t.on q (mismatchBit j)).getD 0)).modEpoch fun x =>
        { x with raised := some s.ns }
    else t

/-- DIGEST_BEACON of this hub (R554). -/
def digestBeacon (s : State) : State :=
  let p := leBytes 8 s.activeDigest ++ leBytes 4 s.epochNum
    ++ [BitVec.ofNat 8 (s.get Pg.digest R.DIG_STATUS_ACTIVE_CURRENT + 2 * b2n (s.epochState != 0)
          + 4 * b2n (usedPages.any fun q => s.pageOn q && s.on q R.PAGE_STATUS_FACTORY)
          + 8 * s.get Pg.seed R.SEED_STATUS_SUPPRESSED), 0, 0, 0]
  if s.ringState ≠ 4 ∧ s.ringState ≠ 5 then s
  else if s.isMaster then s.beaconCheck s.selfIndex p
  else match s.masterIndex with
    | some i => (s.sendOwn { cls := 2, prio := 6, ftype := 0x32, dstNode := i / 4, dstHub := i % 4, payload := p }).1
    | none => s

/-- A hub has sent no beacon for 3 ms (R555). -/
def beaconMissing (s : State) (i : Nat) : State :=
  if s.isMaster ∧ bitOf (s.route i) 10 then
    (s.setF Pg.digest (missingBit i)).when (!s.on Pg.digest (missingBit i)) fun t => t.event Pg.digest E.P00B_MISSING
  else s

/-! ### Writes -/

/-- Every active value is copied into its staged copy (R539). -/
def discardStaged (s : State) : State :=
  { s with staged := [] }.when (!s.staged.isEmpty) fun t => t.clrF Pg.digest R.DIG_STATUS_STAGED_CURRENT

/-- The effect of a write to page 0x00A or 0x00B. -/
def wrEpoch (p : Nat) (s : State) (off : Nat) (v : Word) : State :=
  if p = Pg.epoch ∧ off = R.EP_CMD.off then
    let x := v.toNat
    let t := s.when (bitOf x 3) fun t => (t.cntClear Pg.epoch).cntClear Pg.digest
    let t := t.when (bitOf x 2) discardStaged
    let t := t.when (bitOf x 0) epochRequest
    t.when (bitOf x 1) epochCancel
  else s.storeWrite p off v

/-- An EPOCH frame is delivered to this hub. -/
def epochIn (s : State) (p : List Byte) (f : State → EpochMsg → State) : State :=
  s.epochOn fun t => match epochOf p with
    | some m => f t m
    | none => t

/-- An EPOCH frame by its code (R542), but RESULT. -/
def epochMessage (s : State) (src code : Nat) (p : List Byte) : State :=
  let master (t : State) (f : State) : State := if t.masterIndex = some src then f else t
  s.epochIn p fun t m =>
    match code with
    | 1 => t.requestIn { m with by_ := src }
    | 2 => master t (t.prepareIn m)
    | 3 => t.voteIn src m
    | 4 => master t (t.commitIn m)
    | 5 => master t (t.abortIn m)
    | 7 => t.cancelIn_ { m with by_ := src }
    | _ => t

/-- A DIGEST_BEACON frame (R555). -/
def digestIn (s : State) (src : Nat) (p : List Byte) : State :=
  s.epochOn fun t => if t.isMaster ∧ p.length = 16 then t.beaconCheck src p else t

end State

/-- EPOCH_REQUEST (R543). -/
def execEpochRequest (a : Agent) (s : State) : Host.Outcome State Fault Refusal :=
  finishAll (s.poke a Pg.epoch R.EP_CMD.off 1 (State.wrEpoch Pg.epoch))

/-- EPOCH_CANCEL (R549). -/
def execEpochCancel (a : Agent) (s : State) : Host.Outcome State Fault Refusal :=
  finishAll (s.poke a Pg.epoch R.EP_CMD.off 2 (State.wrEpoch Pg.epoch))

/-- DISCARD_STAGED (R539, R548). -/
def execDiscardStaged (a : Agent) (s : State) : Host.Outcome State Fault Refusal :=
  finishAll (s.poke a Pg.epoch R.EP_CMD.off 4 (State.wrEpoch Pg.epoch))

/-- REQUEST (R544). -/
def execRequest (src : Fin 1024) (payload : List Byte) (s : State) : Host.Outcome State Fault Refusal :=
  finishAll (s.epochMessage src 1 payload)

/-- PREPARE (R545, R547). -/
def execPrepare (src : Fin 1024) (payload : List Byte) (s : State) : Host.Outcome State Fault Refusal :=
  finishAll (s.epochMessage src 2 payload)

/-- VOTE (R546). -/
def execVote (src : Fin 1024) (payload : List Byte) (s : State) : Host.Outcome State Fault Refusal :=
  finishAll (s.epochMessage src 3 payload)

/-- EPOCH_GUARD_EXPIRY (R546). -/
def execEpochGuardExpiry (s : State) : Host.Outcome State Fault Refusal := finishAll (s.epochOn State.guardExpired)

/-- DECISION_RESEND (R546). -/
def execDecisionResend (s : State) : Host.Outcome State Fault Refusal := finishAll (s.epochOn State.decisionAgain)

/-- COMMIT_EPOCH (R541, R547). -/
def execCommitEpoch (src : Fin 1024) (payload : List Byte) (s : State) : Host.Outcome State Fault Refusal :=
  finishAll (s.epochMessage src 4 payload)

/-- ABORT_EPOCH (R547). -/
def execAbortEpoch (src : Fin 1024) (payload : List Byte) (s : State) : Host.Outcome State Fault Refusal :=
  finishAll (s.epochMessage src 5 payload)

/-- EPOCH_CANCEL_RECEIVED (R549). -/
def execEpochCancelReceived (src : Fin 1024) (payload : List Byte) (s : State) : Host.Outcome State Fault Refusal :=
  finishAll (s.epochMessage src 7 payload)

/-- DIGEST_RECOMPUTE_DONE (R553, R545). -/
def execDigestRecomputeDone (s : State) : Host.Outcome State Fault Refusal :=
  finishAll (s.epochOn fun t => let t := t.digestDone; t.when t.epoch.voteWaits State.vote)

/-- DIGEST_BEACON_SEND (R554). -/
def execDigestBeaconSend (s : State) : Host.Outcome State Fault Refusal := finishAll (s.epochOn State.digestBeacon)

/-- DIGEST_BEACON (R555). -/
def execDigestBeacon (src : Fin 1024) (payload : List Byte) (s : State) : Host.Outcome State Fault Refusal :=
  finishAll (s.digestIn src payload)

/-- BEACON_MISSING_TIMEOUT (R555). -/
def execBeaconMissingTimeout (i : Fin 1024) (s : State) : Host.Outcome State Fault Refusal :=
  finishAll (s.epochOn fun t => t.beaconMissing i)

end Sys2Proof.Machine
end

