-- ==== Sys2Proof/Machine/Ralusk.lean ====
section
/-! DEFINITION. Ralusk (R514 to R538): its state, its policies and its registers. SERVO decides at measurements (R526) and
GLEAN at the end of a sweep (R527), with their blocks. -/

namespace Sys2Proof.Machine

open Sys2Proof (Word Byte Agent Code AccessKind Instr LaneId LinkId EngineId)

namespace State

/-! ### States and modes (R515, R516, R533, R534) -/

/-- What a policy does as it enters act mode: the values it writes move to their bounds at once (R73, R182, R201, R530). -/
def policyEnters (s : State) (p : Nat) : State :=
  if p = 0 then (List.range 22).foldl (fun t l => t.when (t.pageOn (Pg.lane l)) fun t => t.laneToBounds l) s
  else if !s.domainOn 4 then s
  else if p = 2 then (List.range 16).foldl threshToBounds s
  else if p = 6 then
    s.putAdapt Pg.gleaner R.GLEAN_CFG_AUDIT_MS (clamp (s.get Pg.gleaner R.GLEAN_BOUNDS_AUDIT_MIN_MS)
      (s.get Pg.gleaner R.GLEAN_BOUNDS_AUDIT_MAX_MS) (s.get Pg.gleaner R.GLEAN_CFG_AUDIT_MS))
  else s

/-- The state that Ralusk has once its firmware runs (R533, R568). DEDUCED, log entry 69. -/
def raluskRuns (s : State) : Nat :=
  if s.on Pg.ralusk R.RALUSK_CTRL_HALT || s.ral.limit then 3
  else if 5 ≤ s.get Pg.update R.UPD_STATUS_STATE ∧ s.get Pg.update R.UPD_STATUS_STATE ≤ 7 then 4
  else 2

/-- Ralusk takes a state: POLICY_ACTIVE follows (R515). `was` holds the policies that were in act mode. -/
def raluskTo (s : State) (n : Nat) : State :=
  let p := Pg.ralusk
  let was := s.get p ⟨R.POLICY_ACTIVE.off, 0, 8⟩
  let t := (s.put p R.RALUSK_STATUS_STATE n).when (s.raluskState != n) fun t => t.event p E.P00C_STATE_CHANGED
  let now := (List.range 8).foldl (fun x i => x + b2n (t.policyAct i) * 2 ^ i) 0
  let t := t.put p ⟨R.POLICY_ACTIVE.off, 0, 8⟩ now
  (List.range 8).foldl (fun t i => t.when (bitOf now i && !bitOf was i) fun t => t.policyEnters i) t

/-- Bring the state and the active policies up to date: HALT, the restart limit, an update (R533). -/
def ralSync (s : State) : State :=
  if !s.domainOn 0 then s
  else s.raluskTo (if s.raluskState ≤ 1 then s.raluskState else s.raluskRuns)

/-- The restarts of the last 60 s (R534). -/
def recentRestarts (s : State) : List Nat := s.ral.restarts.filter fun at_ => decide (s.ns < at_ + 60000000000)

/-- Ralusk starts from its active slot (R534). -/
def raluskLoads (s : State) : State := s.raluskTo (if s.seed.booted.isSome then 1 else 0)

/-- The watchdog has missed Ralusk (R534): the third restart within 60 s halts it. -/
def watchdogMissed (s : State) : State :=
  if !s.domainOn 0 ∨ s.raluskState = 0 ∨ s.ral.limit then s
  else
    let l := s.recentRestarts
    if l.length < 2 then
      let t := (s.modRal fun r => { r with restarts := l ++ [s.ns] }).count Pg.ralusk R.CNT_RALUSK_RESTARTS
      t.raluskLoads.raise Pg.ralusk K.RALUSK_RESTART (l.length + 1)
    else
      ((s.modRal fun r => { r with restarts := l ++ [s.ns], limit := true, haltSeen := false }).raluskTo 3).raise Pg.ralusk
        K.RALUSK_HALTED 0

/-- The effect of a write to page 0x00C or 0x00D. -/
def wrRalusk (p : Nat) (s : State) (off : Nat) (v : Word) : State :=
  if p = Pg.ralusk ∧ off = R.RALUSK_CTRL.off then
    let t := s.when (bitOf v.toNat 1) fun t => (t.cntClear Pg.ralusk).cntClear Pg.dlog
    let t := t.storeWrite p off v
    if t.ral.limit then
      if bitOf v.toNat 0 then t.modRal fun r => { r with haltSeen := true }
      else if t.ral.haltSeen then (t.modRal fun r => { r with limit := false, haltSeen := false }).raluskLoads
      else t
    else t.ralSync
  else if p = Pg.ralusk ∧ off = R.POLICY_MODE.off then (s.storeWrite p off v).ralSync
  else s.storeWrite p off v

/-! ### EQ (R519) -/

/-- EQ's period on a lane: the mismatch counts of the code below, of the code in use and of the code above. DEDUCED,
log entry 69. -/
def eqPeriod (s : State) (l : Nat) (below here above : Nat) : State :=
  let p := Pg.lane l
  if !(s.pageOn p && s.policyDecides 0 && s.on p R.LANE_CFG_EQ_ADAPT && !s.on p R.EYE_CTRL_HOLD && s.laneSt l == 5) then s
  else
    let vga := s.ral.eqVga.contains l
    let f := if vga then R.RX_EQ_VGA else R.RX_EQ_CTLE
    let lo := s.get p (if vga then R.EQ_BOUNDS_VGA_MIN else R.EQ_BOUNDS_CTLE_MIN)
    let hi := s.get p (if vga then R.EQ_BOUNDS_VGA_MAX else R.EQ_BOUNDS_CTLE_MAX)
    let x := s.get p f
    let hyst := clamp 1 100 (s.get Pg.ralusk R.EQ_CFG_EQ_HYST)
    let better (n : Nat) : Bool := decide (n < here ∧ 100 * n ≤ (100 - hyst) * here)
    let down := lo < x && better below
    let up := x < hi && better above
    let y := if down && (!up || below ≤ above) then x - 1 else if up then x + 1 else x
    let t := s.modRal fun r => { r with eqVga := if vga then r.eqVga.filter (· != l) else r.eqVga ++ [l] }
    if y = x then t
    else t.decideTo 0 l p R.RX_EQ.off x y fun t => (t.putAdapt p f y).laneKeepEq l

/-! ### PATH (R520) -/

/-- PATH_HOLD_MS after the notice of a break: the master steers it if it still stands. -/
def pathHold (s : State) (ring x : Nat) : State :=
  let stands := s.ring.breaks.any fun b => b.ring == ring && b.x == x && (b.xDown || b.yDown) && !b.steered
  if s.domainOn 4 && s.isMaster && stands && s.policyDecides 1 then
    s.decideTo 1 0 0 0 0 1 fun t => t.orderSteer ring x true
  else s

/-! ### CM (R521) -/

/-- CM evaluates a profile at the end of a period. DEDUCED, log entry 69. -/
def cmProfile (s : State) (p : Nat) : State :=
  let f := R.CM_THRESH p
  let v := s.get Pg.qprof f
  let step := clamp 1 6 (s.get Pg.ralusk R.CM_POL_CFG_CM_STEP_LOG)
  let amount := Nat.max 1 ((v + 2 ^ step - 1) / 2 ^ step)
  let drop := s.ral.cmDrops.contains p
  let calm := if s.ral.cmMarks.contains p && !s.ral.cmBusy.contains p then look p s.ral.cmCalm + 1 else 0
  let raise_ := clamp 1 15 (s.get Pg.ralusk R.CM_POL_CFG_CM_CALM) ≤ calm
  let t := s.modRal fun r => { r with cmCalm := file p calm r.cmCalm }
  if !drop && !raise_ then t.modRal fun r => { r with clamped := r.clamped.filter (· != p) }
  else
    let want := if drop then v - amount else v + amount
    let new := clamp (s.get Pg.qprof (R.CM_MIN p)) (s.get Pg.qprof (R.CM_MAX p)) want
    let t := t.logClamp 2 p p Pg.qprof f.off v new (new != want)
    if new = v then t else t.decideTo 2 p Pg.qprof f.off v new fun t => t.putAdapt Pg.qprof f new

/-- CM's period ends; the next one starts with the profiles of queues that are above half their HARD_LIMIT. -/
def cmPeriod (s : State) : State :=
  if !(s.domainOn 4 && s.policyDecides 2) then s
  else
    let t := (List.range 16).foldl cmProfile s
    let queues := if s.core.queued.isEmpty then [] else List.range 1112
    t.modRal fun r =>
      { r with cmDrops := [], cmMarks := [],
               cmBusy := ((queues.filter fun q => decide (s.get Pg.qprof (R.HARD_LIMIT (s.profile q)) < 2 * s.depth q)).map
                 s.profile).eraseDups }

/-! ### POWER (R522) -/

/-- A domain that POWER may shed is idle. -/
def shedIdle (s : State) (d : Nat) : Bool :=
  if 11 ≤ d ∧ d ≤ 18 then (List.range 16).all fun i => !s.on (Pg.engine (16 * (d - 11) + i)) R.PAGE_CTRL_ENABLE
  else if 7 ≤ d ∧ d ≤ 10 then s.linkSt (d - 7) == 0
  else if d = 6 then [4, 5, 6].all fun k => !s.sideEnabled k
  else if d = 3 then !s.usb.vbus
  else false

/-- POWER requests an idle domain off (R522), but none that holds staged values which a vote covers (R548). -/
def shedDomain (s : State) (d : Nat) : State :=
  let before := (s.rd Pg.power R.PD_REQ.off).toNat
  let held := s.stagingClosed && s.staged.any fun e => domainOf (keyPage e.1) == some d
  if s.policyDecides 3 && s.domainOn d && bitOf before d && s.shedIdle d
      && !bitOf (s.rd Pg.power R.PD_LOCK.off).toNat d && !s.overridden d && !held then
    s.decideTo 3 d Pg.power R.PD_REQ.off before (bitsPut before d 1 0) fun t => t.putKept Pg.power ⟨R.PD_REQ.off, d, 1⟩ 0
  else s

/-- POWER asks for low-power idle on a quiet ring side (R522). -/
def lpIdle (s : State) (k : Nat) : State :=
  let p := Pg.link k
  if s.policyDecides 3 && s.linkActive k && s.on p R.LINK_CFG_LP_ALLOWED && !s.on p R.LINK_CTRL_LP_REQ
      && !s.overridden (32 + k) then
    s.decideTo 3 k p R.LINK_CTRL.off 0 1 fun t =>
      (wrLink k t R.LINK_CTRL.off 1).modRal fun r => { r with touched := t.ral.touched }
  else s

/-! ### THERMAL (R523 to R525) -/

/-- The lanes of the partner's side (R525): a ring side names its partner's side; stitch ports meet as k and 10 − k. -/
def partnerLanes (s : State) (k : Nat) : List Nat :=
  if k < 4 then linkLanes (s.get (Pg.link k) R.PARTNER_ID_SIDE % 4) else linkLanes (10 - k)

/-- A command to the partner: the next THERM_SEQ, journalled; the rate of one of its lanes. -/
def thermalCommand (s : State) (k rate lane : Nat) : State :=
  let q := Pg.link k
  let seq := ((s.rd Pg.ralusk R.THERM_SEQ.off).toNat + 1) % 2 ^ 32
  let addr := s.get q R.PARTNER_ID_NODE * 2 ^ 40 + s.get q R.PARTNER_ID_HUB * 2 ^ 38 + Pg.lane lane * 0x1000 + R.LANE_CFG.off
  (s.putKept Pg.ralusk R.THERM_SEQ seq).issue
    { src := .thermal k, agent := 0xE000 + s.node * 4 + s.hubPos, addr := addr, write := true, len := 4,
      data := leBytes 4 rate, cmd := some seq }

/-- A request of THERMAL has no answer yet. -/
def thermalWaits (s : State) : Bool :=
  let mine (r : Req) : Bool := match r.src with
    | .thermal _ => true
    | _ => false
  s.bridge.slots.any (fun x => mine x.req) || s.bridge.waiting.any mine || s.bridge.work.any mine

/-- The rate change in progress counts its stages: 0 asked for, 1 staged here, 1 + n once n commands are answered OK, 128
while its epoch is asked for, 255 where a command failed. -/
def thermalStage (s : State) (n : Nat) : State :=
  s.modRal fun r => match r.rateJobs with
    | [] => r
    | j :: l => { r with rateJobs := (j.1, j.2.1, n) :: l }

/-- The next step of the rate change in progress. DEDUCED, log entry 69. -/
def thermalStep (s : State) : State :=
  match s.ral.rateJobs with
  | [] => s
  | (k, rate, n) :: _ =>
    let lanes := s.partnerLanes k
    let q := Pg.link k
    if s.thermalWaits ∨ n = 128 then s
    else if 128 < n ∨ !s.pageOn q then s.thermalFail
    else if n = 0 then
      if s.stagingClosed ∨ !(s.on q R.PARTNER_ID_VALID && s.on q R.PARTNER_ID_NODE_VALID && s.nodeValid) then
        (s.logDecision 4 actRefused k (Pg.lane ((linkLanes k).getD 0 0)) R.LANE_CFG.off (1 - rate) rate).thermalFail
      else
        let off := R.LANE_CFG.off
        let t := (linkLanes k).foldl (fun t l => t.stage (Pg.lane l) off
          (BitVec.ofNat 32 (bitsPut (t.rdStaged (Pg.lane l) off).toNat 0 2 rate))) s
        let t := t.logDecision 4 actWritten k (Pg.lane ((linkLanes k).getD 0 0)) off (1 - rate) rate
        (t.thermalStage 1).thermalCommand k rate (lanes.getD 0 0)
    else if n ≤ lanes.length - 1 then s.thermalCommand k rate (lanes.getD n 0)
    else
      let lead := Nat.max 5 (s.get Pg.ralusk R.THERM_CFG_THERM_LEAD_MS)
      let partner := s.get q R.PARTNER_ID_NODE * 4 + s.get q R.PARTNER_ID_HUB
      let r := (s.thermalStage 128).epochAsk (s.now + lead * 1000000) false [s.selfIndex, partner] 0 (some k)
      if r.2.isSome then r.1.thermalFail else r.1

/-- THERMAL goes on as far as it can. -/
def thermalGoesOn (s : State) : State := if s.ral.rateJobs.isEmpty then s else (List.range 64).foldl (fun t _ => t.thermalStep) s

/-- THERMAL asks for a rate on a side, or logs that it would. -/
def thermalAsk (s : State) (k rate : Nat) : State :=
  if s.ral.rateJobs.any fun j => j.1 == k then s
  else if s.policyAct 4 then s.modRal fun r => { r with rateJobs := r.rateJobs ++ [(k, rate, 0)] }
  else if s.policyDecides 4 then
    s.logDecision 4 actAdvised k (Pg.lane ((linkLanes k).getD 0 0)) R.LANE_CFG.off (1 - rate) rate
  else s

/-- The junction temperature as the sensors show it. -/
def sensed (s : State) (junction : Nat) : State := s.put Pg.ralusk ⟨R.JUNCTION_T.off, 0, 14⟩ (junction % 0x800 + bitsOf junction 12 2 * 0x1000)

/-- The junction has stayed at or above THERM_RATE_C for 1 s (R523). -/
def thermalHigh (s : State) (junction : Nat) : State :=
  let t := s.sensed junction
  match t.thermRate with
  | none => t
  | some c =>
    if t.junction < 2 * (c : Int) then t
    else ((List.range 7).filter fun k => t.pageOn (Pg.link k) && t.sideEnabled k && t.sideFast k).foldl
      (fun t k => t.thermalAsk k 1) t |>.thermalGoesOn

/-- The junction has stayed below the hysteresis for 60 s (R523). -/
def thermalLow (s : State) (junction : Nat) : State :=
  let t := s.sensed junction
  match t.thermRate with
  | none => t
  | some c =>
    if 2 * ((c : Int) - clamp 1 15 (t.get Pg.ralusk R.THERM_CFG_THERM_HYST)) ≤ t.junction then t
    else (t.ral.lowered.foldl (fun t k => t.thermalAsk k 0) t).thermalGoesOn

/-! ### CANPAIR (R528) -/

/-- CANPAIR finds the excess of a pair held for CAN_SWAP_HOLD. -/
def canPairHold (s : State) (k : Nat) : State :=
  let a := 2 * k
  let act := if s.canRole a = 1 then a else a + 1
  let sb := partner act
  let tec (e : Nat) : Nat := s.get (Pg.mode e 6) R.CAN_ERR_TEC
  let enabled := bitOf (s.rd Pg.ralusk (0x078 + 4 * (k / 32))).toNat (k % 32)
  let last := look k s.ral.swapped
  let soon := last != 0 && decide (s.ns + 1 < last + s.get Pg.ralusk R.CAN_POL_CAN_SWAP_MIN_S * 1000000000)
  if s.pageOn (Pg.engine a) && s.policyDecides 7 && enabled && s.engMode a == 6 && s.canPaired a
      && decide (tec sb + s.get Pg.ralusk R.CAN_POL_CAN_SWAP_DELTA < tec act)
      && s.get (Pg.mode sb 6) R.CAN_STATUS_STATE == 0 && !soon && !s.overridden (64 + k) then
    if s.policyAct 7 && !s.engUp sb then (s.pairSwap a).logDecision 7 actRefused k (Pg.engine a) R.CAN_CMD.off 0 1
    else s.decideTo 7 k (Pg.engine a) R.CAN_CMD.off 0 1 fun t =>
      (t.pairSwap a).modRal fun r => { r with swapped := file k (s.ns + 1) r.swapped }
  else s

/-- Ralusk acts only while its domain is on. -/
def ralOn (s : State) (f : State → State) : State := if s.domainOn 0 then f s else s

end State

/-- POLICY_MODE_WRITE (R514 to R516). -/
def execPolicyModeWrite (a : Agent) (v : Word) (s : State) : Host.Outcome State Fault Refusal :=
  finishAll (s.poke a Pg.ralusk R.POLICY_MODE.off v (State.wrRalusk Pg.ralusk))

/-- HALT (R533, R534). -/
def execHalt (a : Agent) (v : Bool) (s : State) : Host.Outcome State Fault Refusal :=
  finishAll (s.poke a Pg.ralusk R.RALUSK_CTRL.off (BitVec.ofNat 32 (b2n v)) (State.wrRalusk Pg.ralusk))

/-- RALUSK_LOADED (R533). -/
def execRaluskLoaded (s : State) : Host.Outcome State Fault Refusal :=
  finishAll (s.ralOn fun t => if t.raluskState = 1 then t.raluskTo t.raluskRuns else t)

/-- EQ_PERIOD (R519). DESIGN CHOICE, log entry 70. -/
def execEqPeriod (l : LaneId) (below here above : BitVec 64) (s : State) : Host.Outcome State Fault Refusal :=
  finishAll (s.eqPeriod l below.toNat here.toNat above.toNat)

/-- PATH_HOLD_EXPIRY (R520). -/
def execPathHoldExpiry (ring : Fin 2) (x : Fin 1024) (s : State) : Host.Outcome State Fault Refusal :=
  finishAll (s.pathHold ring x)

/-- CM_PERIOD (R521). -/
def execCmPeriod (s : State) : Host.Outcome State Fault Refusal := finishAll s.cmPeriod

/-- SHED_IDLE_EXPIRY (R522). -/
def execShedIdleExpiry (d : Fin 19) (s : State) : Host.Outcome State Fault Refusal := finishAll (s.shedDomain d)

/-- LP_IDLE_EXPIRY (R522). -/
def execLpIdleExpiry (k : Fin 4) (s : State) : Host.Outcome State Fault Refusal := finishAll (s.lpIdle k)

/-- THERMAL_RATE_DWELL (R523). -/
def execThermalRateDwell (junction : BitVec 14) (s : State) : Host.Outcome State Fault Refusal :=
  finishAll (s.ralOn fun t => t.thermalHigh junction.toNat)

/-- THERMAL_RESTORE_DWELL (R523). -/
def execThermalRestoreDwell (junction : BitVec 14) (s : State) : Host.Outcome State Fault Refusal :=
  finishAll (s.ralOn fun t => t.thermalLow junction.toNat)

/-- THERMAL_OVER (R524). DESIGN CHOICE, log entry 70. -/
def execThermalOver (junction : BitVec 14) (s : State) : Host.Outcome State Fault Refusal :=
  finishAll <| s.ralOn fun t =>
    let t := t.sensed junction.toNat
    t.when (decide (State.junctionMax < t.junction)) fun t =>
      t.raise Pg.ralusk K.THERMAL_OVER (t.rd Pg.ralusk R.JUNCTION_T.off).toNat

/-- SERVO_SUMMARY (R526). DESIGN CHOICE, log entry 70. -/
def execServoSummary (s : State) : Host.Outcome State Fault Refusal :=
  finishAll <|
    if s.policyDecides 5 && s.domainOn 1 && !s.on Pg.time R.TIME_CFG_SERVO_SW && decide (3 ≤ s.servo) then
      let f := s.get Pg.prime (R.P_FREQ 0)
      s.logDecision 5 State.actSummary 0 Pg.prime (R.P_FREQ 0).off f f
    else s

/-- CANPAIR_HOLD_EXPIRY (R528). -/
def execCanpairHoldExpiry (k : Fin 64) (s : State) : Host.Outcome State Fault Refusal := finishAll (s.canPairHold k)

/-- EPOCH_RESULT (R546, R524). -/
def execEpochResult (src : Fin 1024) (payload : List Byte) (s : State) : Host.Outcome State Fault Refusal :=
  finishAll (s.epochIn payload fun t m => if t.masterIndex = some src.val then (t.resultIn_ m).thermalGoesOn else t)

/-- READ_DISCARD_EXPIRY (R250). -/
def execReadDiscardExpiry (slot : BitVec 8) (s : State) : Host.Outcome State Fault Refusal :=
  finishAll (s.discardSlot slot.toNat).thermalGoesOn

/-- RA_COMPLETION (R251). -/
def execRaCompletion (src : Fin 1024) (tag aux : BitVec 16) (payload : List Byte) (s : State) :
    Host.Outcome State Fault Refusal :=
  finishAll (if s.domainOn 4 then (s.completionIn src tag.toNat aux.toNat payload).thermalGoesOn else s)

end Sys2Proof.Machine
end

