-- ==== Sys2Proof/Machine/Security.lean ====
section
/-! DEFINITION. The owner token and its forced reclaim (R45 to R49), the one-time cells, locked access, the Chaff injectors
and the test access port (R581 to R595). -/

namespace Sys2Proof.Machine

open Sys2Proof (Word Byte Agent Code AccessKind Instr LaneId LinkId EngineId)

namespace State

/-- Change the security block's own data. -/
def modSec (s : State) (f : Sec → Sec) : State := { s with sec := f s.sec }

/-- UID_LO and UID_HI, little-endian. -/
def uidBytes (s : State) : List Byte := leBytes 8 s.uid

/-- Put bytes into consecutive words of a window. -/
def wrWindow (s : State) (p off : Nat) (bs : List Byte) : State :=
  (List.range ((bs.length + 3) / 4)).foldl (fun t i =>
    t.wr p (off + 4 * i) (BitVec.ofNat 32 (leNat (bytesAt bs (4 * i) 4)))) s

/-- The bytes of `n` words of a window. -/
def rdWindow (s : State) (p off n : Nat) : List Byte := (List.range n).flatMap fun i => leBytes 4 (s.rd p (off + 4 * i)).toNat

/-! ### One-time cells (R581 to R583) -/

/-- The record that SEL names, where it is written; private key and passcode verifiers are never readable, see
`otpShown`. DESIGN CHOICE, log entry 6. -/
def otpRec (s : State) (sel : Nat) : Option (List Byte) :=
  if sel = 0x00 then some (leBytes 8 Config.uid)
  else if sel = 0x01 then some (keyToBytes (pointMul Config.deviceKey g384))
  else if sel = 0x10 then some ((List.range 96).map Config.updateKey)
  else (s.sec.otp.find? fun e => e.1 == sel).map (·.2)

/-- The record is programmed. -/
def otpSet (s : State) (sel : Nat) : Bool := (s.otpRec sel).isSome

/-- The record is programmed and not revoked. -/
def otpGood (s : State) (sel : Nat) : Bool := s.otpSet sel && !s.sec.revoked.contains sel

/-- What OTP_RD shows: not the passcode verifiers. -/
def otpShown (s : State) (sel : Nat) : List Byte :=
  if 0x30 ≤ sel ∧ sel ≤ 0x33 then [] else (s.otpRec sel).getD []

/-- The owner keys in order, the update keys, the passcode slots. -/
def ownerSels : List Nat := [0x20, 0x21, 0x22, 0x23]
def updateSels : List Nat := [0x10, 0x11, 0x12, 0x13]
def passSels : List Nat := [0x30, 0x31, 0x32, 0x33]

/-- The passcode in use: the highest programmed slot that is not revoked. -/
def passInUse (s : State) : Option Nat := passSels.reverse.find? s.otpGood

/-- The SVN floor (R582): the value of the highest-numbered floor record. DESIGN CHOICE, log entry 6. -/
def svnFloor (s : State) : Nat :=
  match ((List.range 32).reverse.find? fun i => s.otpSet (0x40 + i)) with
  | some i => leNat ((s.otpRec (0x40 + i)).getD [])
  | none => 0

/-- Write the next floor record, where one is left (R582). -/
def raiseFloor (s : State) (svn : Nat) : State :=
  if svn ≤ s.svnFloor then s
  else match (List.range 32).find? fun i => !s.otpSet (0x40 + i) with
    | some i => s.modSec fun x => { x with otp := x.otp ++ [(0x40 + i, leBytes 4 svn)] }
    | none => s

/-- What PROGRAM would write: the verifier of a passcode, or a key. -/
def otpData (s : State) (sel : Nat) : List Byte :=
  if passSels.contains sel then sha384 (s.uidBytes ++ bytesAt s.sec.pass 0 (s.get Pg.security R.PASS_LEN % 64))
  else s.sec.data

/-- The reason to refuse a one-time command (R583), the first that applies; 0 for none. DEDUCED, log entry 73. -/
def otpRefusal (s : State) (sel : Nat) (program : Bool) : Nat :=
  let p := Pg.security
  let first := program && sel == 0x20 && !ownerSels.any s.otpSet
  let groupLast := [ownerSels, updateSels].any fun g => g.contains sel && g.filter s.otpGood == [sel]
  let key := (ownerSels ++ updateSels).contains sel
  let point := let k := keyOfBytes s.sec.data; onCurve k.1 k.2
  let len := s.get p R.PASS_LEN % 64
  if s.get p R.SEC_STATUS_ACCESS ≠ 2 ∧ !first then 1
  else if s.on p R.SEC_LOCK_OWNER_LOCK then 2
  else if (program && s.otpSet sel) || (!program && s.sec.revoked.contains sel) then 3
  else if s.on Pg.inlet R.HS_STATUS_PFW_ACTIVE then 4
  else if !program && groupLast then 5
  else if program && ((key && !point) || (passSels.contains sel && (decide (len < 8) || decide (32 < len)))) then 6
  else if !(key || passSels.contains sel) || (program && sel == 0x10) then 8
  else 0

/-- A one-time command that is refused, or whose read-back failed. -/
def otpRefused (s : State) (reason : Nat) : State :=
  let p := Pg.security
  ((((s.clrF p R.OTP_STATUS_BUSY).clrF p R.OTP_STATUS_DONE).setF p R.OTP_STATUS_REFUSED).put p R.OTP_STATUS_REASON reason).event p
    E.P007_OTP_DONE

/-- OTP_CMD (R583); a command that comes while another is in progress is discarded. DEDUCED, log entry 73. -/
def otpCmd (s : State) (v : Nat) : State :=
  let p := Pg.security
  let program := bitOf v 8
  let sel := v % 256
  if (!program && !bitOf v 9) || s.on p R.OTP_STATUS_BUSY then s
  else
    let r := s.otpRefusal sel program
    if r ≠ 0 then s.otpRefused r
    else
      let t := (((s.setF p R.OTP_STATUS_BUSY).clrF p R.OTP_STATUS_DONE).clrF p R.OTP_STATUS_REFUSED).put p R.OTP_STATUS_REASON 0
      t.modSec fun x => { x with job := some (sel, program, s.otpData sel) }

/-- A one-time command finishes (R583). -/
def otpDone (s : State) (readBack : Bool) : State :=
  let p := Pg.security
  match s.sec.job with
  | none => s
  | some (sel, program, d) =>
    let t := s.modSec fun x => { x with job := none }
    if !readBack then (t.otpRefused 7).raise p K.OTP_PROGRAM_FAIL sel
    else
      let t := t.modSec fun x =>
        if program then { x with otp := x.otp ++ [(sel, d)] } else { x with revoked := addNew sel x.revoked }
      ((t.clrF p R.OTP_STATUS_BUSY).setF p R.OTP_STATUS_DONE).event p E.P007_OTP_DONE

/-! ### Chaff (R591 to R593) -/

/-- The unit kinds that act, as CH_STATUS shows them. -/
def chaffUnits (s : State) : Nat :=
  let any (p : Nat) (n : Nat) (f : Nat → Fld) : Bool := (List.range n).any fun i => s.on p (f i)
  b2n (any (Pg.chaff 1) 19 R.DLY_EN) * 2 + b2n (s.on (Pg.chaff 2) R.CT_BRIDGE_EN || any (Pg.chaff 2) 7 R.CT_REPLAY_EN) * 4
    + b2n (any (Pg.chaff 3) 4 R.BP_CFG_EN) * 8 + b2n (any (Pg.chaff 4) 22 R.LE_CFG_EN) * 16

/-- CH_STATUS follows. -/
def chaffShow (s : State) (running : Bool) : State :=
  s.put (Pg.chaff 0) ⟨R.CH_STATUS.off, 0, 5⟩ (if running then 1 + s.chaffUnits else 0)

/-- The injectors start. DESIGN CHOICE, log entry 12. -/
def chaffStart (s : State) : State :=
  let t := ({ s with chaff := { waiting := false, since := s.ns } }.chaffShow true).event (Pg.chaff 0) E.P1C0_RUN_STARTED
  t.raise (Pg.chaff 0) K.CHAFF_RUN (t.rd (Pg.chaff 0) R.CH_STATUS.off).toNat

/-- RUN clears, and every unit stops. -/
def chaffStop (s : State) : State :=
  if !s.domainOn 0 then s
  else
    let was := s.chaffRuns
    let t := ({ s with chaff := {} }.clrF (Pg.chaff 0) R.CH_CTRL_RUN).chaffShow false
    t.when was fun t => t.event (Pg.chaff 0) E.P1C0_RUN_STOPPED

/-- RUN has been set by a write, or the start time has come. -/
def chaffGo (s : State) : State :=
  let start := (s.rd (Pg.chaff 7) R.CH_START_LO.off).toNat + 2 ^ 32 * (s.rd (Pg.chaff 7) R.CH_START_HI.off).toNat
  if s.on (Pg.chaff 0) R.CH_CTRL_CH_START_EN && !(s.domainOn 1 && s.timeValid && decide (start ≤ s.now)) then
    { s with chaff := { s.chaff with waiting := true } }
  else s.chaffStart

/-- FI_CMD.GO (R593): a message into the fault queue of an island, with that island's tick. -/
def inject (s : State) : State :=
  let p := Pg.chaff 5
  let lo := (s.rd p R.FI_MSG_LO.off).toNat
  let isl := s.get p R.FI_CMD_FI_ISLAND
  let page := lo % 2 ^ 12
  let kind := bitsOf lo 12 8
  if !s.chaffRuns then s
  else if (kindSeverity kind).isNone ∨ !pageUsed page ∨ isl = 0 ∨ 18 < isl then s.event p E.P1C5_INJECT_REFUSED
  else
    (s.queueFault { island := isl, page := page, kind := kind, sev := bitsOf lo 20 3, tick := s.aonTick,
                    addr := (s.rd p R.FI_MSG_HI.off).toNat, injected := true }).count (Pg.chaff 6) R.CNT_CHAFF_MESSAGES

/-- The effect of a write to a Chaff page. -/
def wrChaff (p : Nat) (s : State) (off : Nat) (v : Word) : State :=
  let x := v.toNat
  if p = Pg.chaff 0 ∧ off = R.CH_CTRL.off then
    let was := s.on p R.CH_CTRL_RUN
    let t := s.storeWrite p off v
    let t := if !was && t.on p R.CH_CTRL_RUN then t.chaffGo else if was && !t.on p R.CH_CTRL_RUN then t.chaffStop else t
    t.when (bitOf x 1) chaffStop
  else if p = Pg.chaff 5 ∧ off = R.FI_CMD.off then
    let t := s.storeWrite p off (BitVec.ofNat 32 (bitsPut x 5 1 0))
    t.when (bitOf x 5 && s.unlocked) inject
  else if p = Pg.chaff 6 ∧ off = R.CH_CMD.off then s.when (bitOf x 0) fun t => t.cntClear p
  else
    let t := s.storeWrite p off v
    t.when t.chaffRuns fun t => t.chaffShow true

/-! ### Access (R585 to R589) -/

/-- Access returns to CLOSED; RUN clears with it. -/
def closeAccess (s : State) : State :=
  let p := Pg.security
  if s.get p R.SEC_STATUS_ACCESS = 0 then s
  else ((s.put p R.SEC_STATUS_ACCESS 0).event p E.P007_ACCESS_CLOSED).chaffStop

/-- A successful opening of a kind: 1 by passcode, 2 by key (R589). -/
def openAccess (s : State) (a : Agent) (kind : Nat) : State :=
  let p := Pg.security
  let old := s.get p R.SEC_STATUS_ACCESS
  let new := Nat.max old kind
  let t := ((s.put p R.SEC_STATUS_ACCESS new).modSec fun x => { x with openUntil := s.ns + Nat.max 10 (s.get p R.SEC_CFG % 65536) * 1000000000, passUntil := 0 }).putKept p
    ⟨R.PASS_FAILS.off, 0, 4⟩ 0
  let t := (((t.clrF p R.OPEN_CTRL_BUSY).setF p R.OPEN_CTRL_DONE).clrF p R.OPEN_CTRL_FAIL).put p R.OPEN_CTRL_REASON 0
  (t.when (decide (old < new)) fun t => t.event p E.P007_ACCESS_OPENED).raise p K.ACCESS_OPENED (new + a.toNat * 2 ^ 16)

/-- An opening, or a command of it, fails. -/
def openFailed (s : State) (reason : Nat) : State :=
  let p := Pg.security
  let t := (((s.clrF p R.OPEN_CTRL_BUSY).clrF p R.OPEN_CTRL_DONE).setF p R.OPEN_CTRL_FAIL).put p R.OPEN_CTRL_REASON reason
  (t.event p E.P007_OPEN_FAILED).raise p K.OPEN_FAILED reason

/-- A nonce from the random source, into a window. -/
def newNonce (s : State) (p off : Nat) : State :=
  (s.wrWindow p off ((List.range 32).map (Config.freeByte s.fresh))).draw

/-- A response block answers a nonce (R586): its slot is programmed and not revoked, the bytes from 97 on are 0, and the
signature holds over PURPOSE, the nonce and the UID. -/
def responseHolds (s : State) (purpose : Nat) (nonce block : List Byte) : Bool :=
  let sel := 0x20 + (block.getD 96 0).toNat % 4
  s.otpGood sel && (block.drop 97).all (· == 0) && decide ((block.getD 96 0).toNat < 4)
    && sigHolds ((s.otpRec sel).getD []) ([BitVec.ofNat 8 purpose] ++ nonce ++ s.uidBytes) block

/-- OPEN_CTRL.NONCE_NEW (R587). -/
def openNonce (s : State) (a : Agent) : State :=
  let p := Pg.security
  if s.sec.badRandom then (s.openFailed 5).raise p K.TRNG_FAIL 0
  else
    let t := (s.newNonce p 0x800).modSec fun x => { x with opening := { valid := true, by_ := a } }
    ((t.clrF p R.OPEN_CTRL_DONE).clrF p R.OPEN_CTRL_FAIL).put p R.OPEN_CTRL_REASON 0

/-- OPEN_CTRL.GO_KEY (R587): the nonce serves one GO, of the agent that asked for it. DEDUCED, log entry 73. -/
def goKey (s : State) (a : Agent) : State :=
  let o := s.sec.opening
  let t := s.modSec fun x => { x with opening := {} }
  if !ownerSels.any s.otpGood then t.openFailed 6
  else if !o.valid ∨ o.by_ ≠ a then t.openFailed 2
  else if s.responseHolds 2 (s.rdWindow Pg.security 0x800 8) s.sec.sigOpen then t.openAccess a 2
  else t.openFailed 1

/-- OPEN_CTRL.GO_PASS (R588). DEDUCED, log entry 73. -/
def goPass (s : State) (a : Agent) : State :=
  let p := Pg.security
  let f := s.get p R.PASS_FAILS % 16
  let len := s.get p R.PASS_LEN % 64
  let t := s.modSec fun x => { x with pass := List.replicate 32 0 }
  match s.passInUse with
  | none => t.openFailed 4
  | some sel =>
    if s.on Pg.bringUp R.BRINGUP_STATUS_STRAP_NORESTORE || decide (8 ≤ f) || decide (s.ns < s.sec.passUntil) then t.openFailed 4
    else if 8 ≤ len ∧ len ≤ 32 ∧ s.otpRec sel = some (sha384 (s.uidBytes ++ bytesAt s.sec.pass 0 len)) then t.openAccess a 1
    else
      let t := (t.putKept p ⟨R.PASS_FAILS.off, 0, 4⟩ (f + 1)).modSec fun x => { x with passUntil := s.ns + 2 ^ f * 1000000000 }
      (t.openFailed 3).when (f + 1 == 8) fun t => t.raise p K.PASSCODE_DISABLED 0

/-- ATTEST_CTRL.GO (R584, R587). -/
def attestGo (s : State) : State :=
  let p := Pg.security
  if s.sec.badRandom then (s.openFailed 5).raise p K.TRNG_FAIL 0
  else if s.on p R.ATTEST_CTRL_BUSY then s
  else (((s.setF p R.ATTEST_CTRL_GO).setF p R.ATTEST_CTRL_BUSY).clrF p R.ATTEST_CTRL_DONE).modSec fun x => { x with attesting := true }

/-- The manifest of the slot booted; 0 where none is. -/
def bootedId (s : State) : Nat :=
  match s.seed.booted with
  | some n => (s.seed.slots.getD n {}).ident
  | none => 0

/-- The attestation signature appears (R584). DEDUCED, log entry 73. -/
def attestDone (s : State) : State :=
  let p := Pg.security
  if !s.sec.attesting then s
  else
    let msg := s.sec.nonce ++ s.uidBytes ++ leBytes 4 s.svnFloor ++ leBytes 4 s.bootedId ++ leBytes 8 s.activeDigest
    let sig := ecdsaSign Config.deviceKey (Config.signNonce s.fresh) msg
    let t := (s.draw.wrWindow p 0xB40 (beBytes 48 sig.1 ++ beBytes 48 sig.2 ++ List.replicate 32 0)).modSec fun x =>
      { x with attesting := false }
    (((t.clrF p R.ATTEST_CTRL_GO).clrF p R.ATTEST_CTRL_BUSY).setF p R.ATTEST_CTRL_DONE).event p E.P007_ATTEST_DONE

/-- Four bytes of a write-only window take a word. -/
def putBytes (bs : List Byte) (i : Nat) (v : Word) : List Byte := overlay bs i (leBytes 4 v.toNat)

/-- The effect of a write to page 0x007. DEDUCED, log entry 73. -/
def wrSecurity (a : Agent) (s : State) (off : Nat) (v : Word) : State :=
  let p := Pg.security
  let x := v.toNat
  if off = R.OPEN_CTRL.off then
    let t := s.when (bitOf x 0) fun t => t.openNonce a
    let t := t.when (bitOf x 1) fun t => t.goKey a
    let t := t.when (bitOf x 2) fun t => t.goPass a
    t.when (bitOf x 3) closeAccess
  else if off = R.SEC_LOCK.off then
    let t := s.when (bitOf x 2 && s.unlocked) fun t => t.putKept p R.SEC_LOCK_OWNER_LOCK 0
    t.when (bitOf x 1) fun t => t.putKept p R.SEC_LOCK_OWNER_LOCK 1
  else if off = R.OTP_CMD.off then s.otpCmd x
  else if off = R.ATTEST_CTRL.off then s.when (bitOf x 0) attestGo
  else if 0x840 ≤ off ∧ off < 0x8C0 then s.modSec fun c => { c with sigOpen := putBytes c.sigOpen (off - 0x840) v }
  else if 0x900 ≤ off ∧ off < 0x920 then s.modSec fun c => { c with pass := putBytes c.pass (off - 0x900) v }
  else if 0xA00 ≤ off ∧ off < 0xA60 then s.modSec fun c => { c with data := putBytes c.data (off - 0xA00) v }
  else if 0xB00 ≤ off ∧ off < 0xB20 then s.modSec fun c => { c with nonce := putBytes c.nonce (off - 0xB00) v }
  else s.storeWrite p off v

/-! ### The owner token (R45 to R49) -/

/-- A change of owner: GEN advances, every grant slot is cleared, access closes (R46, R49, R589). -/
def ownerTo (s : State) (a : Option Agent) : State :=
  let p := Pg.identity
  let t := (s.putB p R.OWNER_STATUS_HELD a.isSome).put p R.OWNER_STATUS_OWNER_ID (a.getD 0xFFFF).toNat
  let t := t.put p R.OWNER_STATUS_GEN ((s.get p R.OWNER_STATUS_GEN + 1) % 256)
  ((List.range 16).foldl (fun t n => t.wr Pg.grants (0x040 + 4 * n) 0xFFFF) t).closeAccess

/-- Change the forced reclaim. -/
def reclaimEnds (s : State) (done : Bool) : State :=
  let p := Pg.identity
  (((s.clrF p R.RECLAIM_CTRL_GO).clrF p R.RECLAIM_CTRL_BUSY).putB p R.RECLAIM_CTRL_DONE done).putB p R.RECLAIM_CTRL_FAIL !done

/-- RECLAIM_CTRL (R48); a command that comes while another is in progress is discarded. -/
def reclaimCmd (s : State) (a : Agent) (x : Nat) : State :=
  let p := Pg.identity
  let clear (t : State) : State := (t.clrF p R.RECLAIM_CTRL_DONE).clrF p R.RECLAIM_CTRL_FAIL
  if s.on p R.RECLAIM_CTRL_BUSY then s
  else if bitOf x 0 then
    if s.sec.badRandom then (s.reclaimEnds false).raise Pg.security K.TRNG_FAIL 0
    else { clear ((s.setF p R.RECLAIM_CTRL_NONCE_NEW).setF p R.RECLAIM_CTRL_BUSY) with
           reclaim := { s.reclaim with making := some a, valid := false } }
  else if bitOf x 1 then
    let ok := s.reclaim.valid && s.reclaim.by_ == a
    let t := { s with reclaim := { s.reclaim with valid := false } }
    if ok then { clear ((t.setF p R.RECLAIM_CTRL_GO).setF p R.RECLAIM_CTRL_BUSY) with
                 reclaim := { t.reclaim with checking := some a } }
    else t.reclaimEnds false
  else s

/-- The new nonce is there. -/
def reclaimReady (s : State) : State :=
  let p := Pg.identity
  match s.reclaim.making with
  | none => s
  | some a =>
    let t := ((s.newNonce p 0x800).clrF p R.RECLAIM_CTRL_NONCE_NEW).clrF p R.RECLAIM_CTRL_BUSY
    { t with reclaim := { making := none, valid := true, by_ := a, checking := none } }

/-- The check of the signature ends (R48): no agent of KIND 0b11 takes the token (R44). -/
def reclaimChecked (s : State) : State :=
  match s.reclaim.checking with
  | none => s
  | some a =>
    let t := { s with reclaim := { s.reclaim with checking := none } }
    if agentKind a ≠ 3 && s.responseHolds 1 (s.rdWindow Pg.identity 0x800 8) s.sec.sigReclaim then
      (t.reclaimEnds true).when (!s.isOwner a) fun t => t.ownerTo (some a)
    else t.reclaimEnds false

/-- The effect of a write to page 0x000 or 0x001; a claim and a release that fail do not come here. -/
def wrIdentity (a : Agent) (p : Nat) (s : State) (off : Nat) (v : Word) : State :=
  if p = Pg.identity ∧ off = R.OWNER_CLAIM.off then if v = 0xC1A1 then s.ownerTo (some a) else s
  else if p = Pg.identity ∧ off = R.OWNER_RELEASE.off then if v = 0xE1E then s.ownerTo none else s
  else if p = Pg.identity ∧ off = R.RECLAIM_CTRL.off then s.reclaimCmd a v.toNat
  else if p = Pg.identity ∧ 0x840 ≤ off ∧ off < 0x8C0 then
    s.modSec fun c => { c with sigReclaim := putBytes c.sigReclaim (off - 0x840) v }
  else s.storeWrite p off v

/-! ### JTAG (R594, R595) -/

/-- An instruction is loaded: EXTEST, CLAMP and HIGHZ give the boundary register the balls. The level sent out says which
instruction drives them, plus 1; 0 gives them back. DESIGN CHOICE, log entry 74. -/
def jtagLoad (s : State) (code : Nat) : State :=
  if code = 0x00 ∨ code = 0x04 ∨ code = 0x05 then
    ((s.modSec fun x => { x with jtag := some code }).emit (.level Pg.security (code + 1))).eventFault Pg.security
      E.P007_JTAG_CONTROL K.JTAG_CONTROL code
  else
    (s.modSec fun x => { x with jtag := none }).when s.sec.jtag.isSome fun t => t.emit (.level Pg.security 0)

end State

/-- OWNER_CLAIM (R46). -/
def execOwnerClaim (a : Agent) (v : Word) (s : State) : Host.Outcome State Fault Refusal :=
  finishAll (s.poke a Pg.identity R.OWNER_CLAIM.off v (State.wrIdentity a Pg.identity))

/-- OWNER_RELEASE (R47). -/
def execOwnerRelease (a : Agent) (v : Word) (s : State) : Host.Outcome State Fault Refusal :=
  finishAll (s.poke a Pg.identity R.OWNER_RELEASE.off v (State.wrIdentity a Pg.identity))

/-- RECLAIM_NONCE_NEW (R48). -/
def execReclaimNonceNew (a : Agent) (s : State) : Host.Outcome State Fault Refusal :=
  finishAll (s.poke a Pg.identity R.RECLAIM_CTRL.off 1 (State.wrIdentity a Pg.identity))

/-- RECLAIM_NONCE_READY (R48). -/
def execReclaimNonceReady (s : State) : Host.Outcome State Fault Refusal := finishAll s.reclaimReady

/-- RECLAIM_GO (R48). -/
def execReclaimGo (a : Agent) (s : State) : Host.Outcome State Fault Refusal :=
  finishAll (s.poke a Pg.identity R.RECLAIM_CTRL.off 2 (State.wrIdentity a Pg.identity))

/-- RECLAIM_CHECK_DONE (R48). -/
def execReclaimCheckDone (s : State) : Host.Outcome State Fault Refusal := finishAll s.reclaimChecked

/-- RECLAIM_NONCE_EXPIRY (R48): 10 s after the nonce was made. -/
def execReclaimNonceExpiry (s : State) : Host.Outcome State Fault Refusal :=
  finishAll { s with reclaim := { s.reclaim with valid := false } }

/-- PROGRAM (R583). -/
def execProgram (a : Agent) (sel : BitVec 8) (s : State) : Host.Outcome State Fault Refusal :=
  finishAll (s.poke a Pg.security R.OTP_CMD.off (BitVec.ofNat 32 (256 + sel.toNat)) (State.wrSecurity a))

/-- REVOKE (R583). -/
def execRevoke (a : Agent) (sel : BitVec 8) (s : State) : Host.Outcome State Fault Refusal :=
  finishAll (s.poke a Pg.security R.OTP_CMD.off (BitVec.ofNat 32 (512 + sel.toNat)) (State.wrSecurity a))

/-- OTP_DONE (R583). -/
def execOtpDone (readBack : Bool) (s : State) : Host.Outcome State Fault Refusal := finishAll (s.otpDone readBack)

/-- ATTEST_GO (R584). -/
def execAttestGo (a : Agent) (s : State) : Host.Outcome State Fault Refusal :=
  finishAll (s.poke a Pg.security R.ATTEST_CTRL.off 1 (State.wrSecurity a))

/-- ATTEST_DONE (R584). -/
def execAttestDone (s : State) : Host.Outcome State Fault Refusal := finishAll s.attestDone

/-- OPEN_NONCE_NEW (R587). -/
def execOpenNonceNew (a : Agent) (s : State) : Host.Outcome State Fault Refusal :=
  finishAll (s.poke a Pg.security R.OPEN_CTRL.off 1 (State.wrSecurity a))

/-- GO_KEY (R587). -/
def execGoKey (a : Agent) (s : State) : Host.Outcome State Fault Refusal :=
  finishAll (s.poke a Pg.security R.OPEN_CTRL.off 2 (State.wrSecurity a))

/-- GO_PASS (R588). -/
def execGoPass (a : Agent) (s : State) : Host.Outcome State Fault Refusal :=
  finishAll (s.poke a Pg.security R.OPEN_CTRL.off 4 (State.wrSecurity a))

/-- CLOSE (R589). -/
def execClose (a : Agent) (s : State) : Host.Outcome State Fault Refusal :=
  finishAll (s.poke a Pg.security R.OPEN_CTRL.off 8 (State.wrSecurity a))

/-- OPEN_TIMER_EXPIRY (R589). -/
def execOpenTimerExpiry (s : State) : Host.Outcome State Fault Refusal := finishAll s.closeAccess

/-- LOCK (R590). -/
def execLock (a : Agent) (s : State) : Host.Outcome State Fault Refusal :=
  finishAll (s.poke a Pg.security R.SEC_LOCK.off 2 (State.wrSecurity a))

/-- UNLOCK (R590). -/
def execUnlock (a : Agent) (s : State) : Host.Outcome State Fault Refusal :=
  finishAll (s.poke a Pg.security R.SEC_LOCK.off 4 (State.wrSecurity a))

/-- TRNG_FAIL (R587): the health test of the random source fails, or passes again. -/
def execTrngFail (failing : Bool) (s : State) : Host.Outcome State Fault Refusal :=
  finishAll ((s.modSec fun x => { x with badRandom := failing }).when failing fun t => t.raise Pg.security K.TRNG_FAIL 0)

/-- RUN (R591): a write of CH_CTRL. -/
def execRun (a : Agent) (v : Word) (s : State) : Host.Outcome State Fault Refusal :=
  finishAll (s.poke a (Pg.chaff 0) R.CH_CTRL.off v (State.wrChaff (Pg.chaff 0)))

/-- STOP_ALL (R591). -/
def execStopAll (a : Agent) (s : State) : Host.Outcome State Fault Refusal :=
  finishAll (s.poke a (Pg.chaff 0) R.CH_CTRL.off
    (BitVec.ofNat 32 (bitsPut (s.rd (Pg.chaff 0) R.CH_CTRL.off).toNat 1 1 1)) (State.wrChaff (Pg.chaff 0)))

/-- RUN_S_EXPIRY (R591). -/
def execRunSExpiry (s : State) : Host.Outcome State Fault Refusal :=
  finishAll (s.when (s.domainOn 0 && s.on (Pg.chaff 0) R.CH_CTRL_RUN) State.chaffStop)

/-- CH_START_REACHED (R591). -/
def execChStartReached (s : State) : Host.Outcome State Fault Refusal :=
  finishAll (s.when (s.domainOn 0 && s.chaff.waiting && s.on (Pg.chaff 0) R.CH_CTRL_RUN) State.chaffStart)

/-- FI_GO (R593): a write of FI_CMD. -/
def execFiGo (a : Agent) (v : Word) (s : State) : Host.Outcome State Fault Refusal :=
  finishAll (s.poke a (Pg.chaff 5) R.FI_CMD.off v (State.wrChaff (Pg.chaff 5)))

/-- JTAG_INSTRUCTION (R594, R595). -/
def execJtagInstruction (code : BitVec 8) (s : State) : Host.Outcome State Fault Refusal :=
  finishAll (s.jtagLoad code.toNat)

end Sys2Proof.Machine
end

