-- ==== Sys2Proof/Machine/Reset.lean ====
section
/-! DEFINITION. Resets (R31, R464 to R467, R511, R574, R623): what a SOFT_RESET, a domain that goes off and a reset that
reaches AON leave, and what a block does as it starts. -/

namespace Sys2Proof.Machine

open Sys2Proof (Word Byte Agent Code AccessKind Instr LaneId LinkId EngineId)

/-- The pages of the block that a SOFT_RESET written in page `p` resets: the page itself in a block of like pages (lanes,
sides, banks, engines, injectors), else every page of the block (R31, R37). DEDUCED, log entry 75. -/
def resetPages (p : Nat) : List Nat :=
  if (0x040 ≤ p ∧ p ≤ 0x05E) ∨ 0x080 ≤ p then [p]
  else (List.range 0x080).filter fun q => pageUsed q && blockFirst q == blockFirst p

/-- The bits of a register that is not Kept that a SOFT_RESET leaves: they show what the hardware is doing, not what the
block has recorded. DEDUCED, log entry 75. -/
def liveMask (p off : Nat) : Nat :=
  let all := 0xFFFFFFFF
  if off = R.PAGE_STATUS.off then all
  else if p = Pg.power ∧ (off = R.PD_ON.off ∨ off = R.PD_BUSY.off) then all
  else if (p = Pg.bringUp ∧ off = R.BRINGUP_STATUS.off) ∨ (p = Pg.seed ∧ off = R.SEED_STATUS.off) then all
  else if p = Pg.inlet ∧ (off = R.HS_STATUS.off ∨ off = R.HS_START.off) then all
  else if p = Pg.fuses ∧ 0x048 ≤ off ∧ off < 0x0C0 ∧ (off - 0x048) % 16 = 0 then all
  else if p = Pg.rails ∧ off = R.PD_TEMP.off then all
  else if p = Pg.fin ∧ (off = R.FIN_STATE_LO.off ∨ off = R.FIN_STATE_HI.off) then all
  else if p = Pg.fin ∧ 0x800 ≤ off then 0x23
  else if p = Pg.fout ∧ (off = R.FOUT_OPEN.off ∨ off = R.FOUT_AGG_MA.off) then all
  else if p = Pg.fout ∧ 0x800 ≤ off then 0x0FFF00E2
  else if 0x080 ≤ p ∧ p ≤ 0x087 ∧ off = R.BANK_STATUS.off then all
  else 0

/-- A word of a page after a SOFT_RESET of its block. -/
def softWord (k : Nat) (v : Word) : Word :=
  if State.keptKey k then keptWord k v
  else
    let m : Word := BitVec.ofNat 32 (liveMask (k / 0x1000000) (k % 0x1000000))
    (v &&& m) ||| (factoryWord k &&& ~~~m)

namespace State

/-- Every register of a page as a SOFT_RESET leaves it. -/
def softRegs (s : State) (p : Nat) : State :=
  let own (e : Nat × Word) : Bool := keyPage e.1 == p
  { s with regs := (s.regs.filter own).foldl (fun (c : Cells) e => c.set factoryWord e.1 (softWord e.1 e.2))
                     (s.regs.filter fun e => !own e) }

/-- What a block holds beside its registers is lost, and what depends on it follows. `p` is the first page of the block, or
the page of one of like pages. DEDUCED, log entry 75. -/
def dropBlock (s : State) (p : Nat) : State :=
  if isEngine p then
    let e := p - 0x100
    let t := s.when (s.engUp e) fun t => t.engineFall e
    { t with engs := tabSet {} e {} t.engs }
  else if isLane p then (s.laneStop (p - 0x040)).modLane (p - 0x040) fun _ => {}
  else if 0x058 ≤ p ∧ p ≤ 0x05E then
    let k := p - 0x058
    let t := (s.when (s.linkSt k == 3 || s.linkSt k == 4) fun t => t.linkLost k 0).setLinkSt k 0
    t.setLink k {}
  else if p = Pg.master then { s with ring := {} }
  else if p = Pg.core then s.modCore fun c => { downEngines := c.downEngines }
  else if p = Pg.signal then { s with sig := {} }
  else if p = Pg.bridge then
    let t := s.modBridge fun b => { cmds := b.cmds }
    t.modUsb fun u => { u with parts := u.parts.map fun x => some (x.getD (9, 0, [])) }
  else if p = Pg.time then { s with prime0 := {}, prime1 := {}, units := Vector.replicate 15 {}, time := {} }
  else if p = Pg.pcie then
    let t := s.pcieReset .linkDown
    { t with pcie := { vecs := t.pcie.vecs } }
  else if p = Pg.usb then
    let t := s.usbLost.when s.usb.pull fun t => t.emit (.level Pg.usb 0)
    t.modUsb fun u => { vbus := u.vbus, resets := u.resets, ports := u.ports.map fun x => { dev := x.dev } }
  else if p = Pg.update then { s with upd := {} }
  else if p = Pg.epoch then { s with epoch := {} }
  else if p = Pg.ralusk then s.modRal fun r => { area := r.area }
  else if p = Pg.chaff 0 then { s with chaff := {} }
  else if p = Pg.security then
    s.closeAccess.modSec fun x =>
      { otp := x.otp, revoked := x.revoked, badRandom := x.badRandom, jtag := x.jtag, passUntil := x.passUntil }
  else if p = Pg.identity then { s.when s.held fun t => t.ownerTo none with reclaim := {} }
  else if p = Pg.afl then { s with afl := [] }
  else if p = Pg.record then s.modBridge fun b => { b with cmds := [] }
  else if p = Pg.interrupts then { s with pcie := { s.pcie with vecs := Vector.replicate 64 {} } }
  else if p = Pg.thresher then
    s.modThr fun x => { queue := x.queue, held := x.held, persist := x.persist, area := x.area, sliceFail := x.sliceFail }
  else if p = Pg.inlet then
    (List.range 8).foldl (fun t b => t.when (t.fuseState b == 4) fun t => t.fuseTo b 0) s
  else s

/-- Every engine that is enabled evaluates its bindings. -/
def bindAll (s : State) : State :=
  (List.range 128).foldl (fun t e => t.when (t.pageOn (Pg.engine e) && t.engOn e) fun t => t.bindEval e) s

/-- The conditions of the inputs that hold are found anew (R344, R348). -/
def finFound (s : State) : State :=
  let t := (List.range 64).foldl (fun t i =>
    let x := tabGet {} i t.field.ins
    let t := t.when (x.wireBreak && !t.on Pg.fin (R.FIN_STAT_WIRE_BREAK i)) fun t =>
      t.finFault i K.WIRE_BREAK (R.FIN_STAT_WIRE_BREAK i)
    t.when (x.overvolt && !t.on Pg.fin (R.FIN_STAT_OVERVOLT i)) fun t =>
      t.finFault i K.INPUT_OVERVOLT (R.FIN_STAT_OVERVOLT i)) s
  ((List.range 8).foldl groupCheck t).when t.die.lost finDieLost

/-- A page takes up its work: as it becomes READY, and at the end of a SOFT_RESET. -/
def pageStarts (s : State) (p : Nat) : State :=
  if isLane p then (s.laneKeepEq (p - 0x040)).laneStart (p - 0x040)
  else if 0x058 ≤ p ∧ p ≤ 0x05E then s.when (s.sideEnabled (p - 0x058)) fun t => t.linkEnable (p - 0x058)
  else if isEngine p then
    let e := p - 0x100
    ((s.when (s.engOn e) fun t => t.bindEval e).engineSync e).pairSync e
  else if 0x080 ≤ p ∧ p ≤ 0x087 then (s.vioCheck (p - 0x080)).safeRefresh
  else if p = Pg.master then
    let t := s.refreshNode
    t.when ([0, 1, 2, 3].any t.sideUp) fun t => t.discover false
  else if p = Pg.sched then s.schedActivated
  else if p = Pg.core then (List.range 128).foldl engineSync s
  else if p = Pg.directory then s.refreshReach.fieldBindings.finPresent.bindAll
  else if p = Pg.sigMirror ∨ p = Pg.fout then s.outBranches.outDriveAll
  else if p = Pg.time then s.timeSync
  else if p = Pg.pcie ∨ p = Pg.events ∨ p = Pg.interrupts then s.vecsLive
  else if p = Pg.usb then s.pullSync.portsShow
  else if p = Pg.foutCfg then
    ((List.range 32).foldl (fun t o => t.modFout o fun x => { x with safe := t.get Pg.foutCfg (R.FOUT_CFG_SAFE o) }) s).outDriveAll
  else if p = Pg.finCfg then s.fieldBindings.finPresent
  else if p = Pg.fin then s.finFound
  else if p = Pg.ralusk then if s.raluskState = 0 then s.raluskLoads else s.ralSync
  else if p = Pg.thresher then s.safeRefresh
  else if p = Pg.identity then s.refreshNode
  else if p = Pg.update then
    let t := s.when (s.seed.trial.isSome && s.seed.booted.any fun n => (s.seed.slots.getD n {}).st == 2) fun t =>
      (((t.put p R.UPD_STATUS_STATE 8).wr p R.UPD_MANIFEST_ID.off (BitVec.ofNat 32 t.bootedId)).eventFault p
        E.P008_TRIAL_BOOT K.UPDATE_TRIAL t.bootedId).event p E.P008_STATE_CHANGED
    t.when s.seed.rolledBack fun t =>
      ((((t.put p R.UPD_STATUS_OUTCOME 15).event p E.P008_REFUSED).event p E.P008_ROLLED_BACK).count p
        R.CNT_UPD_ROLL).modSeed fun x => { x with rolledBack := false }
  else s

/-! ### SOFT_RESET (R31) -/

/-- A write of SOFT_RESET: the registers that are not Kept return to Factory, what the block holds is lost, and accesses are
refused until the reset is done. DEDUCED, log entry 75. -/
def softResetBegin (s : State) (p : Nat) : State :=
  let l := resetPages p
  let t := s.dropBlock (l.headD p)
  let t := l.foldl (fun t q => (t.softRegs q).setF q R.PAGE_CTRL_SOFT_RESET) t
  if isEngine p then t.engineSync (p - 0x100) else t

/-- The reset is done. DEDUCED, log entry 75. -/
def softResetEnd (s : State) (p : Nat) : State :=
  if !s.softReset p then s
  else
    let l := resetPages p
    l.foldl pageStarts (l.foldl (fun t q => t.clrF q R.PAGE_CTRL_SOFT_RESET) s)

/-! ### Readiness (R469, R472) -/

/-- Every page of event source `n` is READY. -/
def blockReady (s : State) (n : Nat) : Bool := decide (n < 64) && !(sourcePages n).isEmpty && (sourcePages n).all s.ready

/-- A change that may change BLOCK_READY: its event, and when a source became ready. -/
def readyChange (s : State) (f : State → State) : State :=
  let t := f s
  let changed := (List.range 64).filter fun n => s.blockReady n != t.blockReady n
  let t := t.when (!changed.isEmpty) fun t => t.event Pg.bringUp E.P005_BLOCK_READY
  let now := changed.filter t.blockReady
  t.modSeed fun x => { x with readyAt := x.readyAt.filter (fun e => !now.contains e.1) ++ now.map fun n => (n, t.uptime) }

/-! ### Domains (R12, R458, R459, R464, R466) -/

/-- What follows a domain that went off or came on, in the others. -/
def domainsChanged (s : State) : State :=
  ((List.range 128).foldl engineSync s).safeRefresh.timeSync.pullSync

/-- A domain goes off, or a rail dip resets it: its registers and what its blocks hold are lost. DESIGN CHOICE, log
entry 8. -/
def domainDown (s : State) (d : Nat) : State :=
  if !s.domainOn d then s
  else s.readyChange fun s =>
    let l := domainPages d
    let t := l.foldl dropBlock (s.when (d == 0 && s.domainOn 4) fun t => t.dropMgmt)
    let t := t.put Pg.power ⟨R.PD_ON.off, d, 1⟩ 0
    let other (q : FaultMsg) : Bool := l.all fun p => islandOf p != q.island
    let t := { t with regs := t.regs.filter fun e => domainOf (keyPage e.1) != some d,
                      thr := { t.thr with queue := t.thr.queue.filter other, held := t.thr.held.filter other } }
    t.domainsChanged

/-- A domain comes on (R459): its pages are to be restored. -/
def domainUp (s : State) (d : Nat) : State :=
  let t := (s.put Pg.power ⟨R.PD_ON.off, d, 1⟩ 1).count Pg.bringUp R.CNT_RESET_DOMAIN
  let t := t.when (d == 4) fun t => t.modThr fun x => { x with sliceFail := [] }
  (t.when (d == 0) raluskLoads).domainsChanged

/-! ### The slot to boot, and a trial undone (R574, R576) -/

/-- The slot in a state, where there is one. -/
def slotIn (s : State) (st : Nat) : Option Nat := [0, 1].find? fun n => (s.seed.slots.getD n {}).st == st

/-- Change a firmware slot. -/
def modSlot (s : State) (n : Nat) (f : FwSlot → FwSlot) : State :=
  s.modSeed fun x => { x with slots := x.slots.set n (f (x.slots.getD n {})) }

/-- The trial is undone in the store: slot REJECTED, an image that it brought invalid, the records after JOURNAL_MARK
discarded. -/
def trialUndo (s : State) : State :=
  match s.seed.trial with
  | none => s
  | some x =>
    let t := match s.slotIn 2 with
      | some n => s.modSlot n fun y => { y with st := 5 }
      | none => s
    let t := match x.image with
      | some n => t.setImage n { t.image n with valid := false, gen := 0xFFFFFFFF }
      | none => t
    let old (l : List JRec) : List JRec := l.filter fun r => decide (r.seq ≤ x.mark)
    t.modSeed fun y => { y with bank0 := old y.bank0, bank1 := old y.bank1, buf := [], commit := none, again := false,
                                trial := none, rolledBack := true }

/-- Journalling of a trial uses the bank that did not hold the records up to JOURNAL_MARK, where it is free. -/
def trialBank (s : State) : State :=
  s.when (s.bank s.otherBank).isEmpty fun t => t.put Pg.seed R.SEED_STATUS_ACTIVE_BANK s.otherBank

/-- The store selects the slot to boot. -/
def bootSelect (s : State) : State :=
  match s.slotIn 2 with
  | some n => ((s.modSlot n fun y => { y with booted := true }).modSeed fun x => { x with booted := some n }).trialBank
  | none => s.modSeed fun x => { x with booted := s.slotIn 3 }

/-! ### Resets that reach AON (R464, R465, R467, R468, R511) -/

/-- What a reset that reaches AON leaves: the Seed store, the one-time cells, the power and field die with its registers, the
clock lines and the levels at the hub's own balls. DESIGN CHOICE, log entry 8, DEDUCED, log entry 76. -/
def aonKeeps (s : State) : State :=
  let die (p : Nat) : Bool := 0x020 ≤ p && p ≤ 0x027
  { regs := s.regs.filter fun e => die (keyPage e.1) && e.1 % 0x1000000 != R.PAGE_STATUS.off
    fresh := s.fresh, out := s.out, pending := s.pending
    seed := s.seed, field := s.field
    power := { s.power with dipped := s.power.dipped.filter (· != 0), reset := List.range 19 }
    die := { watch := s.die.watch, lost := s.die.lost || s.die.watch }
    thr := { area := s.thr.area }, ral := { area := s.ral.area }
    usb := { vbus := s.usb.vbus, ports := s.usb.ports.map fun x => { dev := x.dev } }
    sec := { otp := s.sec.otp, revoked := s.sec.revoked, badRandom := s.sec.badRandom, jtag := s.sec.jtag,
             passUntil := s.sec.passUntil - s.ns } }

/-- The last persistent entry that took the first-fault record is shown, and HUB_FATAL_RESTART is latched (R511).
DEDUCED, log entry 76. -/
def fatalRestart (s : State) : State :=
  let p := Pg.thresher
  match s.thr.area.find? fun e => bitOf (e.words.getD 1 0).toNat 8 with
  | some e =>
    let lo := e.words.getD 2 0
    (((s.wr p R.PREV_FF_LO.off lo).wr p R.PREV_FF_HI.off (e.words.getD 3 0)).setF p R.THR_STATUS_PREV_VALID).raise p
      K.HUB_FATAL_RESTART (lo.toNat % 2 ^ 20)
  | none => s.raise p K.HUB_FATAL_RESTART 0

/-- A reset that reaches AON, with its cause, and the straps as they are sampled. DEDUCED, log entry 76, DEDUCED, log
entry 84. -/
def aonReset (s : State) (cause pos : Nat) (norestore : Bool) : State :=
  let undo := s.seed.trial.isSome && (s.slotIn 2).any fun n => (s.seed.slots.getD n {}).booted
  let ident := (s.slotIn 2).elim 0 fun n => (s.seed.slots.getD n {}).ident
  let t := (s.aonKeeps).when undo trialUndo
  let t := (t.put Pg.bringUp R.BRINGUP_STATUS_STRAP_POS pos).putB Pg.bringUp R.BRINGUP_STATUS_STRAP_NORESTORE norestore
  let t := (t.put Pg.bringUp R.RESET_CAUSE_CAUSE cause).seedReset norestore
  let t := t.bootSelect
  let t := t.when undo fun t =>
    t.queueFault { island := 1, page := Pg.update, kind := K.UPDATE_ROLLBACK, sev := 2, tick := 0, addr := ident }
  let t := t.when (cause == 5) fun t => t.fatalRestart.faultBatch
  (t.when s.die.watch finDieLost).safeRefresh

/-- A reset by software, by a fault or by an update first commits what is buffered (R510, R573, R623). DEDUCED, log
entry 84. -/
def commitAll (s : State) : State :=
  if s.on Pg.seed R.SEED_STATUS_FROZEN then s
  else if s.on Pg.seed R.SEED_STATUS_JOURNALLING then s.writeRecs s.seed.buf.length else s

/-- A write of BRINGUP_CMD (R464, R623): KEY, HUB_RESET, by the owner. DEDUCED, log entry 76, DEDUCED, log entry 84. -/
def hubReset (s : State) (a : Agent) (v pos : Nat) (norestore : Bool) : State :=
  if v % 2 ^ 16 = 0x5EED ∧ bitOf v 16 ∧ s.isOwner a then s.commitAll.aonReset 4 pos norestore else s

end State

/-- SOFT_RESET (R31). -/
def execSoftReset (a : Agent) (p : BitVec 9) (s : State) : Host.Outcome State Fault Refusal :=
  finishAll (s.guarded a .posted p.toNat R.PAGE_CTRL.off fun t => if t.pageShut p.toNat then t else t.softResetBegin p.toNat)

/-- SOFT_RESET_DONE (R31). -/
def execSoftResetDone (p : BitVec 9) (s : State) : Host.Outcome State Fault Refusal := finishAll (s.softResetEnd p.toNat)

/-- AON_POWER_ON (R464, R467): the supply has risen, or it dipped (R449). -/
def execAonPowerOn (dip : Bool) (pos : Fin 4) (norestore : Bool) (s : State) : Host.Outcome State Fault Refusal :=
  finishAll (s.aonReset (if dip then 2 else 1) pos norestore)

/-- NRESET (R464, R468). -/
def execNreset (pos : Fin 4) (norestore : Bool) (s : State) : Host.Outcome State Fault Refusal :=
  finishAll (s.aonReset 3 pos norestore)

/-- HUB_RESET (R464, R623): a write of BRINGUP_CMD, and the straps at the release of the reset that it may start. -/
def execHubReset (a : Agent) (v : Word) (pos : Fin 4) (norestore : Bool) (s : State) : Host.Outcome State Fault Refusal :=
  finishAll (s.poke a Pg.bringUp R.BRINGUP_CMD.off v fun t _ w => t.hubReset a w.toNat pos norestore)

/-- HUB_FATAL_RESET (R510): at most 400 µs after an S4 fault with HUB_RESET, whether or not the writes have completed. -/
def execHubFatalReset (pos : Fin 4) (norestore : Bool) (s : State) : Host.Outcome State Fault Refusal :=
  finishAll (if s.thr.fatal then s.aonReset 5 pos norestore else s)

end Sys2Proof.Machine
end

