-- ==== Sys2Proof/Machine/Update.lean ====
section
/-! DEFINITION. Firmware and configuration update (R559 to R580), the switch of an epoch with the update that it may carry
(R540, R572), and the restart of Ralusk (R534). -/

namespace Sys2Proof.Machine

open Sys2Proof (Word Byte Agent Code AccessKind Instr LaneId LinkId EngineId)

/-! ### The Stook manifest (R559, R561) -/

namespace Stook

/-- A number of `n` bytes at offset `i` of the stream. -/
def num (b : List Byte) (i n : Nat) : Nat := leNat (bytesAt b i n)

/-- Part count, MANIFEST_ID, SVN, total length. -/
def count (b : List Byte) : Nat := num b 6 2
def ident (b : List Byte) : Nat := num b 8 4
def svn (b : List Byte) : Nat := num b 12 4
def total (b : List Byte) : Nat := num b 16 4
def keyId (b : List Byte) : Nat := num b 20 1 % 4
def floorAdv (b : List Byte) : Bool := bitOf (num b 21 1) 0

/-- The part table ends here. -/
def tableEnd (b : List Byte) : Nat := 64 + 32 * Nat.min 32 (count b)

/-- The part table has arrived; the whole stream has. -/
def tableHere (b : List Byte) : Bool := decide (64 ≤ b.length) && decide (tableEnd b ≤ b.length)
def full (b : List Byte) : Bool := decide (20 ≤ b.length) && decide (total b + 96 ≤ b.length)

/-- The parts, by number. -/
def parts (b : List Byte) : List Nat := List.range (Nat.min 32 (count b))

/-- Fields of part `i`. -/
def kind (b : List Byte) (i : Nat) : Nat := num b (64 + 32 * i) 1
def hubs (b : List Byte) (i : Nat) : Nat := num b (65 + 32 * i) 1 % 16
def node (b : List Byte) (i : Nat) : Nat := num b (66 + 32 * i) 1
def off (b : List Byte) (i : Nat) : Nat := num b (68 + 32 * i) 4
def len (b : List Byte) (i : Nat) : Nat := num b (72 + 32 * i) 4
def version (b : List Byte) (i : Nat) : Nat := num b (76 + 32 * i) 4
def crc (b : List Byte) (i : Nat) : Nat := num b (80 + 32 * i) 4
def data (b : List Byte) (i : Nat) : List Byte := bytesAt b (off b i) (len b i)

/-- The largest LENGTH of a part kind. -/
def largest (k : Nat) : Nat := [0, 1634304, 262144, 131072, 65536, 1048576].getD k 0

/-- A configuration image has the header of R473. -/
def imageForm (d : List Byte) : Bool :=
  num d 0 4 == 0x53454544 && num d 8 2 == 2 && num d 12 4 == d.length && num d 60 4 == crc32c (d.take 60)

/-- Two parts that one hub would take. -/
def clash (b : List Byte) (i j : Nat) : Bool :=
  decide (i < j) && kind b i == kind b j && Nat.land (hubs b i) (hubs b j) != 0
    && (node b i == node b j || node b i == 255 || node b j == 255)

/-- A part keeps the rules of R559 and R561. -/
def partForm (b : List Byte) (i : Nat) : Bool :=
  let k := kind b i
  decide (1 ≤ k) && decide (k ≤ 5) && decide (len b i ≤ largest k) && off b i % 4 == 0 && decide (tableEnd b ≤ off b i)
    && decide (off b i + len b i ≤ total b) && num b (67 + 32 * i) 1 == 0 && num b (84 + 32 * i) 12 == 0
    && (k != 5 || imageForm (data b i)) && !(parts b).any fun j => clash b j i

/-- The header keeps the rules of R559. -/
def headForm (b : List Byte) : Bool :=
  num b 0 4 == 0x53544B31 && num b 4 2 == 1 && decide (1 ≤ count b) && decide (count b ≤ 32) && ident b != 0
    && num b 22 2 == 0 && num b 28 36 == 0 && decide (tableEnd b ≤ total b)

end Stook

/-- A piece of a configuration image: page, its words, whether its CRC-32C holds (R473). -/
def imageSections : Nat → List Byte → List (Nat × List Word × Bool)
  | 0, _ => []
  | n + 1, b =>
    if b.length < 8 then []
    else
      let w := leNat (bytesAt b 2 2)
      let size := 4 + 4 * w
      let ok := decide (size + 4 ≤ b.length) && leNat (bytesAt b size 4) == crc32c (b.take size)
      (leNat (bytesAt b 0 2), (List.range w).map fun i => BitVec.ofNat 32 (leNat (bytesAt b (4 + 4 * i) 4)), ok)
        :: imageSections n (b.drop (size + 4))

namespace State

/-- Change the update block's own data. -/
def modUpd (s : State) (f : Update → Update) : State := { s with upd := f s.upd }

/-! ### States and outcomes (R562, R568) -/

/-- UPD_STATUS.STATE. -/
def updState (s : State) : Nat := s.get Pg.update R.UPD_STATUS_STATE

/-- Enter a state; Ralusk follows (R533). -/
def updTo (s : State) (n : Nat) : State :=
  let p := Pg.update
  let t := (s.put p R.UPD_STATUS_STATE n).when (s.updState != n) fun t => t.event p E.P008_STATE_CHANGED
  (t.when (n == 4 && s.updState != 4) fun t => t.event p E.P008_STAGED).ralSync

/-- Set OUTCOME (R562): a code other than 0 is an event and a fault, for `part` where a part fails. -/
def updOutcome (s : State) (code part : Nat) : State :=
  let p := Pg.update
  let t := s.put p R.UPD_STATUS_OUTCOME code
  if code = 0 then t
  else
    let t := t.event p E.P008_REFUSED
    if (6 ≤ code ∧ code ≤ 10) ∨ code = 13 then t.raise p K.UPDATE_VERIFY_FAIL (code + 256 * part)
    else t.raise p K.UPDATE_REFUSED code

/-- SUPPLY_OK: HS_VIN at VMIN or above, no warning, PGOOD released, the store not frozen. -/
def supplyOk (s : State) : Bool :=
  let vmin := s.get Pg.update R.UPD_SUPPLY_VMIN
  let least := if vmin = 0 then clamp 70 580 (bitsOf (s.rd Pg.inlet R.HS_WINDOW.off).toNat 0 10) + 20 else vmin
  decide ((100 * least : Int) ≤ signedOf 32 (s.rd Pg.meters (R.MTR_AVG 0).off).toNat)
    && !s.on Pg.inlet R.HS_STATUS_PFW_ACTIVE && s.pgood && !s.on Pg.seed R.SEED_STATUS_FROZEN

/-- HOLDUP_OK. -/
def holdupOk (s : State) : Bool := decide (500 ≤ s.get Pg.update R.UPD_SUPPLY_HOLDUP_US)

/-- The first of codes 1 to 5 that applies; `other` says that another update is past IDLE. -/
def updCode (s : State) (other : Bool) : Nat :=
  if s.interlockActive then 1
  else if !s.supplyOk then 2
  else if !s.holdupOk then 3
  else if s.on Pg.security R.SEC_LOCK_OWNER_LOCK then 4
  else if other || s.on Pg.seed R.SEED_STATUS_COMPACTING then 5
  else 0

/-! ### Messages (R570) -/

/-- The stitch port to the hub at position `h`; the position of the hub at a stitch port. -/
def portTo (s : State) (h : Nat) : Nat := 3 + (h + 4 - s.hubPos) % 4
def posAt (s : State) (k : Nat) : Nat := (s.hubPos + k - 3) % 4

/-- The MANIFEST_ID of the update: in staging or trial. -/
def updIdent (s : State) : Nat := (s.rd Pg.update R.UPD_MANIFEST_ID.off).toNat

/-- Send an UPDATE message; whether it was queued. -/
def updSendOk (s : State) (h aux : Nat) (rest : List Byte) : State × Bool :=
  let k := s.portTo h
  if !s.nodeValid || !s.linkActive k then (s, false)
  else
    let r := s.entered 8
      { cls := 2, prio := 7, ftype := 0x33, aux := aux, dstNode := s.node, dstHub := h,
        payload := leBytes 4 s.updIdent ++ rest }
    r.1.sideQueue k { r.2 with hops := 0 }

def updSend (s : State) (h aux : Nat) (rest : List Byte) : State := (s.updSendOk h aux rest).1

/-- Send to every peer of the set. -/
def updSendAll (s : State) (aux : Nat) (rest : List Byte) : State := s.upd.peers.foldl (fun t h => t.updSend h aux rest) s

/-- A VOTE to the lead. DEDUCED, log entry 79. -/
def updVote (s : State) (code : Nat) : State := s.updSend 0 0x04 [BitVec.ofNat 8 code]

/-- An UPDATE message comes over the stitch port of a position, names this update, and this hub is not its own lead. -/
def updFromLead (s : State) (k : Nat) (b : List Byte) : Bool :=
  decide (4 ≤ k) && s.domainOn 0 && s.hubPos != 0 && s.posAt k == 0 && leNat (bytesAt b 0 4) == s.updIdent
def updFromPeer (s : State) (k : Nat) (b : List Byte) : Bool :=
  decide (4 ≤ k) && s.domainOn 0 && s.hubPos == 0 && leNat (bytesAt b 0 4) == s.updIdent

/-- UPD_PEERS: hubs of the set, votes, trial-ready. -/
def updShow (s : State) : State :=
  let mask (l : List Nat) : Nat := ((List.range 4).filter l.contains).foldl (fun x h => x + 2 ^ h) 0
  let own := if s.updState = 0 ∨ s.upd.lead.isSome then [] else [s.hubPos]
  ((s.put Pg.update R.UPD_PEERS_HUBS (mask (own ++ s.upd.peers))).put Pg.update R.UPD_PEERS_VOTED (mask s.upd.votes)).put
    Pg.update R.UPD_PEERS_TRIAL (mask s.upd.ready)

/-! ### Staging (R564 to R567) -/

/-- The spare slot: the one whose state is not ACTIVE. -/
def spareSlot (s : State) : Nat := ([0, 1].find? fun n => (s.seed.slots.getD n {}).st != 3).getD 0

/-- Return to IDLE with an outcome: nothing is staged. -/
def updIdle (s : State) (code part : Nat) : State :=
  let p := Pg.update
  let t := { s with upd := {} }
  let t := (t.updTo 0).updOutcome code part
  (((t.wr p R.UPD_MANIFEST_ID.off 0).clrF p R.UPD_STATUS_LEAD_OF_SET).updShow).compactTry

/-- Staging, or what is staged, ends with an outcome: the slot is EMPTY, and the other hubs of the set hear of it.
DEDUCED, log entry 80. -/
def updFails (s : State) (code part : Nat) : State :=
  let t := s.updSendAll 0x06 [BitVec.ofNat 8 code]
  let t := t.when s.upd.lead.isSome fun t => t.updVote code
  (t.modSlot t.spareSlot fun _ => {}).updIdle code part

/-- Erasing begins (R564). -/
def updErase (s : State) (lead : Option Nat) (ident : Nat) : State :=
  let p := Pg.update
  let t := { s.modSlot s.spareSlot fun _ => {} with upd := { lead := lead } }
  let t := (t.wr p R.UPD_MANIFEST_ID.off (BitVec.ofNat 32 ident)).put p R.UPD_STATUS_OUTCOME 0
  ((t.clrF p R.UPD_STATUS_HELD).updTo 1).updShow

/-- UPD_CMD.START. -/
def updStart (s : State) : State :=
  let c := s.updCode (s.updState != 0)
  if c ≠ 0 then s.updOutcome c 0 else s.updErase none 0

/-- The erase is done: the stream buffer opens; a peer tells its lead. -/
def eraseDone (s : State) : State :=
  if s.domainOn 0 && s.updState == 1 then
    let t := (s.updTo 2).event Pg.updateData E.P009_SPACE
    t.when s.upd.lead.isSome fun t => t.updVote 0
  else s

/-- Bytes of the stream that still occupy the buffer, and UPD_SPACE. DEDUCED, log entry 79. -/
def updSpace (s : State) : Nat :=
  let done := if s.upd.peers.isEmpty then s.upd.programmed else Nat.min s.upd.programmed s.upd.peerDone
  if s.updState = 2 then 4096 - (s.upd.stream.length - done / 4 * 4) else 0

/-- The hub takes part `i` (R560). -/
def takesPart (s : State) (b : List Byte) (i : Nat) : Bool :=
  bitOf (Stook.hubs b i) s.hubPos && (Stook.node b i == 255 || (s.nodeValid && Stook.node b i == s.node))

/-- The peers of this node that the part table names (R564). -/
def namedPeers (s : State) (b : List Byte) : List Nat :=
  if s.hubPos ≠ 0 then []
  else [1, 2, 3].filter fun h => (Stook.parts b).any fun i =>
    bitOf (Stook.hubs b i) h && (Stook.node b i == 255 || (s.nodeValid && Stook.node b i == s.node))

/-- A peer cannot be reached. DEDUCED, log entry 79. -/
def peerLost (s : State) (h : Nat) : State := s.raise Pg.update K.UPDATE_PEER_LOST h

/-- The lead sends on what the peers lack, once every peer has erased. -/
def updForward (s : State) : State :=
  if s.upd.peers.isEmpty || !s.upd.peers.all s.upd.votes.contains then s
  else (List.range 20).foldl (fun t _ =>
    let b := t.upd.stream
    let o := t.upd.forwarded
    let n := Nat.min 232 (b.length - o)
    if n = 0 ∨ (n < 232 ∧ !Stook.full b) then t
    else
      let r := t.upd.peers.foldl (fun (x : State × Bool) h =>
        let y := x.1.updSendOk h 0x02 (leBytes 4 o ++ bytesAt b o n)
        (y.1, x.2 && y.2)) (t, true)
      if r.2 then r.1.modUpd fun u => { u with forwarded := o + n } else r.1) s

/-- The part table has arrived: an image for this hub is announced, the lead starts its peers. -/
def tableArrived (s : State) : State :=
  let b := s.upd.stream
  let p := Pg.update
  let t := s.wr p R.UPD_MANIFEST_ID.off (BitVec.ofNat 32 (Stook.ident b))
  let image := (Stook.parts b).any fun i => Stook.kind b i == 5 && s.takesPart b i
  let l := if s.upd.lead.isSome then [] else s.namedPeers b
  let t := t.modUpd fun u => { u with image := if image then some {} else none, peers := l }
  let t := (t.putB p R.UPD_STATUS_LEAD_OF_SET (!l.isEmpty)).updShow
  match l.find? fun h => !t.linkActive (t.portTo h) with
  | some h => (t.peerLost h).updFails 12 0
  | none => t.updSendAll 0x01 []

/-- Bytes are appended to the stream. -/
def updAppend (s : State) (d : List Byte) : State :=
  let had := Stook.tableHere s.upd.stream
  let t := s.modUpd fun u => { u with stream := u.stream ++ d }
  (t.when (!had && Stook.tableHere t.upd.stream) tableArrived).updForward

/-- A write of UPD_DATA (R565). -/
def updData (s : State) (v : Word) : State :=
  if s.updState ≠ 2 ∨ s.upd.lead.isSome ∨ Stook.full s.upd.stream then s
  else if s.updSpace < 4 then (s.event Pg.updateData E.P009_OVERRUN).updFails 11 0
  else s.updAppend (leBytes 4 v.toNat)

/-- The stream buffer drains by `n` ns of programming, at 4 MiB/s, unless the store is frozen (R565). DESIGN CHOICE,
log entry 10. -/
def updDrain (s : State) (n : Nat) : State :=
  if s.updState ≠ 2 ∨ s.on Pg.seed R.SEED_STATUS_FROZEN then s
  else
    let k := (s.ns + n) * 4194304 / 1000000000 - s.ns * 4194304 / 1000000000
    let before := s.updSpace
    let t := s.modUpd fun u =>
      { u with programmed := Nat.min u.stream.length (u.programmed + k), peerDone := Nat.min u.forwarded (u.peerDone + k) }
    let t := t.updForward
    t.when (decide (before < 2048) && decide (2048 ≤ t.updSpace)) fun t => t.event Pg.updateData E.P009_SPACE

/-- The check of a part: its form, its CRC-32C. -/
def partCheck (b : List Byte) (i : Nat) : Nat :=
  if !Stook.partForm b i then 6 else if crc32c (Stook.data b i) ≠ Stook.crc b i then 8 else 0

/-- The checks of codes 6 to 10 (R566): the first that fails, and the part. -/
def updVerify (s : State) (b : List Byte) : Nat × Nat :=
  let stepping := (s.rd Pg.identity R.STEPPING.off).toNat % 256
  let badPart (c : Nat) : Option Nat := (Stook.parts b).find? fun i => partCheck b i == c
  let key := 0x10 + Stook.keyId b
  let t := Stook.total b
  if !Stook.headForm b then (6, 0)
  else match badPart 6 with
    | some i => (6, i)
    | none =>
      if Stook.num b 24 2 ≠ 0x1280 ∨ stepping < Stook.num b 26 1 ∨ Stook.num b 27 1 < stepping then (7, 0)
      else match badPart 8 with
        | some i => (8, i)
        | none =>
          if !(s.otpGood key && sigHolds ((s.otpRec key).getD []) (b.take t) (bytesAt b t 96)) then (9, 0)
          else if Stook.svn b < s.svnFloor then (10, 0)
          else (0, 0)

/-- The image that a part carries (R473, R561): a section that is absent, or whose CRC-32C or word count fails, is bad. -/
def readImage (s : State) (d : List Byte) : Image :=
  let secs := imageSections 512 (d.drop 64)
  let page (p : Nat) : Option Cells :=
    match secs.find? fun x => x.1 == p with
    | some (_, ws, true) =>
      let own := s.sectionKeys p
      let mode := bitsOf (ws.getD (own.findIdx (· == regKey p R.ENG_CFG.off)) 0).toNat R.ENG_CFG_MODE.lo R.ENG_CFG_MODE.w
      let keys := if isEngine p then (s.put p R.ENG_CFG_MODE mode).sectionKeys p else own
      if keys.length = ws.length then
        some ((keys.zip ws).foldl (fun (c : Cells) e => c.set factoryWord e.1 (keptWord e.1 e.2)) [])
      else none
    | _ => none
  { valid := true, gen := leNat (bytesAt d 4 4), bad := usedPages.filter fun p => (page p).isNone,
    cells := usedPages.foldl (fun (c : Cells) p => ((page p).getD []).foldl (fun c e => c.set factoryWord e.1 e.2) c) [] }

/-- The spare slot is complete, with its header (R566). -/
def slotComplete (s : State) : State :=
  let b := s.upd.stream
  let mine := (Stook.parts b).filter (s.takesPart b)
  let old : List FwPart := match s.slotIn 3 with
    | some n => (s.seed.slots.getD n {}).parts
    | none => []
  let part (k : Nat) : List FwPart :=
    match mine.find? fun i => Stook.kind b i == k with
    | some i => [{ kind := k, version := Stook.version b i, data := Stook.data b i }]
    | none => old.filter (·.kind == k)
  let image := (mine.find? fun i => Stook.kind b i == 5).map fun i => s.readImage (Stook.data b i)
  let t := s.modSlot s.spareSlot fun _ =>
    { st := 1, ident := Stook.ident b, svn := Stook.svn b, floorAdv := Stook.floorAdv b, parts := [1, 2, 3, 4].flatMap part }
  t.modUpd fun u => { u with checked := true, image := image }

/-- STAGED, once every peer is. -/
def updStaged (s : State) : State :=
  if s.upd.checked && s.upd.peers.all s.upd.staged.contains then
    let t := ((s.modUpd fun u => { u with votes := [] }).put Pg.update R.UPD_STATUS_OUTCOME 0).updTo 4
    (t.when s.upd.lead.isSome fun t => t.updVote 0).updShow
  else s

/-- The stream is complete (R566). -/
def streamComplete (s : State) (readBack : Bool) : State :=
  let b := s.upd.stream
  if !s.domainOn 0 || s.updState != 2 || !Stook.full b then s
  else
    let t := (s.updTo 3).modUpd fun u =>
      { u with results := (Stook.parts b).map (partCheck b), taken := (Stook.parts b).filter (s.takesPart b) }
    let r := s.updVerify b
    if r.1 ≠ 0 then t.updFails r.1 r.2
    else if !readBack then (t.raise Pg.updateData K.UPDATE_STORE (0x200000 * s.spareSlot)).updFails 13 0
    else t.slotComplete.updStaged

/-! ### Commit (R569, R571 to R573) -/

/-- Steps 1 to 3 of R573: the journal, the image, the slot header. -/
def updCommit (s : State) : State :=
  let p := Pg.update
  let t := s.commitAll
  let mark := match (t.bank t.activeBank).getLast? with
    | some r => r.seq
    | none => (t.seed.seq + 2 ^ 32 - 1) % 2 ^ 32
  let n := t.spareImage
  let image := s.upd.image.map fun _ => n
  let t := match s.upd.image with
    | some i => t.setImage n { i with valid := true, gen := t.nextGen, base := (mark + 1) % 2 ^ 32 }
    | none => t
  let t := t.modSlot t.spareSlot fun x => { x with st := 2, booted := false }
  let t := t.modSeed fun x =>
    { x with trial := some { group := s.hubPos :: s.upd.peers, lead := if s.upd.lead.isSome then 0 else s.hubPos,
                             mark := mark, image := image } }
  ((t.put p R.UPD_STATUS_OUTCOME 0).count p R.CNT_UPD_ACTIVATIONS).updTo 7

/-- A commit phase ends without a commit: back to STAGED, and the lead tells its peers. -/
def updBack (s : State) (code : Nat) : State :=
  let t := s.updSendAll 0x06 [BitVec.ofNat 8 code]
  (((t.modUpd fun u => { u with votes := [], arm := false }).updTo 4).updOutcome code 0).updShow

/-- The interlock holds a commitment back at the moment of activation (R563, R572). DEDUCED, log entry 80. -/
def updHeld (s : State) : State :=
  let t := ((s.modUpd fun u => { u with votes := [], arm := false }).updTo 4).setF Pg.update R.UPD_STATUS_HELD
  (t.raise Pg.update K.UPDATE_HELD s.updIdent).updShow

/-- Every vote is there: the lead commits, or is armed. -/
def updDecide (s : State) : State :=
  if !s.upd.peers.all s.upd.votes.contains then s
  else if s.upd.arm then s.updTo 6
  else if s.interlockActive then s.updBack 1
  else
    let delay := 1000 * Nat.max 1 (s.get Pg.update R.UPD_CFG_ACT_DELAY_MS)
    s.updCommit.updSendAll 0x05 (leBytes 4 delay)

/-- ACTIVATE and ARM (R569, R572). DEDUCED, log entry 80. -/
def updActivate (s : State) (arm : Bool) : State :=
  if s.updState ≠ 4 ∨ s.upd.arm then s
  else
    let c := s.updCode false
    if c ≠ 0 then s.updOutcome c 0
    else
      let t := s.modUpd fun u => { u with votes := [], arm := arm }
      let t := t.when (!arm) fun t => t.updTo 5
      match s.upd.peers.find? fun h => !s.linkActive (s.portTo h) with
      | some h => (t.peerLost h).updBack 12
      | none => (t.updSendAll 0x03 [if arm then 1 else 0]).updDecide.updShow

/-- A commit phase runs at the lead and lacks votes. -/
def updAwaits (s : State) : Bool :=
  (s.updState == 5 || (s.updState == 4 && s.upd.arm)) && !s.upd.peers.all s.upd.votes.contains

/-- A peer's vote (R569): in staging it says that the peer has erased, and then that it is STAGED. -/
def updVoted (s : State) (h code : Nat) : State :=
  if !s.upd.peers.contains h then s
  else if s.updState = 2 ∨ s.updState = 3 then
    if code ≠ 0 then s.updFails code 0
    else if s.upd.votes.contains h then (s.modUpd fun u => { u with staged := addNew h u.staged }).updStaged
    else (s.modUpd fun u => { u with votes := addNew h u.votes }).updForward.updShow
  else if s.updAwaits then
    if code ≠ 0 then s.updBack 12 else ((s.modUpd fun u => { u with votes := addNew h u.votes }).updDecide).updShow
  else s

/-- 1 ms has passed without every vote. -/
def updVotesMissing (s : State) : State :=
  if s.updAwaits then
    ((s.upd.peers.filter fun h => !s.upd.votes.contains h).foldl peerLost s).updBack 12
  else s

/-- PREPARE at a peer (R569, R572). -/
def updPrepare (s : State) (arm : Bool) : State :=
  let c := if s.updState = 4 then s.updCode false else 5
  if c ≠ 0 then (s.when (s.updState == 4) fun t => t.updOutcome c 0).updVote c
  else (s.updTo (if arm then 6 else 5)).updVote 0

/-- ABORT at a peer (R568): of the staging, or of the commit phase. -/
def updAborted (s : State) (code : Nat) : State :=
  let st := s.updState
  let staging := decide (1 ≤ st) && (decide (st ≤ 3) || (decide (st ≤ 6) && code != 12 && (st == 4 || code == 14)))
  if staging then (s.modSlot s.spareSlot fun _ => {}).updIdle code 0
  else if st = 5 ∨ st = 6 then (s.updTo 4).updOutcome code 0
  else s

/-- ABORT written (R568). DEDUCED, log entry 80. -/
def updAbort (s : State) : State := if 1 ≤ s.updState ∧ s.updState ≤ 6 then s.updFails 14 0 else s

/-- What a commitment needs has failed (R568): codes 1 to 4 while PREPARED or ARMED. -/
def updWatch (s : State) : State :=
  let c := s.updCode false
  if (s.updState = 5 ∨ s.updState = 6) ∧ 1 ≤ c ∧ c ≤ 4 then s.updBack c else s

/-! ### Trial (R574 to R577) -/

/-- This hub is trial-ready (R575). -/
def trialReady (s : State) : Bool :=
  s.raluskState == 2 && (s.hubPos == (s.seed.trial.elim s.hubPos (·.lead)) || s.linkActive (s.portTo 0))
    && !s.actUsed.any fun n => decide (3 ≤ s.actSev n)

/-- The other hubs of the trial's group, at its lead. -/
def trialPeers (s : State) : List Nat :=
  match s.seed.trial with
  | some x => if x.lead = s.hubPos then x.group.filter (· != s.hubPos) else []
  | none => []

/-- This hub leads its trial. DEDUCED, log entry 81. -/
def trialLead (s : State) : Bool := s.seed.trial.any fun x => x.lead == s.hubPos

/-- Every hub of the group is trial-ready. -/
def groupReady (s : State) : Bool := s.trialLead && s.trialReady && s.trialPeers.all s.upd.ready.contains

/-- The trial slot becomes ACTIVE, the previous one SPARE (R575). -/
def trialConfirmed (s : State) : State :=
  let p := Pg.update
  let t := match s.slotIn 3 with
    | some n => s.modSlot n fun x => { x with st := 4 }
    | none => s
  let t := match s.slotIn 2 with
    | some n =>
      let x := s.seed.slots.getD n {}
      (t.modSlot n fun x => { x with st := 3 }).when x.floorAdv fun t => t.raiseFloor x.svn
    | none => t
  ((t.modSeed fun x => { x with trial := none }).event p E.P008_CONFIRMED).updIdle 0 0

/-- CONFIRM (R575). DEDUCED, log entry 81. -/
def trialConfirm (s : State) : State :=
  if s.updState ≠ 8 then s
  else if s.groupReady then (s.trialPeers.foldl (fun t h => t.updSend h 0x08 []) s).trialConfirmed
  else s.updOutcome 12 0

/-- This hub rolls back (R576): the fault is logged and written to the store, then the hub resets, its straps as they are. -/
def rollBack (s : State) : State :=
  let t := s.raise Pg.update K.UPDATE_ROLLBACK s.updIdent
  let t := (List.range 9).foldl (fun t _ => t.faultBatch) t
  let t := (List.range 16).foldl (fun t _ => t.persistOne) t
  t.trialUndo.aonReset 6 s.hubPos (s.on Pg.bringUp R.BRINGUP_STATUS_STRAP_NORESTORE)

/-- The group rolls back: the lead tells its peers, a peer its lead. -/
def groupBack (s : State) : State :=
  if s.updState ≠ 8 then s
  else
    let t := if s.trialLead then s.trialPeers.foldl (fun t h => t.updSend h 0x09 []) s else s.updSend 0 0x09 []
    t.rollBack

/-- A peer tells of its trial (R575, R576): the lead takes its readiness, or rolls the group back for a wrong slot. A lead that
has left the trial without that slot tells a peer in it to leave too. -/
def trialTold (s : State) (h : Nat) (b : List Byte) : State :=
  let id := leNat (bytesAt b 8 4)
  if s.updState = 8 ∧ s.trialPeers.contains h then
    if id ≠ s.bootedId then s.groupBack
    else
      let r := bitOf (b.getD 4 0).toNat 0
      (s.modUpd fun u => { u with ready := if r then addNew h u.ready else u.ready.filter (· != h) }).updShow
  else if s.updState = 0 ∧ id = leNat (bytesAt b 0 4) ∧ id ≠ s.bootedId then
    let t := s.wr Pg.update R.UPD_MANIFEST_ID.off (BitVec.ofNat 32 id)
    (t.updSend h 0x09 []).wr Pg.update R.UPD_MANIFEST_ID.off 0
  else s

/-- A peer reports a change of its trial readiness, or its slot after its stitch port to the lead came up anew.
DEDUCED, log entry 81. -/
def trialReport (s : State) : State :=
  let k := s.portTo 0
  let here := s.hubPos != 0 && s.domainOn 0 && ((s.updState == 8 && !s.trialLead) || (s.updState == 4 && s.upd.lead.isSome))
  let ready := s.updState == 8 && s.trialReady
  let now := some ((s.link k).gen, ready)
  if !here || !s.linkActive k || s.upd.reported == now then s
  else
    let r := s.updSendOk 0 0x07 ([if ready then 1 else 0, 0, 0, 0] ++ leBytes 4 s.bootedId)
    if r.2 then r.1.modUpd fun u => { u with reported := now } else r.1

/-- Ralusk HALTED in a trial rolls the group back (R576). -/
def trialHalted (s : State) : State := if s.updState = 8 ∧ s.raluskState = 3 then s.groupBack else s

/-! ### Writes, the epoch switch, the journal -/

/-- The effect of a write to page 0x008 or 0x009. -/
def wrUpdate (p : Nat) (s : State) (off : Nat) (v : Word) : State :=
  let x := v.toNat
  if p = Pg.update ∧ off = R.UPD_CMD.off then
    let t := s.when (bitOf x 6) fun t => (t.cntClear Pg.update).cntClear Pg.updateData
    let t := t.when (bitOf x 0) updStart
    let t := t.when (bitOf x 1) updAbort
    let t := t.when (bitOf x 2) fun t => t.updActivate false
    let t := t.when (bitOf x 3) fun t => t.updActivate true
    let t := t.when (bitOf x 4) trialConfirm
    t.when (bitOf x 5) groupBack
  else if p = Pg.updateData ∧ off = R.UPD_DATA.off then s.updData v
  else s.storeWrite p off v

/-- Prime 0 reaches a switch time (R540, R572): an armed hub that switches then commits, or is held back. -/
def epochSwitch (s : State) : State :=
  let r := s.switchTime
  let t := r.1.when (r.2 && s.updState == 6) fun t => if t.interlockActive then t.updHeld else t.updCommit
  t.thermalGoesOn

/-- A commit of the journal ends (R481, R482, R567). -/
def journalCommitted (s : State) : State :=
  let t := s.commitDone
  let full := decide (t.compactAt ≤ (t.bank t.activeBank).length)
  let t := t.when (full && t.upd.image.isSome && decide (1 ≤ t.updState) && decide (t.updState ≤ 4)) fun t => t.updFails 13 0
  t.compactTry

/-- A command bit of UPD_CMD, written by an agent. -/
def updCommand (s : State) (a : Agent) (bit : Nat) : State :=
  s.poke a Pg.update R.UPD_CMD.off (BitVec.ofNat 32 (2 ^ bit)) (wrUpdate Pg.update)

/-- START at a peer (R564, R570). -/
def updStartIn (s : State) (k : Nat) (p : List Byte) : State :=
  if 4 ≤ k ∧ s.domainOn 0 ∧ s.hubPos ≠ 0 ∧ s.posAt k = 0 then
    let c := s.updCode (s.updState != 0)
    if c = 0 then s.updErase (some k) (leNat (bytesAt p 0 4))
    else
      let t := s.updOutcome c 0
      (t.updSend 0 0x04 [BitVec.ofNat 8 c])
  else s

/-- DATA at a peer (R565, R570): at their offset; what has been received is not taken again. -/
def updDataIn (s : State) (k : Nat) (p : List Byte) : State :=
  let d := p.drop 8
  if !(s.updFromLead k p) || !(s.updState == 1 || s.updState == 2) || leNat (bytesAt p 4 4) != s.upd.stream.length then s
  else if 4096 < s.upd.stream.length - s.upd.programmed + d.length then (s.event Pg.updateData E.P009_OVERRUN).updFails 11 0
  else s.updAppend d

/-- REJECT (R576): at a peer from its lead; at the lead from a peer of the group, which rolls the group back. -/
def updRejectIn (s : State) (k : Nat) (p : List Byte) : State :=
  if s.updState ≠ 8 then s
  else if s.updFromLead k p then s.rollBack
  else if s.updFromPeer k p && s.trialPeers.contains (s.posAt k) then s.groupBack
  else s

/-- An UPDATE frame that arrived on a stitch port, by its code (R570). -/
def updMessage (s : State) (k code : Nat) (p : List Byte) : State :=
  let lead (f : State) : State := if s.updFromLead k p then f else s
  match code with
  | 1 => s.updStartIn k p
  | 2 => s.updDataIn k p
  | 3 => lead (s.updPrepare (bitOf (p.getD 4 0).toNat 0))
  | 4 => if s.updFromPeer k p then s.updVoted (s.posAt k) (p.getD 4 0).toNat else s
  | 5 => if s.updFromLead k p && s.updState == 5 then (if s.interlockActive then s.updHeld else s.updCommit) else s
  | 6 => lead (s.updAborted (p.getD 4 0).toNat)
  | 7 => if 4 ≤ k ∧ s.domainOn 0 ∧ s.hubPos = 0 then s.trialTold (s.posAt k) p else s
  | 8 => if s.updFromLead k p && s.updState == 8 then s.trialConfirmed else s
  | 9 => s.updRejectIn k p
  | _ => s

end State

/-- START (R562, R564). -/
def execStart (a : Agent) (s : State) : Host.Outcome State Fault Refusal := finishAll (s.updCommand a 0)

/-- ERASE_DONE (R568). -/
def execEraseDone (s : State) : Host.Outcome State Fault Refusal := finishAll s.eraseDone

/-- UPD_DATA (R565). -/
def execUpdData (a : Agent) (v : Word) (s : State) : Host.Outcome State Fault Refusal :=
  finishAll (s.poke a Pg.updateData R.UPD_DATA.off v (State.wrUpdate Pg.updateData))

/-- STREAM_COMPLETE (R566): the checks; whether the slot reads back as written. -/
def execStreamComplete (readBack : Bool) (s : State) : Host.Outcome State Fault Refusal :=
  finishAll (s.streamComplete readBack)

/-- ACTIVATE (R569). -/
def execActivate (a : Agent) (s : State) : Host.Outcome State Fault Refusal := finishAll (s.updCommand a 2)

/-- ARM_UPDATE (R572). -/
def execArmUpdate (a : Agent) (s : State) : Host.Outcome State Fault Refusal := finishAll (s.updCommand a 3)

/-- ABORT (R568). -/
def execAbort (a : Agent) (s : State) : Host.Outcome State Fault Refusal := finishAll (s.updCommand a 1)

/-- CONFIRM (R575). -/
def execConfirm (a : Agent) (s : State) : Host.Outcome State Fault Refusal := finishAll (s.updCommand a 4)

/-- REJECT (R576). -/
def execReject (a : Agent) (s : State) : Host.Outcome State Fault Refusal := finishAll (s.updCommand a 5)

/-- UPDATE_START_RECEIVED (R564, R570). -/
def execUpdateStartReceived (k : LinkId) (payload : List Byte) (s : State) : Host.Outcome State Fault Refusal :=
  finishAll (s.updMessage k 1 payload)

/-- UPDATE_DATA_RECEIVED (R565, R570): at their offset; what has been received is not taken again. -/
def execUpdateDataReceived (k : LinkId) (payload : List Byte) (s : State) : Host.Outcome State Fault Refusal :=
  finishAll (s.updMessage k 2 payload)

/-- UPDATE_PREPARE (R569). -/
def execUpdatePrepare (k : LinkId) (payload : List Byte) (s : State) : Host.Outcome State Fault Refusal :=
  finishAll (s.updMessage k 3 payload)

/-- UPDATE_VOTE (R569). -/
def execUpdateVote (k : LinkId) (payload : List Byte) (s : State) : Host.Outcome State Fault Refusal :=
  finishAll (s.updMessage k 4 payload)

/-- UPDATE_VOTE_TIMEOUT (R569). -/
def execUpdateVoteTimeout (s : State) : Host.Outcome State Fault Refusal := finishAll s.updVotesMissing

/-- UPDATE_COMMIT_RECEIVED (R569, R573). -/
def execUpdateCommitReceived (k : LinkId) (payload : List Byte) (s : State) : Host.Outcome State Fault Refusal :=
  finishAll (s.updMessage k 5 payload)

/-- UPDATE_ABORT_RECEIVED (R568). -/
def execUpdateAbortReceived (k : LinkId) (payload : List Byte) (s : State) : Host.Outcome State Fault Refusal :=
  finishAll (s.updMessage k 6 payload)

/-- PEER_PREPARED_TIMEOUT (R571). -/
def execPeerPreparedTimeout (s : State) : Host.Outcome State Fault Refusal :=
  finishAll (if s.updState = 5 ∧ s.upd.lead.isSome then s.updTo 4 else s)

/-- ACT_DELAY_EXPIRY (R573): the reset, and the straps as they are sampled. -/
def execActDelayExpiry (pos : Fin 4) (norestore : Bool) (s : State) : Host.Outcome State Fault Refusal :=
  finishAll (if s.updState = 7 then s.aonReset 6 pos norestore else s)

/-- TRIAL_READY (R575, R576). -/
def execTrialReady (k : LinkId) (payload : List Byte) (s : State) : Host.Outcome State Fault Refusal :=
  finishAll (s.updMessage k 7 payload)

/-- UPDATE_CONFIRM_RECEIVED (R575). -/
def execUpdateConfirmReceived (k : LinkId) (payload : List Byte) (s : State) : Host.Outcome State Fault Refusal :=
  finishAll (s.updMessage k 8 payload)

/-- UPDATE_REJECT_RECEIVED (R576): at a peer from its lead; at the lead from a peer of the group, which rolls the group back. -/
def execUpdateRejectReceived (k : LinkId) (payload : List Byte) (s : State) : Host.Outcome State Fault Refusal :=
  finishAll (s.updMessage k 9 payload)

/-- AUTO_CONFIRM_EXPIRY (R575). -/
def execAutoConfirmExpiry (s : State) : Host.Outcome State Fault Refusal :=
  finishAll (if s.on Pg.update R.UPD_CFG_AUTO_CONFIRM && s.updState == 8 && s.groupReady then s.trialConfirm else s)

/-- CONFIRM_S_EXPIRY (R576). -/
def execConfirmSExpiry (s : State) : Host.Outcome State Fault Refusal := finishAll s.groupBack

/-- EPOCH_SWITCH (R540, R572). -/
def execEpochSwitch (s : State) : Host.Outcome State Fault Refusal := finishAll s.epochSwitch

/-- JOURNAL_COMMIT_DONE (R481). -/
def execJournalCommitDone (s : State) : Host.Outcome State Fault Refusal := finishAll s.journalCommitted

/-- WATCHDOG_MISS (R534, R576). -/
def execWatchdogMiss (s : State) : Host.Outcome State Fault Refusal := finishAll s.watchdogMissed.trialHalted

end Sys2Proof.Machine
end

