-- ==== Sys2Proof/Machine/Bringup.lean ====
section
/-! DEFINITION. The die-to-die link (R6 to R8), channels (R10, R11), clocks (R13), the switching of domains (R14, R458 to
R461), rail dips (R449, R466), restore and READY of pages (R469, R470, R475), and the faults of the fabric of the die (R496). -/

namespace Sys2Proof.Machine

open Sys2Proof (Word Byte Agent Code AccessKind Instr LaneId LinkId EngineId)

/-- The domains that a monitored rail feeds (R464); VDD_AON feeds all. -/
def railDomains (rail : Nat) : List Nat :=
  match rail with
  | 0 | 1 => List.range 19
  | 2 | 3 => [2, 6, 7, 8, 9, 10]
  | 4 => [2, 3, 6, 7, 8, 9, 10]
  | _ => [3]

/-- The domain of an island (R491): 0 is AON, 5 the core with the Granary. -/
def islandDomain (i : Nat) : Option Nat := if i = 0 then none else if i ≤ 5 then some (i - 1) else some i

namespace State

/-! ### The die-to-die link -/

/-- A word crosses the link, and fails its check never, once, or twice (R6). -/
def dieWord (s : State) (fails : Nat) : State :=
  if !s.die.up || s.die.retraining || fails == 0 then s
  else if fails = 1 then
    ({ s with die := { s.die with corrected := s.die.corrected + 1 } }).raise Pg.inlet K.DIE_LINK_CORRECTED 0
  else ({ s with die := { s.die with retraining := true } }).raise Pg.inlet K.DIE_LINK_ERROR 0

/-- No keep-alive word for 1 µs, where the watch runs (R7, R348). -/
def keepaliveLost (s : State) : State :=
  if s.die.watch then
    ({ s with die := { s.die with up := false, retraining := false, lost := true } }).finDieLost.safeRefresh
  else s

/-- The link comes up (R7, R8, R446, R467). -/
def dieLinkUp (s : State) : State :=
  if !s.power.dieUp || s.die.up then s
  else
    let first := !s.die.met
    let cause := s.get Pg.inlet R.HS_STATUS_LAST_OFF_CAUSE
    let t := { s with die := { s.die with up := true, watch := true, met := true } }
    let t := t.when first fun t => t.putB Pg.bringUp R.RESET_CAUSE_PFD_NEW s.power.pfdNew
    let t := t.modPower fun x => { x with pfdNew := false }
    let t := t.when (first && cause != 0) fun t =>
      t.eventFault Pg.inlet E.P020_START_RECORD K.INLET_OFF_RECORDED cause
    t.when s.die.lost fun t => t.raise Pg.inlet K.DIE_LINK_LOST 0

/-! ### Channels and clocks -/

/-- The island of a domain takes no handshake (R10, R12, R13). -/
def domainShut (s : State) (d : Nat) : Bool :=
  !s.domainOn d || s.on Pg.bringUp R.BRINGUP_STATUS_CRYSTAL_ABSENT
    || (s.on Pg.bringUp R.BRINGUP_STATUS_REFCLK_ABSENT && 4 ≤ d && d ≤ 10)
    || (s.on Pg.bringUp R.BRINGUP_STATUS_PCIE_REF_ABSENT && d == 2)
    || (s.on Pg.power R.PD_BUSY_BUSY && !s.on Pg.power R.PD_BUSY_TURN_ON && s.get Pg.power R.PD_BUSY_DOMAIN == d)

/-- A block's handshake into an island: it is taken whole, or refused whole and recorded in the block's page.
DEDUCED, log entry 78. -/
def channel (s : State) (p : Nat) (d : Option Nat) : State :=
  s.when (pageUsed p && s.pageOn p && d.any s.domainShut) fun t => t.event p 30

/-- The crystal lock (R13). DEDUCED, log entry 77. -/
def crystalLocked (s : State) : State :=
  (s.setF Pg.bringUp R.BRINGUP_STATUS_AON_LOCKED).clrF Pg.bringUp R.BRINGUP_STATUS_CRYSTAL_ABSENT
def crystalTimeout (s : State) : State :=
  if s.on Pg.bringUp R.BRINGUP_STATUS_AON_LOCKED then s
  else (s.setF Pg.bringUp R.BRINGUP_STATUS_CRYSTAL_ABSENT).eventFault Pg.bringUp E.P005_CRYSTAL_ABSENT K.CRYSTAL_ABSENT 0

/-! ### Requests and switches of domains -/

/-- The effect of a write to page 0x004. -/
def wrDomains (s : State) (off : Nat) (v : Word) : State :=
  let p := Pg.power
  if off = R.PD_REQ.off then
    let t := s.storeWrite p off v
    ((List.range 19).foldl touch t).modPower fun x => { x with reset := x.reset.filter fun d => bitOf v.toNat d }
  else if off = R.PD_CMD.off then s.when (bitOf v.toNat 0) fun t => t.cntClear p
  else s.storeWrite p off v

/-- A write of POWER_REQ in a page (R30, R32, R458): the request of the page's domain. DEDUCED, log entry 77. -/
def powerReq (s : State) (p : Nat) (on : Bool) : State :=
  match domainOf p with
  | none => s
  | some d =>
    ((s.putKept Pg.power ⟨R.PD_REQ.off, d, 1⟩ (b2n on)).touch d).modPower fun x =>
      { x with reset := if on then x.reset else x.reset.filter (· != d) }

/-- PD_REQ of a domain. -/
def domainReq (s : State) (d : Nat) : Bool := bitOf (s.rd Pg.power R.PD_REQ.off).toNat d

/-- A rail that feeds the domain lies below its reset level. -/
def railLow (s : State) (d : Nat) : Bool := s.power.dipped.any fun r => (railDomains r).contains d

/-- The request that is taken up next (R459): off in descending order, then on in ascending order. A domain that a dip has
reset waits for its rail (R466). -/
def nextRequest (s : State) : Option (Nat × Bool) :=
  let all := List.range 19
  match all.reverse.find? fun d => s.domainOn d && !s.domainReq d with
  | some d => some (d, false)
  | none =>
    (all.find? fun d => !s.domainOn d && s.domainReq d && !(s.power.reset.contains d && s.railLow d)).map fun d => (d, true)

/-- The reason to refuse a switch as it is taken up (R460); 0 for none. -/
def switchReason (s : State) (d : Nat) (on : Bool) : Nat :=
  if on then
    if (domainNeeds d).any fun r => !s.domainOn r then 1
    else if s.on Pg.inlet R.HS_STATUS_PFW_ACTIVE then 6
    else if s.railLow d then 7
    else 0
  else if (List.range 19).any fun x => domainNeeds x == some d && s.domainOn x then 2
  else if d = 5 ∧ !s.core.queued.isEmpty then 4
  else 0

/-- A request is refused (R460). -/
def switchRefused (s : State) (d : Nat) (on : Bool) (reason : Nat) : State :=
  let p := Pg.power
  let t := s.putKept p ⟨R.PD_REQ.off, d, 1⟩ (b2n (s.domainOn d))
  let t := t.wr p R.PD_REFUSE.off (BitVec.ofNat 32 (2 ^ 31 + b2n (!on) * 2 ^ 8 + reason * 2 ^ 5 + d))
  (t.count p R.CNT_PD_REFUSALS).event p E.P004_PD_REFUSED

/-- The next request is taken up, and tested. DEDUCED, log entry 77. -/
def switchStart (s : State) : State :=
  if !s.ready Pg.power || s.on Pg.power R.PD_BUSY_BUSY then s
  else match s.nextRequest with
    | none => s
    | some (d, on) =>
      let r := s.switchReason d on
      if r ≠ 0 then s.switchRefused d on r
      else s.wr Pg.power R.PD_BUSY.off (BitVec.ofNat 32 (1 + 2 * d + 64 * b2n on))

/-- The switch in progress: its domain. -/
def switching (s : State) (on : Bool) : Option Nat :=
  if s.on Pg.power R.PD_BUSY_BUSY && s.on Pg.power R.PD_BUSY_TURN_ON == on then some (s.get Pg.power R.PD_BUSY_DOMAIN) else none

/-- A switch completes. -/
def switched (s : State) : State :=
  ((s.wr Pg.power R.PD_BUSY.off 0).count Pg.power R.CNT_PD_SWITCHES).event Pg.power E.P004_SWITCHED

/-! ### Rail dips -/

/-- A domain is reset by a rail dip: a switch of it in progress ends with it. -/
def dipDomain (s : State) (d : Nat) : State :=
  let t := s.when (s.switching true == some d || s.switching false == some d) fun t => t.wr Pg.power R.PD_BUSY.off 0
  if s.domainOn d then
    ((t.domainDown d).count Pg.bringUp R.CNT_RESET_DOMAIN_16).modPower fun x => { x with reset := addNew d x.reset }
  else t

/-- A rail lies below its reset level for 1 µs (R449, R464, R466). DEDUCED, log entry 77. -/
def railDip (s : State) (rail mv : Nat) : State :=
  if !s.power.dieUp then s
  else
    let p := Pg.rails
    let t := (s.wr p R.RAIL_DIP.off (BitVec.ofNat 32 (2 ^ 31 + mv % 2 ^ 12 * 2 ^ 16 + rail))).modPower fun x =>
      { x with dipped := addNew rail x.dipped }
    let t := t.eventFault p E.P023_RAIL_DIP K.RAIL_DIP rail
    if rail = 0 then t.aonReset 2 s.hubPos (s.on Pg.bringUp R.BRINGUP_STATUS_STRAP_NORESTORE)
    else (railDomains rail).reverse.foldl dipDomain t

/-! ### Restore and READY -/

/-- The page is to be restored, and may be (R435, R469, R474). -/
def mayRestore (s : State) (p : Nat) : Bool :=
  let early := p == Pg.identity || p == Pg.bringUp || p == Pg.seed
  pageUsed p && s.pageOn p && !s.on p R.PAGE_STATUS_RESTORED && !s.on p R.PAGE_STATUS_FACTORY
    && (early || s.ready Pg.seed) && (!(0x020 ≤ p && p ≤ 0x027) || s.die.up)

/-- The restore of a page (R475, R476); the Factory value of OWNER_LOCK is 1 where an owner key is programmed (R590). -/
def pageRestored (s : State) (p : Nat) : State :=
  if !s.mayRestore p then s
  else
    let t := s.restorePage p
    let factory := t.on p R.PAGE_STATUS_FACTORY && p == Pg.security && ownerSels.any s.otpSet
    let written := t.journalRecs.any fun r => r.key == regKey p R.SEC_LOCK.off
    t.when (factory && !written) fun t => t.setF p R.SEC_LOCK_OWNER_LOCK

/-- The AON pages of row 4 of R470 are READY. -/
def aonReady (s : State) : Bool := [0x001, 0x002, 0x003, 0x004, 0x007, 0x00E, 0x00F, 0x010, 0x011, 0x012, 0x013].all s.ready

/-- What row of R470 a page waits for, beside its restore and the reference clocks. -/
def startable (s : State) (p : Nat) : Bool :=
  if p = Pg.identity ∨ p = Pg.bringUp then true
  else if p = Pg.seed then s.on Pg.bringUp R.BRINGUP_STATUS_AON_LOCKED
  else match domainOf p with
    | none => s.ready Pg.seed && (!(0x020 ≤ p && p ≤ 0x027) || s.die.up)
    | some d =>
      s.aonReady && s.domainOn d && !s.on Pg.bringUp R.BRINGUP_STATUS_CRYSTAL_ABSENT &&
      (if d = 0 then s.seed.booted.isSome
       else if d = 4 then s.domainOn 5
       else if 6 ≤ d ∧ d ≤ 10 then
         (domainPages 4).all s.ready && (!(0x058 ≤ p && p ≤ 0x05E) || (linkLanes (p - 0x058)).all fun l => s.ready (Pg.lane l))
       else if 11 ≤ d then
         (domainPages 4).all s.ready && s.on (Pg.bank (d - 11)) R.BANK_STATUS_CLK80_LOCK
           && (!isEngine p || s.ready (Pg.bank (d - 11)))
       else true)

/-- The reference clock that a page's row of R470 needs, as its bit of BRINGUP_STATUS. -/
def referenceOf (p : Nat) : Option Fld :=
  match domainOf p with
  | some d => if d = 2 then some R.BRINGUP_STATUS_PCIE_REF_ABSENT else if 4 ≤ d then some R.BRINGUP_STATUS_REFCLK_ABSENT else none
  | none => none

/-- A page becomes READY, or is found to lack its reference clock (R469, R472). DEDUCED, log entry 77. -/
def pageReady (s : State) (p : Nat) (missing : Bool) : State :=
  let here := s.on p R.PAGE_STATUS_RESTORED || s.on p R.PAGE_STATUS_FACTORY
  if !(pageUsed p && here && s.startable p) || s.ready p then s
  else if missing && (referenceOf p).isSome then
    match referenceOf p with
    | some f => (s.setF Pg.bringUp f).when (!s.on Pg.bringUp f) fun t => t.event Pg.bringUp E.P005_REF_ABSENT
    | none => s
  else
    let t := match referenceOf p with
      | some f => s.clrF Pg.bringUp f
      | none => s
    let t := t.readyChange fun t => (t.setF p R.PAGE_STATUS_READY).event p 29
    (t.pageStarts p).when (p == Pg.seed) seedReport

/-! ### Faults of the die -/

/-- An island runs: the clock of AON always does. -/
def islandRuns (s : State) (i : Nat) : Bool := (islandDomain i).all s.domainOn

/-- A slice of the switch core fails (R496). -/
def sliceFails (s : State) (slice : Nat) : State :=
  if s.domainOn 4 then (s.modThr fun x => { x with sliceFail := addNew slice x.sliceFail }).raise Pg.core K.CORE_SLICE_FAIL slice else s

end State

/-- DIE_LINK_WORD (R6): how often the word fails its check, at most twice. -/
def execDieLinkWord (fails : Fin 3) (s : State) : Host.Outcome State Fault Refusal := finishAll (s.dieWord fails)

/-- DIE_LINK_RETRAIN_DONE (R6). -/
def execDieLinkRetrainDone (s : State) : Host.Outcome State Fault Refusal :=
  finishAll { s with die := { s.die with retraining := false } }

/-- KEEPALIVE_TIMEOUT (R7). -/
def execKeepaliveTimeout (s : State) : Host.Outcome State Fault Refusal := finishAll s.keepaliveLost

/-- DIE_LINK_UP (R8). -/
def execDieLinkUp (s : State) : Host.Outcome State Fault Refusal := finishAll s.dieLinkUp

/-- CHANNEL_TRANSFER (R10, R11): from the block of page `p` into the island of domain `d`, or of AON. DEDUCED, log
entry 78. -/
def execChannelTransfer (p : BitVec 9) (d : Option (Fin 19)) (s : State) : Host.Outcome State Fault Refusal :=
  finishAll (s.channel p.toNat (d.map (·.val)))

/-- CRYSTAL_LOCK (R13). -/
def execCrystalLock (s : State) : Host.Outcome State Fault Refusal := finishAll s.crystalLocked

/-- CRYSTAL_LOCK_TIMEOUT (R13). -/
def execCrystalLockTimeout (s : State) : Host.Outcome State Fault Refusal := finishAll s.crystalTimeout

/-- DOMAIN_SWITCH_REQUEST (R459, R461). -/
def execDomainSwitchRequest (a : Agent) (v : Word) (s : State) : Host.Outcome State Fault Refusal :=
  finishAll (s.poke a Pg.power R.PD_REQ.off v State.wrDomains)

/-- POWER_REQ (R30, R32). -/
def execPowerReq (a : Agent) (p : BitVec 9) (on : Bool) (s : State) : Host.Outcome State Fault Refusal :=
  finishAll (s.guarded a .posted p.toNat R.PAGE_CTRL.off fun t => t.powerReq p.toNat on)

/-- DOMAIN_SWITCH_START (R459, R460). -/
def execDomainSwitchStart (s : State) : Host.Outcome State Fault Refusal := finishAll s.switchStart

/-- DOMAIN_OFF_CHANNELS_IDLE (R12). -/
def execDomainOffChannelsIdle (s : State) : Host.Outcome State Fault Refusal :=
  finishAll <| match s.switching false with
    | some d => (s.domainDown d).switched
    | none => s

/-- DOMAIN_OFF_IDLE_TIMEOUT (R12). -/
def execDomainOffIdleTimeout (s : State) : Host.Outcome State Fault Refusal :=
  finishAll <| match s.switching false with
    | some d => (s.wr Pg.power R.PD_BUSY.off 0).switchRefused d false 3
    | none => s

/-- DOMAIN_ON_DONE (R459). -/
def execDomainOnDone (s : State) : Host.Outcome State Fault Refusal :=
  finishAll <| match s.switching true with
    | some d => ((s.domainUp d).modPower fun x => { x with reset := x.reset.filter (· != d) }).switched
    | none => s

/-- RAIL_DIP (R449, R466). -/
def execRailDip (rail : Fin 6) (mv : BitVec 12) (s : State) : Host.Outcome State Fault Refusal :=
  finishAll (s.railDip rail mv.toNat)

/-- RAIL_RECOVER (R466). -/
def execRailRecover (rail : Fin 6) (s : State) : Host.Outcome State Fault Refusal :=
  finishAll (s.modPower fun x => { x with dipped := x.dipped.filter (· != rail.val) })

/-- PAGE_RESTORE (R475). -/
def execPageRestore (p : BitVec 9) (s : State) : Host.Outcome State Fault Refusal := finishAll (s.pageRestored p.toNat)

/-- PAGE_READY (R469, R470, R472). -/
def execPageReady (p : BitVec 9) (missing : Bool) (s : State) : Host.Outcome State Fault Refusal :=
  finishAll (s.pageReady p.toNat missing)

/-- CLOCK_LOST (R496). -/
def execClockLost (i : Fin 19) (s : State) : Host.Outcome State Fault Refusal :=
  finishAll (s.when (s.islandRuns i) fun t => t.raise Pg.bringUp K.CLOCK_LOST i)

/-- AON_PARITY (R496). -/
def execAonParity (p : BitVec 9) (off : BitVec 12) (s : State) : Host.Outcome State Fault Refusal :=
  finishAll (s.when (aonPages.contains p.toNat) fun t => t.raise p.toNat K.AON_PARITY off.toNat)

/-- CORE_SLICE_FAIL (R496). -/
def execCoreSliceFail (slice : Fin 2) (s : State) : Host.Outcome State Fault Refusal := finishAll (s.sliceFails slice)

end Sys2Proof.Machine
end

