-- ==== Sys2Proof/Machine/View.lean ====
section
/-! DEFINITION. What a read of a register returns (R27, R28): the stored word, and over it every field that follows from
the state beside the registers. -/

namespace Sys2Proof.Machine

open Sys2Proof (Word Byte Agent Code AccessKind Instr LaneId LinkId EngineId)

/-- A word of a number. -/
def word (n : Nat) : Word := BitVec.ofNat 32 n

/-- A word with a field replaced. -/
def withBits (x : Word) (lo w v : Nat) : Word := word (bitsPut x.toNat lo w v)

/-- A number made of bits, bit 0 first. -/
def bitsNat : List Bool → Nat
  | [] => 0
  | b :: t => b2n b + 2 * bitsNat t

namespace State

/-- The word that the store holds for a register: the staged value of its RWE bits while VIEW_STAGED is 1 (R27). -/
def stored (s : State) (p off : Nat) : Word :=
  match s.descOf p off with
  | none => 0
  | some d =>
    let l := s.locate p off
    let m := word d.rwe
    if d.rwe ≠ 0 ∧ s.on p R.PAGE_CTRL_VIEW_STAGED then (s.rd l.1 l.2 &&& ~~~m) ||| (s.rdStaged l.1 l.2 &&& m) else s.rd l.1 l.2

/-! ### The common header (R28, R502) -/

/-- A block operation of a page is in progress (PAGE_STATUS.BUSY; which operations count, log entry 30). -/
def pageBusy (s : State) (p : Nat) : Bool :=
  s.softReset p
  || (!s.on p R.PAGE_STATUS_RESTORED && !s.on p R.PAGE_STATUS_FACTORY)
  || (if p = Pg.identity then s.on p R.RECLAIM_CTRL_BUSY
      else if p = Pg.power then s.on p R.PD_BUSY_BUSY
      else if p = Pg.seed then s.seed.commit.isSome || s.on p R.SEED_STATUS_COMPACTING
      else if p = Pg.security then s.on p R.OTP_STATUS_BUSY || s.on p R.ATTEST_CTRL_BUSY || s.on p R.OPEN_CTRL_BUSY
      else if p = Pg.update then s.updState == 1 || s.updState == 3
      else if p = Pg.epoch then s.epochState != 0
      else if p = Pg.digest then !s.on p R.DIG_STATUS_ACTIVE_CURRENT || !s.on p R.DIG_STATUS_STAGED_CURRENT
      else if p = Pg.gleaner then s.on p R.GLEAN_STATUS_VERIFY_BUSY
      else if p = Pg.ports then [0, 1, 2, 3].any fun i => s.on p (R.CP_CTRL_BUSY i)
      else if p = Pg.active then s.on p R.CLR_CTRL_BUSY
      else if isLane p then s.on p R.EYE_CTRL_BUSY
      else if isEngine p then (s.eng (p - 0x100)).work.isSome || (s.eng (p - 0x100)).attempt.isSome
      else false)

/-- An entry of the active table names the page (R494). DEDUCED, log entry 30. -/
def pageFault (s : State) (p : Nat) : Bool :=
  (List.range 128).any fun i => let x := (s.rd Pg.active (0x800 + 16 * i)).toNat
                                bitOf x 31 && x % 2 ^ 12 == p

/-- A word of the common header. DESIGN CHOICE, log entry 19. -/
def headWord (s : State) (p off : Nat) : Word :=
  let x := s.rd p off
  if off = R.PAGE_STATUS.off then
    if s.pageShut p then word 0x20
    else withBits (withBits x 1 1 (b2n (s.pageBusy p))) 2 1 (b2n (s.pageFault p))
  else if off = R.PAGE_CTRL.off then
    match domainOf p with
    | some d => withBits x 2 1 (b2n (s.domainReq d))
    | none => x
  else if off = R.EPOCH_STATE.off then withBits x 0 1 (b2n (s.staged.any fun e => keyPage e.1 == p))
  else x

/-! ### The Seed store's window (R473, R480) -/

/-- A journal record's PAGE and OFFSET (R480): of a table word, 0x800 plus its byte offset into the page's tables. -/
def recordHead (key : Nat) : Nat :=
  let p := key / 0x1000000
  let off := key % 0x1000000
  let o := if p < 0x200 ∨ 0x400 ≤ p then off else 0x800 + (if p = Pg.coalTable then 512 else 0) + off
  keyPage key + o % 2 ^ 23 * 2 ^ 9

/-- A journal record's 16 bytes; a record whose check fails has some other check code. -/
def recordBytes (r : JRec) : List Byte :=
  let head := leBytes 4 (recordHead r.key) ++ leBytes 4 r.val.toNat ++ leBytes 4 r.seq
  head ++ leBytes 4 (if r.ok then crc32c head else notW 32 (crc32c head))

/-- A section of an image (R473); one that fails its check has some other check code. -/
def imageSection (s : State) (i : Image) (p : Nat) : List Byte :=
  let keys := s.sectionKeys p
  let body := leBytes 2 p ++ leBytes 2 keys.length ++ keys.flatMap fun k => leBytes 4 (Cells.get factoryWord i.cells k).toNat
  body ++ leBytes 4 (if i.bad.contains p then notW 32 (crc32c body) else crc32c body)

/-- The canonical configuration of an image (R551, R552). -/
def imageSheaf (s : State) (i : Image) : List Byte :=
  sha256 (usedPages.flatMap fun p =>
    let keys := s.sectionKeys p
    leBytes 2 p ++ leBytes 2 keys.length ++ keys.flatMap fun k =>
      leBytes 4 (Nat.land (Cells.get factoryWord i.cells k).toNat (canonMask (k / 0x1000000) (k % 0x1000000))))

/-- The bytes of an image (R473); none where it has never been written. -/
def imageBytes (s : State) (i : Image) : List Byte :=
  if i.valid then
    let body := usedPages.flatMap (s.imageSection i)
    let head := leBytes 4 0x53454544 ++ leBytes 4 i.gen ++ leBytes 2 2 ++ leBytes 2 usedPages.length
      ++ leBytes 4 (64 + body.length) ++ s.imageSheaf i ++ List.replicate 12 0
    head ++ leBytes 4 (crc32c head) ++ body
  else []

/-- Where a part of each kind begins in its slot (R561). -/
def partStart (k : Nat) : Nat := [0, 0x1000, 0x190000, 0x1D0000, 0x1F0000].getD k 0x200000

/-- A byte of a firmware slot: of a part whose data the hub has taken, or one that the spec does not lay out.
PRESUMED, log entry 31, PRESUMED, log entry 31. -/
def slotByte (s : State) (n off : Nat) : Byte :=
  let x := s.seed.slots.getD n {}
  if x.st = 0 then 0xFF
  else match x.parts.find? fun q => decide (partStart q.kind ≤ off) && decide (off < partStart q.kind + q.data.length) with
    | some q => q.data.getD (off - partStart q.kind) 0
    | none => Config.slotByte n off

/-- A byte of a log area (R506, R532), its entries oldest first. DESIGN CHOICE, log entry 23. -/
def areaByte (l : List ThrEntry) (off : Nat) : Byte :=
  match l.reverse[off / 32]? with
  | some e => (leBytes 4 (e.words.getD (off % 32 / 4) 0).toNat).getD (off % 4) 0
  | none => 0xFF

/-- A byte of the store (R473); erased bytes read 0xFF (log entry 31). -/
def storeByte (s : State) (o : Nat) : Byte :=
  if o < 0x400000 then s.slotByte (o / 0x200000) (o % 0x200000)
  else if o < 0x600000 then (s.imageBytes (s.image ((o - 0x400000) / 0x100000))).getD (o % 0x100000) 0xFF
  else if o < 0x680000 then
    match (s.bank ((o - 0x600000) / 0x40000))[o % 0x40000 / 16]? with
    | some r => (recordBytes r).getD (o % 16) 0
    | none => 0xFF
  else if o < 0x6C0000 then areaByte s.thr.area (o % 0x40000)
  else if o < 0x700000 then areaByte s.ral.area (o % 0x40000)
  else 0

/-- A word of LOG_WIN or DLOG_WIN: slot `base` × 64 + m of a log of `n` slots, empty slots 0. -/
def logWord (l : List ThrEntry) (n base off : Nat) : Word :=
  let slot := (64 * base + (off - 0x800) / 32) % n
  match l.find? fun e => e.seq % n == slot with
  | some e => e.words.getD (off % 32 / 4) 0
  | none => 0

/-- VERSION of the part of a kind that a slot holds; 0 of an empty slot. -/
def slotVersion (s : State) (n k : Nat) : Nat :=
  let x := s.seed.slots.getD n {}
  if x.st = 0 then 0
  else match x.parts.find? (·.kind == k) with
    | some q => q.version
    | none => (Config.partVersion k).toNat

/-- VERSION of the part of a kind in the slot booted. DEDUCED, log entry 24. -/
def bootedVersion (s : State) (k : Nat) : Nat :=
  match s.seed.booted with
  | some n => s.slotVersion n k
  | none => 0

/-! ### Pages of AON and MGMT -/

/-- Page 0x007. -/
def securityWord (s : State) (off : Nat) (x : Word) : Word :=
  let p := Pg.security
  let ones (f : Nat → Bool) : Nat :=
    bitsNat (updateSels.map f) + 16 * bitsNat (ownerSels.map f) + 256 * bitsNat (passSels.map f)
  if off = R.SEC_STATUS.off then
    let pass := s.passInUse.isSome && !s.on Pg.bringUp R.BRINGUP_STATUS_STRAP_NORESTORE && decide (s.get p ⟨R.PASS_FAILS.off, 0, 4⟩ < 8)
    let left := if s.get p R.SEC_STATUS_ACCESS = 0 then 0
      else (roundFree ((s.sec.openUntil - s.ns : Nat) : Int) 1000000000).toNat
    word (x.toNat % 4 + 4 * b2n (ownerSels.any s.otpGood) + 8 * b2n pass + 16 * b2n (!s.sec.badRandom)
      + 32 * b2n ((List.range 32).all fun i => s.otpSet (0x40 + i)) + Nat.min left 65535 * 2 ^ 16)
  else if off = R.OTP_PROGRAMMED.off then word (ones s.otpSet)
  else if off = R.OTP_REVOKED.off then word (ones s.sec.revoked.contains)
  else if 0xC00 ≤ off ∧ off < 0xC60 then word (leNat (bytesAt (s.otpShown (s.get p R.OTP_RD_SEL % 256)) (off - 0xC00) 4))
  else x

/-- Pages 0x008 and 0x009. -/
def updateWord (s : State) (p off : Nat) (x : Word) : Word :=
  if p = Pg.update then
    if off = R.UPD_STATUS.off then
      let t := withBits (withBits x 8 1 (b2n s.interlockActive)) 9 1 (b2n s.supplyOk)
      let t := withBits (withBits t 10 1 (b2n s.holdupOk)) 11 1 (b2n (s.on Pg.security R.SEC_LOCK_OWNER_LOCK))
      withBits t 12 1 (s.seed.booted.getD 0)
    else if off = R.UPD_SPACE.off then word s.updSpace
    else if off = R.UPD_RECEIVED.off then word s.upd.stream.length
    else if off = R.UPD_TRIAL_LEFT.off then
      if s.updState = 8 then
        let all := clamp 10 3600 (s.get p R.UPD_CFG_CONFIRM_S) * 1000000000
        word (roundFree ((all - s.ns : Nat) : Int) 1000000000).toNat
      else 0
    else x
  else
    let slot (n : Nat) : FwSlot := s.seed.slots.getD n {}
    let n := (off - 0x044) / 16
    if 0x044 ≤ off ∧ off < 0x064 then
      if off % 16 = 4 then word ((slot n).st + 8 * b2n (slot n).booted)
      else if off % 16 = 8 then word (slot n).ident
      else if off % 16 = 12 then word (slot n).svn
      else word (s.slotVersion ((off - 0x050) / 16) 1)
    else if off = R.PART_INFO.off then
      let i := s.get p R.PART_IDX % 32
      let b := s.upd.stream
      if Stook.tableHere b ∧ i < Nat.min 32 (Stook.count b) then
        word (Stook.kind b i + s.upd.results.getD i 0 * 2 ^ 8 + b2n (s.upd.taken.contains i) * 2 ^ 12)
      else 0
    else if off = R.SVN_FLOOR.off then word s.svnFloor
    else if off = R.JOURNAL_MARK.off then word (s.seed.trial.elim 0 fun t => t.mark)
    else x

/-- Pages 0x000, 0x002 to 0x006, 0x00E, 0x00F. -/
def aonWord (s : State) (a : Agent) (p off : Nat) (x : Word) : Word :=
  if p = Pg.identity then
    if off = R.UPTIME_US.off then word s.uptime
    else if off = R.OWNER_STATUS.off then withBits x 17 1 (b2n (s.isOwner a))
    else x
  else if p = Pg.events then
    if 0x040 ≤ off ∧ off < 0x050 then
      word (bitsNat ((List.range 32).map fun i => s.sourcePending ((off - 0x040) * 8 + i)))
    else x
  else if p = Pg.interrupts then
    let sent (b : Nat) : Word := word (bitsNat ((List.range 32).map fun i => (s.vec (b + i)).st == 2))
    if off = R.VEC_STATE.off then
      let v := s.get p R.VEC_IDX % 64
      word ((s.vec v).st + s.liveCount v * 4)
    else if off = R.VEC_SENT0.off then sent 0
    else if off = R.VEC_SENT1.off then sent 32
    else if off = R.INT_STATUS.off then withBits x 2 1 (b2n s.msixUsable)
    else x
  else if p = Pg.bringUp then
    if off = 0x04C ∨ off = 0x050 then
      word (bitsNat ((List.range 32).map fun i => s.blockReady ((off - 0x04C) * 8 + i)))
    else if off = R.READY_US.off then word (look (s.get p R.READY_IDX % 64) s.seed.readyAt)
    else x
  else if p = Pg.seed then
    if off = R.SEED_STATUS.off then
      let t := withBits (withBits x 1 1 (b2n s.seed.imgA.valid)) 2 1 (b2n s.seed.imgB.valid)
      withBits (withBits t 5 1 (b2n s.seed.commit.isSome)) 10 10 s.seed.buf.length
    else if off = R.GEN_A.off then word s.seed.imgA.gen
    else if off = R.GEN_B.off then word s.seed.imgB.gen
    else if off = R.JOURNAL_LEVEL.off then word (s.bank s.activeBank).length
    else if 0x800 ≤ off then
      let o := 2048 * (s.get p R.SEED_WIN_BASE % 4096) + (off - 0x800)
      word (leNat ((List.range 4).map fun i => s.storeByte (o + i)))
    else x
  else if p = Pg.record then
    let e := s.bridge.cmds.find? (·.idx == s.get p R.CR_IDX % 32)
    if off = R.CR_AGENT.off then word (e.elim 0xFFFF fun c => c.agent + 2 ^ 31)
    else if off = R.CR_SEQ.off then word (e.elim 0 fun c => c.seq)
    else if off = R.CR_OUTCOME.off then word (e.elim 0 fun c => c.outcome)
    else if off = R.CR_TIME.off then word (e.elim 0 fun c => c.time)
    else x
  else if p = Pg.afl then if off = R.AFL_LEVEL.off then word s.afl.length else x
  else if p = Pg.rails then if off = R.RAIL_STATUS.off then
      word (bitsNat ((List.range 6).map fun r => !s.power.dipped.contains r)) else x
  else if p = Pg.kinds then
    if off = R.KIND_REACT.off then
      match kindSeverity (s.get p R.KIND_IDX % 256) with
      | some v => word (x.toNat % 64 + v * 2 ^ 8 + 2 ^ 11)
      | none => word (x.toNat % 64)
    else x
  else if p = Pg.tlog then
    if 0x800 ≤ off then logWord s.thr.log 256 (s.get p R.LOG_WIN_BASE) off else x
  else if p = Pg.fin then
    let last := (s.fin (s.get p R.FIN_TS_IDX % 64)).last
    if off = R.FIN_TS_LO.off then word last else x
  else x

/-- Pages 0x00B to 0x00D. DEDUCED, log entry 24. -/
def mgmtWord (s : State) (p off : Nat) (x : Word) : Word :=
  if p = Pg.digest then
    let d := look (s.get p R.PAGE_DIG_IDX % 512) s.epoch.pageDigs
    if off = R.PAGE_DIG_LO.off then word d else if off = R.PAGE_DIG_HI.off then word (d / 2 ^ 32) else x
  else if p = Pg.ralusk then
    if off = R.RALUSK_STATUS.off then
      word (x.toNat % 8 + s.seed.booted.getD 0 * 8 + Nat.min 15 s.recentRestarts.length * 16
        + s.bootedVersion 1 % 2 ^ 16 * 2 ^ 16)
    else x
  else if p = Pg.dlog then
    if 0x800 ≤ off then logWord s.ral.log 1024 (s.get p R.DLOG_WIN_BASE) off else x
  else x

/-! ### Time, PCIe and USB -/

/-- Pages 0x018 to 0x01B. -/
def timeWord (s : State) (p off : Nat) (x : Word) : Word :=
  let recent (k : Nat) : Bool := (s.ptpPort k).ratioAt.any fun t => decide (s.ns ≤ t + 2100000)
  if p = Pg.time then
    if off = R.TIME_STATUS.off then
      let synt := s.on p R.TIME_CFG_SYNT_EN && !s.isGm && s.time.selPort.any fun k => recent k && (s.ptpPort k).rateDev.isSome
      let ext := s.on Pg.prime R.EXT_STATUS_PPS_OK && (!s.on Pg.prime R.EXT_CFG_REF10_EN || s.on Pg.prime R.EXT_STATUS_REF10_OK)
      withBits (withBits (withBits x 9 1 (b2n synt)) 10 1 (b2n ext)) 24 8 s.clockClass
    else if off = R.NOW_LO.off then word s.now
    else x
  else if p = Pg.prime then
    let c := (off - 0x040) / 0x40
    if off = 0x05C ∨ off = 0x09C then word (s.primeOf c).ns
    else if off = 0x06C ∨ off = 0x0AC then word (ofSigned 32 (s.trim c))
    else x
  else if p = Pg.ptp then
    if 0x040 ≤ off ∧ off < 0x0B0 ∧ off % 16 = 12 then
      let k := (off - 0x040) / 16
      let sync := (s.ptpPort k).syncAt.any fun t => decide (s.ns ≤ t + pow2s s.logSync)
      withBits (withBits x 1 1 (b2n (recent k))) 2 1 (b2n sync)
    else if off = R.MEAS_LEVEL.off then word s.time.meas.length
    else x
  else if off = R.TXTS_STATUS.off then withBits x 0 6 s.time.txts.length
  else x

/-- Pages 0x034 and 0x035. -/
def usbWord (s : State) (p off : Nat) (x : Word) : Word :=
  if p = Pg.usb then
    if off = R.USB_STATUS.off then withBits (withBits x 2 1 (b2n s.usb.vbus)) 14 1 (b2n s.mgmtReady) else x
  else if p = Pg.mgmt then
    if off = R.MF_STATUS.off then
      word (s.usb.queue.length + 16 * b2n s.usb.run.isSome + 32 * b2n (s.usb.note.st != 0))
    else if 0x800 ≤ off ∧ off < 0xA00 then
      match s.usb.results.find? fun e => e.slot == (off - 0x800) / 16 with
      | some e => word (leNat (bytesAt (entryBytes e 1024) (off % 16) 4))
      | none => 0
    else x
  else x

/-! ### Links, ring control, the switch core, the signal plane, the bridge -/

/-- How many route entries have a bit set. -/
def routeCount (s : State) (b : Nat) : Nat := ((s.routeIndices []).filter fun i => bitOf (s.route i) b).length

/-- Pages 0x060 to 0x063. -/
def ringWord (s : State) (p off : Nat) (x : Word) : Word :=
  if p = Pg.sched then
    if off = R.SCHED_STATUS.off then
      let en := s.on p R.SCHED_CFG_SCHED_EN
      let n := (s.regs.filter fun c => c.1 / 0x1000000 == Pg.schedTable && c.1 % 16 == 0 && bitOf c.2.toNat 31).length
      word (b2n (en && s.timeValid) + 2 * b2n s.timeValid + n * 4
        + (s.now - s.cycleOrigin) / (1000 * s.baseCycle) % 2 ^ 16 * 2 ^ 16)
    else x
  else if p = Pg.redun then if off = R.DUP_LEVEL.off then word s.ring.dup.length else x
  else if p = Pg.routes then
    if off = R.ROUTE_STATUS.off then
      word (s.routeCount 10 + s.routeCount 11 * 2 ^ 11 + b2n (!s.ring.fences.isEmpty) * 2 ^ 22)
    else x
  else x

/-- Pages 0x068 to 0x06D. -/
def coreWord (s : State) (p off : Nat) (x : Word) : Word :=
  if p = Pg.core then
    if off = R.CORE_STATUS.off then
      word (b2n (!s.thr.sliceFail.contains 0) + 2 * b2n (!s.thr.sliceFail.contains 1) + 4 * b2n s.granaryOn)
    else x
  else if p = Pg.qstat then
    let q := Nat.min 1111 (s.get p R.QSTAT_IDX % 2048)
    if off = R.QSTAT_CELLS.off then word (s.depth q)
    else if off = R.QSTAT_FRAMES.off then word (s.queueOf q).length
    else if off = R.QSTAT_PEAK.off then word (Nat.max (look q s.core.peaks) (s.depth q))
    else if off = R.QSTAT_DROPS.off then word (look q s.core.drops)
    else if off = R.QSTAT_MARKS.off then word (look q s.core.marks)
    else x
  else if p = Pg.granary then if off = R.FREE_CELLS.off then word s.freeCells else x
  else if p = Pg.gleaner then
    if off = R.GLEAN_STATUS.off then
      withBits (withBits x 0 17 s.core.gleanCell) 17 1 (b2n (s.granaryOn && s.ready p && s.on p R.GLEAN_CFG_EN))
    else if off = R.CANDIDATES.off then word s.core.orphans.length
    else x
  else if p = Pg.mirror then
    if off = R.CAP_STATUS.off then word (s.core.queued.filter (·.point == 9)).length
    else if off = R.CAP_LEN.off then word s.capLen
    else x
  else x

/-- Pages 0x070 to 0x074. -/
def signalWord (s : State) (p off : Nat) (x : Word) : Word :=
  let pair (a b : Nat) : Word := word (a + b * 2 ^ 16)
  if p = Pg.signal then
    if off = R.SIG_STATUS.off then pair (s.dirRole 1).length (s.dirRole 2).length else x
  else if p = Pg.publish then
    if off = R.PUB_STATUS.off then pair s.sig.pendX.length s.sig.pendB.length else x
  else if p = Pg.sigMirror then
    if off = R.CHG_LEVEL.off then word s.sig.chg.length
    else if off = R.MIRROR_STATUS.off then
      pair (s.dirUsed.filter fun i => s.validity i == 2).length (s.dirUsed.filter fun i => s.validity i == 4).length
    else x
  else if p = Pg.latch then
    if 0x054 ≤ off ∧ off < 0x064 then
      match s.sig.armed[(off - 0x054) / 4]? with
      | some l => word (l.key + 2 ^ 31)
      | none => 0
    else x
  else if off = R.DIR_COUNT.off then
    let l := s.dirStagedUsed
    pair (l.filter fun i => dRole (s.dirS i 0) == 1).length (l.filter fun i => dRole (s.dirS i 0) == 2).length
  else x

/-- Pages 0x078 and 0x07B. -/
def bridgeWord (s : State) (p off : Nat) (x : Word) : Word :=
  if p = Pg.bridge then
    if off = R.BRIDGE_STATUS.off then word s.bridge.slots.length else x
  else if p = Pg.logs then
    if off = R.FEL_LEVEL.off then word s.bridge.far.length
    else if off = R.ORL_LEVEL.off then word s.bridge.orphans.length
    else x
  else x

/-! ### Ports -/

/-- A bank page. DEDUCED, log entry 24. -/
def bankWord (s : State) (b off : Nat) (x : Word) : Word :=
  if off = R.BANK_STATUS.off then withBits x 8 8 (s.bootedVersion 2)
  else if off = R.ENGINES_UP.off then word (bitsNat ((List.range 16).map fun i => s.engUp (16 * b + i)))
  else x

/-- An engine page. -/
def engineWord (s : State) (e off : Nat) (x : Word) : Word :=
  let g := s.eng e
  if off = 0x048 then
    let busy := g.work.isSome || g.attempt.isSome || g.stretch.isSome
    let t := withBits (withBits x 0 1 (b2n (s.engUp e))) 2 1 (b2n busy)
    withBits (withBits t 3 4 g.down.length) 12 4 (s.engMode e)
  else if off = R.RX_LEN.off then word (s.rxLen e)
  else if off = R.RX_LEVEL.off then word (s.rxLevel e)
  else if s.engMode e = 6 ∧ off = R.CAN_STATUS.off then withBits x 6 1 (b2n (!g.pend.isEmpty || g.raw.isSome))
  else x

/-! ### A register as an agent reads it -/

/-- The word that a read of a register returns (R27, R28): every page's fields that follow from the state. DEDUCED,
log entry 15. -/
def shown (s : State) (a : Agent) (p off : Nat) : Word :=
  let x := s.stored p off
  if off < 0x28 then s.headWord p off
  else if p = Pg.security then s.securityWord off x
  else if p = Pg.update ∨ p = Pg.updateData then s.updateWord p off x
  else if p = Pg.digest ∨ p = Pg.ralusk ∨ p = Pg.dlog then s.mgmtWord p off x
  else if p ≤ 0x013 ∨ (0x020 ≤ p ∧ p ≤ 0x027) then s.aonWord a p off x
  else if 0x018 ≤ p ∧ p ≤ 0x01B then s.timeWord p off x
  else if 0x034 ≤ p ∧ p ≤ 0x036 then s.usbWord p off x
  else if 0x058 ≤ p ∧ p ≤ 0x05E then
    if off = 0x048 then
      let l := s.link (p - 0x058)
      withBits (withBits x 7 1 (b2n l.suspended.isSome)) 16 13 l.replay.length
    else x
  else if 0x060 ≤ p ∧ p ≤ 0x063 then s.ringWord p off x
  else if 0x068 ≤ p ∧ p ≤ 0x06F then s.coreWord p off x
  else if 0x070 ≤ p ∧ p ≤ 0x074 then s.signalWord p off x
  else if 0x078 ≤ p ∧ p ≤ 0x07B then s.bridgeWord p off x
  else if 0x080 ≤ p ∧ p ≤ 0x087 then s.bankWord (p - 0x080) off x
  else if isEngine p then s.engineWord (p - 0x100) off x
  else x

end State

end Sys2Proof.Machine
end

