-- ==== Sys2Proof/Machine/Access.lean ====
section
/-! DEFINITION. Accesses to registers and regions: reads with their effects (R27, R52, R119), writes to any page, and what
the hub performs as the target of a fabric request (R38 to R43, R241 to R264), for its PCIe host (R391 to R393) and for the
management function (R418). -/

namespace Sys2Proof.Machine

open Sys2Proof (Word Byte Agent Code AccessKind Instr LaneId LinkId EngineId HostBar)

namespace State

/-! ### Reads of registers -/

/-- A read of AFL_POP (R52). -/
def aflPop (s : State) : State × Word :=
  match s.afl with
  | [] => (s, 0)
  | e :: l =>
    let t := { s with afl := l }
    let t := (t.wr Pg.afl R.AFL_ADDR_LO.off (word e.addr)).wr Pg.afl R.AFL_ADDR_HI.off (word (e.addr / 2 ^ 32 % 2 ^ 16))
    (t.wr Pg.afl R.AFL_TIME.off (word e.time), word (2 ^ 31 + e.code % 16 * 2 ^ 24 + e.kind % 8 * 2 ^ 20 + e.agent % 2 ^ 16))

/-- The pops: reads that take the head of a queue (R27). -/
def popRead (s : State) (p off : Nat) : Option (State × Word) :=
  if p = Pg.afl ∧ off = R.AFL_POP.off then some s.aflPop
  else if p = Pg.mirror ∧ off = R.CAP_DATA.off then some s.capRead
  else if p = Pg.sigMirror ∧ off = R.CHG_POP.off then some s.chgPop
  else if p = Pg.logs ∧ off = R.FEL_POP.off then some s.felPop
  else if p = Pg.logs ∧ off = R.ORL_POP.off then some s.orlPop
  else if p = Pg.ptp ∧ off = R.MEAS_POP.off then some s.measPop
  else if p = Pg.units ∧ off = R.TXTS_POP.off then some s.txtsPop
  else if p = Pg.usb ∧ off = R.SOF_CAP_POP.off then some s.sofPop
  else if isEngine p ∧ off = R.RX_DATA.off then some (s.rxRead (p - 0x100))
  else if isEngine p ∧ s.engMode (p - 0x100) = 6 ∧ off = R.CAN_STATUS.off then some (s.canStatusRead (p - 0x100))
  else none

/-- The RCL bits of a register clear, or the register reloads with the present value of what it tracks (R27).
DEDUCED, log entry 65. -/
def readClears (s : State) (p off : Nat) : State :=
  if p = Pg.qstat then
    let q := Nat.min 1111 (s.get p R.QSTAT_IDX % 2048)
    if off = R.QSTAT_PEAK.off then s.modCore fun c => { c with peaks := file q (s.depth q) c.peaks }
    else if off = R.QSTAT_DROPS.off then s.modCore fun c => { c with drops := file q 0 c.drops }
    else if off = R.QSTAT_MARKS.off then s.modCore fun c => { c with marks := file q 0 c.marks }
    else s
  else if p = Pg.granary ∧ off = R.MIN_FREE.off then s.wr p off (word s.freeCells)
  else
    match s.descOf p off with
    | some d =>
      if d.rcl = 0 then s
      else if p = Pg.meters then s.wr p off (s.rd p (off / 16 * 16 + 4))
      else
        let l := s.locate p off
        s.wr l.1 l.2 (s.rd l.1 l.2 &&& ~~~(word d.rcl))
    | none => s

/-- The high word that counts behind a latched one is copied into its register. -/
def latchHigh (s : State) (p hi : Nat) : State := s.wr p hi (s.rd (Pg.liveHigh p) hi)

/-- A read of a low word latches its high words (R119). -/
def readLatches (s : State) (p off : Nat) : State :=
  if 0x058 ≤ p ∧ p ≤ 0x05E ∧ (off = R.FRAMES_TX_LO.off ∨ off = R.FRAMES_RX_LO.off) then s.latchHigh p (off + 4)
  else if p = Pg.time ∧ off = R.NOW_LO.off then s.wr p R.NOW_HI.off (word (s.now / 2 ^ 32))
  else if p = Pg.prime ∧ (off = 0x05C ∨ off = 0x09C) then
    let x := (s.primeOf ((off - 0x040) / 0x40)).sec
    (s.wr p (off + 4) (word x)).wr p (off + 8) (word (x / 2 ^ 32 % 2 ^ 16))
  else if p = Pg.fin ∧ off = R.FIN_TS_LO.off then
    s.wr p R.FIN_TS_HI.off (word ((s.fin (s.get p R.FIN_TS_IDX % 64)).last / 2 ^ 32))
  else if p = Pg.intTime ∧ off % 8 = 0 ∧ (off = 0x040 ∨ off = 0x048 ∨ (0x800 ≤ off ∧ off < 0xA00)) then s.latchHigh p (off + 4)
  else if p = Pg.meters ∧ 0xA00 ≤ off ∧ off < 0xA48 ∧ off % 8 = 0 then s.latchHigh p (off + 4)
  else if p = Pg.thresher ∧ off = R.FF_TIME_LO.off then s.latchHigh p R.FF_TIME_HI.off
  else if p = Pg.epoch ∧ off = R.EP_PEND_TIME_LO.off then s.latchHigh p R.EP_PEND_TIME_HI.off
  else if p = Pg.epoch ∧ off = R.EP_LAST_TIME_LO.off then s.latchHigh p R.EP_LAST_TIME_HI.off
  else if p = Pg.usb ∧ off = R.SOF_FRAME.off then
    (s.wr p R.SOF_TS_LO.off (word s.usb.sofTs)).wr p R.SOF_TS_HI.off (word (s.usb.sofTs / 2 ^ 32))
  else s

/-- A read that has passed its check: the word, and the read's effect. DESIGN CHOICE, log entry 19. -/
def pageRead (s : State) (a : Agent) (p off : Nat) : State × Word :=
  match s.popRead p off with
  | some r => r
  | none => ((s.readClears p off).readLatches p off, s.shown a p off)

/-- A read of a register by an agent (R34, R35, R622). -/
def regRead (s : State) (a : Agent) (p off : Nat) : State × Word × Code :=
  match s.readCode a p off with
  | .ok => let r := s.pageRead a p off
           (r.1, r.2, .ok)
  | c => (s.logAccess c .read a (s.ownAddr 0 (p * 0x1000 + off)) (some p), refusedRead c, c)

/-! ### Writes to registers -/

/-- The write effect of each block's pages, beside the common header's. -/
def blockWrite (a : Agent) (p : Nat) (s : State) (off : Nat) (v : Word) : State :=
  if p ≤ 0x001 then wrIdentity a p s off v
  else if p ≤ 0x003 ∨ (0x030 ≤ p ∧ p ≤ 0x033) then wrEvents p s off v
  else if p = Pg.power then s.wrDomains off v
  else if p = Pg.bringUp then
    if off = R.BRINGUP_CMD.off then s.hubReset a v.toNat s.hubPos (s.on p R.BRINGUP_STATUS_STRAP_NORESTORE)
    else s.storeWrite p off v
  else if p = Pg.seed then s.wrSeed off v
  else if p = Pg.security then wrSecurity a s off v
  else if p ≤ 0x009 then wrUpdate p s off v
  else if p ≤ 0x00B then wrEpoch p s off v
  else if p ≤ 0x00D then wrRalusk p s off v
  else if p = Pg.record ∨ (0x078 ≤ p ∧ p ≤ 0x07B) then wrBridge a p s off v
  else if 0x010 ≤ p ∧ p ≤ 0x013 then wrThr p s off v
  else if 0x018 ≤ p ∧ p ≤ 0x01B then wrClock p s off v
  else if 0x020 ≤ p ∧ p ≤ 0x023 then wrPower p s off v
  else if 0x024 ≤ p ∧ p ≤ 0x027 then wrField p s off v
  else if 0x034 ≤ p ∧ p ≤ 0x036 then wrUsb p s off v
  else if isLane p then wrLane (p - 0x040) s off v
  else if 0x058 ≤ p ∧ p ≤ 0x05E then wrLink (p - 0x058) s off v
  else if 0x060 ≤ p ∧ p ≤ 0x063 then wrRing p s off v
  else if 0x068 ≤ p ∧ p ≤ 0x06F then wrCore p s off v
  else if 0x070 ≤ p ∧ p ≤ 0x074 then wrSignal p s off v
  else if 0x080 ≤ p ∧ p ≤ 0x087 then wrBank (p - 0x080) s off v
  else if isEngine p then wrEngine (p - 0x100) s off v
  else if 0x1C0 ≤ p ∧ p ≤ 0x1C7 then wrChaff p s off v
  else s.storeWrite p off v

/-- The pages whose block acts on a change of ENABLE. -/
def enables_ (p : Nat) : Bool :=
  p == Pg.time || p == Pg.pcie || p == Pg.usb || (0x058 ≤ p && p ≤ 0x05E) || isEngine p

/-- A write to PAGE_CTRL (R28, R30, R31, R36, R500): POWER_REQ requests the domain, at a shut page too; ENABLE stays 0 under
BLOCK_STOP; SOFT_RESET begins last. -/
def pageCtrl (a : Agent) (p : Nat) (s : State) (v : Word) : State :=
  let t := s.powerReq p (bitOf v.toNat 2)
  if s.pageShut p then t
  else
    let x := bitsPut (bitsPut v.toNat 1 1 0) 2 1 1
    let x := if s.blockStopped p then bitsPut x 0 1 0 else x
    let t := if enables_ p then blockWrite a p t R.PAGE_CTRL.off (word x) else t.storeWrite p R.PAGE_CTRL.off (word x)
    t.when (bitOf v.toNat 1) fun t => t.softResetBegin p

/-- EVT_FORCE (R28): the event bits that exist become 1. -/
def evtForce (s : State) (p : Nat) (v : Word) : State := s.wr p 0x010 (s.rd p 0x010 ||| (v &&& word (s.eventMask p)))

/-- The effect of a write that reaches its register, for any page. -/
def pageWrite (a : Agent) (p : Nat) (s : State) (off : Nat) (v : Word) : State :=
  if off = R.PAGE_CTRL.off then pageCtrl a p s v
  else if s.pageShut p then s
  else if off = 0x018 then s.evtForce p v
  else if off < 0x28 then s.storeWrite p off v
  else blockWrite a p s off v

/-- A write of a whole register by an agent (R24, R34, R622). -/
def regWrite (s : State) (a : Agent) (kind : AccessKind) (p off : Nat) (v : Word) : State × Code :=
  s.guardedWrite a kind p off v (pageWrite a p)

/-- A write with byte enables (R24): one that does not cover its register is discarded. -/
def regWriteBe (s : State) (a : Agent) (kind : AccessKind) (p off be : Nat) (v : Word) : State × Code :=
  if be = 15 then s.regWrite a kind p off v
  else
    let c : Code := if pageUsed p then .unsupported else .absent
    (s.logAccess c kind a (s.ownAddr 0 (p * 0x1000 + off)) (some p), c)

/-! ### The hub as a target (R245 to R262) -/

/-- The page whose ACCESS bit a refused access at a fabric address sets (R53). -/
def accessPage (addr : Nat) : Option Nat :=
  let r := addrRegion addr
  let o := addrOff addr
  if r = 0 then if o < 0x200000 then some (o / 0x1000) else none
  else if r = 1 then if o < 0x100000 then some Pg.sigMirror else none
  else if r = 2 then if o < 0x40000 then some Pg.directory else none
  else if 8 ≤ r ∧ r ≤ 39 then some (Pg.engine (devEngine addr))
  else none

/-- A request as its target sees it: this hub's own, or of the hub, PRIO and tag it came with; the address of its first word,
its words, and its enabled bytes with their addresses. -/
structure Access where
  own : Option Req := none
  src : Nat := 0
  prio : Nat := 0
  tag : Nat := 0
  agent : Nat
  write : Bool
  posted : Bool := false
  mcast : Bool := false
  fetch : Bool := false
  cmd : Option Nat := none
  base : Nat
  words : Nat
  cells : List (Nat × Byte)

/-- How a request ended: the outcome, the address that the answer names, the data of a read. -/
structure Done where
  outcome : Nat := 0
  at_ : Nat
  data : List Byte := []

namespace Access

/-- The kind of the access in the access fault log. -/
def kind (x : Access) : AccessKind := if x.write then (if x.posted then .posted else .nonPosted) else .read

/-- The address of the first enabled byte. -/
def first (x : Access) : Nat := (x.cells.head?.map (·.1)).getD x.base

/-- The words that hold enabled bytes; whether each is enabled whole. -/
def units (x : Access) : List Nat := (x.cells.map fun c => c.1 / 4 * 4).eraseDups
def whole (x : Access) (u : Nat) : Bool := (List.range 4).all fun j => x.cells.any (·.1 == u + j)

/-- The data of a word. -/
def wordAt (x : Access) (u : Nat) : Word :=
  word (leNat ((List.range 4).map fun j => match x.cells.find? (·.1 == u + j) with
    | some c => c.2
    | none => 0))

/-- The enabled bytes follow one another. -/
def contiguous (x : Access) : Bool :=
  (List.range x.cells.length).all fun j => (x.cells[j]?).any fun c => c.1 == x.first + j

end Access

/-- A refusal of a whole request by its target: logged, and answered with its code. -/
def refuseAll (s : State) (x : Access) (c : Code) (page : Option Nat) : State × Option Done :=
  (s.logAccess c x.kind (agentOf x.agent) x.first page, some { outcome := c.num, at_ := x.base })

/-- The words of regions 0 and 2, in ascending order, until one fails (R259, R260). `f` performs one. -/
def runUnits (f : State → Nat → State × Word × Code) : State → List Nat → List (Nat × Word) → State × Code × Nat × List (Nat × Word)
  | s, [], got => (s, .ok, 0, got)
  | s, u :: l, got =>
    let r := f s u
    if r.2.2 = .ok then runUnits f r.1 l (got ++ [(u, r.2.1)]) else (r.1, r.2.2, u, got)

/-- The end of a request of units. -/
def unitsDone (x : Access) (r : State × Code × Nat × List (Nat × Word)) : State × Option Done :=
  if r.2.1 = .ok then
    let at_ (u : Nat) : Word := match r.2.2.2.find? (·.1 == u) with
      | some g => g.2
      | none => 0
    (r.1, some { at_ := x.base, data := if x.write then [] else
      (List.range x.words).flatMap fun i => leBytes 4 (at_ (x.base + 4 * i)).toNat })
  else (r.1, some { outcome := r.2.1.num, at_ := r.2.2.1 })

/-- One unit of region 0. -/
def unitPage (x : Access) (s : State) (u : Nat) : State × Word × Code :=
  let o := addrOff u
  let a := agentOf x.agent
  if 0x200000 ≤ o then (s.logAccess .unsupported x.kind a u none, 0, .unsupported)
  else if x.write then
    let r := s.regWrite a x.kind (o / 0x1000) (o % 0x1000) (x.wordAt u)
    (r.1, 0, r.2)
  else s.regRead a (o / 0x1000) (o % 0x1000)

/-- One unit of region 2, the directory window (R209): checked as a register of page 0x074. -/
def unitDir (x : Access) (s : State) (u : Nat) : State × Word × Code :=
  let o := addrOff u
  let a := agentOf x.agent
  let p := Pg.directory
  let i := o / 16
  let w := o % 16 / 4
  if 0x40000 ≤ o then (s.logAccess .unsupported x.kind a u none, 0, .unsupported)
  else if x.write then
    let r := s.guardedAt a x.kind p (0x800 + o % 0x800) u fun t => t.dirWrite i w (x.wordAt u)
    (r.1, 0, r.2)
  else
    match s.readCode a p (0x800 + o % 0x800) with
    | .ok => (s, word (if s.on p R.PAGE_CTRL_VIEW_STAGED then s.dirS i w else s.dirW i w), .ok)
    | c => (s.logAccess c .read a u (some p), 0, c)

/-- A request to region 1 (R217, R229). -/
def onMirror (s : State) (x : Access) : State × Option Done :=
  let o := addrOff x.first
  let n := x.cells.length
  if 0x100000 < o + n then s.refuseAll x .unsupported none
  else if x.write then
    let r := s.hostPublish (agentOf x.agent) x.kind o (if x.contiguous then x.cells.map (·.2) else [])
    (r.1, some { outcome := r.2.num, at_ := x.base })
  else
    let r := s.mirrorRead (agentOf x.agent) (addrOff x.base) (4 * x.words)
    (r.1, some { outcome := r.2.2.num, at_ := x.base, data := if r.2.2 = .ok then r.2.1 else [] })

/-- A request to a downstream window (R248, R256 to R259, R302, R304): refused, or in the engine's queue, which answers it. -/
def onDevice (s : State) (x : Access) : State × Option Done :=
  let e := devEngine x.first
  let p := Pg.engine e
  if !s.pageOn p then (s, some { outcome := Code.deviceError.num, at_ := x.first })
  else if s.devRefused x.first then s.refuseAll x .unsupported (some p)
  else if x.fetch ∧ s.devSensitive x.first then s.refuseAll x .sideEffectRefused (some p)
  else
    match devTodo (s.devUnit x.first) x.write x.cells with
    | none => s.refuseAll x .unsupported (some p)
    | some todo =>
      (s.devEnqueue e { own := x.own, src := x.src, prio := x.prio, tag := x.tag, agent := x.agent, addr := x.first,
                        write := x.write, posted := x.posted, cmd := x.cmd, words := x.words, todo := todo }, none)

/-- Perform a request at this hub (R39, R259, R260): how it ended, or nothing where an engine answers later. -/
def perform (s : State) (x : Access) : State × Option Done :=
  let r := addrRegion x.base
  if x.cells.isEmpty then (s, some { at_ := x.base, data := if x.write then [] else List.replicate (4 * x.words) 0 })
  else if r = 0 ∨ r = 2 then
    let page := accessPage x.first
    if (r == 0) && page.any (fun p => !pageUsed p) then s.refuseAll x .absent page
    else if !x.units.all x.whole then s.refuseAll x .unsupported page
    else if x.fetch && (r == 0) && x.units.any (fun u => (accessPage u).any fun p => bitOf (pageCaps p) 29) then
      s.refuseAll x .sideEffectRefused page
    else unitsDone x (runUnits (if r = 0 then unitPage x else unitDir x) s x.units [])
  else if r = 1 then s.onMirror x
  else if 8 ≤ r ∧ r ≤ 39 then s.onDevice x
  else s.refuseAll x .unsupported none

/-- The answer to a request leaves: to its source in this hub, as a completion, or as a far error (R42, R253, R260). -/
def answer (s : State) (x : Access) (d : Done) : State :=
  match x.own with
  | some r =>
    let lead := r.addr - x.base
    s.selfDone r d.outcome 0 (if d.outcome = 0 then bytesAt d.data lead r.len else []) d.at_
  | none =>
    if x.posted then
      if d.outcome = 0 ∨ x.mcast then s else s.farErrorTo x.src (addrRegion d.at_) (addrOff d.at_) x.agent d.outcome
    else s.completeTo { src := x.src, prio := x.prio, tag := x.tag } (addrRegion d.at_) (addrOff d.at_) d.outcome 0 d.data

/-- A DUPLICATE answer (R262). -/
def answerDuplicate (s : State) (x : Access) (original : Nat) : State :=
  match x.own with
  | some r => s.selfDone r Code.duplicate.num original [] r.addr
  | none =>
    s.completeTo { src := x.src, prio := x.prio, tag := x.tag } (addrRegion x.base) (addrOff x.base) Code.duplicate.num
      original []

/-- Perform and answer a request, under the command record where it is a command (R262). DESIGN CHOICE, log entry 17. -/
def serve (s : State) (x : Access) : State :=
  match x.cmd with
  | none =>
    let r := s.perform x
    match r.2 with
    | some d => r.1.answer x d
    | none => r.1
  | some q =>
    match s.cmdCheck x.agent q with
    | some original => (s.cmdUsed x.agent).answerDuplicate x original
    | none =>
      let r := s.perform x
      match r.2 with
      | some d => (r.1.cmdRecord x.agent q d.outcome).answer x d
      | none => r.1

/-! ### This hub's own requests (R42) -/

/-- The cells of a run of bytes. -/
def cellsOfRun : Nat → Nat → List Byte → List (Nat × Byte)
  | _, 0, _ => []
  | addr, n + 1, bs => (addr, bs.headD 0) :: cellsOfRun (addr + 1) n bs.tail

/-- A request of this hub to itself, as an access. DEDUCED, log entry 18. -/
def ownAccess (r : Req) : Access :=
  { own := some r, agent := r.agent, write := r.write, posted := r.posted,
    fetch := match r.src with
      | .prefetch _ => true
      | _ => false
    cmd := r.cmd, base := r.addr / 4 * 4, words := wordsSpan r.addr r.len, cells := cellsOfRun r.addr r.len r.data }

/-- The requests to this hub itself that wait are performed, oldest first (R42); the requests that they lead to wait for the
next step, or for a slot. DEDUCED, log entry 18. -/
def flushWork (s : State) : State :=
  let l := s.bridge.work
  if l.isEmpty then s.takeSlot
  else ((l.foldl fun t r => t.serve (ownAccess r)) (s.modBridge fun b => { b with work := [] })).takeSlot

/-! ### Requests of other hubs (R243, R245) -/

/-- The enabled bytes of a request of `n` words from a word address, with first-word and last-word enables. -/
def cellsOfWords (base n be : Nat) (data : List Byte) : List (Nat × Byte) :=
  (List.range (4 * n)).filterMap fun i =>
    let w := i / 4
    let m := if w = 0 then be % 16 else if w + 1 = n then be / 16 % 16 else 15
    if bitOf m (i % 4) then some (base + i, data.getD i 0) else none

/-- A received request, as an access (R243). DESIGN CHOICE, log entry 17. -/
def accessOf (s : State) (src prio tag aux : Nat) (write posted mcast : Bool) (p : List Byte) : Access :=
  let b4 := (p.getD 4 0).toNat
  let base := s.ownAddr (b4 % 64) (leNat (bytesAt p 0 4) / 4 * 4)
  let n := if write then (p.length - 12) / 4 else aux
  { src := src, prio := prio, tag := tag, agent := leNat (bytesAt p 6 2), write := write, posted := posted, mcast := mcast,
    fetch := !write && bitOf b4 6, cmd := if write && !posted && bitOf b4 7 then some (leNat (bytesAt p 8 4)) else none,
    base := base, words := n, cells := cellsOfWords base n (if write then aux else (p.getD 5 0).toNat) (p.drop 12) }

/-- AGENT of a request is one that R245 lets a target accept. -/
def agentFits (src agent : Nat) : Bool :=
  let k := bitsOf agent 14 2
  (k == 2 || k == 3) && bitsOf agent 10 3 == 0 && agent % 2 ^ 10 == src

/-- A request of another hub (R245, R253, R262, R265). DESIGN CHOICE, log entry 17. -/
def remote (s : State) (x : Access) : State :=
  if !s.domainOn 4 then s
  else
    let t := s.count Pg.bridge R.CNT_REQ_REQUESTS_16
    let refuse (c : Code) : State :=
      let r := t.refuseAll x c (accessPage x.base)
      match r.2 with
      | some d => r.1.answer x d
      | none => r.1
    if !s.on Pg.bridge R.BRIDGE_CFG_TARGET_EN then refuse .islandRefused
    else if !agentFits x.src x.agent ∨ x.words = 0 ∨ 60 < x.words then refuse .unsupported
    else if x.mcast ∧ addrRegion x.base ≠ 0 then refuse .unsupported
    else t.serve x

/-! ### The PCIe host (R391 to R393, R40 to R42, R241, R244, R257, R258) -/

/-- Memory requests reach the endpoint (R396). DEDUCED, log entry 59. -/
def hostMay (s : State) : Bool := s.hostUp && !s.pcie.flr

/-- An Unsupported Request (R393); a read is answered with that status. -/
def unsupportedRequest (s : State) (read : Bool) : State :=
  (s.count Pg.pcieErr R.CNT_UR).when read fun t => t.emit (.bytes Pg.pcie 2 [])

/-- A memory request lies within the limits of R393. DESIGN CHOICE, log entry 17. -/
def hostFits (s : State) (bar : HostBar) (off len : Nat) (read : Bool) : Bool :=
  s.memSpace && !s.inD3 && (match bar with
    | .bar0 => (len == 4 || len == 8) && off % 4 == 0 && off + len ≤ 0x200000
    | .bar2 => 1 ≤ len && len ≤ (if read then 512 else 256) && off + len ≤ 0x100000
    | .bar4 => 1 ≤ len && len ≤ (if read then 512 else 256) && off + len ≤ 2 ^ 34)

/-- The code of an access through the bridge before its own rule (R12, R31, R34). -/
def bridgeCode (s : State) : Code :=
  if s.pageShut Pg.windows then .domainOff else if s.islandStopped Pg.windows then .islandRefused
  else if !s.ready Pg.windows then .notReady else .ok

/-- The fabric address of a BAR4 offset (R41). -/
def windowAddr (s : State) (off : Nat) : Nat := s.get Pg.windows (R.WIN_CTRL_BASE (off / 2 ^ 30 % 16)) * 2 ^ 30 + off % 2 ^ 30

/-- Why an access through BAR4 is refused before it is sent: the bridge, a disabled window, a broadcast that is not a write
to region 0 (R40, R41). -/
def windowCode (s : State) (off : Nat) (write : Bool) : Code :=
  let addr := s.windowAddr off
  match s.bridgeCode with
  | .ok =>
    if !s.on Pg.windows (R.WIN_CTRL_EN (off / 2 ^ 30 % 16)) then .unsupported
    else if addrHub addr / 4 = 255 ∧ !(write && addrRegion addr == 0) then .unsupported
    else .ok
  | c => c

/-- A host read through BAR4 (R241, R244, R257, R258). -/
def bar4Read (s : State) (off len : Nat) : State :=
  let w := off / 2 ^ 30 % 16
  let addr := s.windowAddr off
  let tell (t : State) (d : List Byte) : State := t.emit (.readData pcieHost (2 ^ 40 + off) (wordsOf (len + 1) d) 0)
  match s.windowCode off false with
  | .ok =>
    match s.bridge.prefetched.find? fun b => b.win == w && decide (b.addr ≤ addr) && decide (addr + len ≤ b.addr + b.data.length)
        && decide (s.ns ≤ b.at_ + 1000 * s.prefetchAgeUs) with
    | some b => ((tell (s.count Pg.bridge R.CNT_PREFETCH_READS) (bytesAt b.data (addr - b.addr) len)).prefetchNext off len).flushWork
    | none =>
      let l := piecesOf len addr len
      let id := s.bridge.nextRead
      let t := s.modBridge fun b => { b with nextRead := id + 1, reads := b.reads ++
        [{ id := id, off := off, len := len, pieces := List.replicate l.length none }] }
      ((List.range l.length).foldl (fun t i =>
        match l[i]? with
        | some q => t.issue { src := .hostRead id i, agent := pcieHost.toNat, addr := q.1, len := q.2 }
        | none => t) t).flushWork
  | c => tell (s.logAccess c .read pcieHost addr none) (List.replicate len 0xFF)

/-- A posted write to every hub of a position (R40): sent forward, and performed here where the position is this hub's. -/
def broadcast (s : State) (r : Req) : State :=
  let t := s.sendReq r none
  if addrHub r.addr % 4 = s.hubPos then
    let own := s.ownAddr 0 (addrOff r.addr)
    (t.perform { ownAccess { r with addr := own } with mcast := true }).1
  else t

/-- A host write through BAR4 (R40 to R42, R241, R258). -/
def bar4Write (s : State) (off : Nat) (data : List Byte) : State :=
  let w := off / 2 ^ 30 % 16
  let addr := s.windowAddr off
  let t := s.modBridge fun b => { b with prefetched := b.prefetched.filter (·.win != w) }
  match s.windowCode off true with
  | .ok =>
    ((piecesOf data.length addr data.length).foldl (fun t q =>
      let r : Req := { src := .hostWrite, agent := pcieHost.toNat, addr := q.1, write := true, len := q.2,
                       data := bytesAt data (q.1 - addr) q.2 }
      if addrHub addr / 4 = 255 then t.broadcast r else t.issue r) t).flushWork
  | c => t.logAccess c .posted pcieHost addr none

/-- A memory read of the host (R393). DEDUCED, log entry 59. -/
def memRead (s : State) (bar : HostBar) (off len : Nat) : State :=
  if !s.hostMay then s
  else if !s.hostFits bar off len true then s.unsupportedRequest true
  else match bar with
    | .bar0 =>
      let r := (List.range (len / 4)).foldl (fun (t : State × List Word) i =>
        let o := off + 4 * i
        let q := t.1.regRead pcieHost (o / 0x1000) (o % 0x1000)
        (q.1, t.2 ++ [q.2.1])) (s, [])
      r.1.emit (.readData pcieHost (s.ownAddr 0 off) r.2 0)
    | .bar2 =>
      let r := s.mirrorRead pcieHost off len
      r.1.emit (.readData pcieHost (s.ownAddr 1 off) (wordsOf (len + 1) r.2.1) 0)
    | .bar4 => s.bar4Read off len

/-- The runs of enabled bytes of a write: start and data. -/
def enabledRuns : Nat → List Byte → List Bool → List (Nat × List Byte) → List (Nat × List Byte)
  | _, [], _, runs => runs
  | i, b :: bs, es, runs =>
    let runs := if es.headD false then
        match runs.getLast? with
        | some r => if r.1 + r.2.length = i then runs.dropLast ++ [(r.1, r.2 ++ [b])] else runs ++ [(i, [b])]
        | none => [(i, [b])]
      else runs
    enabledRuns (i + 1) bs es.tail runs

/-- A memory write of the host (R393), with its byte enables. -/
def memWrite (s : State) (bar : HostBar) (off : Nat) (data : List Byte) (en : List Bool) : State :=
  if !s.hostMay then s
  else if !s.hostFits bar off data.length false then s.unsupportedRequest false
  else
    let runs := enabledRuns 0 data en []
    match bar with
    | .bar0 =>
      (List.range (data.length / 4)).foldl (fun t i =>
        let o := off + 4 * i
        let be := bitsNat ((List.range 4).map fun j => en.getD (4 * i + j) false)
        if be = 0 then t
        else (t.regWriteBe pcieHost .posted (o / 0x1000) (o % 0x1000) be (word (leNat (bytesAt data (4 * i) 4)))).1) s
    | .bar2 =>
      match runs with
      | [] => s
      | [r] => (s.hostPublish pcieHost .posted (off + r.1) r.2).1
      | r :: _ => (s.hostPublish pcieHost .posted (off + r.1) []).1
    | .bar4 => runs.foldl (fun t r => t.bar4Write (off + r.1) r.2) s

/-! ### The management function (R418) -/

/-- The oldest queued command begins: its pieces are issued, as a local or a bridged access. -/
def mgmtExecute (s : State) : State :=
  match s.usb.queue with
  | [] => s
  | c :: rest =>
    if s.usb.run.isSome || !s.domainOn 3 || !s.mgmtReady then s
    else
      let t := (s.modUsb fun u => { u with queue := rest, run := some c, parts := [] }).setResult c.seq fun e => { e with st := 2 }
      let write := c.op == 2
      let l := if c.op = 3 then [] else if c.once then [(c.addr, c.len)] else piecesOf c.len c.addr c.len
      let t := if addrHub c.addr / 4 = 255 ∧ c.op ≠ 3 then
          t.modUsb fun u => { u with parts := [some (Code.unsupported.num, 0, [])] }
        else if c.op ≠ 3 ∧ s.bridgeCode ≠ .ok ∧ !s.isSelf c.addr then
          t.modUsb fun u => { u with parts := [some (s.bridgeCode.num, 0, [])] }
        else
          let t := t.modUsb fun u => { u with parts := List.replicate l.length none }
          ((List.range l.length).foldl (fun t i =>
            match l[i]? with
            | some q =>
              let r : Req := { src := .usb i, agent := usbHost.toNat, addr := q.1, write := write, len := q.2,
                               data := if write then bytesAt c.data (q.1 - c.addr) q.2 else [],
                               cmd := if c.once then some c.seq else none }
              if s.isSelf r.addr then t.serve (ownAccess r) else t.issue r
            | none => t) t).flushWork
      t.cmdGoesOn

end State

/-! ### The rows of registers (R24, R27, R28, R52, R119, R202) -/

/-- REGISTER_WRITE (R24, R25, R27, R34, R622). -/
def execRegisterWrite (a : Agent) (np : Bool) (p : BitVec 9) (w : BitVec 10) (be : BitVec 4) (v : Word) (s : State) :
    Host.Outcome State Fault Refusal :=
  let off := 4 * w.toNat
  let r := s.regWriteBe a (if np then .nonPosted else .posted) p.toNat off be.toNat v
  finishAll ((r.1.when np fun t => t.emit (.readData a (s.ownAddr 0 (p.toNat * 0x1000 + off)) [] r.2.num)).flushWork)

/-- READ_CLEAR (R27, R35). -/
def execReadClear (a : Agent) (p : BitVec 9) (w : BitVec 10) (s : State) : Host.Outcome State Fault Refusal :=
  finishAll (s.guardedRead a p.toNat (4 * w.toNat) fun t => t.pageRead a p.toNat (4 * w.toNat))

/-- LATCHING_LO_READ (R119). -/
def execLatchingLoRead (a : Agent) (p : BitVec 9) (w : BitVec 10) (s : State) : Host.Outcome State Fault Refusal :=
  finishAll (s.guardedRead a p.toNat (4 * w.toNat) fun t => t.pageRead a p.toNat (4 * w.toNat))

/-- EVT_FORCE (R28). -/
def execEvtForce (a : Agent) (p : BitVec 9) (v : Word) (s : State) : Host.Outcome State Fault Refusal :=
  finishAll (s.poke a p.toNat 0x018 v (State.pageWrite a p.toNat))

/-- AFL_POP (R52). -/
def execAflPop (a : Agent) (s : State) : Host.Outcome State Fault Refusal :=
  finishAll (s.guardedRead a Pg.afl R.AFL_POP.off State.aflPop)

/-- The page and the field of the CNT_CLEAR command that zeroes the counters of a page. -/
def clearBit (p : Nat) : Option (Nat × Fld) :=
  let b (off lo : Nat) : Fld := ⟨off, lo, 1⟩
  if isLane p then some (p, R.LANE_CMD_CNT_CLEAR)
  else if 0x058 ≤ p ∧ p ≤ 0x05E then some (p, R.LINK_CTRL_CNT_CLEAR)
  else if isEngine p then some (p, R.ENG_CMD_CNT_CLEAR)
  else if 0x078 ≤ p ∧ p ≤ 0x07B then some (Pg.bridge, R.BRIDGE_CMD_CNT_CLEAR)
  else if 0x018 ≤ p ∧ p ≤ 0x01B then some (Pg.time, R.TIME_CMD_CNT_CLEAR)
  else if 0x010 ≤ p ∧ p ≤ 0x013 then some (Pg.thresher, R.THR_CTRL_CNT_CLEAR)
  else if p = Pg.ralusk ∨ p = Pg.dlog then some (Pg.ralusk, R.RALUSK_CTRL_CNT_CLEAR)
  else if p = Pg.epoch ∨ p = Pg.digest then some (Pg.epoch, R.EP_CMD_CNT_CLEAR)
  else if p = Pg.update ∨ p = Pg.updateData then some (Pg.update, R.UPD_CMD_CNT_CLEAR)
  else if 0x1C0 ≤ p ∧ p ≤ 0x1C7 then some (Pg.chaff 6, R.CH_CMD_CNT_CLEAR)
  else if p = Pg.master then some (p, R.RING_CMD_CNT_CLEAR)
  else if p = Pg.sched then some (p, R.SCHED_CMD_CNT_CLEAR)
  else if p = Pg.redun then some (p, R.REDUN_CFG_CNT_CLEAR)
  else if p = Pg.latch then some (p, R.LATCH_CMD_CNT_CLEAR)
  else if p = Pg.seed then some (p, R.SEED_CMD_CNT_CLEAR)
  else if p = Pg.core then some (p, b 0x044 0) else if p = Pg.granary then some (p, b 0x05C 0)
  else if p = Pg.gleaner then some (p, b 0x060 0) else if p = Pg.mirror then some (p, b 0x0D4 0)
  else if p = Pg.congestion then some (p, b 0x050 0) else if p = Pg.hold then some (p, b 0x068 0)
  else if p = Pg.signal then some (p, b 0x044 0) else if p = Pg.publish then some (p, b 0x058 0)
  else if p = Pg.fin then some (p, b 0x050 0) else if p = Pg.fout then some (p, b 0x054 0)
  else if p = Pg.interrupts then some (p, b 0x06C 0) else if p = Pg.pcie then some (p, b 0x048 0)
  else if p = Pg.pcieErr then some (p, b 0x04C 0) else if p = Pg.usb then some (p, b 0x048 0)
  else if p = Pg.mgmt then some (p, b 0x050 0) else if p = Pg.usbHub then some (p, b 0x054 0)
  else if p = Pg.power then some (p, b 0x058 0) else if p = Pg.inlet then some (p, b 0x070 0)
  else if p = Pg.fuses then some (p, b 0x0CC 0)
  else none

/-- COUNTER_CLEAR (R202, R81, R119, R265 and the like). -/
def execCounterClear (a : Agent) (p : BitVec 9) (s : State) : Host.Outcome State Fault Refusal :=
  finishAll <|
    match clearBit p.toNat with
    | some c => s.poke a c.1 c.2.off (s.withField c.1 c.2 1) (State.pageWrite a c.1)
    | none => s

/-! ### The rows of the bridge, the PCIe host and the management function -/

/-- HOST_BAR4_READ (R241). -/
def execHostBar4Read (off : BitVec 34) (len : BitVec 13) (s : State) : Host.Outcome State Fault Refusal :=
  finishAll (s.memRead .bar4 off.toNat len.toNat)

/-- HOST_BAR4_WRITE (R241). -/
def execHostBar4Write (off : BitVec 34) (data : List Byte) (s : State) : Host.Outcome State Fault Refusal :=
  finishAll (s.memWrite .bar4 off.toNat data (List.replicate data.length true))

/-- CP_GO (R261). -/
def execCpGo (a : Agent) (p : Fin 4) (s : State) : Host.Outcome State Fault Refusal :=
  finishAll (s.poke a Pg.ports (R.CP_CTRL_LEN p).off
    (word (s.get Pg.ports (R.CP_CTRL_LEN p) + 2 ^ 8)) (State.pageWrite a Pg.ports)).flushWork

/-- RA_READ (R243, R245). -/
def execRaRead (src : Fin 1024) (prio : Fin 8) (tag aux : BitVec 16) (payload : List Byte) (s : State) :
    Host.Outcome State Fault Refusal :=
  finishAll (s.remote (s.accessOf src prio tag.toNat aux.toNat false false false payload)).flushWork

/-- RA_WRITE_POSTED (R245, R253). -/
def execRaWritePosted (src : Fin 1024) (mcast : Bool) (aux : BitVec 16) (payload : List Byte) (s : State) :
    Host.Outcome State Fault Refusal :=
  finishAll (s.remote (s.accessOf src 0 0 aux.toNat true true mcast payload)).flushWork

/-- RA_WRITE_NP (R245, R262). -/
def execRaWriteNp (src : Fin 1024) (prio : Fin 8) (tag aux : BitVec 16) (payload : List Byte) (s : State) :
    Host.Outcome State Fault Refusal :=
  finishAll (s.remote (s.accessOf src prio tag.toNat aux.toNat true false false payload)).flushWork

/-- PCIE_MEM_READ (R393). -/
def execPcieMemRead (bar : HostBar) (off : BitVec 34) (len : BitVec 10) (s : State) : Host.Outcome State Fault Refusal :=
  finishAll (s.memRead bar off.toNat len.toNat)

/-- PCIE_MEM_WRITE (R393). -/
def execPcieMemWrite (bar : HostBar) (off : BitVec 34) (data : List Byte) (enables : List Bool) (s : State) :
    Host.Outcome State Fault Refusal :=
  finishAll (s.memWrite bar off.toNat data enables).flushWork

/-- MGMT_COMMAND_EXECUTE (R418, R421). -/
def execMgmtCommandExecute (s : State) : Host.Outcome State Fault Refusal := finishAll s.mgmtExecute

end Sys2Proof.Machine
end

