-- ==== Sys2Proof/Machine/Deliver.lean ====
section
/-! DEFINITION. Frames that arrive and leave (R99, R100, R140, R174, R183 to R188, R195): delivery to the egress points of
this hub, what each point takes, the Gleaner's sweep (R197 to R199, R527). -/

namespace Sys2Proof.Machine

open Sys2Proof (Word Byte Agent Code AccessKind Instr LaneId LinkId EngineId CellFinding)

namespace State

/-! ### Delivery (R100, R101, R140, R149, R154) -/

/-- The egress point of this hub that serves a frame type (R167). -/
def localPoint (f : Frame) : Nat :=
  match f.ftype with
  | 0x01 | 0x02 => 138
  | 0x10 | 0x11 | 0x12 | 0x13 | 0x14 => 7
  | 0x40 => 9
  | 0x41 => 10 + f.aux % 128
  | _ => 8

/-- A PTP frame is addressed to this hub (R371); without a node number a hub names itself by node 0, as INIT does. -/
def ptpHere (s : State) (f : Frame) : Bool :=
  f.dstNode == (if s.nodeValid then s.node else 0) && f.dstHub == s.hubPos

/-- The records of a bundle fill its payload (R101). DESIGN CHOICE, log entry 28. -/
def bundleFits (f : Frame) : Bool :=
  match parseBundle 20 f.payload with
  | some rs => rs.length == f.aux
  | none => false

/-- Admit a delivered frame to a point, sharing the cells of a copy that is queued already (R176). DESIGN CHOICE, log
entry 28. -/
def admitLocal (s : State) (point : Nat) (f : Frame) (shared : Option Nat) : State × Bool :=
  match shared with
  | some id => s.admitAs point f id true
  | none => s.admitFrame point f

/-- Note the side and the time of arrival with the frame admitted last. -/
def noteArrival (s : State) (k at_ : Nat) : State :=
  s.modCore fun c =>
    match c.queued.getLast? with
    | some q => { c with queued := c.queued.dropLast ++ [{ q with side := k, stamp := at_ }] }
    | none => c

/-- A request that R179 refuses at point 7 is answered with TARGET_BUSY (R247). -/
def busyAnswer (s : State) (f : Frame) : State :=
  let p := f.payload
  let region := (p.getD 4 0).toNat % 64
  let off := leNat (bytesAt p 0 4)
  if f.ftype = 0x11 then s.farErrorTo f.src region off (leNat (bytesAt p 6 2)) 0xA
  else if f.ftype = 0x10 ∨ f.ftype = 0x12 then s.completeTo { src := f.src, prio := f.prio, tag := f.tag } region off 0xA 0 []
  else s

/-- A frame goes to its point in this hub (R174, R184, R195, R247). DEDUCED, log entry 25. -/
def toLocal (s : State) (k at_ : Nat) (f : Frame) (shared : Option Nat) : State :=
  let point := localPoint f
  let put (t : State) : State × Bool :=
    let r := t.admitLocal point f shared
    (if r.2 then r.1.noteArrival k at_ else r.1, r.2)
  if point = 9 then
    if s.on Pg.mirror R.MIRROR_DEST_LOCAL then (put s).1
    else (s.count Pg.mirror R.CNT_MIRROR_RX_DROP).event Pg.mirror E.P06D_MIRROR_RX_DROP
  else if point = 8 then if s.domainOn 0 then (put s).1 else s.localDrop
  else if point = 7 then
    let r := put s
    if r.2 then r.1 else r.1.busyAnswer f
  else if point = 138 then (put s).1
  else (s.toEngine (point - 10) f).1

/-- A good frame that this hub delivers: one that R100, R101, R129, R371, R570 or R40 does not let it act on is discarded; a
second copy is discarded under R149 and R154. DEDUCED, log entry 25. -/
def deliverFrame (s : State) (k at_ : Nat) (f : Frame) (shared : Option Nat) : State :=
  let ptp := f.ftype = 0x20 ∨ f.ftype = 0x21
  let formatErr := s.count (Pg.link k) R.CNT_FMT_ERR
  if !bitOf (ftypeClasses f.ftype) f.cls then formatErr
  else if f.ftype = 0x01 ∧ !bundleFits f then formatErr
  else if f.ftype = 0x30 ∧ mgmtLen f.aux ≠ some f.plen then formatErr
  else if ptp ∧ !s.ptpHere f then s.ptpDiscard
  else if f.ftype = 0x33 ∧ k < 4 then s
  else if f.mcast ∧ f.ftype = 0x11 ∧ f.dstHub ≠ s.hubPos then s
  else
    let r := if f.cls = 0 then s.dupPass f else if f.ftype = 0x30 then (s, true) else s.seqPass f
    if r.2 then r.1.toLocal k at_ f shared else r.1

/-! ### What a point of this hub does with a frame -/

/-- A PTP frame reaches the time block, with the local time of its arrival and the residence in this hub (R369 to R377). -/
def ptpTake (s : State) (k code : Nat) (p : List Byte) (at_ residence : Nat) : State :=
  match code with
  | 0x0 => s.ptpIn 0 p fun t => t.syncIn k p at_ residence
  | 0x2 => s.ptpIn 2 p fun t => t.pdelayAnswer k p residence
  | 0x3 => s.ptpIn 3 p fun t => t.pdelayTake k p at_
  | 0xB => s.ptpIn 0xB p fun t => t.announceTake k p
  | _ => if s.timeOn then s.ptpDiscard else s

/-- The frame reaches its unit, which does what the rows of the single messages say. DEDUCED, log entry 27, DESIGN
CHOICE, log entry 28. -/
def arrive (s : State) (q : Queued) (residence : Nat) : State :=
  let f := q.frame
  let p := f.payload
  match f.ftype with
  | 0x01 =>
    match parseBundle 20 p with
    | some rs => s.bundleIn f.src rs
    | none => s
  | 0x02 => s.latchIn f.src p
  | 0x10 => s.remote (s.accessOf f.src f.prio f.tag f.aux false false false p)
  | 0x11 => s.remote (s.accessOf f.src 0 0 f.aux true true f.mcast p)
  | 0x12 => s.remote (s.accessOf f.src f.prio f.tag f.aux true false false p)
  | 0x13 => (s.completionIn f.src f.tag f.aux p).thermalGoesOn
  | 0x14 => s.farErrorIn f.src f.aux p
  | 0x20 | 0x21 => s.ptpTake q.side f.aux p q.stamp residence
  | 0x30 => s.mgmtIn q.side f.aux p
  | 0x31 =>
    if f.aux = 6 then
      s.epochIn p fun t m => if t.masterIndex = some f.src then (t.resultIn_ m).thermalGoesOn else t
    else s.epochMessage f.src f.aux p
  | 0x32 => s.digestIn f.src p
  | 0x33 => s.updMessage q.side f.aux p
  | _ => s

/-! ### Egress selection (R177, R183, R187, R195) -/

/-- A back-pressure unit holds the point now (R591). DEDUCED, log entry 41. -/
def chaffHolds (s : State) (point : Nat) : Bool :=
  s.chaffRuns && [0, 1, 2, 3].any fun u =>
    let p := Pg.chaff 3
    let width := s.get p (R.BP_TIME_WIDTH_US u)
    let period := s.get p (R.BP_TIME_PERIOD_US u)
    s.on p (R.BP_CFG_EN u) && s.get p (R.BP_CFG_POINT u) == point
      && decide (period ≤ width ∨ (s.ns - s.chaff.since) / 1000 % period < width)

/-- The cells of a frame are read and checked before it leaves (R177): whether it may leave. `ecc` is a cell with an error,
and whether the error was corrected. DESIGN CHOICE, log entry 35. -/
def cellsChecked (s : State) (q : Queued) (ecc : Option (BitVec 17 × Bool)) : State × Bool :=
  match ecc with
  | none => (s, true)
  | some (cell, true) =>
    ((s.count Pg.granary R.CNT_ECC_CORRECTED).eventFault Pg.granary E.P06B_ECC_CORRECTED K.GRANARY_ECC_CORRECTED cell.toNat, true)
  | some (cell, false) =>
    (((s.unqueue q).count Pg.granary R.CNT_ECC_UNCORRECTED).eventFault Pg.granary E.P06B_ECC_UNCORRECTED K.GRANARY_ECC_ERROR
      cell.toNat, false)

/-- A side or stitch port takes a frame, of whose bulk frame `unsent` flits remain (R102, R108, R183). -/
def sideSelect (s : State) (k unsent : Nat) (ecc : Option (BitVec 17 × Bool)) : State :=
  let l := s.link k
  let busy := 0 < unsent ∨ l.txCut ≠ []
  if !s.linkActive k || s.on (Pg.link k) R.LINK_STATUS_REPLAY_STALL || l.txCut.any (·.urgent)
      || (decide busy && decide (16 ≤ l.txPreempts)) then s
  else
    match s.selectAt k (decide busy) with
    | none => s
    | some q =>
      if !s.replayRoom k q.frame then
        (s.setF (Pg.link k) R.LINK_STATUS_REPLAY_STALL).count (Pg.link k) R.CNT_REPLAY_STALLS
      else
        let r := s.cellsChecked q ecc
        if r.2 then
          let t := (r.1.unqueue q).when (l.txCut != [] && unsent == 0) fun t => t.preempts k q.frame 1
          t.transmit k q.frame unsent
        else r.1

/-- Records of the mirror leave for MIRROR_DEST while LOCAL is 0 (R195). -/
def mirrorSelect (s : State) (ecc : Option (BitVec 17 × Bool)) : State :=
  match s.selectAt 9 false with
  | none => s
  | some q =>
    if s.on Pg.mirror R.MIRROR_DEST_LOCAL then s
    else
      let r := s.cellsChecked q ecc
      if r.2 then
        ((r.1.unqueue q).sendOwn
          { cls := 2, prio := q.frame.prio, ftype := 0x40, aux := q.frame.aux, dstNode := s.get Pg.mirror R.MIRROR_DEST_NODE,
            dstHub := s.get Pg.mirror R.MIRROR_DEST_HUB, payload := q.frame.payload }).1
      else r.1

/-- The bridge, the management island or the signal plane takes a frame. DESIGN CHOICE, log entry 35. -/
def unitSelect (s : State) (point : Nat) (ecc : Option (BitVec 17 × Bool)) (residence : Nat) : State :=
  match s.selectAt point false with
  | none => s
  | some q =>
    let r := s.cellsChecked q ecc
    if r.2 then (((r.1.leaves q).mirrorAt point 1 q.frame).arrive q residence).flushWork else r.1

/-- A port engine takes what it can (R187, R284). -/
def engineSelect (s : State) (e : Nat) (ecc : Option (BitVec 17 × Bool)) : State :=
  if !s.engUp e then s
  else
    match s.takeNext e with
    | none => s
    | some q => (s.cellsChecked q ecc).1.rawTakeAll e

/-- An egress point can take a frame (R183). DESIGN CHOICE, log entry 35. -/
def egressSelect (s : State) (point unsent : Nat) (ecc : Option (BitVec 17 × Bool)) (residence : Nat) : State :=
  if !s.domainOn 4 || s.chaffHolds point then s
  else if point < 7 then s.sideSelect point unsent ecc
  else if point = 9 then s.mirrorSelect ecc
  else if point < 9 ∨ point = 138 then s.unitSelect point ecc residence
  else s.engineSelect (point - 10) ecc

/-! ### The Gleaner's sweep (R197 to R199, R527) -/

/-- GLEAN decides after a sweep (R527). DEDUCED, log entry 41. -/
def gleanDecision (s : State) (reclaimed : Bool) : State :=
  let calm := if reclaimed then 0 else s.ral.gleanCalm + 1
  let before := s.get Pg.gleaner R.GLEAN_CFG_AUDIT_MS
  let run := decide (Nat.max 1 (s.get Pg.ralusk R.GLEAN_POL % 16) ≤ calm)
  let after := if reclaimed then s.get Pg.gleaner R.GLEAN_BOUNDS_AUDIT_MIN_MS
    else if run then Nat.min (2 * s.auditMs) (s.get Pg.gleaner R.GLEAN_BOUNDS_AUDIT_MAX_MS) else before
  if !s.policyDecides 6 then s
  else
    let t := s.modRal fun r => { r with gleanCalm := if run then 0 else calm }
    if after = before then t
    else t.decideTo 6 0 Pg.gleaner R.GLEAN_CFG.off before after fun t => t.putAdapt Pg.gleaner R.GLEAN_CFG_AUDIT_MS after

/-- A sweep is complete (R197). DEDUCED, log entry 41. -/
def sweepDone (s : State) : State :=
  let reclaimed := s.core.leaksThisSweep != 0
  ((s.count Pg.gleaner R.CNT_SWEEPS).modCore fun c => { c with gleanCell := 0, leaksThisSweep := 0 }).gleanDecision reclaimed

/-- A cell is returned to the free list (R198). DEDUCED, log entry 34. -/
def reclaimCell (s : State) (cell : Nat) : State :=
  let t := s.modCore fun c =>
    { c with orphans := c.orphans.filter (·.1 != cell), leaksThisSweep := c.leaksThisSweep + 1 }
  let t := ((t.count Pg.gleaner R.CNT_RECLAIM).wr Pg.gleaner R.LAST_RECLAIM.off (word (2 ^ 31 + cell))).event Pg.gleaner
    E.P06C_RECLAIM
  t.when (s.core.leaksThisSweep < 16) fun t => t.raise Pg.gleaner K.GRANARY_LEAK cell

/-- What the check of a cell finds (R197 to R199). DEDUCED, log entry 34. -/
def cellChecked (s : State) (cell : Nat) (finding : CellFinding) : State :=
  match finding with
  | .inOrder => s.modCore fun c => { c with orphans := c.orphans.filter (·.1 != cell) }
  | .doubled =>
    ((s.modCore fun c => { c with orphans := c.orphans.filter (·.1 != cell) }).wr Pg.gleaner R.LAST_RECLAIM.off
      (word (2 ^ 31 + 2 ^ 30 + cell))).eventFault Pg.gleaner E.P06C_FREE_LIST_ERR K.FREE_LIST_ERR cell
  | .orphaned =>
    match s.core.orphans.find? (·.1 == cell) with
    | none => s.modCore fun c => { c with orphans := c.orphans ++ [(cell, s.ns)] }
    | some x => if x.2 + 1000000 * s.auditMs ≤ s.ns then s.reclaimCell cell else s

/-- The Gleaner checks the next cell. -/
def gleanStep (s : State) (finding : CellFinding) : State :=
  if !(s.granaryOn && s.ready Pg.gleaner && s.on Pg.gleaner R.GLEAN_CFG_EN) then s
  else
    let cell := s.core.gleanCell
    let t := s.cellChecked cell finding
    if cell < 131071 then t.modCore fun c => { c with gleanCell := cell + 1 } else t.sweepDone

end State

/-- FRAME_END (R99): the last flit of a frame, its payload area and tail, and the local time at which it has arrived.
DEDUCED, log entry 25. -/
def execFrameEnd (k : LinkId) (flits : BitVec 4) (area tail : List Byte) (badSync : Bool) (at_ : BitVec 80) (s : State) :
    Host.Outcome State Fault Refusal :=
  finishAll <| s.onLink k fun t =>
    t.lastFlit k flits.toNat area tail badSync fun t f shared => t.deliverFrame k at_.toNat f shared

/-- EGRESS_SELECT (R183): `unsent` flits of a bulk frame in transmission remain; what the check of the cells found.
DEDUCED, log entry 25. -/
def execEgressSelect (point : Fin 139) (unsent : BitVec 4) (ecc : Option (BitVec 17 × Bool)) (residence : BitVec 64)
    (s : State) : Host.Outcome State Fault Refusal :=
  finishAll (s.egressSelect point unsent.toNat ecc residence.toNat)

/-- PORT_DOWN (R186): an engine goes down under R185. -/
def execPortDown (e : EngineId) (s : State) : Host.Outcome State Fault Refusal :=
  finishAll (if s.engUp e && s.engineDown e then s.engineFall e else s)

/-- PORT_UP (R187): an engine comes up under R185, and its queues drain. -/
def execPortUp (e : EngineId) (s : State) : Host.Outcome State Fault Refusal :=
  finishAll (if !s.engUp e && !s.engineDown e then (s.engineUp e).rawTakeAll e else s)

/-- GLEANER_CELL_CHECK (R197). -/
def execGleanerCellCheck (finding : CellFinding) (s : State) : Host.Outcome State Fault Refusal :=
  finishAll (s.gleanStep finding)

/-- DATA_RING_FAILBACK (R159). -/
def execDataRingFailback (s : State) : Host.Outcome State Fault Refusal := finishAll (s.ringAlive State.failBack)

end Sys2Proof.Machine
end

