-- ==== Sys2Proof/Machine/Dispatch.lean ====
section
/-! DEFINITION. The command dispatch: one arm for each constructor, each one call of the command's own meaning. -/

namespace Sys2Proof.Machine

/-- The effect of a command on everything but the queue. -/
def exec (i : Instr) (s : State) : Host.Outcome State Fault Refusal :=
  match i with
  | .registerWrite a np p w be v => Sys2Proof.Machine.execRegisterWrite a np p w be v s
  | .readClear a p w => Sys2Proof.Machine.execReadClear a p w s
  | .latchingLoRead a p w => Sys2Proof.Machine.execLatchingLoRead a p w s
  | .counterClear a p => Sys2Proof.Machine.execCounterClear a p s
  | .evtForce a p v => Sys2Proof.Machine.execEvtForce a p v s
  | .softReset a p => Sys2Proof.Machine.execSoftReset a p s
  | .softResetDone p => Sys2Proof.Machine.execSoftResetDone p s
  | .powerReq a p on => Sys2Proof.Machine.execPowerReq a p on s
  | .ownerClaim a v => Sys2Proof.Machine.execOwnerClaim a v s
  | .ownerRelease a v => Sys2Proof.Machine.execOwnerRelease a v s
  | .reclaimNonceNew a => Sys2Proof.Machine.execReclaimNonceNew a s
  | .reclaimNonceReady => Sys2Proof.Machine.execReclaimNonceReady s
  | .reclaimGo a => Sys2Proof.Machine.execReclaimGo a s
  | .reclaimCheckDone => Sys2Proof.Machine.execReclaimCheckDone s
  | .reclaimNonceExpiry => Sys2Proof.Machine.execReclaimNonceExpiry s
  | .aflPop a => Sys2Proof.Machine.execAflPop a s
  | .dieLinkWord fails => Sys2Proof.Machine.execDieLinkWord fails s
  | .dieLinkRetrainDone => Sys2Proof.Machine.execDieLinkRetrainDone s
  | .keepaliveTimeout => Sys2Proof.Machine.execKeepaliveTimeout s
  | .dieLinkUp => Sys2Proof.Machine.execDieLinkUp s
  | .channelTransfer p d => Sys2Proof.Machine.execChannelTransfer p d s
  | .crystalLock => Sys2Proof.Machine.execCrystalLock s
  | .crystalLockTimeout => Sys2Proof.Machine.execCrystalLockTimeout s
  | .domainSwitchRequest a v => Sys2Proof.Machine.execDomainSwitchRequest a v s
  | .domainSwitchStart => Sys2Proof.Machine.execDomainSwitchStart s
  | .domainOffChannelsIdle => Sys2Proof.Machine.execDomainOffChannelsIdle s
  | .domainOffIdleTimeout => Sys2Proof.Machine.execDomainOffIdleTimeout s
  | .domainOnDone => Sys2Proof.Machine.execDomainOnDone s
  | .linkEnable a k => Sys2Proof.Machine.execLinkEnable a k s
  | .linkDisable a k => Sys2Proof.Machine.execLinkDisable a k s
  | .signalDetect l => Sys2Proof.Machine.execSignalDetect l s
  | .cdrLock l => Sys2Proof.Machine.execCdrLock l s
  | .blockLock l good bad => Sys2Proof.Machine.execBlockLock l good bad s
  | .lockHere a l => Sys2Proof.Machine.execLockHere a l s
  | .bitSlip a l => Sys2Proof.Machine.execBitSlip a l s
  | .alignmentMarker l block bip arrival good bad => Sys2Proof.Machine.execAlignmentMarker l block bip arrival good bad s
  | .lockLost l good bad => Sys2Proof.Machine.execLockLost l good bad s
  | .squelchInUp l => Sys2Proof.Machine.execSquelchInUp l s
  | .squelchInTraining l => Sys2Proof.Machine.execSquelchInTraining l s
  | .trainTimeout l => Sys2Proof.Machine.execTrainTimeout l s
  | .retrain a l => Sys2Proof.Machine.execRetrain a l s
  | .rxIdleSignalReturn l => Sys2Proof.Machine.execRxIdleSignalReturn l s
  | .fastExitLimitExpiry l => Sys2Proof.Machine.execFastExitLimitExpiry l s
  | .fastExitComplete l => Sys2Proof.Machine.execFastExitComplete l s
  | .fastExitFail l => Sys2Proof.Machine.execFastExitFail l s
  | .testModeSet a l => Sys2Proof.Machine.execTestModeSet a l s
  | .testModeClear a l => Sys2Proof.Machine.execTestModeClear a l s
  | .idleReqSet a l => Sys2Proof.Machine.execIdleReqSet a l s
  | .idleReqClear a l => Sys2Proof.Machine.execIdleReqClear a l s
  | .eqBoundsWrite a l second v => Sys2Proof.Machine.execEqBoundsWrite a l second v s
  | .prbsCheckerLock l => Sys2Proof.Machine.execPrbsCheckerLock l s
  | .prbsLockLost l bits errs => Sys2Proof.Machine.execPrbsLockLost l bits errs s
  | .prbsSnap a l bits errs => Sys2Proof.Machine.execPrbsSnap a l bits errs s
  | .prbsClear a l => Sys2Proof.Machine.execPrbsClear a l s
  | .injOne a l => Sys2Proof.Machine.execInjOne a l s
  | .eyeGo a l => Sys2Proof.Machine.execEyeGo a l s
  | .eyeDone l count => Sys2Proof.Machine.execEyeDone l count s
  | .controlFlitDeadline k => Sys2Proof.Machine.execControlFlitDeadline k s
  | .idle k bytes => Sys2Proof.Machine.execIdle k bytes s
  | .ack k bytes => Sys2Proof.Machine.execAck k bytes s
  | .nak k bytes => Sys2Proof.Machine.execNak k bytes s
  | .replay k bytes => Sys2Proof.Machine.execReplay k bytes s
  | .status k bytes => Sys2Proof.Machine.execStatus k bytes s
  | .init k bytes => Sys2Proof.Machine.execInit k bytes s
  | .initAck k bytes => Sys2Proof.Machine.execInitAck k bytes s
  | .ping k bytes => Sys2Proof.Machine.execPing k bytes s
  | .pong k bytes rtt => Sys2Proof.Machine.execPong k bytes rtt s
  | .lanesUp k => Sys2Proof.Machine.execLanesUp k s
  | .initTimeout k => Sys2Proof.Machine.execInitTimeout k s
  | .linkDown k symbol => Sys2Proof.Machine.execLinkDown k symbol s
  | .silenceTimeout k => Sys2Proof.Machine.execSilenceTimeout k s
  | .linkReset a k => Sys2Proof.Machine.execLinkReset a k s
  | .holdoffExpiry k => Sys2Proof.Machine.execHoldoffExpiry k s
  | .replayTimeout k => Sys2Proof.Machine.execReplayTimeout k s
  | .frameHeader k header since unsent => Sys2Proof.Machine.execFrameHeader k header since unsent s
  | .frameEnd k flits area tail badSync at_ => Sys2Proof.Machine.execFrameEnd k flits area tail badSync at_ s
  | .egressSelect point unsent ecc residence => Sys2Proof.Machine.execEgressSelect point unsent ecc residence s
  | .lpReqWrite a k on => Sys2Proof.Machine.execLpReqWrite a k on s
  | .lpEnter k bytes => Sys2Proof.Machine.execLpEnter k bytes s
  | .lpDeny k bytes => Sys2Proof.Machine.execLpDeny k bytes s
  | .lpIdleExit k => Sys2Proof.Machine.execLpIdleExit k s
  | .lpStatusInterval k => Sys2Proof.Machine.execLpStatusInterval k s
  | .claim k payload => Sys2Proof.Machine.execClaim k payload s
  | .claimResend => Sys2Proof.Machine.execClaimResend s
  | .settleTimerExpiry => Sys2Proof.Machine.execSettleTimerExpiry s
  | .position k payload => Sys2Proof.Machine.execPosition k payload s
  | .tokenTimerExpiry => Sys2Proof.Machine.execTokenTimerExpiry s
  | .ringInfo k payload => Sys2Proof.Machine.execRingInfo k payload s
  | .announce k payload => Sys2Proof.Machine.execAnnounce k payload s
  | .assignNode k payload => Sys2Proof.Machine.execAssignNode k payload s
  | .masterBeaconSend => Sys2Proof.Machine.execMasterBeaconSend s
  | .masterBeacon k payload => Sys2Proof.Machine.execMasterBeacon k payload s
  | .beaconLost => Sys2Proof.Machine.execBeaconLost s
  | .rediscover a => Sys2Proof.Machine.execRediscover a s
  | .wrapNotice k payload => Sys2Proof.Machine.execWrapNotice k payload s
  | .unwrapNotice k payload => Sys2Proof.Machine.execUnwrapNotice k payload s
  | .routeUpdate k payload => Sys2Proof.Machine.execRouteUpdate k payload s
  | .dataRingSwitch k payload => Sys2Proof.Machine.execDataRingSwitch k payload s
  | .fenceRelease key => Sys2Proof.Machine.execFenceRelease key s
  | .unwrapHoldExpiry k => Sys2Proof.Machine.execUnwrapHoldExpiry k s
  | .unwrapStop k => Sys2Proof.Machine.execUnwrapStop k s
  | .routeSteer a v => Sys2Proof.Machine.execRouteSteer a v s
  | .e2eEntryExpiry node hub cls => Sys2Proof.Machine.execE2eEntryExpiry node hub cls s
  | .dupAgeExpiry node hub seq => Sys2Proof.Machine.execDupAgeExpiry node hub seq s
  | .schedFire idx cycle skipped lateNs => Sys2Proof.Machine.execSchedFire idx cycle skipped lateNs s
  | .schedStore a => Sys2Proof.Machine.execSchedStore a s
  | .schedLoad a => Sys2Proof.Machine.execSchedLoad a s
  | .reserveWrite a compl v => Sys2Proof.Machine.execReserveWrite a compl v s
  | .profileBoundsWrite a p max v => Sys2Proof.Machine.execProfileBoundsWrite a p max v s
  | .portDown e => Sys2Proof.Machine.execPortDown e s
  | .holdWindowExpiry e => Sys2Proof.Machine.execHoldWindowExpiry e s
  | .portUp e => Sys2Proof.Machine.execPortUp e s
  | .capDataRead a => Sys2Proof.Machine.execCapDataRead a s
  | .capFlush a => Sys2Proof.Machine.execCapFlush a s
  | .gleanerCellCheck finding => Sys2Proof.Machine.execGleanerCellCheck finding s
  | .gleanerVerify ok => Sys2Proof.Machine.execGleanerVerify ok s
  | .gleanBoundsWrite a v => Sys2Proof.Machine.execGleanBoundsWrite a v s
  | .dirWriteW0 a idx v => Sys2Proof.Machine.execDirWriteW0 a idx v s
  | .dirWriteW123 a idx w v => Sys2Proof.Machine.execDirWriteW123 a idx w v s
  | .sourceUpdate idx value valid ts => Sys2Proof.Machine.execSourceUpdate idx value valid ts s
  | .minGapExpiry idx => Sys2Proof.Machine.execMinGapExpiry idx s
  | .eventBundleAssembly bulk prio => Sys2Proof.Machine.execEventBundleAssembly bulk prio s
  | .hostPublishWrite a off data => Sys2Proof.Machine.execHostPublishWrite a off data s
  | .conflictNoticeSend dst => Sys2Proof.Machine.execConflictNoticeSend dst s
  | .conflictNotice src payload => Sys2Proof.Machine.execConflictNotice src payload s
  | .freshnessTimeout idx => Sys2Proof.Machine.execFreshnessTimeout idx s
  | .chgPop a => Sys2Proof.Machine.execChgPop a s
  | .resyncAll a => Sys2Proof.Machine.execResyncAll a s
  | .supersededClear a => Sys2Proof.Machine.execSupersededClear a s
  | .mirrorRead a off len => Sys2Proof.Machine.execMirrorRead a off len s
  | .latchArm a => Sys2Proof.Machine.execLatchArm a s
  | .latchCancel a => Sys2Proof.Machine.execLatchCancel a s
  | .arm src payload => Sys2Proof.Machine.execArm src payload s
  | .cancel src payload => Sys2Proof.Machine.execCancel src payload s
  | .latchFire key at_ => Sys2Proof.Machine.execLatchFire key at_ s
  | .resultSend key => Sys2Proof.Machine.execResultSend key s
  | .fieldLatchEvaluate key => Sys2Proof.Machine.execFieldLatchEvaluate key s
  | .result src payload => Sys2Proof.Machine.execResult src payload s
  | .hostBar4Read off len => Sys2Proof.Machine.execHostBar4Read off len s
  | .hostBar4Write off data => Sys2Proof.Machine.execHostBar4Write off data s
  | .cpGo a p => Sys2Proof.Machine.execCpGo a p s
  | .raRead src prio tag aux payload => Sys2Proof.Machine.execRaRead src prio tag aux payload s
  | .raWritePosted src mcast aux payload => Sys2Proof.Machine.execRaWritePosted src mcast aux payload s
  | .raWriteNp src prio tag aux payload => Sys2Proof.Machine.execRaWriteNp src prio tag aux payload s
  | .raCompletion src tag aux payload => Sys2Proof.Machine.execRaCompletion src tag aux payload s
  | .raFarError src aux payload => Sys2Proof.Machine.execRaFarError src aux payload s
  | .readDiscardExpiry slot => Sys2Proof.Machine.execReadDiscardExpiry slot s
  | .felPop a => Sys2Proof.Machine.execFelPop a s
  | .orlPop a => Sys2Proof.Machine.execOrlPop a s
  | .clearAll a => Sys2Proof.Machine.execClearAll a s
  | .engineEnable a e => Sys2Proof.Machine.execEngineEnable a e s
  | .engineDisable a e => Sys2Proof.Machine.execEngineDisable a e s
  | .cellCfgWrite a c v => Sys2Proof.Machine.execCellCfgWrite a c v s
  | .vioChange g meas => Sys2Proof.Machine.execVioChange g meas s
  | .clk80Unlock b => Sys2Proof.Machine.execClk80Unlock b s
  | .pollTick e => Sys2Proof.Machine.execPollTick e s
  | .controllerBoundary e => Sys2Proof.Machine.execControllerBoundary e s
  | .downstreamUnit e losses r data => Sys2Proof.Machine.execDownstreamUnit e losses r data s
  | .rawPortTake e => Sys2Proof.Machine.execRawPortTake e s
  | .rawRecord e flags rkind at_ data => Sys2Proof.Machine.execRawRecord e flags rkind at_ data s
  | .rxDataRead a e => Sys2Proof.Machine.execRxDataRead a e s
  | .rxFlush a e => Sys2Proof.Machine.execRxFlush a e s
  | .txData a e v => Sys2Proof.Machine.execTxData a e v s
  | .txCommit a e len rkind => Sys2Proof.Machine.execTxCommit a e len rkind s
  | .txStageClear a e => Sys2Proof.Machine.execTxStageClear a e s
  | .uartCharacter e ch parity framing driving at_ => Sys2Proof.Machine.execUartCharacter e ch parity framing driving at_ s
  | .uartIdleGap e => Sys2Proof.Machine.execUartIdleGap e s
  | .uartBreak e => Sys2Proof.Machine.execUartBreak e s
  | .uartTransmit e => Sys2Proof.Machine.execUartTransmit e s
  | .sendBreak a e => Sys2Proof.Machine.execSendBreak a e s
  | .spiTransaction e data at_ => Sys2Proof.Machine.execSpiTransaction e data at_ s
  | .spiTargetSelect e data at_ => Sys2Proof.Machine.execSpiTargetSelect e data at_ s
  | .i2cTransaction e losses r data at_ => Sys2Proof.Machine.execI2cTransaction e losses r data at_ s
  | .i2cTargetAccess e own reg write data pecOk at_ => Sys2Proof.Machine.execI2cTargetAccess e own reg write data pecOk at_ s
  | .ctrlStretchLimit e at_ => Sys2Proof.Machine.execCtrlStretchLimit e at_ s
  | .tgtStretchLimit e => Sys2Proof.Machine.execTgtStretchLimit e s
  | .keptAnswerExpiry e => Sys2Proof.Machine.execKeptAnswerExpiry e s
  | .smbusTimeout e at_ => Sys2Proof.Machine.execSmbusTimeout e at_ s
  | .smbalert e => Sys2Proof.Machine.execSmbalert e s
  | .busRecover a e stuck => Sys2Proof.Machine.execBusRecover a e stuck s
  | .discreteEdge e line level at_ => Sys2Proof.Machine.execDiscreteEdge e line level at_ s
  | .pwmPeriodStart e late => Sys2Proof.Machine.execPwmPeriodStart e late s
  | .encoderTransition e a b at_ => Sys2Proof.Machine.execEncoderTransition e a b at_ s
  | .encoderIndex e at_ => Sys2Proof.Machine.execEncoderIndex e at_ s
  | .encPreset a e v => Sys2Proof.Machine.execEncPreset a e v s
  | .canTxAttempt e => Sys2Proof.Machine.execCanTxAttempt e s
  | .canFrameSent e tdcv at_ => Sys2Proof.Machine.execCanFrameSent e tdcv at_ s
  | .canAttemptFailed e why => Sys2Proof.Machine.execCanAttemptFailed e why s
  | .canFrameReceived e out ident ide fdf brs esi dlc data at_ => Sys2Proof.Machine.execCanFrameReceived e out ident ide fdf brs esi dlc data at_ s
  | .canRemoteFrame e ident ide dlc at_ => Sys2Proof.Machine.execCanRemoteFrame e ident ide dlc at_ s
  | .canCycleTimer e slot => Sys2Proof.Machine.execCanCycleTimer e slot s
  | .restart a e => Sys2Proof.Machine.execRestart a e s
  | .integrationDone e => Sys2Proof.Machine.execIntegrationDone e s
  | .enableIntegrationDone e => Sys2Proof.Machine.execEnableIntegrationDone e s
  | .abortTx a e => Sys2Proof.Machine.execAbortTx a e s
  | .pairFailover e => Sys2Proof.Machine.execPairFailover e s
  | .pairSwap a e => Sys2Proof.Machine.execPairSwap a e s
  | .canStatusRead a e => Sys2Proof.Machine.execCanStatusRead a e s
  | .fieldInputAccept idx level at_ => Sys2Proof.Machine.execFieldInputAccept idx level at_ s
  | .finInvWrite a idx inv => Sys2Proof.Machine.execFinInvWrite a idx inv s
  | .wireBreak idx present => Sys2Proof.Machine.execWireBreak idx present s
  | .inputOvervolt idx present => Sys2Proof.Machine.execInputOvervolt idx present s
  | .finFaultClear a idx => Sys2Proof.Machine.execFinFaultClear a idx s
  | .foutSetWrite a v => Sys2Proof.Machine.execFoutSetWrite a v s
  | .outputLimitExpiry o => Sys2Proof.Machine.execOutputLimitExpiry o s
  | .outputShort o => Sys2Proof.Machine.execOutputShort o s
  | .outputThermal o present => Sys2Proof.Machine.execOutputThermal o present s
  | .aggregateShed currents => Sys2Proof.Machine.execAggregateShed currents s
  | .shedNext currents => Sys2Proof.Machine.execShedNext currents s
  | .foutFaultClear a o => Sys2Proof.Machine.execFoutFaultClear a o s
  | .openOn o => Sys2Proof.Machine.execOpenOn o s
  | .openOff o => Sys2Proof.Machine.execOpenOff o s
  | .pFreqWrite a c v => Sys2Proof.Machine.execPFreqWrite a c v s
  | .pAdjWrite a c v => Sys2Proof.Machine.execPAdjWrite a c v s
  | .set a c => Sys2Proof.Machine.execSet a c s
  | .unitStrobe => Sys2Proof.Machine.execUnitStrobe s
  | .timeSnap a u => Sys2Proof.Machine.execTimeSnap a u s
  | .pdelayReqSend k t1 => Sys2Proof.Machine.execPdelayReqSend k t1 s
  | .pdelayReq k payload turnaround => Sys2Proof.Machine.execPdelayReq k payload turnaround s
  | .pdelayResp k payload t4 => Sys2Proof.Machine.execPdelayResp k payload t4 s
  | .pdelayAnswerTimeout k => Sys2Proof.Machine.execPdelayAnswerTimeout k s
  | .syncSend => Sys2Proof.Machine.execSyncSend s
  | .sync k payload at_ residence => Sys2Proof.Machine.execSync k payload at_ residence s
  | .syncWaitExpiry residence => Sys2Proof.Machine.execSyncWaitExpiry residence s
  | .announceSend => Sys2Proof.Machine.execAnnounceSend s
  | .ptpAnnounce k payload => Sys2Proof.Machine.execPtpAnnounce k payload s
  | .announceTimeout => Sys2Proof.Machine.execAnnounceTimeout s
  | .syncLossTimeout => Sys2Proof.Machine.execSyncLossTimeout s
  | .holdoverExpiry => Sys2Proof.Machine.execHoldoverExpiry s
  | .rateRatioMeasurement k ratio => Sys2Proof.Machine.execRateRatioMeasurement k ratio s
  | .ppsEdge interval => Sys2Proof.Machine.execPpsEdge interval s
  | .ppsAbsentTimeout => Sys2Proof.Machine.execPpsAbsentTimeout s
  | .ref10Change ok term => Sys2Proof.Machine.execRef10Change ok term s
  | .ppsOutStart => Sys2Proof.Machine.execPpsOutStart s
  | .ppsOutEnd => Sys2Proof.Machine.execPpsOutEnd s
  | .measPop a => Sys2Proof.Machine.execMeasPop a s
  | .txtsPop a => Sys2Proof.Machine.execTxtsPop a s
  | .txtsOverflowClear a => Sys2Proof.Machine.execTxtsOverflowClear a s
  | .txtsFlush a => Sys2Proof.Machine.execTxtsFlush a s
  | .pcieMemRead bar off len => Sys2Proof.Machine.execPcieMemRead bar off len s
  | .pcieMemWrite bar off data enables => Sys2Proof.Machine.execPcieMemWrite bar off data enables s
  | .pcieConfigRequest write dword be data => Sys2Proof.Machine.execPcieConfigRequest write dword be data s
  | .pcieReset cause => Sys2Proof.Machine.execPcieReset cause s
  | .pcieLinkUp speed width reversed inverted => Sys2Proof.Machine.execPcieLinkUp speed width reversed inverted s
  | .retrainPcie a => Sys2Proof.Machine.execRetrainPcie a s
  | .sourceLive n => Sys2Proof.Machine.execSourceLive n s
  | .coalTimerExpiry v => Sys2Proof.Machine.execCoalTimerExpiry v s
  | .msixUnmask v a => Sys2Proof.Machine.execMsixUnmask v a s
  | .vecAck a high bits => Sys2Proof.Machine.execVecAck a high bits s
  | .usbAttach => Sys2Proof.Machine.execUsbAttach s
  | .disconnect a => Sys2Proof.Machine.execDisconnect a s
  | .disconnectEnd => Sys2Proof.Machine.execDisconnectEnd s
  | .busReset cause => Sys2Proof.Machine.execBusReset cause s
  | .usbSuspend => Sys2Proof.Machine.execUsbSuspend s
  | .usbResume => Sys2Proof.Machine.execUsbResume s
  | .lpm remoteWake => Sys2Proof.Machine.execLpm remoteWake s
  | .remoteWake => Sys2Proof.Machine.execRemoteWake s
  | .wakeRetry => Sys2Proof.Machine.execWakeRetry s
  | .usbOvercurrent p => Sys2Proof.Machine.execUsbOvercurrent p s
  | .setPortPower p on => Sys2Proof.Machine.execSetPortPower p on s
  | .cmd wIndex data => Sys2Proof.Machine.execCmd wIndex data s
  | .cmdNakTimeout result => Sys2Proof.Machine.execCmdNakTimeout result s
  | .resultRequest wIndex wValue wLength => Sys2Proof.Machine.execResultRequest wIndex wValue wLength s
  | .info wIndex wLength => Sys2Proof.Machine.execInfo wIndex wLength s
  | .evtAck wIndex => Sys2Proof.Machine.execEvtAck wIndex s
  | .mgmtCommandExecute => Sys2Proof.Machine.execMgmtCommandExecute s
  | .mgmtCommandDone => Sys2Proof.Machine.execMgmtCommandDone s
  | .resultsClear a => Sys2Proof.Machine.execResultsClear a s
  | .usbNotifyTimer => Sys2Proof.Machine.execUsbNotifyTimer s
  | .consoleOutPacket k data => Sys2Proof.Machine.execConsoleOutPacket k data s
  | .conIdleExpiry k => Sys2Proof.Machine.execConIdleExpiry k s
  | .consoleInDrain k => Sys2Proof.Machine.execConsoleInDrain k s
  | .setLineCoding k rate rest => Sys2Proof.Machine.execSetLineCoding k rate rest s
  | .sof frame => Sys2Proof.Machine.execSof frame s
  | .sofMissed => Sys2Proof.Machine.execSofMissed s
  | .sofCapPop a => Sys2Proof.Machine.execSofCapPop a s
  | .powerDieResetExit cretry => Sys2Proof.Machine.execPowerDieResetExit cretry s
  | .powerDieResetEntry => Sys2Proof.Machine.execPowerDieResetEntry s
  | .insertDelayExpiry => Sys2Proof.Machine.execInsertDelayExpiry s
  | .hsOutGood => Sys2Proof.Machine.execHsOutGood s
  | .rampTimeout => Sys2Proof.Machine.execRampTimeout s
  | .pgCountDone => Sys2Proof.Machine.execPgCountDone s
  | .faultTimerExpiry => Sys2Proof.Machine.execFaultTimerExpiry s
  | .fastTrip => Sys2Proof.Machine.execFastTrip s
  | .windowLost cause => Sys2Proof.Machine.execWindowLost cause s
  | .holdRecover => Sys2Proof.Machine.execHoldRecover s
  | .holdOutLow => Sys2Proof.Machine.execHoldOutLow s
  | .cooldownEnd => Sys2Proof.Machine.execCooldownEnd s
  | .retryCountReset b => Sys2Proof.Machine.execRetryCountReset b s
  | .hsCycle a v => Sys2Proof.Machine.execHsCycle a v s
  | .hsCycleOffExpiry => Sys2Proof.Machine.execHsCycleOffExpiry s
  | .hsWindowWrite a levels v => Sys2Proof.Machine.execHsWindowWrite a levels v s
  | .pfw => Sys2Proof.Machine.execPfw s
  | .pfwEnd lowest => Sys2Proof.Machine.execPfwEnd lowest s
  | .railDip rail mv => Sys2Proof.Machine.execRailDip rail mv s
  | .railRecover rail => Sys2Proof.Machine.execRailRecover rail s
  | .fuseStart b => Sys2Proof.Machine.execFuseStart b s
  | .fusePowerGood b => Sys2Proof.Machine.execFusePowerGood b s
  | .fuseFault b cause => Sys2Proof.Machine.execFuseFault b cause s
  | .fuseCoolExpiry b => Sys2Proof.Machine.execFuseCoolExpiry b s
  | .fsupWindowChange met => Sys2Proof.Machine.execFsupWindowChange met s
  | .fuseFaultClear a b => Sys2Proof.Machine.execFuseFaultClear a b s
  | .meterAvgBlock => Sys2Proof.Machine.execMeterAvgBlock s
  | .energyClear a mask => Sys2Proof.Machine.execEnergyClear a mask s
  | .aonPowerOn dip pos norestore => Sys2Proof.Machine.execAonPowerOn dip pos norestore s
  | .nreset pos norestore => Sys2Proof.Machine.execNreset pos norestore s
  | .hubReset a v pos norestore => Sys2Proof.Machine.execHubReset a v pos norestore s
  | .pageRestore p => Sys2Proof.Machine.execPageRestore p s
  | .pageReady p missing => Sys2Proof.Machine.execPageReady p missing s
  | .adaptRecord p w v => Sys2Proof.Machine.execAdaptRecord p w v s
  | .commitTimer => Sys2Proof.Machine.execCommitTimer s
  | .commit a => Sys2Proof.Machine.execCommit a s
  | .journalCommitDone => Sys2Proof.Machine.execJournalCommitDone s
  | .compact a => Sys2Proof.Machine.execCompact a s
  | .compactDone => Sys2Proof.Machine.execCompactDone s
  | .adopt a => Sys2Proof.Machine.execAdopt a s
  | .faultBatch => Sys2Proof.Machine.execFaultBatch s
  | .persistWrite => Sys2Proof.Machine.execPersistWrite s
  | .hubFatalReset pos norestore => Sys2Proof.Machine.execHubFatalReset pos norestore s
  | .clrGo a n => Sys2Proof.Machine.execClrGo a n s
  | .clearDecided => Sys2Proof.Machine.execClearDecided s
  | .thrClearAll a => Sys2Proof.Machine.execThrClearAll a s
  | .ffClear a => Sys2Proof.Machine.execFfClear a s
  | .safeForce a on => Sys2Proof.Machine.execSafeForce a on s
  | .policyModeWrite a v => Sys2Proof.Machine.execPolicyModeWrite a v s
  | .halt a v => Sys2Proof.Machine.execHalt a v s
  | .watchdogMiss => Sys2Proof.Machine.execWatchdogMiss s
  | .raluskLoaded => Sys2Proof.Machine.execRaluskLoaded s
  | .eqPeriod l below here above => Sys2Proof.Machine.execEqPeriod l below here above s
  | .pathHoldExpiry ring x => Sys2Proof.Machine.execPathHoldExpiry ring x s
  | .cmPeriod => Sys2Proof.Machine.execCmPeriod s
  | .shedIdleExpiry d => Sys2Proof.Machine.execShedIdleExpiry d s
  | .lpIdleExpiry k => Sys2Proof.Machine.execLpIdleExpiry k s
  | .thermalRateDwell junction => Sys2Proof.Machine.execThermalRateDwell junction s
  | .thermalRestoreDwell junction => Sys2Proof.Machine.execThermalRestoreDwell junction s
  | .servoSummary => Sys2Proof.Machine.execServoSummary s
  | .canpairHoldExpiry k => Sys2Proof.Machine.execCanpairHoldExpiry k s
  | .epochRequest a => Sys2Proof.Machine.execEpochRequest a s
  | .epochCancel a => Sys2Proof.Machine.execEpochCancel a s
  | .discardStaged a => Sys2Proof.Machine.execDiscardStaged a s
  | .request src payload => Sys2Proof.Machine.execRequest src payload s
  | .prepare src payload => Sys2Proof.Machine.execPrepare src payload s
  | .vote src payload => Sys2Proof.Machine.execVote src payload s
  | .epochGuardExpiry => Sys2Proof.Machine.execEpochGuardExpiry s
  | .decisionResend => Sys2Proof.Machine.execDecisionResend s
  | .commitEpoch src payload => Sys2Proof.Machine.execCommitEpoch src payload s
  | .abortEpoch src payload => Sys2Proof.Machine.execAbortEpoch src payload s
  | .epochResult src payload => Sys2Proof.Machine.execEpochResult src payload s
  | .epochCancelReceived src payload => Sys2Proof.Machine.execEpochCancelReceived src payload s
  | .epochSwitch => Sys2Proof.Machine.execEpochSwitch s
  | .digestRecomputeDone => Sys2Proof.Machine.execDigestRecomputeDone s
  | .digestBeaconSend => Sys2Proof.Machine.execDigestBeaconSend s
  | .digestBeacon src payload => Sys2Proof.Machine.execDigestBeacon src payload s
  | .beaconMissingTimeout idx => Sys2Proof.Machine.execBeaconMissingTimeout idx s
  | .start a => Sys2Proof.Machine.execStart a s
  | .eraseDone => Sys2Proof.Machine.execEraseDone s
  | .updData a v => Sys2Proof.Machine.execUpdData a v s
  | .streamComplete readBack => Sys2Proof.Machine.execStreamComplete readBack s
  | .activate a => Sys2Proof.Machine.execActivate a s
  | .armUpdate a => Sys2Proof.Machine.execArmUpdate a s
  | .abort a => Sys2Proof.Machine.execAbort a s
  | .confirm a => Sys2Proof.Machine.execConfirm a s
  | .reject a => Sys2Proof.Machine.execReject a s
  | .updateStartReceived k payload => Sys2Proof.Machine.execUpdateStartReceived k payload s
  | .updateDataReceived k payload => Sys2Proof.Machine.execUpdateDataReceived k payload s
  | .updatePrepare k payload => Sys2Proof.Machine.execUpdatePrepare k payload s
  | .updateVote k payload => Sys2Proof.Machine.execUpdateVote k payload s
  | .updateVoteTimeout => Sys2Proof.Machine.execUpdateVoteTimeout s
  | .updateCommitReceived k payload => Sys2Proof.Machine.execUpdateCommitReceived k payload s
  | .updateAbortReceived k payload => Sys2Proof.Machine.execUpdateAbortReceived k payload s
  | .peerPreparedTimeout => Sys2Proof.Machine.execPeerPreparedTimeout s
  | .actDelayExpiry pos norestore => Sys2Proof.Machine.execActDelayExpiry pos norestore s
  | .trialReady k payload => Sys2Proof.Machine.execTrialReady k payload s
  | .updateConfirmReceived k payload => Sys2Proof.Machine.execUpdateConfirmReceived k payload s
  | .updateRejectReceived k payload => Sys2Proof.Machine.execUpdateRejectReceived k payload s
  | .autoConfirmExpiry => Sys2Proof.Machine.execAutoConfirmExpiry s
  | .confirmSExpiry => Sys2Proof.Machine.execConfirmSExpiry s
  | .program a sel => Sys2Proof.Machine.execProgram a sel s
  | .revoke a sel => Sys2Proof.Machine.execRevoke a sel s
  | .otpDone readBack => Sys2Proof.Machine.execOtpDone readBack s
  | .attestGo a => Sys2Proof.Machine.execAttestGo a s
  | .attestDone => Sys2Proof.Machine.execAttestDone s
  | .openNonceNew a => Sys2Proof.Machine.execOpenNonceNew a s
  | .goKey a => Sys2Proof.Machine.execGoKey a s
  | .goPass a => Sys2Proof.Machine.execGoPass a s
  | .close a => Sys2Proof.Machine.execClose a s
  | .openTimerExpiry => Sys2Proof.Machine.execOpenTimerExpiry s
  | .lock a => Sys2Proof.Machine.execLock a s
  | .unlock a => Sys2Proof.Machine.execUnlock a s
  | .trngFail failing => Sys2Proof.Machine.execTrngFail failing s
  | .run a v => Sys2Proof.Machine.execRun a v s
  | .stopAll a => Sys2Proof.Machine.execStopAll a s
  | .runSExpiry => Sys2Proof.Machine.execRunSExpiry s
  | .chStartReached => Sys2Proof.Machine.execChStartReached s
  | .fiGo a v => Sys2Proof.Machine.execFiGo a v s
  | .jtagInstruction code => Sys2Proof.Machine.execJtagInstruction code s
  | .clk80Lock b => Sys2Proof.Machine.execClk80Lock b s
  | .clockLost idx => Sys2Proof.Machine.execClockLost idx s
  | .aonParity p off => Sys2Proof.Machine.execAonParity p off s
  | .coreSliceFail slice => Sys2Proof.Machine.execCoreSliceFail slice s
  | .pdHot temp => Sys2Proof.Machine.execPdHot temp s
  | .thermalOver junction => Sys2Proof.Machine.execThermalOver junction s
  | .inletWindowMet => Sys2Proof.Machine.execInletWindowMet s
  | .currentLimitEntry which limited => Sys2Proof.Machine.execCurrentLimitEntry which limited s
  | .outputCurrentLimit o inLimit => Sys2Proof.Machine.execOutputCurrentLimit o inLimit s
  | .openLoadEnd o off => Sys2Proof.Machine.execOpenLoadEnd o off s
  | .canRxError e code dataPhase byEight => Sys2Proof.Machine.execCanRxError e code dataPhase byEight s
  | .uartCtsChange e active => Sys2Proof.Machine.execUartCtsChange e active s
  | .usbPortConnectChange p speed => Sys2Proof.Machine.execUsbPortConnectChange p speed s
  | .setConfiguration address on => Sys2Proof.Machine.execSetConfiguration address on s
  | .deviceRemoteWakeup on => Sys2Proof.Machine.execDeviceRemoteWakeup on s
  | .meterSample vin vout inlet fsup branch => Sys2Proof.Machine.execMeterSample vin vout inlet fsup branch s
  | .dataRingFailback => Sys2Proof.Machine.execDataRingFailback s

end Sys2Proof.Machine
end

