-- ==== Sys2Proof/Machine/Tick.lean ====
section
/-! DEFINITION. What one nanosecond does when no command waits (log entry 5): the clocks advance, and the hub goes on with
what it has begun. -/

namespace Sys2Proof.Machine

/-- The domain of the island of a local time unit (R366). -/
def unitDomain (u : Nat) : Nat :=
  if u < 8 then 11 + u else if u < 12 then u - 1 else if u = 12 then 6 else if u = 13 then 2 else 3

/-- How many ticks the island of a unit has in `n` ns: 500 MHz, 1,406.25 MHz, 1 GHz, 60 MHz (R366). DESIGN CHOICE,
log entry 5. -/
def unitTicksBy (u n : Nat) : Nat :=
  if u < 8 then n / 2 else if u < 13 then n * 45 / 32 else if u = 13 then n else n * 3 / 50

namespace State

/-- The clocks of the time island and the local time units advance by 1 ns (R362, R363, R366). DESIGN CHOICE, log
entry 5. -/
def clocksAdvance (s : State) : State :=
  if s.domainOn 1 then
    (List.range 15).foldl (fun t u =>
      t.when (t.domainOn (unitDomain u)) fun t => t.unitTicks u (unitTicksBy u (s.ns + 1) - unitTicksBy u s.ns))
      ((s.primeTick 0).primeTick 1)
  else s

/-- What the hub goes on with: requests to itself (R42), THERMAL's steps (R525), the update's stream and trial (R565, R568,
R575, R576). DESIGN CHOICE, log entry 5. -/
def goesOn (s : State) : State := ((s.flushWork.thermalGoesOn.updDrain 1).updWatch.trialReport).trialHalted

/-- One nanosecond passes. -/
def tick (s : State) : State :=
  let t := s.clocksAdvance.goesOn
  { t with ns := s.ns + 1 }

end State

/-- The block idles for one nanosecond. -/
def idle (s : State) : Host.Outcome State Fault Refusal := finishAll s.tick

end Sys2Proof.Machine
end

