-- ==== Sys2Proof/Safety.lean ====
section
/-! DEFINITION. What the statements say, in the model's own terms. -/

namespace Sys2Proof.Machine

/-- The words that settling a state may write: INT_STATUS and the pending bits of the vectors, and NINT_TS with its latched
high halves (R401, R405). -/
def settleKey (k : Nat) : Bool :=
  [regKey Pg.interrupts R.INT_STATUS.off, regKey Pg.interrupts 0xC00, regKey Pg.interrupts 0xC04, regKey Pg.intTime 0x040,
    regKey Pg.intTime 0x048, regKey (Pg.liveHigh Pg.intTime) 0x044, regKey (Pg.liveHigh Pg.intTime) 0x04C].contains k

namespace State

/-- Settled (R401, R405, R425): the nINT bits are the levels of the balls, a vector in PENDING has a live source, a
notification in PENDING has one too. -/
def Settled (s : State) : Prop :=
  (∀ b < 2, s.on Pg.interrupts ⟨R.INT_STATUS.off, b, 1⟩ = s.nintLow b) ∧
  (∀ v < 64, (s.vec v).st = 1 → 0 < s.liveCount v) ∧
  (s.usb.note.st = 1 → s.usbRouted = true)

/-- No sink waits for a value of the mirror, and no I²C target stretches the clock for an answer (R223, R296). -/
def Quiet (s : State) : Prop := s.sig.toSinks = [] ∧ ∀ x ∈ s.engs, x.2.stretch = none

end State

end Sys2Proof.Machine
end

