-- ==== Sys2Proof/Certificates/Slice0/Obligations.lean ====
section
/-! DEFINITION. The statements for the provers, family by family of the table of operations and events. A statement about
a command names the state that `exec` answers, written with the operations of `Machine/Ops.lean`; `settle` closes every
step, and `SettleFrame` says what it can change. -/

open Sys2Proof (Word Byte Agent Code AccessKind Instr LaneId LinkId EngineId BankId)
open Sys2Proof.Machine

/-- The queue: first in, first out (log entry 5). -/
def Obligations.StepRunsCommand : Prop :=
  (∀ (c : Instr) (s : State), step (s.withCommand c) = exec c s) ∧
  (∀ (c : Instr) (rest : List Instr) (s : State), s.pending = c :: rest → step s = exec c { s with pending := rest }) ∧
  (∀ s : State, s.pending = [] → step s = .next s.tick.flushSinks.settle)

/-- R401, R405, R425: the levels that follow from the sources, after every step. -/
def Obligations.StepSettles : Prop := ∀ s : State, ∃ t, step s = .next t ∧ t.Settled

/-- What `flushSinks` and `settle`, which close a command, leave alone: the frame of every statement below. -/
def Obligations.StepEndFrame : Prop :=
  ∀ t : State, t.Quiet →
    ∃ r v n, t.flushSinks.settle = { t with regs := r, pcie := { t.pcie with vecs := v }, usb := { t.usb with note := n } } ∧
      (∀ k, settleKey k = false → r.get factoryWord k = t.regs.get factoryWord k) ∧
      ( let u := t.flushSinks.settle
        (∀ i, 2 ≤ i → i < 32 → bitOf (u.rd Pg.interrupts R.INT_STATUS.off).toNat i =
          bitOf (t.rd Pg.interrupts R.INT_STATUS.off).toNat i) ∧
        (∀ j, (t.vec j).st ≠ 1 → u.vec j = t.vec j) ∧ (t.usb.note.st ≠ 1 → n = t.usb.note))

/-- R464 and the Factory values of the register tables. The empty Seed store and firmware slot 0 are the model's choice
(log entries 31 and 32); nothing here rests on them. -/
def Obligations.ResetState : Prop :=
  let s := State.reset
  (∀ p off, s.rd p off = factoryWord (regKey p off)) ∧ s.regs.wf factoryWord = true ∧
  (∀ l : LaneId, s.get (Pg.lane l) R.LANE_STATUS_STATE = 0) ∧ (∀ k : LinkId, s.linkSt k = 0) ∧ s.ringState = 0 ∧
  s.servo = 0 ∧ s.raluskState = 0 ∧ s.updState = 0 ∧ s.epochState = 0 ∧
  s.get Pg.update R.UPD_CFG_ACT_DELAY_MS = 10 ∧ s.get Pg.update R.UPD_CFG_CONFIRM_S = 600 ∧
  (∀ v : Fin 64, (s.rd Pg.coalTable (4 * v)).toNat % 2 ^ 16 = 0) ∧
  s.held = false ∧ (∀ a, s.isOwner a = false) ∧ (∀ a p, s.granted a p = false) ∧ s.uptime = 0 ∧ s.afl = [] ∧ s.pending = [] ∧
  (∀ e, e < 128 → s.engUp e = false) ∧ (∀ i, (s.mir i).got = false) ∧ s.Settled

/-- R399: SRC_PEND and SRC_MASK. -/
def Obligations.EventSources : Prop :=
  ∀ (s : State) (a : Agent) (n : Nat), n < 128 →
    bitOf (s.shown a Pg.events (R.SRC_PEND (n / 32)).off).toNat (n % 32) = s.sourcePending n ∧
    (s.sourcePending n = true ↔ ∃ p ∈ sourcePages n, s.pageOn p = true ∧
      ∃ i < 32, bitOf (s.rd p R.EVT_STATUS.off).toNat i = true ∧ bitOf (s.rd p R.EVT_ENABLE.off).toNat i = true) ∧
    (bitOf (s.rd Pg.events (R.SRC_MASK (n / 32)).off).toNat (n % 32) = true →
      (∀ b, s.sentTo b n = false) ∧ ∀ v, s.liveOn v n = false) ∧
    (∀ (w : Fin 4) (v : Word), (s.wr Pg.events (R.SRC_MASK w).off v).sourcePending n = s.sourcePending n) ∧
    ((∀ p ∈ sourcePages n, s.pageOn p = false) → s.sourcePending n = false)

/-- R27: the access codes of a register's bits under a write. -/
def Obligations.RegisterWriteBits : Prop :=
  ∀ (s : State) (p off : Nat) (v : Word) (d : RegDesc), p < 0x200 → off < 0x1000 →
    s.descOf p off = some d → s.locate p off = (p, off) → d.rwe = 0 →
    off ≠ 0x010 → off ≠ 0x014 →
    let t := s.storeWrite p off v
    (∀ i, i < 32 → bitOf (t.rd p off).toNat i =
      (if bitOf d.w1c i && bitOf v.toNat i then false
       else if bitOf d.w1s i && bitOf v.toNat i then true
       else if bitOf d.rw i || (bitOf d.rwk i && s.unlocked) then bitOf v.toNat i
       else bitOf (s.rd p off).toNat i)) ∧
    (State.keptKey (regKey p off) = false → t = s.wr p off (t.rd p off))

/-- R35: refused reads of read-sensitive registers. -/
def Obligations.SensitiveReads : Prop :=
  ∀ (s : State) (a : Agent) (p : BitVec 9) (w : BitVec 10) (d : RegDesc),
    let refused (p off : Nat) : Host.Outcome State Fault Refusal :=
      .next ((s.logAccess .sideEffectRefused .read a (s.ownAddr 0 (p * 0x1000 + off)) (some p)).reply a p off 0
        .sideEffectRefused).flushSinks.settle
    (s.held = false → s.isOwner a = false ∧ s.granted a p.toNat = false) ∧
    (s.isOwner a = false →
      (pageUsed p.toNat = true → s.descOf p.toNat (4 * w.toNat) = some d → d.rcl ≠ 0 ∨ d.rpop ≠ 0 →
        s.granted a p.toNat = false →
        exec (.readClear a p w) s = refused p.toNat (4 * w.toNat)) ∧
      (s.granted a Pg.afl = false → exec (.aflPop a) s = refused Pg.afl R.AFL_POP.off) ∧
      (s.granted a Pg.logs = false →
        exec (.felPop a) s = refused Pg.logs R.FEL_POP.off ∧ exec (.orlPop a) s = refused Pg.logs R.ORL_POP.off) ∧
      (s.granted a Pg.sigMirror = false → exec (.chgPop a) s = refused Pg.sigMirror R.CHG_POP.off))

/-- R52: the access fault log. -/
def Obligations.AccessFaultLog : Prop :=
  ∀ (s : State) (a : Agent) (c : Code) (kind : AccessKind) (addr : Nat) (page : Option Nat),
    let p := Pg.afl
    let num := match kind with | .read => 0 | .posted => 1 | .nonPosted => 2
    (s.afl.length < 64 → (s.logAccess c kind a addr page).afl =
      s.afl ++ [{ code := c.num, kind := num, agent := a.toNat, addr := addr % 2 ^ 48, time := s.uptime }]) ∧
    (64 ≤ s.afl.length → (s.logAccess c kind a addr page).afl = s.afl) ∧
    (s.readCode a p R.AFL_POP.off = .ok →
      (s.afl = [] → exec (.aflPop a) s = .next (s.reply a p R.AFL_POP.off 0 .ok).flushSinks.settle) ∧
      (∀ e l, s.afl = e :: l →
        exec (.aflPop a) s =
          .next (((({ s with afl := l }.wr p R.AFL_ADDR_LO.off (BitVec.ofNat 32 e.addr)).wr p R.AFL_ADDR_HI.off
            (BitVec.ofNat 32 (e.addr / 2 ^ 32 % 2 ^ 16))).wr p R.AFL_TIME.off (BitVec.ofNat 32 e.time)).reply a p
            R.AFL_POP.off (BitVec.ofNat 32 (2 ^ 31 + e.code % 16 * 2 ^ 24 + e.kind % 8 * 2 ^ 20 + e.agent % 2 ^ 16))
            .ok).flushSinks.settle))

/-- R24, R34: refused writes. -/
def Obligations.RefusedWrites : Prop :=
  ∀ (s : State) (a : Agent) (p : BitVec 9) (w : BitVec 10) (be : BitVec 4) (v : Word) (c : Code) (l : LaneId) (k : LinkId),
    let logged (p off : Nat) (c : Code) : State :=
      s.logAccess c .posted a (s.ownAddr 0 (p * 0x1000 + off)) (some p)
    (be ≠ 15 →
      exec (.registerWrite a false p w be v) s =
        .next (logged p.toNat (4 * w.toNat)
          (if pageUsed p.toNat then .unsupported else .absent)).flushWork.flushSinks.settle) ∧
    (c ≠ .ok → c ≠ .keyLocked → c ≠ .unsupported →
      (s.tokenRefused a p.toNat (4 * w.toNat) v = false → State.stagingBit p.toNat (4 * w.toNat) = none →
        s.writeCode a p.toNat (4 * w.toNat) = c →
        exec (.registerWrite a false p w 15 v) s = .next (logged p.toNat (4 * w.toNat) c).flushWork.flushSinks.settle) ∧
      (s.writeCode a (Pg.lane l) R.LANE_CMD.off = c →
        exec (.lockHere a l) s = .next (logged (Pg.lane l) R.LANE_CMD.off c).settle ∧
        exec (.bitSlip a l) s = .next (logged (Pg.lane l) R.LANE_CMD.off c).settle ∧
        exec (.retrain a l) s = .next (logged (Pg.lane l) R.LANE_CMD.off c).settle) ∧
      (s.writeCode a (Pg.link k) R.PAGE_CTRL.off = c →
        exec (.linkEnable a k) s = .next (logged (Pg.link k) R.PAGE_CTRL.off c).flushSinks.settle ∧
        exec (.linkDisable a k) s = .next (logged (Pg.link k) R.PAGE_CTRL.off c).flushSinks.settle) ∧
      (s.writeCode a Pg.mirror R.MIRROR_CMD_CAP_FLUSH.off = c →
        exec (.capFlush a) s = .next (logged Pg.mirror R.MIRROR_CMD_CAP_FLUSH.off c).settle) ∧
      (s.writeCode a Pg.latch R.LATCH_CMD.off = c →
        exec (.latchArm a) s = .next (logged Pg.latch R.LATCH_CMD.off c).flushSinks.settle))

/-- R622: the first cause decides. -/
def Obligations.CauseOrder : Prop :=
  ∀ (s : State) (a : Agent) (p off : Nat),
    let closed := s.stages p off && s.stagingClosed
    let sensitive := (s.descOf p off).any fun d => d.rcl != 0 || d.rpop != 0
    (s.writeCode a p off = .absent ↔ pageUsed p = false) ∧
    (s.writeCode a p off = .notOwner ↔ pageUsed p = true ∧ closed = false ∧ s.mayWrite a p off = false) ∧
    (s.writeCode a p off = .domainOff ↔ pageUsed p = true ∧ closed = false ∧ s.mayWrite a p off = true ∧
      s.pageShut p = true ∧ 0x00F < off) ∧
    (s.writeCode a p off = .islandRefused ↔ pageUsed p = true ∧ closed = false ∧ s.mayWrite a p off = true ∧
      s.pageShut p = false ∧ 0x040 ≤ off ∧ s.islandStopped p = true) ∧
    (s.writeCode a p off = .notReady ↔ pageUsed p = true ∧ closed = false ∧ s.mayWrite a p off = true ∧
      s.pageShut p = false ∧ 0x040 ≤ off ∧ s.islandStopped p = false ∧ s.ready p = false) ∧
    (s.writeCode a p off = .keyLocked → s.defined p off = true ∧ s.mayWrite a p off = true ∧ s.unlocked = false) ∧
    (s.readCode a p off = .absent ↔ pageUsed p = false) ∧
    (s.readCode a p off = .sideEffectRefused ↔ pageUsed p = true ∧ sensitive = true ∧ s.isOwner a = false ∧
      s.granted a p = false) ∧
    (s.readCode a p off = .ok → s.pageShut p = false ∨ off ≤ 0x00F)

/-- R24, R27, R28, R119, R202: register rows. -/
def Obligations.RegisterRows : Prop :=
  ∀ (s : State) (a : Agent) (p : BitVec 9) (w : BitVec 10) (v : Word),
    let n := p.toNat
    let off := 4 * w.toNat
    (s.tokenRefused a n off v = false → State.stagingBit n off = none → s.writeCode a n off = .ok →
      exec (.registerWrite a false p w 15 v) s =
        .next (State.pageWrite a n s off v).flushWork.flushSinks.settle ∧
      exec (.registerWrite a true p w 15 v) s =
        .next ((State.pageWrite a n s off v).emit
          (.readData a (s.ownAddr 0 (n * 0x1000 + off)) [] 0)).flushWork.flushSinks.settle) ∧
    (s.writeCode a n 0x018 = .ok → s.pageShut n = false →
      exec (.evtForce a p v) s =
        .next (s.wr n 0x010 (s.rd n 0x010 ||| (v &&& BitVec.ofNat 32 (s.eventMask n)))).flushSinks.settle) ∧
    (s.readCode a n off = .ok → s.popRead n off = none →
      exec (.readClear a p w) s =
        .next (((s.readClears n off).readLatches n off).reply a n off (s.shown a n off) .ok).flushSinks.settle ∧
      exec (.latchingLoRead a p w) s =
        .next (((s.readClears n off).readLatches n off).reply a n off (s.shown a n off) .ok).flushSinks.settle) ∧
    (∀ c, clearBit n = some c → s.tokenRefused a c.1 c.2.off (s.withField c.1 c.2 1) = false →
      State.stagingBit c.1 c.2.off = none → s.writeCode a c.1 c.2.off = .ok →
      exec (.counterClear a p) s =
        .next (State.pageWrite a c.1 s c.2.off (s.withField c.1 c.2 1)).flushSinks.settle) ∧
    (n = Pg.core → s.writeCode a Pg.core 0x044 = .ok → s.pageShut Pg.core = false →
      exec (.counterClear a p) s = .next (s.cntClear Pg.core).flushSinks.settle)

/-- R202: CNT_CLEAR. -/
def Obligations.CounterClearBits : Prop :=
  ∀ (s : State) (p : Nat) (d : RegDesc) (i : Nat), d ∈ blockRegs p → i < d.count →
    let off := d.off + d.stride * i
    let t := s.cntClear p
    (∀ b, bitOf d.cnt b = true → bitOf (t.rd p off).toNat b = false) ∧
    (∀ off' b, off' < 0x1000 →
      (∀ e ∈ blockRegs p, ∀ j, j < e.count → e.off + e.stride * j = off' → bitOf e.cnt b = false) →
      bitOf (t.rd p off').toNat b = bitOf (s.rd p off').toNat b) ∧
    (∀ k, k / 0x1000000 ≠ p → t.regs.get factoryWord k = s.regs.get factoryWord k) ∧
    t = { s with regs := t.regs }

/-- R67: the receiver state of a lane and the bits of LANE_STATUS that follow it. -/
def Obligations.LaneStateRegister : Prop :=
  ∀ (s : State) (l : LaneId) (st : Fin 9),
    let t := s.laneTo l st
    t.laneSt l = st ∧
    t.on (Pg.lane l) R.LANE_STATUS_CDR_LOCK = decide (3 ≤ st.val ∧ st.val ≤ 5) ∧
    t.on (Pg.lane l) R.LANE_STATUS_BLOCK_LOCK = decide (st.val = 4 ∨ st.val = 5) ∧
    t.on (Pg.lane l) R.LANE_STATUS_DESKEWED = decide (st.val = 5) ∧
    t.on (Pg.lane l) R.LANE_STATUS_RX_IDLE = decide (st.val = 6) ∧
    (∀ f : Fld, f.off = R.LANE_STATUS.off → f.lo + f.w ≤ 32 →
      (∀ g ∈ [R.LANE_STATUS_STATE, R.LANE_STATUS_CDR_LOCK, R.LANE_STATUS_BLOCK_LOCK, R.LANE_STATUS_DESKEWED,
        R.LANE_STATUS_RX_IDLE], f.lo + f.w ≤ g.lo ∨ g.lo + g.w ≤ f.lo) →
      t.get (Pg.lane l) f = s.get (Pg.lane l) f) ∧
    (∀ k, k ≠ regKey (Pg.lane l) R.LANE_STATUS.off → t.regs.get factoryWord k = s.regs.get factoryWord k) ∧
    (∀ m : LaneId, m ≠ l → t.lane m = s.lane m) ∧
    t = { s with regs := t.regs, lanes := t.lanes }

/-- R67: the transitions that a lane's own signals cause. -/
def Obligations.LaneReceiverTransitions : Prop :=
  ∀ (s : State) (l : LaneId) (good bad : BitVec 16),
    let p := Pg.lane l
    (s.laneSt l = 1 → exec (.signalDetect l) s = .next (s.laneTo l 2).settle) ∧
    (s.laneSt l = 2 → exec (.cdrLock l) s = .next (s.laneTo l 3).settle) ∧
    (s.laneSt l = 3 → s.on p R.LANE_CFG_AUTO_ALIGN = true → 64 ≤ good.toNat →
      exec (.blockLock l good bad) s = .next ((s.laneHeaders l good.toNat bad.toNat).laneTo l 4).settle) ∧
    (s.laneSt l = 5 →
      exec (.lockLost l good bad) s =
        .next ((((((s.laneHeaders l good.toNat bad.toNat).count p R.CNT_EVENTS_LOCK_LOSS).event p
          E.LANE_LOCK_LOST).raise p K.LOCK_LOST l).laneDown l).laneTo l 3).settle) ∧
    (s.laneSt l = 5 → (s.link (laneLink l)).idleExpected = true →
      exec (.squelchInUp l) s = .next ((s.laneTo l 6).laneRetain l true).settle) ∧
    (s.laneSt l = 5 → (s.link (laneLink l)).idleExpected = false →
      exec (.squelchInUp l) s = .next ((s.event p E.LANE_LANE_DOWN).laneTo l 1).settle) ∧
    (s.laneSt l = 2 ∨ s.laneSt l = 3 ∨ s.laneSt l = 4 →
      exec (.squelchInTraining l) s = .next ((s.laneRetain l false).laneTo l 1).settle ∧
      exec (.trainTimeout l) s =
        .next (((((s.count p R.CNT_TRAIN_TRAIN_FAIL).event p E.LANE_TRAIN_FAIL).raise p K.TRAIN_FAIL l).laneReloadEq
          l).laneTo l 1).settle) ∧
    (s.laneSt l = 6 →
      exec (.rxIdleSignalReturn l) s = .next (s.laneTo l 7).settle ∧
      exec (.fastExitLimitExpiry l) s = .next ((s.laneRetain l false).laneTo l 1).settle) ∧
    (s.laneSt l = 7 →
      exec (.fastExitFail l) s =
        .next (((((s.count p R.CNT_TRAIN_FAST_EXIT_FAIL).event p E.LANE_FAST_EXIT_FAIL).raise p K.FAST_EXIT_FAIL
          l).laneRetain l false).laneTo l 2).settle)

/-- R67, R70, R75, R77: LANE_CMD and the equaliser bounds. -/
def Obligations.LaneCommands : Prop :=
  ∀ (s : State) (a : Agent) (l : LaneId) (v : Word),
    let p := Pg.lane l
    (s.writeCode a p R.LANE_CMD.off = .ok →
      (s.laneSt l = 3 → s.on p R.LANE_CFG_AUTO_ALIGN = false →
        exec (.lockHere a l) s = .next (s.laneTo l 4).settle ∧
        exec (.bitSlip a l) s =
          .next ((s.put p R.LANE_STATUS_SLIP_POS ((s.get p R.LANE_STATUS_SLIP_POS + 1) % 66)).wr p R.ALIGN_STAT.off
            0).settle) ∧
      (s.laneSt l = 4 → exec (.retrain a l) s = .next ((s.laneRetain l false).laneTo l 2).settle) ∧
      (s.laneSt l = 5 →
        exec (.retrain a l) s = .next (((s.event p E.LANE_LANE_DOWN).laneRetain l false).laneTo l 2).settle) ∧
      (s.laneSt l = 0 → s.sideEnabled (laneLink l) = false → s.on p R.LANE_CMD_TEST_MODE = false →
        exec (.testModeSet a l) s = .next ((s.setF p R.LANE_CMD_TEST_MODE).laneTo l 8).settle) ∧
      (s.sideEnabled (laneLink l) = true → s.on p R.LANE_CMD_TEST_MODE = false →
        exec (.testModeSet a l) s = .next (s.event p E.LANE_TEST_REFUSED).settle) ∧
      (s.laneSt l = 8 → s.sideEnabled (laneLink l) = false → s.on p R.LANE_CMD_TEST_MODE = true →
        exec (.testModeClear a l) s = .next ((s.clrF p R.LANE_CMD_TEST_MODE).laneTo l 0).settle) ∧
      (s.on p R.LANE_CMD_IDLE_REQ = false →
        exec (.idleReqSet a l) s = .next ((s.setF p R.LANE_CMD_IDLE_REQ).laneTx l 0).settle) ∧
      (s.on p R.LANE_CMD_IDLE_REQ = true →
        exec (.idleReqClear a l) s = .next ((s.clrF p R.LANE_CMD_IDLE_REQ).laneTx l 2).settle)) ∧
    (s.writeCode a p R.EQ_BOUNDS.off = .ok →
      (bitsOf v.toNat 0 5 ≤ bitsOf v.toNat 8 5 → bitsOf v.toNat 16 4 ≤ bitsOf v.toNat 20 4 →
        s.on p R.LANE_CFG_EQ_ADAPT = false →
        exec (.eqBoundsWrite a l false v) s = .next (s.storeWrite p R.EQ_BOUNDS.off v).settle) ∧
      (bitsOf v.toNat 8 5 < bitsOf v.toNat 0 5 →
        exec (.eqBoundsWrite a l false v) s = .next (s.event p E.LANE_BOUNDS_REFUSED).settle))

/-- R65, R67, R78 to R83: what a lane finds in its blocks, its test pattern and its eye. -/
def Obligations.LaneFindings : Prop :=
  ∀ (s : State) (a : Agent) (l : LaneId) (block : BitVec 64) (bip : BitVec 8) (arrival good bad : BitVec 16)
    (bits : BitVec 48) (errs : BitVec 32) (count : BitVec 64),
    let p := Pg.lane l
    let b1 := bitsOf block.toNat 8 8
    let u := (s.laneHeaders l good.toNat bad.toNat).lanePolarity l block.toNat
    let wrong := ((List.range 8).filter fun i => bitOf (bitsOf block.toNat 16 8) i != bitOf bip.toNat i).length
    let w (f : Fld) := s.withField p f 1
    let n := s.prbsCount l bits.toNat errs.toNat
    (s.laneSt l = 4 → s.on p R.LANE_CFG_RX_POL_AUTO = false → s.on p R.LANE_CFG_RX_POL_INV = false →
      block.toNat % 256 = 0xA5 → bitsOf block.toNat 32 32 = notW 32 block.toNat → b1 / 32 ≠ expectedOrigin l →
      exec (.alignmentMarker l block bip arrival good bad) s =
        .next ((((((((u.put p R.PARTNER_BYTE b1).setF p R.PARTNER_VALID).setF p R.PARTNER_MISMATCH).put p
          R.LANE_STATUS_RX_LOGICAL b1).laneCountN l R.CNT_BIP_ERR wrong).event p E.LANE_CABLE_MISMATCH).raise p
          K.CABLE_MISMATCH (b1 / 32)).modLane l fun x => { x with missed := 0, mark := none }).settle) ∧
    (s.laneSt l = 7 →
      (∀ m ∈ linkLanes (laneLink l), m ≠ l.val → s.laneSt m = 5 ∧ (s.lane m).mark = none) →
      ∃ t, exec (.fastExitComplete l) s = .next t ∧ (∀ m ∈ linkLanes (laneLink l), t.laneSt m = 5) ∧
        t.on p R.LANE_STATUS_FAST_EXIT_ELIGIBLE = false ∧ bitOf (t.rd p 0x010).toNat E.LANE_LANE_UP = true ∧
        t.get p R.CNT_IDLE_EXIT = satAdd R.CNT_IDLE_EXIT.w (s.get p R.CNT_IDLE_EXIT) 1) ∧
    (s.laneSt l = 8 → s.on p R.PRBS_CTRL_CHK_EN = true →
      exec (.prbsCheckerLock l) s = .next (s.setF p R.PRBS_STAT_CHK_LOCKED).settle) ∧
    (s.laneSt l = 8 → s.on p R.PRBS_STAT_CHK_LOCKED = true →
      exec (.prbsLockLost l bits errs) s =
        .next (((n.clrF p R.PRBS_STAT_CHK_LOCKED).setF p R.PRBS_STAT_PRBS_LOCK_LOST).event p
          E.LANE_PRBS_LOCK_LOST).settle) ∧
    (s.laneSt l = 8 → s.on p R.PRBS_CTRL_GEN_EN = false → s.writeCode a p R.PRBS_CTRL.off = .ok →
      exec (.prbsSnap a l bits errs) s =
        .next ((((n.storeWrite p R.PRBS_CTRL.off (w R.PRBS_CTRL_SNAP)).wr p R.PRBS_BITS_LO.off
          (BitVec.ofNat 32 (n.lane l).prbsBits)).wr p R.PRBS_BITS_HI.off
          (BitVec.ofNat 32 ((n.lane l).prbsBits / 2 ^ 32))).wr p R.PRBS_ERR.off
          (BitVec.ofNat 32 (n.lane l).prbsErrs)).settle ∧
      exec (.prbsClear a l) s =
        .next (((s.storeWrite p R.PRBS_CTRL.off (w R.PRBS_CTRL_CLEAR)).modLane l fun x =>
          { x with prbsBits := 0, prbsErrs := 0 }).clrF p R.PRBS_STAT_PRBS_LOCK_LOST).settle) ∧
    (s.laneSt l = 8 → s.on p R.PRBS_CTRL_GEN_EN = true → s.writeCode a p R.PRBS_CTRL.off = .ok →
      exec (.injOne a l) s =
        .next ((s.storeWrite p R.PRBS_CTRL.off (w R.PRBS_CTRL_INJ_ONE)).laneTx l 3).settle) ∧
    (s.on p R.EYE_CTRL_HOLD = true → s.on p R.EYE_CTRL_BUSY = false → s.writeCode a p R.EYE_CTRL.off = .ok →
      exec (.eyeGo a l) s =
        .next ((((s.storeWrite p R.EYE_CTRL.off (s.withField p R.EYE_CTRL_GO 0)).setF p R.EYE_CTRL_GO).setF p
          R.EYE_CTRL_BUSY).clrF p R.EYE_CTRL_DONE).settle) ∧
    (s.laneSt l = 5 ∨ s.laneSt l = 8 → s.on p R.EYE_CTRL_BUSY = true → s.on p R.EYE_CTRL_RALUSK_ACTIVE = false →
      exec (.eyeDone l count) s =
        .next (((((s.clrF p R.EYE_CTRL_BUSY).clrF p R.EYE_CTRL_GO).setF p R.EYE_CTRL_DONE).wr p R.EYE_ERR.off
          (BitVec.ofNat 32 (Nat.min count.toNat 0xFFFFFFFF))).event p E.LANE_EYE_DONE).settle)

/-- R92 to R94: decode of encode of a frame header. -/
def Obligations.HeaderRoundTrip : Prop :=
  ∀ f : Frame, f.cls < 3 → f.prio < 8 → f.ring < 2 → f.ftype < 256 → f.dstNode < 256 → f.dstHub < 4 → f.srcNode < 256 →
    f.srcHub < 4 → f.hops < 1024 → f.seq < 65536 → f.tag < 65536 → f.ts < 2 ^ 32 → f.aux < 65536 → f.payload.length ≤ 256 →
    f.header.length = 24 ∧ checkHeader f.header = .good { f with payload := [] } f.plen

/-- R101: decode of encode of a signal bundle. -/
def Obligations.BundleRoundTrip : Prop :=
  ∀ (n : Nat) (rs : List SigRec), rs.length ≤ n →
    (∀ r ∈ rs, r.ident < 2 ^ 24 ∧ r.version < 2 ^ 32 ∧ r.ts < 2 ^ 64 ∧ 1 ≤ r.value.length ∧ r.value.length ≤ 32) →
    parseBundle n (rs.flatMap (·.bytes)) = some rs

/-- R90: the check of a control symbol. -/
def Obligations.SymbolCheck : Prop :=
  ∀ (kind fields crc : Nat), fields < 2 ^ 48 → crc < 256 →
    symbolCrc kind fields < 256 ∧
    (crc = symbolCrc kind fields → symbolFields kind (BitVec.ofNat 56 (fields + crc * 2 ^ 48)) = some fields) ∧
    (crc ≠ symbolCrc kind fields → symbolFields kind (BitVec.ofNat 56 (fields + crc * 2 ^ 48)) = none)

/-- R90, R105 to R118: control symbols. -/
def Obligations.LinkSymbols : Prop :=
  ∀ (s : State) (k : LinkId) (b : BitVec 56) (f : Nat) (rtt : BitVec 32),
    let p := Pg.link k
    let l := s.link k
    s.pageOn p = true →
    (2 ≤ s.linkSt k →
      (symbolFields 0x1E b = some f → exec (.idle k b) s = .next s.flushSinks.settle) ∧
      (symbolFields 0x1E b = none → exec (.idle k b) s = .next (s.count p R.CNT_CTL_ERR).flushSinks.settle) ∧
      (symbolFields 0x55 b = some f →
        exec (.status k b) s = .next (s.put p R.LINK_STATUS_PARTNER_RX_UP (f % 2)).flushSinks.settle) ∧
      (symbolFields 0x78 b = some f → exec (.ping k b) s = .next (s.sym k 0x7F (f % 65536)).flushSinks.settle) ∧
      (symbolFields 0xB4 b = some f →
        exec (.lpDeny k b) s =
          .next ((s.modLink k fun l => { l with lpAsked := false }).event p evLpRefused).flushSinks.settle) ∧
      (symbolFields 0x2D b = some f →
        let n := (f % 65536 + 65537 - l.base) % 65536
        1 ≤ n → n ≤ l.replay.length → s.retryOn k = true →
        exec (.ack k b) s =
          .next ((s.modLink k fun l => { l with base := (l.base + n) % 65536, replay := l.replay.drop n, tries := 0 }).clrF
            p R.LINK_STATUS_REPLAY_STALL).flushSinks.settle)) ∧
    (s.linkSt k = 3 → s.retryOn k = true →
      (symbolFields 0x33 b = some f →
        exec (.nak k b) s =
          .next ((s.count p R.CNT_NAK_RECEIVED).replayFrom k (f % 65536)).flushSinks.settle) ∧
      (∀ n, symbolFields 0x4B b = some f → l.nak = some n → n = f % 65536 →
        exec (.replay k b) s =
          .next (s.modLink k fun l => { l with nak := none, rxNum := f % 65536 }).flushSinks.settle)) ∧
    (s.linkSt k = 3 ∨ s.linkSt k = 4 → symbolFields 0xC3 b = some f →
      exec (.linkDown k (some b)) s = .next (s.linkDown k 3).flushSinks.settle) ∧
    (s.linkSt k = 3 → symbolFields 0x96 b = some f →
      (l.lpAsked = true → exec (.lpEnter k b) s = .next (s.enterLp k).flushSinks.settle) ∧
      (l.lpAsked = false → s.lpDenial k = 0 →
        exec (.lpEnter k b) s = .next ((s.sym k 0x96 0).enterLp k).flushSinks.settle) ∧
      (l.lpAsked = false → s.lpDenial k ≠ 0 →
        exec (.lpEnter k b) s = .next (s.sym k 0xB4 (s.lpDenial k)).flushSinks.settle)) ∧
    (s.linkSt k = 2 →
      (k.val < 4 → symbolFields 0x66 b = some f →
        exec (.init k b) s =
          .next (((s.modLink k fun l =>
            { l with initRun := if l.initLast = some (f % 2 ^ 40) then l.initRun + 1 else 1
                     initLast := some (f % 2 ^ 40) }).sym k 0x69 (State.ackPart (f % 2 ^ 40))).tryActive
              k).flushSinks.settle) ∧
      (symbolFields 0x69 b = some f → State.ackPart f = State.ackPart (s.initFields k) →
        exec (.initAck k b) s =
          .next ((s.modLink k fun l => { l with initAck := true }).tryActive k).flushSinks.settle) ∧
      (symbolFields 0x7F b = some f → l.rtts.length < 4 →
        exec (.pong k b rtt) s =
          .next ((s.modLink k fun l => { l with rtts := if l.rtts.length < 4 then l.rtts ++ [rtt.toNat] else
            l.rtts }).tryActive k).flushSinks.settle))

/-- R88, R94, R105 to R118: the life of a link. -/
def Obligations.LinkLife : Prop :=
  ∀ (s : State) (a : Agent) (k : LinkId) (bytes : List Byte) (since unsent : BitVec 4),
    let p := Pg.link k
    let l := s.link k
    (s.pageOn p = true →
      (s.linkSt k = 1 → s.lanesUp k = true → exec (.lanesUp k) s = .next (s.enterInit k).flushSinks.settle) ∧
      (s.linkSt k = 2 →
        exec (.controlFlitDeadline k) s = .next (s.sym k 0x66 (s.initFields k)).flushSinks.settle ∧
        (s.on p R.STITCH_STATUS_PEER_MISMATCH = false →
          exec (.initTimeout k) s = .next (s.linkDown k 5).flushSinks.settle)) ∧
      (s.linkSt k = 3 →
        exec (.controlFlitDeadline k) s = .next (s.sym k 0x1E 0).flushSinks.settle ∧
        exec (.silenceTimeout k) s = .next (s.linkDown k 2).flushSinks.settle ∧
        (s.lanesUp k = false → exec (.linkDown k none) s = .next (s.linkDown k 1).flushSinks.settle) ∧
        (s.retryOn k = true → l.replay ≠ [] →
          (Nat.max 1 (s.get p R.LINK_CFG_REPLAY_LIMIT) ≤ l.tries →
            exec (.replayTimeout k) s = .next (s.linkDown k 4).flushSinks.settle) ∧
          (l.tries < Nat.max 1 (s.get p R.LINK_CFG_REPLAY_LIMIT) →
            exec (.replayTimeout k) s = .next (s.replayFrom k l.base).flushSinks.settle)) ∧
        (l.nak = none →
          let num := (l.rxNum + since.toNat) % 65536
          let t := s.modLink k fun l =>
            { l with rxNum := (num + 1) % 65536, opened := l.opened.map fun o => { o with got := o.got + since.toNat } }
          (checkHeader bytes = .badCrc →
            exec (.frameHeader k bytes since unsent) s =
              .next ((t.count p R.CNT_HDR_ERR).rxFail k 1 num).flushSinks.settle) ∧
          (∀ f n, 4 ≤ k.val → checkHeader bytes = .good f n → l.opened = none → l.delivered.contains num = false →
            State.received l num = false → (t.passage k { f with payload := List.replicate n 0 }).expired = false →
            exec (.frameHeader k bytes since unsent) s =
              .next (t.modLink k fun l =>
                { l with suspended := l.opened
                         opened := some { frame := { f with payload := List.replicate n 0 }, num := num, cut := none
                                          skip := false } }).flushSinks.settle))) ∧
      (s.linkSt k = 4 → s.lanesUp k = true →
        exec (.lpIdleExit k) s =
          .next ((((s.setLinkSt k 3).event p evLpOut).modLink k fun l =>
            { l with idleExpected := false, lpAsked := false }).idleReq k false).flushSinks.settle) ∧
      (s.linkSt k = 4 →
        let t := s.idleReq k false
        exec (.lpStatusInterval k) s =
          .next (t.sym k 0x55 (b2n ((linkLanes k).all fun m => t.laneSt m == 5) + t.get p R.LINK_STATUS_RETRY_ACTIVE * 2
            + t.get p R.LINK_CTRL_LP_REQ * 4)).flushSinks.settle) ∧
      (s.linkSt k = 5 →
        (s.lanesUp k = true → exec (.holdoffExpiry k) s = .next (s.enterInit k).flushSinks.settle) ∧
        (s.lanesUp k = false → exec (.holdoffExpiry k) s = .next (s.setLinkSt k 1).flushSinks.settle))) ∧
    (s.writeCode a p R.LINK_CTRL.off = .ok →
      (s.linkSt k = 3 → s.on p R.LINK_CTRL_LP_REQ = false →
        exec (.lpReqWrite a k true) s =
          .next ((((s.touch (32 + k.val)).setF p R.LINK_CTRL_LP_REQ).sym k 0x96 0).modLink k fun l =>
            { l with lpAsked := true }).flushSinks.settle) ∧
      (s.linkSt k ≠ 0 →
        exec (.linkReset a k) s =
          .next (((s.touch (32 + k.val)).putB p R.LINK_CTRL_LP_REQ (s.on p R.LINK_CTRL_LP_REQ)).linkDown k
            6).flushSinks.settle)) ∧
    (s.writeCode a p R.PAGE_CTRL.off = .ok →
      (s.on p R.PAGE_CTRL_ENABLE = false → s.blockStopped p = false → s.ratesDiffer k = false → s.mapInvalid k = false →
        let t := (linkLanes k).foldl (fun t m => t.laneStart m)
          ((((s.enableCheck k).1.putKept p R.PAGE_CTRL_ENABLE 1).setLinkSt k 1).expectHub k)
        exec (.linkEnable a k) s =
          .next (t.storeWrite p R.PAGE_CTRL.off (BitVec.ofNat 32 (bitsPut (s.withField p R.PAGE_CTRL_ENABLE 1).toNat 0 1
            (t.get p R.PAGE_CTRL_ENABLE)))).flushSinks.settle) ∧
      (s.on p R.PAGE_CTRL_ENABLE = true → s.linkSt k = 1 →
        let t := (linkLanes k).foldl (fun t m => t.laneStop m) ((s.putKept p R.PAGE_CTRL_ENABLE 0).setLinkSt k 0)
        exec (.linkDisable a k) s =
          .next (t.storeWrite p R.PAGE_CTRL.off (BitVec.ofNat 32 (bitsPut (s.withField p R.PAGE_CTRL_ENABLE 0).toNat 0 1
            (t.get p R.PAGE_CTRL_ENABLE)))).flushSinks.settle))

/-- R180, R182, R188, R196, R200, R201: reserves, profiles, hold windows, capture and the Gleaner. -/
def Obligations.SwitchCoreCommands : Prop :=
  ∀ (s : State) (a : Agent) (v : Word) (p : Fin 16) (e : EngineId),
    let g := Pg.granary
    (s.writeCode a g R.RESERVE_URGENT.off = .ok →
      (v.toNat % 2 ^ 17 + s.get g R.RESERVE_COMPL ≤ 65536 →
        exec (.reserveWrite a false v) s = .next (s.storeWrite g R.RESERVE_URGENT.off v).settle) ∧
      (65536 < v.toNat % 2 ^ 17 + s.get g R.RESERVE_COMPL →
        exec (.reserveWrite a false v) s = .next (s.event g E.P06B_RESERVE_REFUSED).settle)) ∧
    (s.policyAct 2 = false → s.writeCode a Pg.qprof (R.CM_MIN p).off = .ok →
      (v.toNat % 2 ^ 17 ≤ s.get Pg.qprof (R.CM_MAX p) →
        (s.storeWrite Pg.qprof (R.CM_MIN p).off v).policyAct 2 = false →
        exec (.profileBoundsWrite a p false v) s = .next (s.storeWrite Pg.qprof (R.CM_MIN p).off v).settle) ∧
      (s.get Pg.qprof (R.CM_MAX p) < v.toNat % 2 ^ 17 →
        exec (.profileBoundsWrite a p false v) s = .next (s.event Pg.qprof E.P069_PROFILE_REFUSED).settle)) ∧
    (s.holding e = true →
      exec (.holdWindowExpiry e) s =
        .next ((((((s.countN Pg.hold R.CNT_HOLD_DISCARD (s.core.queued.filter (·.point == 10 + e.val)).length).modCore
          fun c => { c with queued := c.queued.filter (·.point != 10 + e.val)
                            holds := c.holds.filter (·.engine != e.val)
                            verify := c.verify + State.cellsOf [] (s.core.queued.filter (·.point == 10 + e.val)) }).putB
          Pg.hold ⟨0x040 + 4 * (e.val / 32), e.val % 32, 1⟩ false).putB
          Pg.hold ⟨0x050 + 4 * (e.val / 32), e.val % 32, 1⟩ true).setF Pg.gleaner R.GLEAN_STATUS_VERIFY_BUSY).event
          Pg.hold E.P06F_HOLD_EXPIRED).settle) ∧
    (s.readCode a Pg.mirror R.CAP_DATA.off = .ok →
      (s.capHead = none → exec (.capDataRead a) s = .next (s.reply a Pg.mirror R.CAP_DATA.off 0 .ok).settle) ∧
      (∀ q, s.capHead = some q → s.core.capRead + 1 < (q.frame.plen + 3) / 4 →
        exec (.capDataRead a) s =
          .next ((s.modCore fun c => { c with capRead := c.capRead + 1 }).reply a Pg.mirror R.CAP_DATA.off
            (BitVec.ofNat 32 (leNat (bytesAt q.frame.payload (4 * s.core.capRead) 4))) .ok).settle) ∧
      (∀ q, s.capHead = some q → (q.frame.plen + 3) / 4 = s.core.capRead + 1 →
        let t := (s.unqueue q).modCore fun c => { c with capRead := 0 }
        t.capHead = none →
        exec (.capDataRead a) s =
          .next (t.reply a Pg.mirror R.CAP_DATA.off
            (BitVec.ofNat 32 (leNat (bytesAt q.frame.payload (4 * s.core.capRead) 4))) .ok).settle)) ∧
    (s.writeCode a Pg.mirror R.MIRROR_CMD_CAP_FLUSH.off = .ok →
      exec (.capFlush a) s =
        .next (s.modCore fun c => { c with queued := c.queued.filter (·.point != 9), capRead := 0 }).settle) ∧
    (s.on Pg.gleaner R.GLEAN_STATUS_VERIFY_BUSY = true →
      let t := ((s.modCore fun c => { c with verify := 0 }).clrF Pg.gleaner R.GLEAN_STATUS_VERIFY_BUSY).event Pg.gleaner
        E.P06C_VERIFY_DONE
      exec (.gleanerVerify true) s = .next (t.count Pg.gleaner R.CNT_VERIFY_PASS).settle ∧
      exec (.gleanerVerify false) s =
        .next (((t.count Pg.gleaner R.CNT_VERIFY_FAIL).event Pg.gleaner E.P06C_FREE_LIST_ERR).raise Pg.gleaner
          K.FREE_LIST_ERR (t.get Pg.gleaner R.GLEAN_STATUS_CELL)).settle) ∧
    (s.policyAct 6 = false → s.writeCode a Pg.gleaner R.GLEAN_BOUNDS.off = .ok →
      (bitsOf v.toNat 0 10 ≤ bitsOf v.toNat 16 10 →
        exec (.gleanBoundsWrite a v) s = .next (s.storeWrite Pg.gleaner R.GLEAN_BOUNDS.off v).settle) ∧
      (bitsOf v.toNat 16 10 < bitsOf v.toNat 0 10 →
        exec (.gleanBoundsWrite a v) s = .next (s.event Pg.gleaner E.P06C_BOUNDS_REFUSED).settle))

/-- R132: the election has one winner among candidates. -/
def Obligations.CredentialOrder : Prop :=
  ∀ a b c : Cred,
    Cred.better a a = false ∧
    (Cred.better a b = true → Cred.better b c = true → Cred.better a c = true) ∧
    (a.cand = true → b.cand = true → a.uid ≠ b.uid → Cred.better a b = !(Cred.better b a)) ∧
    (a.cand = false → Cred.better a b = false)

/-- R129: decode of encode of a CLAIM. -/
def Obligations.ClaimRoundTrip : Prop :=
  ∀ (c : Cred) (term : Nat), c.prio < 16 → c.node < 256 → c.hub < 4 → c.uid < 2 ^ 64 → term < 2 ^ 32 →
    credOf (c.bytes term) = c ∧ leNat (bytesAt (c.bytes term) 12 4) = term ∧ State.mgmtLen 0x01 = some (c.bytes term).length

/-- R131 to R137: the commands of discovery. -/
def Obligations.RingDiscovery : Prop :=
  ∀ (s : State) (a : Agent) (k : Fin 4) (b : List Byte),
    let m := Pg.master
    let h (i n : Nat) : Nat := leNat (bytesAt b i n)
    s.domainOn 4 = true →
    (∀ best, b.length = 16 → s.ringState = 1 → s.ring.best = some best →
      let t := (s.seeTerm (h 12 4)).modRing fun r =>
        { r with claims := r.claims.filter (·.uid != (credOf b).uid) ++ [credOf b] }
      exec (.claim k b) s =
        .next (if (credOf b).better best then t.modRing fun r => { r with best := some (credOf b) } else
          t).flushSinks.settle) ∧
    (s.ringState = 1 → exec .claimResend s = .next (s.flood 0x01 (s.ownCred.bytes s.ring.term)).flushSinks.settle) ∧
    (∀ best, s.ringState = 1 → s.ring.best = some best → best.uid ≠ s.uid → s.ring.early = none →
      exec .settleTimerExpiry s =
        .next ((((s.count m R.CNT_DISC_ELECTIONS).put m R.CLAIMANTS s.ring.claims.length).put m
          R.RING_STATUS_STATE 2)).flushSinks.settle) ∧
    (b.length = 16 → h 8 8 ≠ s.uid → bitOf (b.getD 2 0).toNat 2 = false →
      let dir := (b.getD 2 0).toNat % 2
      let ring := bitsOf (b.getD 2 0).toNat 1 1
      let t := (s.seeTerm (h 4 4)).modRing fun r =>
        { r with counts := r.counts.filter (fun c => !(c.1 == ring && c.2.1 == dir)) ++ [(ring, dir, h 0 2)] }
      t.linkActive (sideOf ring dir) = true →
      exec (.position k b) s =
        .next (t.mgmtOut (sideOf ring dir) 0x02 (State.tokenBytes (h 0 2 + 1) dir ring 0 (h 4 4)
          (h 8 8))).flushSinks.settle) ∧
    (s.ringState = 2 →
      exec .tokenTimerExpiry s =
        .next ((s.event m E.P060_DISCOVERY_RESTART).discover s.ring.keepPos).flushSinks.settle) ∧
    (s.ringState = 3 → exec .tokenTimerExpiry s = .next s.enterRun.flushSinks.settle) ∧
    (b.length = 20 → s.ringState = 1 →
      exec (.ringInfo k b) s =
        .next ((s.seeTerm (h 4 4)).modRing fun r => { r with early := some b }).flushSinks.settle) ∧
    (b.length = 16 → s.ringState < 3 → bitOf (b.getD 3 0).toNat 2 = false →
      exec (.announce k b) s =
        .next ((s.modRing fun r =>
          { r with anns := r.anns.filter (·.uid != h 4 8) ++
              [{ uid := h 4 8, pos := h 0 2 % 1024, node := (b.getD 2 0).toNat, hub := (b.getD 3 0).toNat % 4,
                 valid := false }] }).seeTerm (h 12 4)).flushSinks.settle) ∧
    (b.length = 12 → h 4 8 = s.uid → s.hubPos = 0 → s.nodeValid = false → (b.getD 2 0).toNat ≠ 255 →
      exec (.assignNode k b) s = .next (s.takeNode (b.getD 2 0).toNat).flushSinks.settle) ∧
    (4 ≤ s.ringState → s.isMaster = false →
      exec .beaconLost s =
        .next ((((s.count m R.CNT_MGMT_BEACON).event m E.P060_BEACON_LOST).raise m K.BEACON_LOST 0).discover
          true).flushSinks.settle) ∧
    (4 ≤ s.ringState → s.writeCode a m R.RING_CMD.off = .ok →
      exec (.rediscover a) s = .next (s.discover false).flushSinks.settle)

/-- R137, R155 to R159, R165: the commands of a running ring. -/
def Obligations.RingRunning : Prop :=
  ∀ (s : State) (a : Agent) (k : Fin 4) (b : List Byte) (v : Word) (key : Fin 1028),
    let m := Pg.master
    let d := Pg.redun
    let h (i n : Nat) : Nat := leNat (bytesAt b i n)
    let ring := (b.getD 0 0).toNat % 2
    s.domainOn 4 = true →
    (s.isMaster = true → 4 ≤ s.ringState →
      let p := s.infoBytes s.ringSize (s.get m R.RING_STATUS_DISC_RING) (s.get m R.RING_STATUS_OPEN)
        (s.get m R.RING_STATUS_SEGMENTED) (s.rd m R.MASTER_TERM.off).toNat (s.rd m R.LOOP_NS.off).toNat s.uid ++
        [BitVec.ofNat 8 (s.get d R.REDUN_STATUS_BREAKS_A), BitVec.ofNat 8 (s.get d R.REDUN_STATUS_BREAKS_B),
         BitVec.ofNat 8 s.dataRing, 0] ++ leBytes 2 (s.get Pg.sched R.SCHED_CFG_BASE_CYCLE_US) ++ [0, 0] ++
        leBytes 8 s.cycleOrigin
      p.length = 36 ∧ exec .masterBeaconSend s = .next (s.flood 0x05 p).flushSinks.settle) ∧
    (b.length = 36 → h 12 8 = s.masterUid → h 24 2 = s.get Pg.sched R.SCHED_CFG_BASE_CYCLE_US → h 28 8 = s.cycleOrigin →
      exec (.masterBeacon k b) s =
        .next ((s.seeTerm (h 4 4)).modRing fun r => { r with mismatch := false }).flushSinks.settle) ∧
    (b.length = 7 → (s.ring.breaks.any fun x => x.ring == ring && x.x == h 2 2 % 1024) = false →
      exec (.wrapNotice k b) s =
        .next (s.modRing fun r =>
          { r with breaks := r.breaks ++ [{ ring := ring, x := h 2 2 % 1024, y := h 4 2 % 1024, xDown := true
                                            yDown := true }] }).refreshRoutes.failover.flushSinks.settle) ∧
    (b.length = 6 → (s.ring.breaks.any fun x => x.ring == ring && x.x == h 2 2 % 1024 && x.steered) = false →
      s.ringPos ≠ s.downstream ring (h 2 2 % 1024) →
      exec (.unwrapNotice k b) s =
        .next (s.modRing fun r =>
          { r with breaks := r.breaks.filter fun x => !(x.ring == ring && x.x == h 2 2 % 1024)
            }).refreshRoutes.flushSinks.settle) ∧
    (b.length = 8 →
      exec (.routeUpdate k b) s =
        .next ((s.seeTerm (h 4 4)).routeUpdate ring (h 2 2 % 1024) (bitOf (b.getD 1 0).toNat 0)).flushSinks.settle) ∧
    (b.length = 8 → ring = s.dataRing →
      exec (.dataRingSwitch k b) s = .next (s.seeTerm (h 4 4)).flushSinks.settle) ∧
    (b.length = 8 → ring ≠ s.dataRing → s.ringDests = [] →
      let t := (s.seeTerm (h 4 4)).modRing fun r =>
        { r with failedOver := ring != s.get d R.REDUN_CFG_DATA_RING
                 breaks := r.breaks.map fun x => { x with steered := false } }
      exec (.dataRingSwitch k b) s =
        .next ((t.put d R.REDUN_STATUS_DATA_RING_ACTIVE ring).event d
          E.P062_FAILOVER).refreshRoutes.flushSinks.settle) ∧
    (∀ x, key.val < 1024 → s.ring.fences.find? (·.key == key.val) = some x →
      let t := x.frames.foldl (fun t q => (t.unicastOut q.frame).1)
        (s.modRing fun r => { r with fences := r.fences.filter (·.key != key.val) })
      exec (.fenceRelease key) s =
        .next (t.putB d R.REDUN_STATUS_FENCE_ACTIVE (!t.ring.fences.isEmpty)).flushSinks.settle) ∧
    (s.ring.wrapping.contains k.val = true → s.linkActive k = true → s.ring.unwrapping.contains k.val = false →
      exec (.unwrapHoldExpiry (some k)) s =
        .next (((s.flood 0x07 ([BitVec.ofNat 8 (k.val / 2), 0] ++ leBytes 2 s.ringPos ++ leBytes 2
          (s.downstream (k.val / 2) s.ringPos))).modRing fun r => { r with unwrapping := k.val :: r.unwrapping }).healIn
          (k.val / 2) s.ringPos).flushSinks.settle) ∧
    (s.ring.unwrapping.contains k.val = true →
      let t := s.modRing fun r =>
        { r with wrapping := r.wrapping.filter (· != k.val), unwrapping := r.unwrapping.filter (· != k.val)
                 fences := if r.fences.any (·.key == 1024 + k.val) then r.fences else
                   r.fences ++ [{ key := 1024 + k.val }] }
      let u := (((t.clrF d (State.wrapBit (k.val / 2) true)).setF d R.REDUN_STATUS_FENCE_ACTIVE).count d
        R.CNT_WRAP_UNWRAPS).event d E.P062_UNWRAP
      exec (.unwrapStop k) s =
        .next (u.putB d R.REDUN_STATUS_UNWRAP_PENDING (!u.ring.wrapping.isEmpty)).flushSinks.settle) ∧
    (s.writeCode a Pg.routes R.ROUTE_STEER.off = .ok → bitOf v.toNat 31 = true →
      (s.policyAct 1 = false →
        exec (.routeSteer a v) s =
          .next (s.steer (v.toNat % 1024) (bitsOf v.toNat 12 1) true).refreshRoutes.flushSinks.settle) ∧
      (s.policyAct 1 = true →
        exec (.routeSteer a v) s = .next (s.event Pg.routes E.P063_STEER_REFUSED).flushSinks.settle))

/-- R143 to R149, R154, R624: the tables of the ring. -/
def Obligations.RingTables : Prop :=
  ∀ (s : State) (a : Agent) (node : BitVec 8) (hub : BitVec 2) (cls : Fin 3) (seq : BitVec 16) (i : Fin 4096)
    (cycle : BitVec 64) (late : BitVec 32),
    let p := Pg.sched
    let key (e : Nat × Nat × Nat × Nat) : Bool := e.1 == node.toNat && e.2.1 == hub.toNat && e.2.2.1 == seq.toNat
    let w (n : Nat) : Nat := s.get p (R.SCHED_W n)
    let j := s.get p R.SCHED_IDX % 4096
    (s.ring.dup.any key = true →
      exec (.dupAgeExpiry node hub seq) s =
        .next ((s.modRing fun r => { r with dup := r.dup.filter fun e => !key e }).count Pg.redun
          R.CNT_DUP_EXPIRED).flushSinks.settle) ∧
    exec (.e2eEntryExpiry node hub cls) s =
      .next (s.modRing fun r => { r with e2e := r.e2e.filter fun e =>
        !(e.1 == node.toNat && e.2.1 == hub.toNat && e.2.2.1 == cls.val) }).flushSinks.settle ∧
    (s.writeCode a p R.SCHED_CMD.off = .ok → s.stagingClosed = false →
      (State.schedBad (w 0) (w 1) (w 2) s.stagedCycle = false →
        exec (.schedStore a) s =
          .next ((((s.stage Pg.schedTable (16 * j) (BitVec.ofNat 32 (w 0))).stage Pg.schedTable (16 * j + 4)
            (BitVec.ofNat 32 (w 1))).stage Pg.schedTable (16 * j + 8) (BitVec.ofNat 32 (w 2))).stage Pg.schedTable
            (16 * j + 12) (BitVec.ofNat 32 (w 3))).flushSinks.settle) ∧
      (State.schedBad (w 0) (w 1) (w 2) s.stagedCycle = true →
        exec (.schedStore a) s = .next (s.event p E.P061_SCHED_INVALID).flushSinks.settle) ∧
      (s.on p R.PAGE_CTRL_VIEW_STAGED = false →
        exec (.schedLoad a) s =
          .next ((((s.wr p (R.SCHED_W 0).off (BitVec.ofNat 32 (s.schedW j 0))).wr p (R.SCHED_W 1).off
            (BitVec.ofNat 32 (s.schedW j 1))).wr p (R.SCHED_W 2).off (BitVec.ofNat 32 (s.schedW j 2))).wr p
            (R.SCHED_W 3).off (BitVec.ofNat 32 (s.schedW j 3))).flushSinks.settle)) ∧
    (s.domainOn 4 = true → s.on p R.SCHED_CFG_SCHED_EN = true → bitOf (s.schedW i 0) 31 = true →
      State.schedBad (s.schedW i 0) (s.schedW i 1) (s.schedW i 2) s.baseCycle = false →
      cycle.toNat % 2 ^ bitsOf (s.schedW i 0) 24 4 = s.schedW i 1 % 1024 →
      (s.ring.fired.any fun e => e.1 == i.val && decide (cycle.toNat ≤ e.2)) = false →
      (s.timeValid = false →
        exec (.schedFire i cycle false late) s =
          .next ((s.count p R.CNT_SCHED_SKIP_TIME_INVALID).event p E.P061_SCHED_SKIP).flushSinks.settle) ∧
      (s.timeValid = true → bitsOf (s.schedW i 1) 10 2 = 1 →
        exec (.schedFire i cycle false late) s =
          .next ((s.modRing fun r =>
            { r with fired := r.fired.filter (·.1 != i.val) ++ [(i.val, cycle.toNat)] }).schedBundle i
              late.toNat).flushSinks.settle))

/-- R209, R217: directory words and host publishing. -/
def Obligations.DirectoryAndHostPublish : Prop :=
  ∀ (s : State) (a : Agent) (i : Fin 16384) (w : Fin 3) (v : Word) (off : BitVec 20) (data : List Byte),
    let p := Pg.directory
    let refused (r : Nat) : State :=
      (s.wr p R.DIR_STATUS.off (BitVec.ofNat 32 (2 ^ 31 + i.val * 16 + r))).event p E.P074_DIR_REFUSED
    (s.writeCode a p 0x800 = .ok →
      (s.dirReason i v.toNat = 0 →
        exec (.dirWriteW0 a i v) s =
          .next ((s.stage Pg.dirTable (16 * i.val) v).wr p R.DIR_STATUS.off 0).flushSinks.settle) ∧
      (s.dirReason i v.toNat ≠ 0 →
        exec (.dirWriteW0 a i v) s = .next (refused (s.dirReason i v.toNat)).flushSinks.settle) ∧
      (dRole (s.dirS i 0) ≠ 0 →
        exec (.dirWriteW123 a i w v) s = .next (refused 7).flushSinks.settle) ∧
      (dRole (s.dirS i 0) = 0 →
        exec (.dirWriteW123 a i w v) s =
          .next ((s.stage Pg.dirTable (16 * i.val + 4 * (w.val + 1))
            (v &&& (if w = 0 then 0x7FFFF7FF else if w = 1 then 0xFFFFFFFF else 0x7))).wr p R.DIR_STATUS.off
              0).flushSinks.settle)) ∧
    (∀ j, s.domainOn 4 = true → s.isOwner a = true → s.hostEntry off.toNat data.length = some j → s.mirrorCode = .ok →
      exec (.hostPublishWrite a off data) s =
        .next ((s.count Pg.publish R.CNT_HOST_WRITES).sourceUpdate j data true s.stamp).flushSinks.settle) ∧
    (s.domainOn 4 = true → s.hostEntry off.toNat data.length = none →
      exec (.hostPublishWrite a off data) s =
        .next (((s.count Pg.publish R.CNT_HOST_REFUSED).event Pg.publish E.P071_HOST_WRITE_REFUSED).logAccess
          .unsupported .posted a (s.ownAddr 1 off.toNat) (some Pg.sigMirror)).flushSinks.settle)

/-- R212 to R214: publishing by events. -/
def Obligations.EventPublishing : Prop :=
  ∀ (s : State) (i : Fin 16384) (value : List Byte) (valid : Bool) (ts : BitVec 64) (prio : Fin 8),
    (s.publishes i = true → s.domainOn 4 = true → s.isPending i = false →
      let m := s.mir i
      let t := s.mirChange i true fun x =>
        { x with value := bytesAt value 0 (s.lenOf i), version := State.nextVersion m.version, ts := ts.toNat
                 srcValid := valid, got := true, resync := false }
      (s.eventClass i = 1 →
        exec (.sourceUpdate i value valid ts) s =
          .next (t.modSig fun g => { g with pendX := if g.pendX.contains i.val then g.pendX else
            g.pendX ++ [i.val] }).flushSinks.settle) ∧
      (s.eventClass i = 2 →
        exec (.sourceUpdate i value valid ts) s =
          .next (t.modSig fun g => { g with pendB := if g.pendB.contains i.val then g.pendB else
            g.pendB ++ [i.val] }).flushSinks.settle) ∧
      (s.eventClass i = 0 → exec (.sourceUpdate i value valid ts) s = .next t.flushSinks.settle)) ∧
    exec (.minGapExpiry i) s =
      .next (s.modSig fun g => { g with gap := g.gap.filter (· != i.val) }).flushSinks.settle ∧
    ( let l := s.fitting 256 (s.sig.pendX.filter fun j =>
        !s.sig.gap.contains j && s.eventClass j == 1 && s.dirW j 3 % 8 == prio.val)
      s.nodeValid = true → s.domainOn 4 = true → 2 ≤ s.ringSize → l ≠ [] →
      s.sig.waiting.contains (1, prio.val) = false →
      let t := ((s.modSig fun g =>
          { g with pendX := g.pendX.filter (fun j => !l.contains j)
                   gap := g.gap ++ l.filter fun j => bitsOf (s.dirW j 2) 16 16 != 0 }).countN
        Pg.publish R.CNT_EVENT_RECORDS l.length).count Pg.publish R.CNT_EVENT_FRAMES_EXPRESS
      let r := t.sendOwn
        { cls := 1, prio := prio.val, ftype := 0x01, mcast := true, aux := l.length
          payload := l.flatMap fun j => (s.recordOf j).bytes }
      exec (.eventBundleAssembly false prio) s =
        .next (r.1.when r.2 fun u => u.modSig fun g => { g with waiting := g.waiting ++ [(1, prio.val)] }).flushSinks.settle)

/-- R230: GEN of a mirror entry. -/
def Obligations.MirrorGeneration : Prop :=
  ∀ (s : State) (i : Nat) (update : Bool) (f : Mir → Mir),
    let t := s.mirChange i update f
    (update = true ∨ s.validityOf i (s.mir i) ≠ s.validityOf i (f (s.mir i)) →
      t.mir i = { f (s.mir i) with gen := ((s.mir i).gen + 2) % 65536 }) ∧
    (update = false → s.validityOf i (s.mir i) = s.validityOf i (f (s.mir i)) →
      t.mir i = f (s.mir i) ∧ t.regs = s.regs ∧ t.sig.chg = s.sig.chg) ∧
    (∀ j, j ≠ i → t.mir j = s.mir j) ∧
    t = { s with regs := t.regs, sig := t.sig, thr := t.thr }

/-- R222, R224, R228, R238: reading the mirror. -/
def Obligations.MirrorAccess : Prop :=
  ∀ (s : State) (a : Agent) (off : BitVec 20) (len : BitVec 10),
    let p := Pg.sigMirror
    (s.readCode a p R.CHG_POP.off = .ok →
      (s.sig.chg = [] → exec (.chgPop a) s = .next (s.reply a p R.CHG_POP.off 0 .ok).flushSinks.settle) ∧
      (∀ i l, s.sig.chg = i :: l →
        exec (.chgPop a) s =
          .next ((s.modSig fun g => { g with chg := l }).reply a p R.CHG_POP.off (BitVec.ofNat 32 (2 ^ 31 + i))
            .ok).flushSinks.settle)) ∧
    (s.writeCode a p R.SIGMIR_CMD.off = .ok →
      exec (.supersededClear a) s =
        .next ((s.sig.mir.map (·.1)).foldl (fun t i => t.setMir i { t.mir i with superseded := 0 }) s).flushSinks.settle ∧
      exec (.resyncAll a) s =
        .next (s.dirUsed.foldl (fun t i => t.mirChange i false fun m => { m with resync := true }) s).flushSinks.settle) ∧
    (s.mirrorCode = .ok →
      exec (.mirrorRead a off len) s =
        .next (s.emit (.readData a (s.ownAddr 1 off.toNat)
          (State.wordsOf len.toNat ((List.range len.toNat).map fun n => s.mirrorByte (off.toNat + n))) 0)).flushSinks.settle)

/-- R226, R227, R232 to R237: latches and notices. -/
def Obligations.LatchAndNotices : Prop :=
  ∀ (s : State) (a : Agent) (src dst : Fin 1024) (b : List Byte) (key : BitVec 18),
    let p := Pg.latch
    let own := s.latchKey (s.get p R.LATCH_ID)
    let time := (s.rd p R.LATCH_TIME_LO.off).toNat + 2 ^ 32 * (s.rd p R.LATCH_TIME_HI.off).toNat
    let lead := 1000 * Nat.max 10 (s.get p R.LATCH_LEAD_US % 65536)
    (s.writeCode a p R.LATCH_CMD.off = .ok →
      (s.timeValid = true → s.now + lead ≤ time → s.sig.armed.length < 4 →
        exec (.latchArm a) s =
          .next ((s.armKey own time).sendOwn (State.latchFrame own ([0x01] ++ State.keyBytes own 0 ++
            leBytes 8 time))).1.flushSinks.settle) ∧
      (s.timeValid = false ∨ time < s.now + lead →
        exec (.latchArm a) s = .next (s.event p E.P073_ARM_REFUSED).flushSinks.settle) ∧
      exec (.latchCancel a) s =
        .next ((s.disarm own).sendOwn (State.latchFrame own ([0x02] ++ State.keyBytes own 0))).1.flushSinks.settle) ∧
    (s.domainOn 4 = true →
      (b.length = 12 → b.getD 0 0 = 0x01 → s.sig.armed.length < 4 → (s.timeValid = true → s.now < leNat (bytesAt b 4 8)) →
        exec (.arm src b) s = .next (s.armKey (State.keyOf b) (leNat (bytesAt b 4 8))).flushSinks.settle) ∧
      (b.length = 12 → b.getD 0 0 = 0x01 → s.timeValid = true → leNat (bytesAt b 4 8) ≤ s.now →
        exec (.arm src b) s = .next (s.latchMissed (State.keyOf b) (leNat (bytesAt b 4 8)) 2).flushSinks.settle) ∧
      (b.length = 4 → b.getD 0 0 = 0x02 →
        exec (.cancel src b) s = .next (s.disarm (State.keyOf b)).flushSinks.settle) ∧
      (∀ rs, 16 ≤ b.length → b.getD 0 0 = 0x03 → parseBundle 20 (b.drop 16) = some rs →
        rs.length = (b.getD 12 0).toNat → bitOf (b.getD 3 0).toNat 4 = true →
        exec (.result src b) s =
          .next (rs.foldl (fun t r => t.recordIn src.val (some (State.keyOf b)) r)
            (s.event p E.P073_RESULT_LAST)).flushSinks.settle) ∧
      (b.length = 12 → b.getD 0 0 = 0x10 → s.findIdent (leNat (bytesAt b 4 3)) = none → s.isMaster = false →
        exec (.conflictNotice src b) s =
          .next ((s.count Pg.signal R.CNT_NOTICE_RECEIVED).conflictSeen (leNat (bytesAt b 4 3))
            ((b.getD 1 0).toNat * 4 + (b.getD 2 0).toNat % 4) true).flushSinks.settle)) ∧
    (∀ x, s.sig.fired.find? (·.key == key.toNat) = some x → x.samples = [] →
      exec (.resultSend key) s =
        .next ((s.modSig fun g => { g with fired := g.fired.filter (·.key != key.toNat) }).sendOwn
          (State.resultFrame key.toNat x.time 4 [])).1.flushSinks.settle) ∧
    (∀ n, s.sig.notices.find? (·.dst == dst.val) = some n → n.count ≠ 0 → n.last = none →
      exec (.conflictNoticeSend dst) s =
        .next ((((s.modSig fun g => { g with notices := g.notices.map fun m =>
          if m.dst = dst.val then { dst := dst.val, last := some s.ns } else m }).count Pg.signal
            R.CNT_NOTICE_SENT).sendOwn
          { cls := 1, prio := 7, ftype := 0x02, dstNode := dst.val / 4, dstHub := dst.val % 4
            payload := [0x10, BitVec.ofNat 8 n.node, BitVec.ofNat 8 n.hub, 0] ++ leBytes 4 n.ident ++
              leBytes 4 n.count }).1).flushSinks.settle)

/-- R253, R263, R266: the logs of the bridge. -/
def Obligations.BridgeLogs : Prop :=
  ∀ (s : State) (a : Agent) (src : Fin 1024) (aux : BitVec 16) (b : List Byte),
    let p := Pg.logs
    (s.readCode a p R.FEL_POP.off = .ok →
      (s.bridge.far = [] → exec (.felPop a) s = .next (s.reply a p R.FEL_POP.off 0 .ok).flushSinks.settle) ∧
      (∀ x l, s.bridge.far = x :: l →
        exec (.felPop a) s =
          .next (((((s.modBridge fun b => { b with far := l }).wr p R.FEL_ADDR_LO.off (BitVec.ofNat 32 x.addr)).wr p
            R.FEL_ADDR_HI.off (BitVec.ofNat 32 (x.addr / 2 ^ 32 % 2 ^ 16))).wr p R.FEL_TIME.off
            (BitVec.ofNat 32 x.time)).reply a p R.FEL_POP.off
            (BitVec.ofNat 32 (2 ^ 31 + x.outcome % 16 * 2 ^ 24 + b2n x.isLocal * 2 ^ 20 + x.agent % 2 ^ 16))
            .ok).flushSinks.settle)) ∧
    (s.readCode a p R.ORL_POP.off = .ok →
      (s.bridge.orphans = [] → exec (.orlPop a) s = .next (s.reply a p R.ORL_POP.off 0 .ok).flushSinks.settle) ∧
      (∀ x l, s.bridge.orphans = x :: l →
        let u := (((s.modBridge fun b => { b with orphans := l }).wr p R.ORL_ADDR_LO.off (BitVec.ofNat 32 x.addr)).wr p
          R.ORL_ADDR_HI.off (BitVec.ofNat 32 (x.addr / 2 ^ 32 % 2 ^ 16))).wr p R.ORL_TIME.off (BitVec.ofNat 32 x.time)
        exec (.orlPop a) s =
          .next (((List.range 60).foldl (fun u i => u.wr p (R.ORL_DATA i).off
            (BitVec.ofNat 32 (leNat (bytesAt x.data (4 * i) 4)))) u).reply a p R.ORL_POP.off
            (BitVec.ofNat 32 (2 ^ 31 + x.data.length % 256 * 2 ^ 16 + x.agent % 2 ^ 16)) .ok).flushSinks.settle)) ∧
    (s.writeCode a Pg.record R.CR_CMD.off = .ok →
      exec (.clearAll a) s = .next (s.modBridge fun b => { b with cmds := [] }).flushSinks.settle) ∧
    (s.domainOn 4 = true →
      (s.bridge.far.length < 64 →
        exec (.raFarError src aux b) s =
          .next ((s.modBridge fun x => { x with far := x.far ++
            [{ outcome := aux.toNat % 16, isLocal := false, agent := leNat (bytesAt b 6 2)
               addr := src.val * 2 ^ 38 + bitsOf (b.getD 4 0).toNat 0 6 * 2 ^ 32 + leNat (bytesAt b 0 4)
               time := s.uptime }] }).event p E.P07B_FAR_ERROR).flushSinks.settle) ∧
      (64 ≤ s.bridge.far.length →
        exec (.raFarError src aux b) s =
          .next ((s.put p R.FEL_LOST (satAdd 16 (s.get p R.FEL_LOST) 1)).event p
            E.P07B_LOG_LOST).flushSinks.settle))

/-- R243, R245: the hub as a target. -/
def Obligations.RemoteRequests : Prop :=
  ∀ (s : State) (src : Fin 1024) (prio : Fin 8) (tag aux : BitVec 16) (b : List Byte),
    let t := s.count Pg.bridge R.CNT_REQ_REQUESTS_16
    let rd := s.accessOf src prio tag.toNat aux.toNat false false false b
    let wp := s.accessOf src 0 0 aux.toNat true true false b
    let wn := s.accessOf src prio tag.toNat aux.toNat true false false b
    let fits (x : State.Access) : Prop := State.agentFits x.src x.agent = true ∧ 1 ≤ x.words ∧ x.words ≤ 60
    let logged (x : State.Access) : State :=
      t.logAccess .islandRefused x.kind (State.agentOf x.agent) x.first (State.accessPage x.base)
    let asker : State.Asker := { src := src, prio := prio, tag := tag.toNat }
    s.domainOn 4 = true →
    (s.on Pg.bridge R.BRIDGE_CFG_TARGET_EN = true →
      (fits rd → exec (.raRead src prio tag aux b) s = .next (t.serve rd).flushWork.flushSinks.settle) ∧
      (fits wp → exec (.raWritePosted src false aux b) s = .next (t.serve wp).flushWork.flushSinks.settle) ∧
      (fits wn → exec (.raWriteNp src prio tag aux b) s = .next (t.serve wn).flushWork.flushSinks.settle)) ∧
    (s.on Pg.bridge R.BRIDGE_CFG_TARGET_EN = false →
      exec (.raRead src prio tag aux b) s =
        .next ((logged rd).completeTo asker (addrRegion rd.base) (addrOff rd.base) 6 0 []).flushWork.flushSinks.settle ∧
      exec (.raWriteNp src prio tag aux b) s =
        .next ((logged wn).completeTo asker (addrRegion wn.base) (addrOff wn.base) 6 0 []).flushWork.flushSinks.settle ∧
      exec (.raWritePosted src false aux b) s =
        .next ((logged wp).farErrorTo src (addrRegion wp.base) (addrOff wp.base) wp.agent
          6).flushWork.flushSinks.settle)

/-- R41, R241, R261, R393: host requests. -/
def Obligations.HostRequests : Prop :=
  ∀ (s : State) (a : Agent) (off : BitVec 34) (len : BitVec 13) (data : List Byte) (p : Fin 4),
    let o := off.toNat
    let addr := s.windowAddr o
    (s.hostMay = true → s.memSpace = true → s.inD3 = false →
      (o % 4 = 0 → o + 4 ≤ 0x200000 →
        (s.readCode pcieHost (o / 0x1000) (o % 0x1000) = .ok →
          let r := s.pageRead pcieHost (o / 0x1000) (o % 0x1000)
          exec (.pcieMemRead .bar0 off 4) s =
            .next (r.1.emit (.readData pcieHost (s.ownAddr 0 o) [r.2] 0)).flushSinks.settle) ∧
        (data.length = 4 →
          exec (.pcieMemWrite .bar0 off data (List.replicate 4 true)) s =
            .next (s.regWrite pcieHost .posted (o / 0x1000) (o % 0x1000)
              (BitVec.ofNat 32 (leNat (bytesAt data 0 4)))).1.flushWork.flushSinks.settle)) ∧
      (o % 4 ≠ 0 →
        exec (.pcieMemRead .bar0 off 4) s =
          .next ((s.count Pg.pcieErr R.CNT_UR).emit (.bytes Pg.pcie 2 [])).flushSinks.settle) ∧
      (1 ≤ len.toNat → len.toNat ≤ 512 → o + len.toNat ≤ 2 ^ 34 →
        (s.windowCode o false = .ok →
          exec (.hostBar4Read off len) s = .next (s.bar4Read o len.toNat).flushSinks.settle) ∧
        (s.bridgeCode = .ok → s.on Pg.windows (R.WIN_CTRL_EN (o / 2 ^ 30 % 16)) = false →
          exec (.hostBar4Read off len) s =
            .next ((s.logAccess .unsupported .read pcieHost addr none).emit (.readData pcieHost (2 ^ 40 + o)
              (State.wordsOf (len.toNat + 1) (List.replicate len.toNat 0xFF)) 0)).flushSinks.settle)) ∧
      (1 ≤ data.length → data.length ≤ 256 → o + data.length ≤ 2 ^ 34 →
        (s.windowCode o true = .ok →
          exec (.hostBar4Write off data) s = .next (s.bar4Write o data).flushSinks.settle) ∧
        (s.bridgeCode = .ok → s.on Pg.windows (R.WIN_CTRL_EN (o / 2 ^ 30 % 16)) = false →
          exec (.hostBar4Write off data) s =
            .next ((s.modBridge fun b => { b with prefetched := b.prefetched.filter (·.win != o / 2 ^ 30 % 16) }).logAccess
              .unsupported .posted pcieHost addr none).flushSinks.settle))) ∧
    (s.writeCode a Pg.ports (R.CP_CTRL_LEN p).off = .ok → s.pageShut Pg.ports = false →
      let t := s.put Pg.ports (R.CP_CTRL_LEN p) (s.get Pg.ports (R.CP_CTRL_LEN p))
      (s.on Pg.ports (R.CP_CTRL_BUSY p) = true →
        exec (.cpGo a p) s =
          .next ((t.setF Pg.ports (R.CP_CTRL_CP_REFUSED p)).event Pg.ports
            E.P07A_CP_REFUSED).flushWork.flushSinks.settle) ∧
      (s.on Pg.ports (R.CP_CTRL_BUSY p) = false → exec (.cpGo a p) s = .next (t.cpGo a p).flushWork.flushSinks.settle))

/-- R99, R183 to R187, R197: frames and cells. -/
def Obligations.FramesAndCells : Prop :=
  ∀ (s : State) (k : LinkId) (n : BitVec 4) (area tail : List Byte) (at_ : BitVec 80) (res : BitVec 64) (o : RxOpen)
    (point : Fin 139) (q : Queued) (e : EngineId),
    let l := s.link k
    let t := (s.modLink k fun l => { l with rxNum := (l.rxNum + n.toNat) % 65536 }).modLink k fun l =>
      { l with opened := l.suspended, suspended := none }
    let f := { o.frame with payload := area.take o.frame.plen }
    (s.pageOn (Pg.link k) = true → s.linkSt k = 3 → l.nak = none → l.opened = some o → o.skip = false →
      (State.judge o.frame (o.got + n.toNat) area tail false = .good →
        exec (.frameEnd k n area tail false at_) s =
          .next ((t.acknowledge k o.num).goodFrame k f o.cut area fun u f shared =>
            u.deliverFrame k at_.toNat f shared).flushSinks.settle) ∧
      (State.judge o.frame (o.got + n.toNat) area tail false = .stomped → o.cut = none →
        exec (.frameEnd k n area tail false at_) s =
          .next ((t.count (Pg.link k) R.CNT_STOMP_RX).acknowledge k o.num).flushSinks.settle)) ∧
    (s.domainOn 4 = true → s.chaffHolds point = false → point.val < 7 → s.linkActive point = true →
      s.on (Pg.link point) R.LINK_STATUS_REPLAY_STALL = false → (s.link point).txCut = [] →
      s.selectAt point false = some q → s.replayRoom point q.frame = true →
      exec (.egressSelect point 0 none res) s =
        .next ((s.unqueue q).transmit point q.frame 0).flushSinks.settle) ∧
    (s.engUp e = true → s.engineDown e = true → exec (.portDown e) s = .next (s.engineFall e).flushSinks.settle) ∧
    (s.engUp e = false → s.engineDown e = false →
      exec (.portUp e) s = .next ((s.engineUp e).rawTakeAll e).flushSinks.settle) ∧
    (s.granaryOn = true → s.ready Pg.gleaner = true → s.on Pg.gleaner R.GLEAN_CFG_EN = true → s.core.gleanCell < 131071 →
      exec (.gleanerCellCheck .inOrder) s =
        .next ((s.modCore fun c => { c with orphans := c.orphans.filter (·.1 != s.core.gleanCell) }).modCore fun c =>
          { c with gleanCell := s.core.gleanCell + 1 }).flushSinks.settle ∧
      (∀ a, s.core.orphans.find? (·.1 == s.core.gleanCell) = some a → s.ns < a.2 + 1000000 * s.auditMs →
        exec (.gleanerCellCheck .orphaned) s =
          .next (s.modCore fun c => { c with gleanCell := s.core.gleanCell + 1 }).flushSinks.settle)) ∧
    (let c := s.get Pg.redun R.REDUN_CFG_DATA_RING
     s.domainOn 4 = true → s.isMaster = true → s.ring.failedOver = true → s.breakCount c ≤ 1 →
      exec .dataRingFailback s = .next (s.orderDataRing c).flushSinks.settle)

/-- R264 to R307: a bank, its cells, and what an engine stores. -/
def Obligations.EngineStores : Prop :=
  ∀ (s : State) (a : Agent) (b : BankId) (c : Fin 320) (e : EngineId) (v : Word) (meas : BitVec 2) (flags rkind len : Byte)
    (losses : BitVec 4) (res : Sys2Proof.BusResult) (at_ : BitVec 64) (data : List Byte),
    let p := Pg.engine e
    let q := Pg.bank b
    let cp := Pg.bank (c / 40)
    (s.pageOn q = true →
      ( let t := s.put q R.BANK_STATUS_VIO_MEAS meas.toNat
        (meas.toNat ≠ 0 → s.get q R.BANK_CFG_VIO_SEL = meas.toNat →
          exec (.vioChange b meas) s = .next (t.setF q R.BANK_STATUS_VIO_OK).flushSinks.settle) ∧
        (s.get q R.BANK_CFG_VIO_SEL ≠ meas.toNat → s.on q R.BANK_STATUS_VIO_OK = false →
          exec (.vioChange b meas) s =
            .next ((t.clrF q R.BANK_STATUS_VIO_OK).event q E.BANK_VIO_MISMATCH).flushSinks.settle)) ∧
      exec (.clk80Lock b) s = .next (s.setF q R.BANK_STATUS_CLK80_LOCK).flushSinks.settle ∧
      (s.on q R.BANK_STATUS_CLK80_LOCK = true →
        exec (.clk80Unlock b) s =
          .next (((s.clrF q R.BANK_STATUS_CLK80_LOCK).event q E.BANK_CLK80_UNLOCK).raise q K.CLK80_UNLOCK
            0).flushSinks.settle)) ∧
    (s.writeCode a cp (0x800 + 4 * (c % 40)) = .ok →
      (ownerAllowed c v.toNat = false →
        exec (.cellCfgWrite a c v) s =
          .next ((s.wr cp R.CELL_REFUSE.off (BitVec.ofNat 32 (2 ^ 31 + c % 40))).event cp
            E.BANK_CELL_REFUSED).flushSinks.settle) ∧
      (ownerAllowed c v.toNat = true →
        (∀ x ∈ [s.cellWord c, v.toNat], ∀ y ∈ cellUse c x, s.engOn y.1 = false) →
        exec (.cellCfgWrite a c v) s = .next (s.storeWrite cp (0x800 + 4 * (c % 40)) v).flushSinks.settle)) ∧
    (s.engUp e = true →
      ( let now := (List.range 32).filter fun n =>
          (s.pubEntry e n).isSome && s.slotW e n 2 % 256 != 0 && ((s.eng e).ticks + 1) % (s.slotW e n 2 % 256) == 0
        s.pollUs e ≠ 0 → (∀ n ∈ now, n ∉ (s.eng e).due) →
        exec (.pollTick e) s =
          .next (s.modEng e fun g => { g with ticks := g.ticks + 1, due := g.due ++ now }).flushSinks.settle) ∧
      (s.engMode e = 1 ∨ s.engMode e = 2 ∨ s.engMode e = 4 → (s.eng e).work = none →
        ((s.eng e).breakAsked = true →
          exec (.controllerBoundary e) s =
            .next (s.modEng e fun g => { g with work := some .sendBreak, breakAsked := false }).flushSinks.settle) ∧
        ((s.eng e).breakAsked = false → (s.eng e).alertAsked = false →
          (∀ n, ((List.range 32).find? fun n => (s.eng e).due.contains n && (s.pubEntry e n).isSome) = some n →
            exec (.controllerBoundary e) s =
              .next (s.modEng e fun g =>
                { g with work := some (.poll n), due := g.due.filter (· != n) }).flushSinks.settle) ∧
          ((s.eng e).due = [] → (∀ n < 32, s.subValue e n = none) → (s.eng e).down ≠ [] →
            exec (.controllerBoundary e) s =
              .next (s.modEng e fun g => { g with work := some .device }).flushSinks.settle))) ∧
      (∀ x, s.takeNext e = some x → s.stale x = false → bitOf x.frame.aux 7 = false → s.engMode e ≠ 6 →
        s.rawSends e x.frame.payload = true → (s.eng e).work = none →
        exec (.rawPortTake e) s =
          .next ((s.engTake x).modEng e fun g =>
            { g with work := some (.raw (rawKind x.frame.payload) (rawData x.frame.payload)) }).flushSinks.settle) ∧
      ( let t := s.engCount e R.CNT_RX_MSG
        let r := rawBytes (flags.toNat % 128 + b2n (t.engTsBad e) * 128) rkind.toNat (t.engStamp e at_.toNat) (data.take 240)
        1 ≤ s.engMode e → s.engMode e ≤ 6 → s.on p R.ENG_CFG_RAW_RX_EN = true → s.on p R.ENG_CFG_RAW_FWD = false →
        (s.rxLevel e + r.length ≤ 2048 → (s.eng e).rx ≠ [] →
          exec (.rawRecord e flags rkind at_ data) s =
            .next (t.modEng e fun g => { g with rx := g.rx ++ [r] }).flushSinks.settle) ∧
        (2048 < s.rxLevel e + r.length →
          exec (.rawRecord e flags rkind at_ data) s =
            .next ((t.engCount e R.ENG_CNT_DROP_RX_DROP).event p E.ENG_RX_DROP).flushSinks.settle))) ∧
    (s.readCode a p R.RX_DATA.off = .ok →
      ((s.eng e).rx = [] → exec (.rxDataRead a e) s = .next (s.reply a p R.RX_DATA.off 0 .ok).flushSinks.settle) ∧
      (∀ r l, (s.eng e).rx = r :: l →
        let n := (s.eng e).rxRead
        let w := BitVec.ofNat 32 (leNat (bytesAt r (4 * n) 4))
        (4 * (n + 1) < r.length →
          exec (.rxDataRead a e) s =
            .next ((s.modEng e fun g => { g with rxRead := n + 1 }).reply a p R.RX_DATA.off w .ok).flushSinks.settle) ∧
        (r.length ≤ 4 * (n + 1) → l = [] →
          exec (.rxDataRead a e) s =
            .next ((s.modEng e fun g => { g with rx := [], rxRead := 0 }).reply a p R.RX_DATA.off w
              .ok).flushSinks.settle))) ∧
    (s.writeCode a p R.ENG_CMD.off = .ok →
      exec (.rxFlush a e) s = .next (s.modEng e fun g => { g with rx := [], rxRead := 0 }).flushSinks.settle ∧
      exec (.txStageClear a e) s = .next (s.modEng e fun g => { g with stage := [] }).flushSinks.settle) ∧
    (s.writeCode a p R.TX_DATA.off = .ok →
      ((s.eng e).stage.length < 240 →
        exec (.txData a e v) s =
          .next (s.modEng e fun g => { g with stage := g.stage ++ leBytes 4 v.toNat }).flushSinks.settle) ∧
      (240 ≤ (s.eng e).stage.length →
        exec (.txData a e v) s = .next (s.event p E.ENG_RAW_REFUSED).flushSinks.settle)) ∧
    (s.writeCode a p R.TX_COMMIT.off = .ok →
      ((s.eng e).stage.length < len.toNat →
        exec (.txCommit a e len rkind) s = .next (s.event p E.ENG_RAW_REFUSED).flushSinks.settle) ∧
      (len.toNat ≤ (s.eng e).stage.length →
        let f := s.entered (10 + e)
          { cls := 2, prio := s.get p R.ENG_CFG_RAW_PRIO, ftype := 0x41, dstNode := s.node, dstHub := s.hubPos, aux := e
            payload := rawBytes (b2n (!s.timeValid) * 128) rkind.toNat s.stamp ((s.eng e).stage.take len.toNat) }
        exec (.txCommit a e len rkind) s =
          .next ((f.1.toEngine e f.2).1.modEng e fun g => { g with stage := [] }).flushSinks.settle)) ∧
    (∀ x, s.domainOn 4 = true → s.bridge.answers = [x] → x.engine = e.val → x.outcome = 0 →
      exec (.keptAnswerExpiry e) s =
        .next ((s.modBridge fun y => { y with answers := [] }).orphan
          (0xC000 + s.node * 4 + s.hubPos) x.addr x.data).flushSinks.settle) ∧
    (∀ x l u m, (s.eng e).work = some .device → (s.eng e).down = x :: l → x.todo = u :: m → m ≠ [] → x.write = true →
      s.engMode e = 2 → s.on p (R.DEV_PROF_A_BIG_ENDIAN (State.devProf u.1)) = false →
      let i := State.devProf u.1
      exec (.downstreamUnit e losses res data) s =
        .next ((s.spiOut e (bitsOf u.1 24 2)
          (BitVec.ofNat 8 (s.get p (R.DEV_PROF_B_WRITE_CMD i)) ::
            beBytes (s.get p (R.DEV_PROF_A_REG_BYTES i)) (u.1 % 65536 / 2 ^ s.get p (R.DEV_PROF_A_ADDR_SHIFT i)) ++
              u.2)).modEng e fun g => { g with down := { x with todo := m } :: l }).flushSinks.settle)

/-- R286 to R298: UART, SPI, I²C. -/
def Obligations.SerialPorts : Prop :=
  ∀ (s : State) (a : Agent) (e : EngineId) (ch : BitVec 9) (reg : BitVec 16) (losses : BitVec 4) (at_ : BitVec 64)
    (data : List Byte) (x : Byte) (own pecOk stuck active : Bool),
    let p := Pg.engine e
    (s.engUp e = true → s.engMode e = 1 →
      exec (.uartCtsChange e active) s = .next (s.modEng e fun g => { g with cts := active }).flushSinks.settle ∧
      (s.mget e 1 R.UART_CFG_DATA_BITS ≠ 9 → s.on p R.ENG_CFG_RAW_RX_EN = false →
        s.mon e 1 R.UART_FRAME_DELIM_EN = false → (s.eng e).msg ≠ [] → (s.eng e).msg.length + 1 < s.uartMax e →
        exec (.uartCharacter e ch false false false at_) s =
          .next (s.modEng e fun g => { g with msg := g.msg ++ [BitVec.ofNat 8 ch.toNat] }).flushSinks.settle) ∧
      ((s.eng e).msg ≠ [] → (s.eng e).msgOwn = true → s.mget e 1 R.UART_FRAME_IDLE_BITS ≠ 0 →
        exec (.uartIdleGap e) s =
          .next (((s.engCount e R.CNT_RX_MSG).modEng e fun g =>
            { g with msg := [], msgFlags := 0, msgAt := none, msgOwn := false, lost := false }).rawRecord e
              (Nat.lor (s.eng e).msgFlags (if (s.eng e).lost then 8 else 0)) 0 ((s.eng e).msgAt.getD 0)
              (s.eng e).msg).flushSinks.settle) ∧
      ((s.eng e).msg = [] → (s.eng e).msgAt = none →
        exec (.uartBreak e) s = .next ((s.modeCount e 1 R.UART_CNT2_BREAKS).event p E.ENG_BREAK_RX).flushSinks.settle) ∧
      (∀ k d, (s.eng e).work = some (.raw k d) → s.mon e 1 R.UART_CFG_RTS_CTS = false ∨ (s.eng e).cts = true →
        exec (.uartTransmit e) s =
          .next (((s.emit (.bytes p 0 d)).engCount e R.CNT_TX_MSG).modEng e fun g =>
            { g with work := none }).flushSinks.settle) ∧
      (s.writeCode a p R.ENG_CMD.off = .ok →
        exec (.sendBreak a e) s = .next (s.modEng e fun g => { g with breakAsked := true }).flushSinks.settle)) ∧
    (s.engUp e = true → s.engMode e = 2 → ∀ b i, (s.eng e).work = some (.poll b) → s.pubEntry e b = some i →
      let t := (((s.emit (.bytes p (16 + s.slotB e b % 4)
        (wordBytes (s.slotA e b) (s.slotW e b 1) ++ List.replicate (bitsOf (s.slotB e b) 2 2) 0 ++
          List.replicate (s.lenOf i) 0))).modeCount e 2 R.SPIC_CNT).engCount e R.CNT_TX_MSG).modEng e fun g =>
            { g with work := none }
      exec (.spiTransaction e data at_) s =
        .next (t.sourceUpdate i (bytesAt data 0 (s.lenOf i)) true (s.engStamp e at_.toNat)).flushSinks.settle) ∧
    (s.engUp e = true → s.engMode e = 3 →
      (∀ b i, s.spiSlot e x.toNat = some b → s.pubEntry e b = some i → data.length = s.lenOf i →
        exec (.spiTargetSelect e (x :: data) at_) s =
          .next ((s.engCount e R.CNT_RX_MSG).sourceUpdate i data true (s.engStamp e at_.toNat)).flushSinks.settle) ∧
      (s.spiSlot e x.toNat = none →
        exec (.spiTargetSelect e (x :: data) at_) s =
          .next ((((s.engCount e R.CNT_RX_MSG).modeCount e 3 R.SPIT_CNT_UNMATCHED).emit (.bytes p 4
            (List.replicate data.length (BitVec.ofNat 8 (s.mget e 3 R.SPIT_CFG_FILL))))).rawRecord e 0 0 at_.toNat
              (x :: data)).flushSinks.settle)) ∧
    (s.engUp e = true → s.engMode e = 4 →
      (∀ b i, (s.eng e).work = some (.poll b) → s.pubEntry e b = some i →
        let u := s.engCountN e (Pg.mode e 4) R.I2C_CNT_ARBITRATION losses.toNat
        let sent (t : State) : State :=
          ((t.emit (.bytes p 3 (s.i2cHead e b))).engCount e R.CNT_TX_MSG).modEng e fun g => { g with work := none }
        losses.toNat ≤ s.mget e 4 R.I2C_CFG_ARB_RETRY →
        exec (.i2cTransaction e losses .ok data at_) s =
          .next ((sent u).sourceUpdate i (bytesAt data 0 (s.lenOf i)) true (s.engStamp e at_.toNat)).flushSinks.settle ∧
        exec (.i2cTransaction e losses .nak data at_) s =
          .next (sent ((u.modeCount e 4 R.I2C_CNT_NAKS).event p E.ENG_PROTOCOL_ERR)).flushSinks.settle) ∧
      (∀ b, (s.eng e).work = some (.poll b) →
        exec (.ctrlStretchLimit e at_) s =
          .next (((s.modeCount e 4 R.I2C_CNT2_STRETCH).event p E.ENG_STRETCH_LIMIT).modEng e fun g =>
            { g with work := none }).flushSinks.settle ∧
        (s.smbus e = true →
          exec (.smbusTimeout e at_) s = .next (s.modEng e fun g => { g with work := none }).flushSinks.settle)) ∧
      (s.smbus e = true → s.mon e 4 R.I2C_CFG_ALERT_ARA = true →
        exec (.smbalert e) s =
          .next ((s.event p E.ENG_SMBALERT).modEng e fun g => { g with alertAsked := true }).flushSinks.settle) ∧
      (s.writeCode a p R.ENG_CMD.off = .ok →
        exec (.busRecover a e stuck) s =
          .next (if stuck then ((s.emit (.bytes p 7 [])).event p E.ENG_BUS_STUCK).raise p K.BUS_STUCK 0
            else s.emit (.bytes p 7 [])).flushSinks.settle)) ∧
    (s.engUp e = true → s.engMode e = 5 →
      (∀ b, (own = false ∨ s.mon e 4 R.I2C_CFG_ADDR1_EN = true) →
        ((List.range 32).find? fun n => s.slotOn e n && s.slotW e n 1 == b2n own +
          (if s.mon e 4 R.I2C_CFG_TGT_REG_BYTES then reg.toNat else reg.toNat % 256) * 256 &&
            (s.pubEntry e n).isSome) = some b →
        ∀ i, s.pubEntry e b = some i → s.smbus e = false → data.length = s.lenOf i →
        exec (.i2cTargetAccess e own reg true data pecOk at_) s =
          .next ((s.engCount e R.CNT_RX_MSG).sourceUpdate i data true (s.engStamp e at_.toNat)).flushSinks.settle) ∧
      (∀ b, (s.eng e).stretch = some b →
        exec (.tgtStretchLimit e) s =
          .next ((((s.modeCount e 4 R.I2C_CNT2_STRETCH).event p E.ENG_STRETCH_LIMIT).modEng e fun g =>
            { g with stretch := none }).emit (.bytes p 5 [])).flushSinks.settle))

/-- R271, R299 to R301: lines. -/
def Obligations.LinePorts : Prop :=
  ∀ (s : State) (a : Agent) (e : EngineId) (line : Fin 4) (level : Bool) (at_ : BitVec 64) (late : BitVec 4) (ca cb : Bool)
    (v : Word),
    let p := Pg.engine e
    (s.writeCode a p R.PAGE_CTRL.off = .ok →
      let w (x : Nat) := s.withField p R.PAGE_CTRL_ENABLE x
      let stored (t : State) (x : Nat) : State :=
        (t.storeWrite p R.PAGE_CTRL.off (BitVec.ofNat 32 (bitsPut (w x).toNat 0 1 (b2n (t.engOn e))))).engineSync e
      (s.engOn e = false → s.blockStopped p = false → s.enableReason e ≠ 0 →
        exec (.engineEnable a e) s =
          .next (stored ((s.put p R.ENG_STATUS_REFUSE (s.enableReason e)).event p E.ENG_ENG_REFUSED) 1).flushSinks.settle) ∧
      (s.engOn e = false → s.blockStopped p = false → s.enableReason e = 0 →
        let u := (s.putKept p R.PAGE_CTRL_ENABLE 1).modEng e fun g => { g with quiet := s.engMode e == 6, counts := [] }
        exec (.engineEnable a e) s = .next (stored (((u.bindEval e).engineSync e).pairSync e) 1).flushSinks.settle) ∧
      (s.engOn e = true → s.engUp e = true → (s.putKept p R.PAGE_CTRL_ENABLE 0).engineDown e = true →
        exec (.engineDisable a e) s =
          .next (stored (((s.putKept p R.PAGE_CTRL_ENABLE 0).engineFall e).pairSync e) 0).flushSinks.settle)) ∧
    (s.engUp e = true → s.engMode e = 7 → bitOf (s.get (Pg.mode e 7) R.DISC_STATE_FILTERED) line ≠ level →
      (s.engCells e).any (·.2 == line.val) = true → (∀ n < 32, s.slotOn e n = false) →
      exec (.discreteEdge e line level at_) s =
        .next ((s.put (Pg.mode e 7) R.DISC_STATE_FILTERED
          (bitsPut (s.get (Pg.mode e 7) R.DISC_STATE_FILTERED) line 1 (b2n level))).engCountN e (Pg.mode e 7)
            (R.DISC_EDGES line) 1).flushSinks.settle) ∧
    (∀ i val, s.engUp e = true → s.engMode e = 8 → s.subValue e 0 = some (i, val) → (∀ n < 32, n ≠ 0 → s.slotOn e n = false) →
      bitOf late.toNat (s.slotW e 0 1 % 4) = false →
      exec (.pwmPeriodStart e late) s =
        .next ((s.put (Pg.mode e 8) (R.PWM_DUTY (s.slotW e 0 1 % 4)) (Nat.min (leNat val) (s.pwmPeriod e))).sinkTook
          i).flushSinks.settle) ∧
    (s.engUp e = true → s.engMode e = 9 → (∀ n < 32, s.slotOn e n = false) →
      ( let t := s.modEng e fun g => { g with encA := ca, encB := cb }
        let n := s.get (Pg.mode e 9) R.ENC_COUNT
        (ca ≠ (s.eng e).encA → cb ≠ (s.eng e).encB →
          exec (.encoderTransition e ca cb at_) s =
            .next ((t.modeCount e 9 R.ENC_ERR).event p E.ENG_PROTOCOL_ERR).flushSinks.settle) ∧
        (s.mget e 9 R.ENC_CFG_RESOLUTION = 2 → s.mon e 9 R.ENC_CFG_INVERT_DIR = false →
          (ca ≠ (s.eng e).encA → cb = (s.eng e).encB →
            exec (.encoderTransition e ca cb at_) s =
              .next (t.put (Pg.mode e 9) R.ENC_COUNT
                (if ca ≠ cb then (n + 1) % 2 ^ 32 else (n + 2 ^ 32 - 1) % 2 ^ 32)).flushSinks.settle) ∧
          (ca = (s.eng e).encA → cb ≠ (s.eng e).encB →
            exec (.encoderTransition e ca cb at_) s =
              .next (t.put (Pg.mode e 9) R.ENC_COUNT
                (if ca = cb then (n + 1) % 2 ^ 32 else (n + 2 ^ 32 - 1) % 2 ^ 32)).flushSinks.settle)) ∧
        (s.get (Pg.mode e 9) R.ENC_CFG_INDEX_MODE = 2 →
          exec (.encoderIndex e at_) s =
            .next ((s.put (Pg.mode e 9) R.ENC_INDEX_COUNT n).put (Pg.mode e 9) R.ENC_COUNT 0).flushSinks.settle))) ∧
    (s.engMode e = 9 → s.writeCode a p R.ENC_PRESET.off = .ok →
      exec (.encPreset a e v) s = .next (s.wr (Pg.mode e 9) R.ENC_COUNT.off v).flushSinks.settle)

/-- R317 to R321, R329: transmitting on CAN FD. -/
def Obligations.CanTransmit : Prop :=
  ∀ (s : State) (a : Agent) (e : EngineId) (c : CanTry) (tdcv : BitVec 7) (at_ : BitVec 64) (slot : Fin 32),
    let p := Pg.engine e
    let m := Pg.mode e 6
    s.engUp e = true → s.engMode e = 6 → s.canPaired e = false →
    (s.core.queued = [] → s.canMayStart e = true → canWinner (s.canSet e) = some c → c.cand = 32 →
      exec (.canTxAttempt e) s = .next (s.modEng e fun g => { g with attempt := some c }).flushSinks.settle) ∧
    (∀ i, s.core.queued = [] → s.canMayStart e = true → canWinner (s.canSet e) = some c → c.cand < 32 →
      s.subEntry e c.cand = some i →
      exec (.canTxAttempt e) s =
        .next ((s.modEng e fun g => { g with attempt := some c }).sinkTook i).flushSinks.settle) ∧
    ((s.eng e).attempt = some c → (s.eng e).abort = false → (s.eng (e / 2 * 2)).swap = false →
      ( let t := ((s.modeCount e 6 R.CNT_CAN_TX).engCount e R.CNT_TX_MSG).emit (.bytes p 6 (State.canRecord c.head c.ctl c.data))
        s.mget e 6 R.CAN_CFG_OPMODE = 0 → c.cand < 32 → c.renewed = false → s.mon e 6 R.CAN_CFG_TDC_EN = false →
        exec (.canFrameSent e tdcv at_) s =
          .next ((t.canCounters e (s.get m R.CAN_ERR_TEC - 1) (s.get m R.CAN_ERR_REC)).modEng e fun g =>
            { g with runs := file c.cand 0 g.runs, pend := g.pend.filter (· != c.cand)
                     attempt := none }).flushSinks.settle) ∧
      exec (.canAttemptFailed e .arbitration) s =
        .next ((s.modeCount e 6 R.CNT_CAN_EVT_ARBITRATION).modEng e fun g =>
          { g with runs := file c.cand 0 g.runs, attempt := none }).flushSinks.settle ∧
      (∀ (code : Fin 7), s.get m R.CAN_ERR_TEC + 8 ≤ 255 →
        exec (.canAttemptFailed e (.error code false false false false)) s =
          .next ((((s.put m R.CAN_STATUS_LEC code).modeCount e 6 R.CNT_CAN_ERR_TRANSMIT).modEng e fun g =>
            { g with runs := file c.cand 0 g.runs, attempt := none }).canCounters e (s.get m R.CAN_ERR_TEC + 8)
              (s.get m R.CAN_ERR_REC)).flushSinks.settle)) ∧
    ((s.subEntry e slot).isSome = true → s.slotW e slot 3 ≠ 0 → s.mget e 6 R.CAN_CFG_OPMODE ≠ 1 → slot.val ∉ (s.eng e).pend →
      exec (.canCycleTimer e slot) s =
        .next (s.modEng e fun g => { g with pend := g.pend ++ [slot.val] }).flushSinks.settle) ∧
    (s.writeCode a p R.CAN_CMD.off = .ok → (s.eng e).raw.isSome = true →
      ((s.eng e).attempt = none →
        exec (.abortTx a e) s =
          .next (((s.modEng e fun g => { g with abort := false, raw := none }).modeCount e 6
            R.CNT_CAN_LEN_FRAMES).event p E.ENG_TX_ABORTED).flushSinks.settle) ∧
      ((s.eng e).attempt.isSome = true →
        exec (.abortTx a e) s = .next (s.modEng e fun g => { g with abort := true }).flushSinks.settle))

/-- R310, R325 to R340: receiving, error states, pairs. -/
def Obligations.CanReceiveAndPairs : Prop :=
  ∀ (s : State) (a : Agent) (e : EngineId) (ident : BitVec 29) (ide fdf brs esi dp : Bool) (dlc : BitVec 4) (data : List Byte)
    (at_ : BitVec 64) (code : Fin 7),
    let p := Pg.engine e
    let m := Pg.mode e 6
    let head := canHead ident.toNat ide false fdf
    let ctl := dlc.toNat + b2n brs * 16 + b2n esi * 32
    let got := (s.modeCount e 6 R.CNT_CAN_RX).engCount e R.CNT_RX_MSG
    s.engMode e = 6 →
    (s.engUp e = true →
      exec (.enableIntegrationDone e) s = .next (s.modEng e fun g => { g with quiet := false }).flushSinks.settle ∧
      ((s.eng e).quiet = false → s.canPaired e = false →
        (fdf = false → s.get m R.CAN_ERR_REC = 0 → (∀ n < 32, s.slotOn e n = false) →
          exec (.canFrameReceived e .good ident ide fdf brs esi dlc data at_) s =
            .next (got.rawRecord e (b2n esi) 0 at_.toNat
              (State.canRecord head ctl (bytesAt data 0 (dlcLen false dlc.toNat)))).flushSinks.settle) ∧
        (∀ i, fdf = false → s.get m R.CAN_ERR_REC = 0 → s.pubEntry e 0 = some i → (∀ n < 32, n ≠ 0 → s.slotOn e n = false) →
          s.canMatches e 0 ident.toNat ide false = true → s.slotKind e 0 = 1 → bitOf (s.slotA e 0) 5 = false →
          s.slotVpos e 0 + s.lenOf i ≤ dlcLen false dlc.toNat →
          exec (.canFrameReceived e .good ident ide fdf brs esi dlc data at_) s =
            .next (got.sourceUpdate i
              (bytesAt (bytesAt data 0 (dlcLen false dlc.toNat)) (s.slotVpos e 0) (s.lenOf i)) true
              (s.engStamp e at_.toNat)).flushSinks.settle) ∧
        (s.mon e 6 R.CAN_CFG_FD_EN = true → s.mon e 6 R.CAN_CFG_PEX_EN = true →
          exec (.canFrameReceived e .recessiveRes ident ide fdf brs esi dlc data at_) s =
            .next ((((s.modeCount e 6 R.CNT_CAN_EVT2_PROTOCOL).setF m R.CAN_STATUS_PEX).event p E.ENG_PEX).modEng e fun g =>
              { g with quiet := true }).flushSinks.settle) ∧
        (∀ n, s.mget e 6 R.CAN_CFG_OPMODE ≠ 1 → ((List.range 32).filter fun b =>
            (s.subEntry e b).isSome && bitOf (s.slotA e b) 4 && bitOf (s.slotA e b) 0 == ide &&
              s.slotW e b 1 % 2 ^ 29 == ident.toNat) = [n] → n ∉ (s.eng e).pend →
          exec (.canRemoteFrame e ident ide dlc at_) s =
            .next (got.modEng e fun g => { g with pend := g.pend ++ [n] }).flushSinks.settle) ∧
        exec (.canRxError e code dp false) s =
          .next (((s.put m (if dp then R.CAN_STATUS_DLEC else R.CAN_STATUS_LEC) code).modeCount e 6
            R.CNT_CAN_ERR_RECEIVE).canCounters e (s.get m R.CAN_ERR_TEC) (s.get m R.CAN_ERR_REC + 1)).flushSinks.settle)) ∧
    (s.writeCode a p R.CAN_CMD.off = .ok →
      (s.get m R.CAN_STATUS_STATE = 2 →
        exec (.restart a e) s =
          .next (((s.put m R.CAN_STATUS_STATE 3).canCounters e 0 0).clrF m R.CAN_ERR_RP).flushSinks.settle) ∧
      (e % 2 = 0 → s.canPaired e = false →
        exec (.pairSwap a e) s =
          .next (((s.touch (64 + e / 2)).modEng e fun g => { g with swap := false }).event p
            E.ENG_PAIR_SWAP_REFUSED).flushSinks.settle) ∧
      (e % 2 = 0 → s.canPaired e = true → s.canRole e = 1 → (s.eng e).attempt = none → s.engUp (e + 1) = true →
        s.get (Pg.mode (e + 1) 6) R.CAN_STATUS_STATE = 0 →
        let t := (s.touch (64 + e / 2)).modEng e fun g => { g with swap := false }
        exec (.pairSwap a e) s =
          .next ((((t.moveSet e (e + 1)).setRoles (e + 1) e).modeCount (e + 1) 6 R.CNT_CAN_EVT2_FAILOVERS).event p
            E.ENG_PAIR_SWAP_DONE).flushSinks.settle)) ∧
    (e % 2 = 0 → s.canPaired e = true → s.canRole e = 1 → s.engUp e = false → s.engUp (e + 1) = true →
      let t := (s.moveSet e (e + 1)).setRoles (e + 1) e
      let last := 2 ^ 31 + 2 ^ 30
      canWinner (t.canSet (e + 1)) = none →
      exec (.pairFailover e) s =
        .next ((((((t.wr (Pg.mode (e + 1) 6) R.PAIR_LAST.off (BitVec.ofNat 32 last)).modeCount (e + 1) 6
          R.CNT_CAN_EVT2_FAILOVERS).event p E.ENG_PAIR_FAILOVER).raise p K.PAIR_FAILOVER last).event (Pg.engine (e + 1))
            E.ENG_PAIR_FAILOVER).raise (Pg.engine (e + 1)) K.PAIR_FAILOVER last).flushSinks.settle) ∧
    ( let t := (s.put m R.CAN_STATUS_STATE 0).event p E.ENG_INTEGRATION_DONE
      s.engOn e = true → s.get m R.CAN_STATUS_STATE = 3 → s.engUp e = false → t.engineDown e = false →
      exec (.integrationDone e) s = .next (t.engineUp e).flushSinks.settle) ∧
    (s.readCode a p R.CAN_STATUS.off = .ok → s.get m R.CAN_ERR_TEC = 0 → s.get m R.CAN_ERR_REC = 0 → (s.eng e).quiet = false →
      (s.eng e).pend = [] → (s.eng e).raw = none →
      exec (.canStatusRead a e) s =
        .next ((((((s.put m R.CAN_STATUS_LEC 7).put m R.CAN_STATUS_DLEC 7).clrF m R.CAN_STATUS_ERR_WARN).clrF m
          R.CAN_STATUS_PEX).clrF m R.CAN_STATUS_TDC_ERR).reply a p R.CAN_STATUS.off
            (BitVec.ofNat 32 (bitsPut (s.rd m R.CAN_STATUS.off).toNat 6 1 0)) .ok).flushSinks.settle)

/-- R221, R235, R344 to R349: inputs. -/
def Obligations.FieldInputs : Prop :=
  ∀ (s : State) (a : Agent) (i : Fin 64) (level inv : Bool) (at_ : BitVec 64) (d : Fin 16384) (key : BitVec 18),
    let p := Pg.fin
    let flt := State.pairFld R.FIN_FAULT_LO i
    (s.die.up = true →
      ((s.fin i).ball ≠ level → s.finDown i = false →
        let ts := s.finStamp at_.toNat
        let l := level != s.on Pg.finCfg (R.FIN_CFG_INV i)
        let t := (((((s.modFin i fun x => { x with ball := level }).putB p (R.FIN_STAT_RAW i) level).count p
          (R.FIN_STAT_EDGES i)).putB p (State.pairFld R.FIN_STATE_LO i) l).putB p (R.FIN_STAT_LEVEL i) l).putB p
            (R.FIN_STAT_TS_INVALID i) (!s.timeValid)
        let u := t.modFin i fun x => { x with hist := (ts, l) :: x.hist.take 4, last := ts }
        (s.finEntry i = none → exec (.fieldInputAccept i level at_) s = .next u.flushSinks.settle) ∧
        (∀ j, s.finEntry i = some j →
          exec (.fieldInputAccept i level at_) s =
            .next (u.sourceUpdate j [BitVec.ofNat 8 (b2n l)] true ts).flushSinks.settle)) ∧
      (s.finEntry i = none →
        (s.on Pg.finCfg (R.FIN_CFG_WB_EN i) = true →
          exec (.wireBreak i true) s =
            .next (((((s.modFin i fun x => { x with wireBreak := true }).setF p (R.FIN_STAT_WIRE_BREAK i)).setF p
              flt).event p E.P025_INPUT_FAULT).raise p K.WIRE_BREAK i).flushSinks.settle) ∧
        exec (.inputOvervolt i true) s =
          .next (((((s.modFin i fun x => { x with overvolt := true }).setF p (R.FIN_STAT_OVERVOLT i)).setF p
            flt).event p E.P025_INPUT_FAULT).raise p K.INPUT_OVERVOLT i).flushSinks.settle) ∧
      exec (.inputOvervolt i false) s = .next (s.modFin i fun x => { x with overvolt := false }).flushSinks.settle) ∧
    (s.writeCode a Pg.finCfg (0x800 + 4 * i.val) = .ok → s.on Pg.finCfg (R.FIN_CFG_INV i) = inv →
      exec (.finInvWrite a i inv) s =
        .next (s.storeWrite Pg.finCfg (0x800 + 4 * i.val) (s.withField Pg.finCfg (R.FIN_CFG_INV i) (b2n
          inv))).flushSinks.settle) ∧
    (s.writeCode a p (R.FIN_FAULT_LO.off + 4 * (i.val / 32)) = .ok → s.finDown i = true →
      (s.finCause i = true → exec (.finFaultClear a i) s = .next (s.event p E.P025_CLEAR_REFUSED).flushSinks.settle) ∧
      (s.finCause i = false → s.finEntry i = none → (∀ n < 128, s.actValid n = false) →
        exec (.finFaultClear a i) s =
          .next ((((s.clrF p flt).clrF p (R.FIN_STAT_WIRE_BREAK i)).clrF p (R.FIN_STAT_OVERVOLT i)).clrF p
            (R.FIN_STAT_GROUP_OFF i)).flushSinks.settle)) ∧
    (s.domainOn 4 = true → s.subscribes d = true → (s.mir d).got = true → bitsOf (s.dirW d 1) 12 4 ≠ 0 →
      exec (.freshnessTimeout d) s = .next (s.mirChange d false fun m => { m with stale := true }).flushSinks.settle) ∧
    (∀ x, s.sig.armed.find? (·.key == key.toNat) = some x →
      (s.timeValid = false →
        exec (.latchFire key at_) s =
          .next ((s.disarm key.toNat).latchMissed key.toNat x.time 1).flushSinks.settle) ∧
      (s.timeValid = true → s.domainOn 4 = true → (s.dirRole 1).filter (fun j => dLatchEn (s.dirW j 0)) = [] →
        exec (.latchFire key at_) s =
          .next (((((s.disarm key.toNat).modSig fun g => { g with fired := g.fired ++
            [{ key := key.toNat, time := x.time, invalid := false, samples := [] }] }).count Pg.latch
              R.CNT_LATCH_FIRED).wr Pg.latch R.LATCH_LAST.off (BitVec.ofNat 32 (2 ^ 31 + key.toNat))).event Pg.latch
                E.P073_LATCH_FIRED).flushSinks.settle)) ∧
    (∀ x q, s.sig.fired = [x] → x.key = key.toNat → x.samples = [q] → q.field = true →
      (s.fin (s.unitOf q.index)).hist = [] →
      let v : List Byte := [BitVec.ofNat 8 (b2n (s.finLevel (s.unitOf q.index)))]
      let r := { q with field := false, version := (s.mir q.index).version, value := v }
      exec (.fieldLatchEvaluate key) s =
        .next (s.modSig fun g => { g with fired := [{ x with samples := [r] }] }).flushSinks.settle)

/-- R350 to R356: outputs. -/
def Obligations.FieldOutputs : Prop :=
  ∀ (s : State) (a : Agent) (o : Fin 32) (v : Word) (lim : Bool) (cur : List (BitVec 12)),
    let p := Pg.fout
    let latched (t : State) (flag cnt : Fld) (kind : Nat) : State :=
      (((((((t.setF p flag).setF p ⟨R.FOUT_FAULT.off, o, 1⟩).clrF p (R.FOUT_STAT_IN_LIMIT o)).count p cnt).event p
        E.P027_OUTPUT_FAULT).raise p kind o).outDrive o)
    (s.writeCode a Pg.foutCfg R.FOUT_SET.off = .ok →
      exec (.foutSetWrite a v) s =
        .next ((List.range 32).foldl State.outDrive (s.storeWrite Pg.foutCfg R.FOUT_SET.off v)).flushSinks.settle) ∧
    (s.writeCode a p R.FOUT_FAULT.off = .ok → s.outLatched o = true →
      (s.foutCause o = true → exec (.foutFaultClear a o) s = .next (s.event p E.P027_CLEAR_REFUSED).flushSinks.settle) ∧
      (s.foutCause o = false → (∀ n < 128, s.actValid n = false) →
        exec (.foutFaultClear a o) s =
          .next (((((s.clrF p ⟨R.FOUT_FAULT.off, o, 1⟩).clrF p (R.FOUT_STAT_OVERCURRENT o)).clrF p
            (R.FOUT_STAT_THERMAL o)).clrF p (R.FOUT_STAT_SHED o)).outDrive o).flushSinks.settle)) ∧
    (s.die.up = true →
      (s.on p (R.FOUT_STAT_ON o) = true →
        exec (.outputCurrentLimit o lim) s = .next (s.putB p (R.FOUT_STAT_IN_LIMIT o) lim).flushSinks.settle ∧
        exec (.outputShort o) s =
          .next (latched s (R.FOUT_STAT_OVERCURRENT o) R.CNT_FOUT_OVERCURRENT K.OUTPUT_OVERCURRENT).flushSinks.settle) ∧
      (s.on p (R.FOUT_STAT_IN_LIMIT o) = true →
        exec (.outputLimitExpiry o) s =
          .next (latched s (R.FOUT_STAT_OVERCURRENT o) R.CNT_FOUT_OVERCURRENT K.OUTPUT_OVERCURRENT).flushSinks.settle) ∧
      exec (.outputThermal o true) s =
        .next (latched (s.modFout o fun x => { x with hot := true }) (R.FOUT_STAT_THERMAL o) R.CNT_FOUT_OVERCURRENT
          K.OUTPUT_THERMAL).flushSinks.settle ∧
      ( let t := s.foutMeasure cur
        (t.get p R.FOUT_AGG_MA ≤ 6000 →
          exec (.aggregateShed cur) s =
            .next { t with field := { t.field with shedding := false } }.flushSinks.settle) ∧
        (∀ x, 6000 < t.get p R.FOUT_AGG_MA → t.shedNext = some x →
          let u := latched t (R.FOUT_STAT_SHED x) R.CNT_FOUT_SHED K.OUTPUT_SHED
          x = o.val →
          exec (.aggregateShed cur) s =
            .next { u with field := { u.field with shedding := decide (5500 < u.get p R.FOUT_AGG_MA -
              u.get p (R.FOUT_STAT_CURRENT x)) } }.flushSinks.settle) ∧
        (s.field.shedding = false → exec (.shedNext cur) s = .next t.flushSinks.settle) ∧
        (s.field.shedding = true → t.get p R.FOUT_AGG_MA ≤ 5500 →
          exec (.shedNext cur) s =
            .next { t with field := { t.field with shedding := false } }.flushSinks.settle)) ∧
      (s.branchOn (o / 4) = true →
        (s.on Pg.foutCfg (R.FOUT_CFG_OL_ON_EN o) = true → s.on p (R.FOUT_STAT_ON o) = true →
          s.on p (R.FOUT_STAT_OPEN_ON o) = false →
          exec (.openOn o) s =
            .next ((((s.setF p (R.FOUT_STAT_OPEN_ON o)).setF p ⟨R.FOUT_OPEN.off, o, 1⟩).event p
              E.P027_OPEN_LOAD).raise p K.OPEN_ON o).flushSinks.settle) ∧
        (s.on Pg.foutCfg (R.FOUT_CFG_OL_OFF_EN o) = true → s.on p (R.FOUT_STAT_ON o) = false →
          s.on p (R.FOUT_STAT_OPEN_OFF o) = false →
          exec (.openOff o) s =
            .next ((((s.setF p (R.FOUT_STAT_OPEN_OFF o)).setF p ⟨R.FOUT_OPEN.off, o, 1⟩).event p
              E.P027_OPEN_LOAD).raise p K.OPEN_OFF o).flushSinks.settle)) ∧
      (s.on p (R.FOUT_STAT_OPEN_OFF o) = false →
        exec (.openLoadEnd o false) s =
          .next ((s.clrF p (R.FOUT_STAT_OPEN_ON o)).clrF p ⟨R.FOUT_OPEN.off, o, 1⟩).flushSinks.settle))

/-- R362 to R367, R379 to R389: the clocks. -/
def Obligations.ClocksAndPulses : Prop :=
  ∀ (s : State) (a : Agent) (v term : Word) (u : Fin 32) (interval : BitVec 40),
    let p := Pg.prime
    let w (n : Nat) : Word := BitVec.ofNat 32 n
    (s.writeCode a p (R.P_FREQ 0).off = .ok →
      (s.servoHolds = true → exec (.pFreqWrite a 0 v) s = .next s.flushSinks.settle) ∧
      (s.servoHolds = false →
        exec (.pFreqWrite a 0 v) s = .next (s.storeWrite p (R.P_FREQ 0).off v).flushSinks.settle)) ∧
    (s.writeCode a p (R.P_FREQ 1).off = .ok →
      exec (.pFreqWrite a 1 v) s = .next (s.storeWrite p (R.P_FREQ 1).off v).flushSinks.settle) ∧
    (s.writeCode a p (R.P_ADJ 1).off = .ok →
      exec (.pAdjWrite a 1 v) s =
        .next ((s.put p (R.P_ADJ_REMAIN 1) v.toNat).modPrime 1 fun x => { x with adjTicks := 0 }).flushSinks.settle) ∧
    (s.writeCode a p (R.P_ADJ 0).off = .ok → s.servoHolds = true →
      exec (.pAdjWrite a 0 v) s = .next s.flushSinks.settle) ∧
    (s.writeCode a p (R.P_CMD 0).off = .ok →
      (3 ≤ s.servo → exec (.set a 0) s = .next (s.event p E.P019_SET_REFUSED).flushSinks.settle) ∧
      (s.servo < 3 → s.isGm = false → s.get p R.PPS_OUT_CFG_SRC ≠ 0 →
        exec (.set a 0) s =
          .next { s with prime0 := { s.prime0 with
            sec := s.get p (R.P_SET_SEC_LO 0) + 2 ^ 32 * (s.get p (R.P_SET_SEC_HI 0) % 2 ^ 16)
            ns := Nat.min 999999999 (s.get p (R.P_SET_NS 0) % 2 ^ 30), frac := 0 } }.flushSinks.settle)) ∧
    (s.writeCode a p (R.P_CMD 1).off = .ok → s.on p R.EXT_STATUS_PPS_OK = true →
      exec (.set a 1) s = .next { s with prime1 := { s.prime1 with setWait := true } }.flushSinks.settle) ∧
    (s.domainOn 1 = true →
      exec .unitStrobe s =
        .next ((List.range 15).foldl (fun t u => (t.unitStrobe u).draw) s).flushSinks.settle ∧
      (s.on p R.EXT_CFG_EXT_EN = false → s.time.ppsRun = 1 → 999999000 ≤ interval.toNat → interval.toNat ≤ 1000001000 →
        exec (.ppsEdge (some interval)) s =
          .next (((s.modTime fun t => { t with ppsRun := 2 }).setF p R.EXT_STATUS_PPS_OK).put p R.PPS_LAST_ERR
            (ofSigned 32 (s.ppsError / 2 ^ 32))).flushSinks.settle) ∧
      (s.on p R.EXT_CFG_EXT_EN = false → s.on p R.EXT_STATUS_PPS_OK = true → s.on p R.EXT_STATUS_P1_LOCKED = false →
        exec .ppsAbsentTimeout s =
          .next ((((s.modTime fun t => { t with ppsRun := 0 }).clrF p R.EXT_STATUS_PPS_OK).event p
            E.P019_PPS_LOST).clrF p R.EXT_STATUS_P1_LOCKED).flushSinks.settle) ∧
      (s.on p R.EXT_CFG_EXT_EN = false → s.on p R.EXT_STATUS_P1_LOCKED = false →
        exec (.ref10Change true term) s =
          .next (((s.setF p R.EXT_STATUS_REF10_OK).put p (R.P_SYNT_FREQ 1) term.toNat).clrF p
            R.EXT_STATUS_P1_LOCKED).flushSinks.settle) ∧
      (s.on p R.PPS_OUT_CFG_EN = true → s.time.ppsHigh = false →
        exec .ppsOutStart s =
          .next ((s.modTime fun t => { t with ppsHigh := true }).emit (.level p 1)).flushSinks.settle) ∧
      (s.time.ppsHigh = true →
        exec .ppsOutEnd s =
          .next ((s.modTime fun t => { t with ppsHigh := false }).emit (.level p 0)).flushSinks.settle)) ∧
    (s.writeCode a Pg.time R.TIME_CMD.off = .ok →
      (u < 15 →
        let q := Pg.time
        let p1 := (s.prime1.sec * 1000000000 + s.prime1.ns) % 2 ^ 64
        exec (.timeSnap a u) s =
          .next ((((((s.wr q R.SNAP_P0_LO.off (w s.now)).wr q R.SNAP_P0_HI.off (w (s.now / 2 ^ 32))).wr q
            R.SNAP_P1_LO.off (w p1)).wr q R.SNAP_P1_HI.off (w (p1 / 2 ^ 32))).wr q R.SNAP_UNIT_LO.off
              (w (s.unitTime u))).wr q R.SNAP_UNIT_HI.off (w (s.unitTime u / 2 ^ 32))).flushSinks.settle) ∧
      exec (.txtsFlush a) s = .next (s.modTime fun t => { t with txts := [] }).flushSinks.settle) ∧
    (s.readCode a Pg.ptp R.MEAS_POP.off = .ok →
      (s.time.meas = [] → exec (.measPop a) s = .next (s.reply a Pg.ptp R.MEAS_POP.off 0 .ok).flushSinks.settle) ∧
      (∀ m l, s.time.meas = m :: l →
        exec (.measPop a) s =
          .next (((((s.modTime fun x => { x with meas := l }).put Pg.ptp R.MEAS_OFFSET
            (ofSigned 32 (max (-(2 ^ 31)) (min (2 ^ 31 - 1) m.offset)))).put Pg.ptp R.MEAS_TIME_LO (m.at_ % 2 ^ 32)).put
              Pg.ptp R.MEAS_TIME_HI (m.at_ / 2 ^ 32 % 2 ^ 32)).reply a Pg.ptp R.MEAS_POP.off
                (w (m.seq + m.path * 2 ^ 16 + b2n m.stitch * 2 ^ 18 + m.transits * 2 ^ 20 + 2 ^ 31))
                .ok).flushSinks.settle)) ∧
    (s.readCode a Pg.units R.TXTS_POP.off = .ok →
      (s.time.txts = [] → exec (.txtsPop a) s = .next (s.reply a Pg.units R.TXTS_POP.off 0 .ok).flushSinks.settle) ∧
      (∀ x l, s.time.txts = x :: l →
        exec (.txtsPop a) s =
          .next ((((s.modTime fun y => { y with txts := l }).put Pg.units R.TXTS_LO (x.ts % 2 ^ 32)).put Pg.units
            R.TXTS_HI (x.ts / 2 ^ 32 % 2 ^ 32)).reply a Pg.units R.TXTS_POP.off
              (w (x.ident + b2n x.invalid * 2 ^ 8 + x.source * 2 ^ 16 + 2 ^ 31)) .ok).flushSinks.settle)) ∧
    (s.writeCode a Pg.units R.TXTS_STATUS.off = .ok →
      (s.time.txts.length < 32 →
        exec (.txtsOverflowClear a) s = .next (s.storeWrite Pg.units R.TXTS_STATUS.off 0x100).flushSinks.settle) ∧
      (32 ≤ s.time.txts.length → exec (.txtsOverflowClear a) s = .next s.flushSinks.settle))

/-- R369 to R378, R382: PTP and the servo. -/
def Obligations.PtpAndServo : Prop :=
  ∀ (s : State) (k : LinkId) (m : List Byte) (t1 t4 : BitVec 80) (turn res : BitVec 64) (ratio : Word),
    let bad := (s.count Pg.ptp R.CNT_PTP_ERR_MESSAGES).event Pg.ptp E.P01A_PTP_ERR
    s.timeOn = true →
    (s.linkActive k = true →
      exec (.pdelayReqSend k t1) s =
        .next (((s.ptpOut k 2 (s.ptpMessage 2 k 0 0 0 s.time.seqPdelay s.logPdelay (List.replicate 20 0))).modTime fun x =>
          { x with seqPdelay := (s.time.seqPdelay + 1) % 65536 }).modPort k fun x =>
            { x with asked := some (s.time.seqPdelay, t1.toNat) }).flushSinks.settle ∧
      (s.domainOn 1 = true → s.time.selPort ≠ some k.val →
        exec (.rateRatioMeasurement k ratio) s =
          .next ((s.wr Pg.ptp (R.RATE_RATIO k).off ratio).modPort k fun x =>
            { x with ratioAt := some s.ns }).flushSinks.settle)) ∧
    (s.ptpGood 2 m = false → exec (.pdelayReq k m turn) s = .next bad.flushSinks.settle) ∧
    (s.ptpGood 2 m = true →
      exec (.pdelayReq k m turn) s =
        .next (s.ptpOut k 3 (s.ptpMessage 3 k 0 (signedOf 64 turn.toNat) (ofSigned 32 s.rateDev) (State.mSeq m) s.logPdelay
          (List.replicate 10 0 ++ bytesAt m 20 10))).flushSinks.settle) ∧
    (s.ptpGood 3 m = true → (s.ptpPort k).asked = some (State.mSeq m, t1.toNat) → beNat (bytesAt m 44 8) = s.uid →
      beNat (bytesAt m 52 2) = k + 1 →
      let loops := (((t4.toNat : Int) - t1.toNat - State.mCorr m) :: (s.ptpPort k).loops).take (2 ^ s.avgLog)
      let dev := some (signedOf 32 (State.mSpecific m))
      exec (.pdelayResp k m t4) s =
        .next (((s.modPort k fun x => { x with loops := loops, asked := none, misses := 0, rateDev := dev }).put Pg.ptp
          (R.LINK_DELAY k) (ofSigned 32 (roundFree loops.sum (2 * loops.length)))).setF Pg.ptp
            (R.PORT_STATUS_PDELAY_OK k)).flushSinks.settle) ∧
    ((s.ptpPort k).asked.isSome = true →
      ( let t := (s.count Pg.ptp R.CNT_PTP_ERR_PDELAY).modPort k fun x => { x with asked := none, misses := Nat.min 3 (x.misses + 1) }
        (2 ≤ (s.ptpPort k).misses → s.on Pg.ptp (R.PORT_STATUS_PDELAY_OK k) = true →
          exec (.pdelayAnswerTimeout k) s =
            .next ((t.clrF Pg.ptp (R.PORT_STATUS_PDELAY_OK k)).event Pg.ptp E.P01A_PDELAY_LOST).flushSinks.settle) ∧
        ((s.ptpPort k).misses < 2 → exec (.pdelayAnswerTimeout k) s = .next t.flushSinks.settle))) ∧
    (s.servo = 2 → s.ptpPorts = [] →
      exec .syncSend s =
        .next (s.modTime fun x => { x with seqSync := (x.seqSync + 1) % 65536 }).flushSinks.settle) ∧
    (s.ptpGood 0 m = true → s.ptpForward k m = none →
      ( let t := s.modPort k fun x => { x with syncAt := some s.ns }
        (State.mClock m = s.uid → exec (.sync k m t4 res) s = .next t.flushSinks.settle) ∧
        (State.mClock m ≠ s.uid → s.time.usedSeq ≠ some (State.mClock m, State.mSeq m) → s.stitchOnly = none →
          s.on Pg.ptp (R.PORT_STATUS_PDELAY_OK k) = true →
          exec (.sync k m t4 res) s =
            .next (t.modTime fun x => { x with copies := x.copies ++ [{ port := k, msg := m, at_ := t4.toNat }] }).flushSinks.settle))) ∧
    (∀ c, s.time.copies = [c] → s.betterGm = none → State.mClock c.msg ≠ s.uid →
      exec (.syncWaitExpiry res) s = .next (s.modTime fun x => { x with copies := [] }).flushSinks.settle) ∧
    (∀ c d, s.time.copies = [c] → s.betterGm = some d → State.mClock c.msg = d.ident → s.servo = 1 → c.port < 4 →
      s.on Pg.time R.TIME_CFG_SYNT_EN = false → s.ptpStitch c.port = [] →
      let n := Nat.min 1023 (State.mSpecific c.msg)
      let used := some (State.mClock c.msg, State.mSeq c.msg)
      let t := (((s.modTime fun x => { x with copies := [], usedSeq := used, selPort := some c.port }).put Pg.time
        R.TIME_STATUS_PATH (State.pathOf c.port)).clrF Pg.time R.TIME_STATUS_VIA_STITCH).put Pg.time R.TIME_STATUS_PATH_TRANSITS n
      exec (.syncWaitExpiry res) s =
        .next (((t.count Pg.ptp R.CNT_SYNC_SYNC).measPush
          { seq := State.mSeq c.msg, path := State.pathOf c.port, stitch := false, transits := n, offset := s.offsetOf c
            at_ := c.at_ / 2 ^ 16 }).servoTo 3).flushSinks.settle) ∧
    (s.on Pg.time R.TIME_CFG_GM_CAPABLE = true →
      (s.ptpPorts = [] →
        exec .announceSend s =
          .next (s.modTime fun x => { x with seqAnn := (x.seqAnn + 1) % 65536 }).flushSinks.settle) ∧
      (s.servo = 1 ∨ s.servo = 5 →
        let keep (d : GmData) : Bool := decide (State.GmData.rank s.ownData ≤ State.GmData.rank d)
        exec .announceTimeout s = .next (s.modTime fun x => { x with anns := x.anns.filter keep }).becomeGm.flushSinks.settle)) ∧
    (s.ptpGood 0xB m = true → s.ptpForward k m = none → (s.annData m).ident = s.uid → k = 0 ∨ k = 3 →
      exec (.ptpAnnounce k m) s = .next s.flushSinks.settle) ∧
    (s.ptpGood 0xB m = true → s.ptpForward k m = none → (s.annData m).ident ≠ s.uid → 3 ≤ k.val → s.freshAnns = [] →
      exec (.ptpAnnounce k m) s =
        .next (s.modTime fun x => { x with anns := [s.annData m] }).compareGm.flushSinks.settle) ∧
    (s.servo = 4 → exec .syncLossTimeout s = .next (s.servoTo 5).flushSinks.settle) ∧
    (s.servo = 5 →
      (s.timeValid = true →
        exec .holdoverExpiry s =
          .next ((((((s.servoTo 1).clrF Pg.time R.TIME_STATUS_TIME_VALID).event Pg.time E.P018_TIME_VALID_CHANGED).count
            Pg.time R.CNT_HOLDOVER_TIME_VALID).raise Pg.time K.TIME_VALID_LOST 1)).flushSinks.settle) ∧
      (s.timeValid = false → exec .holdoverExpiry s = .next (s.servoTo 1).flushSinks.settle))

/-- R409 to R413, R426 to R433: the device and its hub. -/
def Obligations.UsbDevice : Prop :=
  ∀ (s : State) (a : Agent) (q : Fin 3) (k : Fin 4) (on chirps wake : Bool) (speed : Option (Fin 3)) (adr : BitVec 7)
    (frame : BitVec 11) (rate : Word) (rest : BitVec 24),
    let p := Pg.usb
    let h := Pg.usbHub
    let w (n : Nat) : Word := BitVec.ofNat 32 n
    (s.domainOn 3 = true →
      (s.on p R.PAGE_CTRL_ENABLE = true → s.usb.apart = false → s.usb.pull = false →
        exec .usbAttach s =
          .next ((s.modUsb fun u => { u with vbus := true, pull := true }).emit (.level p 1)).flushSinks.settle ∧
        (s.usb.vbus = true →
          exec .disconnectEnd s = .next ((s.modUsb fun u => { u with pull := true }).emit (.level p 1)).flushSinks.settle)) ∧
      (s.usb.pull = true → s.writeCode a p R.USB_CMD.off = .ok →
        exec (.disconnect a) s =
          .next (((s.modUsb fun u => { u with apart := true, pull := false }).emit (.level p 0)).put p R.USB_STATUS_SPEED
            0).usbLost.flushSinks.settle) ∧
      (s.usb.pull = true →
        exec (.busReset (.bus chirps)) s =
          .next ((((s.usbLost.modUsb fun u => { u with resets := satAdd 16 u.resets 1 }).put p R.USB_STATUS_SPEED
            (if s.on p R.USB_CFG_HS_EN && chirps then 2 else 1)).count p R.CNT_USB_RESET_BUS).event p
              E.P034_BUS_RESET).flushSinks.settle ∧
        (s.on p R.USB_STATUS_SUSPENDED = false →
          exec .usbSuspend s =
            .next ((((s.setF p R.USB_STATUS_SUSPENDED).clrF p R.USB_STATUS_L1).count p R.CNT_USB_PM_SUSPENDS).event p
              E.P034_SUSPEND).flushSinks.settle) ∧
        (s.usbAwake = true →
          (s.on p R.USB_CFG_L1_ALLOWED = false → exec (.lpm wake) s = .next (s.emit (.bytes p 5 [1])).flushSinks.settle) ∧
          (s.on p R.USB_CFG_L1_ALLOWED = true → s.usb.nakCmd = none → s.usb.nakResult = none → s.conHasIn = false →
            exec (.lpm wake) s =
              .next ((((s.emit (.bytes p 5 [0])).setF p R.USB_STATUS_L1).count p R.CNT_USB_PM_L1).modUsb fun u =>
                { u with l1Wake := wake }).flushSinks.settle) ∧
          (s.on p R.SOF_FRAME_VALID = false → s.on p R.SOF_CAP_CFG_EN = false →
            exec (.sof frame) s =
              .next ((s.wr p R.SOF_FRAME.off (w (frame.toNat + 2 ^ 31))).modUsb fun u =>
                { u with sofTs := s.unitTime 14 }).flushSinks.settle) ∧
          (on = false →
            exec (.setConfiguration adr on) s =
              .next ((s.put p R.USB_STATUS_ADDRESS adr.toNat).clrF p R.USB_STATUS_CONFIGURED).flushSinks.settle)) ∧
        (s.on p R.USB_STATUS_SUSPENDED = true → s.on p R.USB_STATUS_REMOTE_WAKE_EN = true → s.on p R.USB_STATUS_L1 = false →
          s.wakeCause = true → s.usb.wakes = none → s.usb.spent = false →
          exec .remoteWake s =
            .next ((s.emit (.bytes p 4 (leBytes 2 (1000 * Nat.max 1 (s.get p R.USB_CFG_WAKE_K_MS))))).modUsb fun u =>
              { u with wakes := some 0 }).flushSinks.settle)) ∧
      (s.usbAwake = false →
        (s.usb.wakes = none → s.usb.note.st ≠ 1 →
          exec .usbResume s =
            .next ((((s.clrF p R.USB_STATUS_SUSPENDED).clrF p R.USB_STATUS_L1).event p E.P034_RESUME).modUsb fun u =>
              { u with wakes := none, spent := false, l1Wake := false }).flushSinks.settle) ∧
        (∀ n, s.usb.wakes = some n → s.get p R.USB_CFG_WAKE_RETRIES ≤ n →
          exec .wakeRetry s =
            .next ((s.count p R.CNT_WAKE_WAKE_IGNORED).modUsb fun u =>
              { u with wakes := none, spent := true }).flushSinks.settle)) ∧
      exec (.usbOvercurrent q) s =
        .next (((((s.modUsbPort q fun x => { x with power := false }).setF h (State.portFld q 4 1)).count h
          R.CNT_HUB_OVER).event h E.P036_USB_OVERCURRENT).raise h K.USB_OVERCURRENT (q + 2)).portsShow.flushSinks.settle ∧
      exec (.usbPortConnectChange q speed) s =
        .next ((s.modUsbPort q fun x => { x with dev := speed.map (·.val) }).portShow q).flushSinks.settle) ∧
    (s.usbConfigured = true →
      exec (.setPortPower q false) s =
        .next (s.modUsbPort q fun x => { x with power := false }).portsShow.flushSinks.settle ∧
      exec (.setLineCoding k rate rest) s =
        .next ((s.wr Pg.mgmt (R.CON_LINE k).off rate).modUsb fun u =>
          { u with coding := u.coding.setIfInBounds k rest.toNat }).flushSinks.settle ∧
      (s.usbAwake = true →
        exec (.deviceRemoteWakeup on) s = .next (s.putB p R.USB_STATUS_REMOTE_WAKE_EN on).flushSinks.settle ∧
        exec .sofMissed s =
          .next ((s.count p R.CNT_USB_RESET_SOF_MISSED).event p E.P034_SOF_MISSED).flushSinks.settle)) ∧
    (s.readCode a p R.SOF_CAP_POP.off = .ok → ∀ f t l, s.usb.caps = (f, t) :: l →
      exec (.sofCapPop a) s =
        .next ((((s.modUsb fun u => { u with caps := l }).put p R.SOF_CAP_TS_LO (t % 2 ^ 32)).put p R.SOF_CAP_TS_HI
          (t / 2 ^ 32 % 2 ^ 32)).reply a p R.SOF_CAP_POP.off (w (f + 2 ^ 31)) .ok).flushSinks.settle)

/-- R415 to R425: the management function. -/
def Obligations.ManagementFunction : Prop :=
  ∀ (s : State) (a : Agent) (d : List Byte) (c : MfCmd) (l : List MfCmd) (k : Fin 4) (wl : BitVec 16),
    let p := Pg.usb
    let m := Pg.mgmt
    let w (n : Nat) : Word := BitVec.ofNat 32 n
    (s.usbConfigured = true → s.usbAwake = true → s.usb.nakCmd = none → s.usb.nakResult = none →
      (d.length < 16 → exec (.cmd 0 d) s = .next (s.emit (.bytes p 1 [])).flushSinks.settle) ∧
      (16 ≤ d.length → d.length ≤ 1024 →
        (s.mgmtReady = false →
          exec (.cmd 0 d) s = .next (s.modUsb fun u => { u with nakCmd := some d }).flushSinks.settle) ∧
        (s.mgmtReady = true → s.usb.queue.length < 8 →
          (State.parseCmd d = none →
            exec (.cmd 0 d) s =
              .next (((s.emit (.bytes p 1 [])).count m R.CNT_MF_COMMANDS_16).event m E.P035_CMD_REFUSED).flushSinks.settle) ∧
          (State.parseCmd d = some c → s.seqFollows c.seq = true → s.usb.results = [] →
            exec (.cmd 0 d) s =
              .next (((s.modUsb fun u => { u with results := [{ slot := 0, seq := c.seq, st := 1, outcome := 0 }], queue := u.queue ++ [c],
                                                  lastSeq := some c.seq }).wr m R.MF_LAST_ACCEPTED.off (w c.seq)).emit
                (.bytes p 2 [])).flushSinks.settle))) ∧
      exec (.info 0 16) s =
        .next (s.emit (.bytes p 0 ([BitVec.ofNat 8 (b2n s.mgmtReady + 2 * b2n (s.on p R.USB_STATUS_REMOTE_WAKE_EN) +
            4 * b2n (s.on p R.USB_CFG_L1_ALLOWED)), BitVec.ofNat 8 s.usb.queue.length] ++ leBytes 2 s.usb.resets ++
          leBytes 4 (s.rd m R.MF_LAST_ACCEPTED.off).toNat ++ leBytes 4 (s.rd m R.MF_LAST_DONE.off).toNat ++
          leBytes 4 s.uptime))).flushSinks.settle ∧
      (s.mgmtReady = true →
        (16 ≤ wl.toNat → wl.toNat ≤ 1024 → s.usb.results = [] →
          exec (.resultRequest 0 7 wl) s =
            .next (s.emit (.bytes p 0 (leBytes 2 7 ++ List.replicate 14 0))).flushSinks.settle) ∧
        (s.usb.run.isSome = true →
          exec (.evtAck 0) s =
            .next ((s.emit (.bytes p 2 [])).modUsb fun u => { u with ackWait := true }).flushSinks.settle))) ∧
    (s.usb.nakCmd = some d →
      exec (.cmdNakTimeout false) s =
        .next ((((s.modUsb fun u => { u with nakCmd := none }).emit (.bytes p 1 [])).count m R.CNT_MF_COMMANDS_16).event m
          E.P035_CMD_REFUSED).flushSinks.settle) ∧
    (s.usb.queue = c :: l → s.usb.run = none → s.domainOn 3 = true → s.mgmtReady = true → s.usb.nakCmd = none →
      c.op ≠ 3 → addrHub c.addr / 4 = 255 →
      exec .mgmtCommandExecute s =
        .next (s.modUsb fun u => { u with queue := l, run := some c, parts := [some (Code.unsupported.num, 0, [])]
                                          results := u.results.map fun e =>
          if e.seq = c.seq then { e with st := 2 } else e }).flushSinks.settle) ∧
    (∀ x, s.usb.run = some c → s.mgmtReady = true → s.usb.parts = [some (0, 0, x)] → s.usb.nakResult = none →
      s.usb.ackWait = false → c.op = 1 →
      exec .mgmtCommandDone s =
        .next ((((s.modUsb fun u => { u with run := none, parts := [], results := u.results.map fun e => if e.seq = c.seq then
            { e with st := 3, outcome := 0, original := 0, data := x.take c.len, at_ := s.uptime } else e }).count m
              R.CNT_MF_COMMANDS).wr m R.MF_LAST_DONE.off (w c.seq)).event m E.P035_CMD_DONE).flushSinks.settle) ∧
    (s.writeCode a m R.MF_CMD.off = .ok →
      exec (.resultsClear a) s = .next (s.modUsb fun u => { u with results := [] }).flushSinks.settle) ∧
    (s.usb.note.st = 1 → s.usbConfigured = false →
      exec .usbNotifyTimer s =
        .next (s.modUsb fun u => { u with note := { st := 1, timer := true } }).flushSinks.settle) ∧
    (s.conOn k = true →
      (s.get p R.USB_STATUS_SPEED = 2 → d.length = 512 → s.usb.gather.getD k [] = [] →
        let u1 := s.conSend k (d.take 240)
        let u2 := u1.conSend k ((d.drop 240).take 240)
        exec (.consoleOutPacket k d) s =
          .next (u2.modUsb fun u => { u with gather := u.gather.setIfInBounds k (d.drop 480) }).flushSinks.settle) ∧
      exec (.conIdleExpiry k) s =
        .next ((s.conSend k (s.usb.gather.getD k [])).modUsb fun u => { u with gather := u.gather.setIfInBounds k [] }).flushSinks.settle ∧
      (∀ r, (s.eng (s.get m (R.CON_CFG_MAILBOX k))).rx = [r] →
        exec (.consoleInDrain k) s =
          .next (((s.modEng (s.get m (R.CON_CFG_MAILBOX k)) fun g => { g with rx := [], rxRead := 0 }).emit
            (.bytes m k (r.drop 12))).rawTakeAll (s.get m (R.CON_CFG_MAILBOX k))).flushSinks.settle))

/-- R394 to R406, R471: endpoint and vectors. -/
def Obligations.EndpointAndVectors : Prop :=
  ∀ (s : State) (a : Agent) (be : BitVec 4) (data : Word) (n : Fin 128) (v : Fin 64) (spd wid : BitVec 2) (rev : Bool)
    (inv : BitVec 4),
    let p := Pg.pcie
    let issued (t : State) : State :=
      let x (i : Nat) := (t.rd Pg.interrupts (0x800 + 16 * v.val + 4 * i)).toNat
      ((((t.emit (.msix v (x 0 + 2 ^ 32 * x 1) (x 2))).setPba v false).wrTime Pg.intTime (R.VEC_TS_LO v).off (R.VEC_TS_HI v).off
        (t.unitTime 13)).count Pg.interrupts R.CNT_MSIX).setVec v { st := 2 }
    let may : Prop := s.domainOn 2 = true ∧ s.msixEnable = true ∧ s.busMaster = true ∧ s.msixFuncMask = false ∧
      s.vecMasked v = false
    (s.hostUp = true →
      ((domainPages 2).all s.ready = false →
        exec (.pcieConfigRequest false 0 be data) s = .next (s.emit (.bytes p 1 [])).flushSinks.settle) ∧
      (s.pcie.flr = false → (domainPages 2).all s.ready = true →
        exec (.pcieConfigRequest false 0 be data) s =
          .next (s.emit (.bytes p 0 [0x3B, 0x1F, 0x80, 0x12])).flushSinks.settle)) ∧
    (s.domainOn 2 = true →
      (s.dlActive = false →
        exec (.pcieReset .perst) s = .next (s.pcieIslandReset true).flushSinks.settle ∧
        (s.on p R.PAGE_CTRL_ENABLE = true → s.on Pg.bringUp R.BRINGUP_STATUS_PCIE_REF_ABSENT = false →
          spd.toNat ≤ s.get p R.PCIE_CFG_MAX_SPEED → wid.toNat ≤ Nat.min 2 (s.get p R.PCIE_CFG_MAX_WIDTH) →
          (∀ x < 64, (s.vec x).st ≠ 1) →
          exec (.pcieLinkUp spd wid rev inv) s =
            .next (((((((s.put p R.PCIE_STATUS_LTSSM (Sys2Proof.Config.ltssm 1)).put p R.PCIE_STATUS_SPEED spd.toNat).put p
              R.PCIE_STATUS_WIDTH wid.toNat).setF p R.PCIE_STATUS_DL_ACTIVE).putB p R.PCIE_STATUS_LANES_REVERSED rev).put p
                R.PCIE_STATUS_LANES inv.toNat).event p E.P030_LINK_UP).flushSinks.settle)) ∧
      exec (.pcieReset .flrDone) s =
        .next { s with pcie := { s.pcie with flr := false } }.flushSinks.settle) ∧
    (s.writeCode a p R.PCIE_CMD.off = .ok → s.dlActive = true →
      exec (.retrainPcie a) s =
        .next ((s.count p R.PCIE_CNT_LINK_RECOVERY).put p R.PCIE_STATUS_LTSSM (Sys2Proof.Config.ltssm 2)).flushSinks.settle) ∧
    (s.routeWord n % 64 = v.val → s.sentTo 6 n = true → s.sentTo 9 n = false → (s.vec v).st = 0 →
      (s.vecDue v = false → (s.rd Pg.coalTable (4 * v.val)).toNat % 2 ^ 16 ≠ 0 →
        exec (.sourceLive n) s = .next (s.setVec v { st := 1 }).flushSinks.settle) ∧
      ((s.rd Pg.coalTable (4 * v.val)).toNat % 2 ^ 16 = 0 → may →
        exec (.sourceLive n) s = .next (issued (s.setVec v { st := 1 })).flushSinks.settle)) ∧
    ((s.vec v).st = 1 →
      (may →
        exec (.coalTimerExpiry v) s = .next (issued (s.setVec v { st := 1, timer := true })).flushSinks.settle) ∧
      (s.domainOn 2 = true → s.msixEnable = true → s.busMaster = true → s.vecMasked v = true →
        exec (.coalTimerExpiry v) s =
          .next ((s.setVec v { st := 1, timer := true }).setPba v true).flushSinks.settle)) ∧
    (s.writeCode a Pg.interrupts (0x80C + 16 * v.val) = .ok → (s.vec v).st ≠ 1 →
      exec (.msixUnmask (some v) a) s =
        .next (s.storeWrite Pg.interrupts (0x80C + 16 * v.val) 0).flushSinks.settle) ∧
    (s.writeCode a Pg.interrupts R.VEC_ACK0.off = .ok → (s.vec 5).st = 2 → s.liveCount 5 = 0 →
      exec (.vecAck a false 0x20) s = .next (s.setVec 5 {}).flushSinks.settle)

/-- R479 to R486: the store. -/
def Obligations.SeedStore : Prop :=
  ∀ (s : State) (a : Agent) (w : BitVec 10) (v : Word),
    let p := Pg.seed
    let k := regKey Pg.ralusk (4 * w.toNat)
    (s.seed.dirty = [k] → s.seed.adapted = [] → s.on p R.SEED_STATUS_JOURNALLING = true → s.seed.buf.length < 255 →
      exec (.adaptRecord Pg.ralusk w v) s =
        .next (s.modSeed fun x =>
          { x with buf := x.buf ++ [{ key := k, val := s.rd Pg.ralusk (4 * w.toNat), seq := x.seq }]
                   seq := (x.seq + 1) % 2 ^ 32, adapted := [(k, s.ns)], dirty := [] }).flushSinks.settle) ∧
    (s.on p R.SEED_STATUS_FROZEN = false → s.seed.commit = none → s.seed.buf ≠ [] →
      exec .commitTimer s =
        .next (s.modSeed fun x => { x with commit := some (x.buf.length, false) }).flushSinks.settle ∧
      (s.writeCode a p R.SEED_CMD.off = .ok →
        exec (.commit a) s =
          .next (s.modSeed fun x => { x with commit := some (x.buf.length, false) }).flushSinks.settle)) ∧
    (s.writeCode a p R.SEED_CMD.off = .ok →
      (s.on p R.SEED_STATUS_FROZEN = true →
        exec (.commit a) s = .next (s.event p E.P006_SEED_REFUSED).flushSinks.settle) ∧
      (s.compactHeld = false → s.bank s.otherBank = [] →
        exec (.compact a) s =
          .next (((s.put p R.SEED_STATUS_ACTIVE_BANK s.otherBank).setF p R.SEED_STATUS_COMPACTING).modSeed fun x =>
            { x with recompact := false }).flushSinks.settle) ∧
      (s.on p R.SEED_STATUS_FROZEN = false →
        let t := s.activate s.spareImage { valid := true, gen := s.nextGen, cells := s.liveCells, base := s.seed.seq }
        exec (.adopt a) s =
          .next (((t.setF p R.SEED_STATUS_JOURNALLING).clrF p R.SEED_STATUS_COMPACTING).modSeed fun x =>
            { x with bank0 := [], bank1 := [], buf := [], commit := none, again := false, recompact := false }).flushSinks.settle)) ∧
    (s.on p R.SEED_STATUS_COMPACTING = true → s.bank s.otherBank = [] → s.activeImage = none →
      let t := s.activate 0 { valid := true, gen := 1, cells := s.compactCells, base := s.seed.powerUpSeq }
      let u := t.setBank s.otherBank []
      exec .compactDone s =
        .next (((u.clrF p R.SEED_STATUS_COMPACTING).clrF p R.SEED_STATUS_RESYNC).count p R.CNT_COMPACT).flushSinks.settle)

/-- R434 to R448: the inlet. -/
def Obligations.InletController : Prop :=
  ∀ (s : State) (a : Agent) (v : Word) (lim : Bool) (cretry : BitVec 12) (lowest : BitVec 16),
    let p := Pg.inlet
    let st (t : State) (n : Nat) : State := t.put p R.HS_STATUS_STATE n
    let off (t : State) (cause : Nat) : State :=
      ((t.clrF p R.HS_STATUS_IN_LIMIT).clrF p R.HS_STATUS_TIMER_RUN).put p R.HS_STATUS_LAST_OFF_CAUSE cause
    let n := Nat.min 15 (s.get p R.HS_STATUS_RETRY_COUNT + 1)
    let latch := State.latches (s.get p R.HS_RETRY_RETRY_MODE) (s.get p R.HS_RETRY_RETRY_MAX) n
    (s.power.dieUp = false →
      exec .powerDieResetEntry s = .next s.flushSinks.settle ∧
      ( let t := s.dieWipe.modPower fun x => { x with dieUp := true, pfdNew := true }
        exec (.powerDieResetExit cretry) s =
          .next (st (((t.put p R.HS_START_CRETRY cretry.toNat).putB p R.HS_START_COOLDOWN_AT_START
            (decide (200 < cretry.toNat))).put p R.HS_STATUS_HS_RANGE Sys2Proof.Config.hsRange)
              (if 200 < cretry.toNat then 1 else 2)).flushSinks.settle)) ∧
    (s.power.dieUp = true →
      exec .inletWindowMet s = .next (s.setF p R.HS_STATUS_WINDOW_MET).flushSinks.settle ∧
      exec .hsCycleOffExpiry s = .next (s.modPower fun x => { x with holdOff := false }).flushSinks.settle ∧
      (s.hsState = 2 → s.on p R.HS_STATUS_WINDOW_MET = true → s.power.holdOff = false → s.pgood = false →
        exec .insertDelayExpiry s = .next ((st s 3).emit (.level p 1)).flushSinks.settle) ∧
      (s.hsState = 3 → s.pgood = false →
        exec .hsOutGood s = .next (st s 4).flushSinks.settle ∧
        exec .rampTimeout s =
          .next ((((st (off s 3) (if latch then 7 else 1)).put p R.HS_STATUS_RETRY_COUNT n).count p R.CNT_HS_FAULT).emit
            (.level p 0)).flushSinks.settle) ∧
      (s.hsState = 4 → s.pgood = false →
        (s.on p R.HS_STATUS_IN_LIMIT = false → s.on p R.HS_STATUS_TIMER_RUN = false →
          exec .pgCountDone s =
            .next (((st s 5).setF p R.HS_STATUS_PGOOD).emit (.level p 3)).flushSinks.settle) ∧
        (s.on p R.HS_STATUS_TIMER_RUN = true →
          exec .faultTimerExpiry s =
            .next ((((st (off s 1) (if latch then 7 else 1)).put p R.HS_STATUS_RETRY_COUNT n).count p R.CNT_HS_FAULT).emit
              (.level p 0)).flushSinks.settle) ∧
        exec .fastTrip s =
          .next (((((st (off s 2) (if latch then 7 else 1)).put p R.HS_STATUS_RETRY_COUNT n).count p R.CNT_HS_FAULT).count p
            R.CNT_HS_FAST).emit (.level p 0)).flushSinks.settle ∧
        exec (.windowLost .under) s =
          .next ((st (off (s.clrF p R.HS_STATUS_WINDOW_MET) 4) 2).emit (.level p 0)).flushSinks.settle) ∧
      (s.hsState = 5 → s.pgood = true →
        exec (.windowLost .over) s =
          .next ((((st (off (s.clrF p R.HS_STATUS_WINDOW_MET) 5) 6).count p R.CNT_HS2_HOLD).event p
            E.P020_HOLD_ENTERED).emit (.level p 2)).flushSinks.settle) ∧
      (s.hsGate = true →
        exec (.currentLimitEntry none lim) s =
          .next ((s.putB p R.HS_STATUS_IN_LIMIT lim).putB p R.HS_STATUS_TIMER_RUN lim).flushSinks.settle) ∧
      (s.hsState = 6 →
        (s.pgood = true →
          exec .holdRecover s = .next ((st (s.setF p R.HS_STATUS_WINDOW_MET) 3).emit (.level p 3)).flushSinks.settle) ∧
        (s.pgood = false → exec .holdOutLow s = .next (st s 2).flushSinks.settle)) ∧
      (s.hsState = 1 → exec .cooldownEnd s = .next (st s 2).flushSinks.settle) ∧
      (s.pgood = true → exec (.retryCountReset none) s = .next (s.put p R.HS_STATUS_RETRY_COUNT 0).flushSinks.settle) ∧
      (s.on p R.HS_STATUS_PFW_ACTIVE = false → s.die.up = false →
        exec .pfw s =
          .next (((s.setF p R.HS_STATUS_PFW_ACTIVE).event p E.P020_PFW).count p R.CNT_HS2_WARNINGS).flushSinks.settle) ∧
      (s.on p R.HS_STATUS_PFW_ACTIVE = true → s.on Pg.seed R.SEED_STATUS_FROZEN = false →
        exec (.pfwEnd lowest) s =
          .next (((s.clrF p R.HS_STATUS_PFW_ACTIVE).event p E.P020_PFW_END).wr p R.VIN_DIP_MIN.off
            (BitVec.ofNat 32 (2 ^ 31 + lowest.toNat))).flushSinks.settle)) ∧
    (s.writeCode a p R.HS_CYCLE.off = .ok →
      (v.toNat % 2 ^ 16 ≠ 0x0C1C → exec (.hsCycle a v) s = .next s.flushSinks.settle) ∧
      (v.toNat % 2 ^ 16 = 0x0C1C → s.hsState = 3 → s.pgood = false →
        exec (.hsCycle a v) s =
          .next (((st (off s 7) 2).modPower fun x => { x with holdOff := true }).emit (.level p 0)).flushSinks.settle)) ∧
    (s.writeCode a p R.HS_WINDOW.off = .ok →
      (levelsFit v.toNat (s.rd p R.HS_LEVELS.off).toNat = true →
        exec (.hsWindowWrite a false v) s = .next (s.storeWrite p R.HS_WINDOW.off v).flushSinks.settle) ∧
      (levelsFit v.toNat (s.rd p R.HS_LEVELS.off).toNat = false →
        exec (.hsWindowWrite a false v) s = .next (s.event p E.P020_WINDOW_REFUSED).flushSinks.settle))

/-- R450 to R457, R463: fuses and meters. -/
def Obligations.FusesAndMeters : Prop :=
  ∀ (s : State) (a : Agent) (b : Fin 8) (lim : Bool) (vin vout inl fsup : Word) (br : List Word) (mask : BitVec 9)
    (temp : BitVec 11),
    let p := Pg.fuses
    let flt : Fld := ⟨R.FUSE_FAULT.off, b, 1⟩
    let i (w : Word) : Int := signedOf 32 w.toNat
    let n := Nat.min 15 (s.get p (R.FUSE_STATUS_RETRY_COUNT b) + 1)
    s.power.dieUp = true →
    (s.fuseMayStart b = true → (∀ j < b.val, s.fuseMayStart j = false) → (∀ j < 8, s.fuseState j ≠ 2) →
      exec (.fuseStart b) s = .next (s.fuseTo b 2).flushSinks.settle) ∧
    (s.fuseState b = 2 →
      (s.on p (R.FUSE_STATUS_IN_LIMIT b) = false → s.on p (R.FUSE_STATUS_TIMER_RUN b) = false →
        exec (.fusePowerGood b) s = .next (s.fuseTo b 3).flushSinks.settle) ∧
      exec (.currentLimitEntry (some b) lim) s =
        .next ((s.putB p (R.FUSE_STATUS_IN_LIMIT b) lim).putB p (R.FUSE_STATUS_TIMER_RUN b) lim).flushSinks.settle ∧
      (s.get p (R.FUSE_CFG_RETRY_MODE b) = 2 →
        exec (.fuseFault b .rampTimeout) s =
          .next (((((((((s.clrF p (R.FUSE_STATUS_IN_LIMIT b)).clrF p (R.FUSE_STATUS_TIMER_RUN b)).put p
            (R.FUSE_STATUS_LAST_OFF_CAUSE b) 3).fuseTo b 1).put p (R.FUSE_STATUS_RETRY_COUNT b) n).count p
              (R.FUSE_CNT_FAULTS b)).event p E.P021_FUSE_TRIP).raise p K.FUSE_TRIP b)).flushSinks.settle)) ∧
    (s.fuseState b = 1 → exec (.fuseCoolExpiry b) s = .next ((s.fuseTo b 0).fuseStart b).flushSinks.settle) ∧
    (s.fuseState b = 3 →
      exec (.retryCountReset (some b)) s =
        .next (s.put p (R.FUSE_STATUS_RETRY_COUNT b) 0).flushSinks.settle) ∧
    exec (.fsupWindowChange true) s = .next (s.modPower fun x => { x with fsupMet := true }).flushSinks.settle ∧
    (s.power.fsupMet = true → (∀ j < 8, s.fuseState j ≠ 2 ∧ s.fuseState j ≠ 3) →
      exec (.fsupWindowChange false) s =
        .next (((s.modPower fun x => { x with fsupMet := false }).event p E.P021_FSUP_FAULT).raise p K.FSUP_FAULT
          0).flushSinks.settle) ∧
    (s.writeCode a p R.FUSE_FAULT.off = .ok → s.on p flt = true →
      (s.power.fsupMet = false → exec (.fuseFaultClear a b) s = .next (s.event p E.P021_CLEAR_REFUSED).flushSinks.settle) ∧
      (s.power.fsupMet = true →
        exec (.fuseFaultClear a b) s =
          .next (((s.clrF p flt).fuseTo b 0).sourceCleared p K.FUSE_LATCHED b).flushSinks.settle)) ∧
    (s.power.count ≠ 0 →
      exec .meterAvgBlock s =
        .next (((List.range 21).foldl (fun t c => t.wr Pg.meters (R.MTR_AVG c).off
          (BitVec.ofNat 32 (ofSigned 32 (roundFree (s.power.sums.getD c 0) s.power.count)))) s).modPower fun x =>
            { x with sums := Vector.replicate 21 0, count := 0 }).flushSinks.settle) ∧
    exec (.meterSample vin vout inl fsup br) s =
      .next (s.meterSample (i vin) (i vout) (i inl) (i fsup) (br.map i)).flushSinks.settle ∧
    (s.writeCode a Pg.meters R.MTR_CMD.off = .ok →
      exec (.energyClear a mask) s =
        .next ((List.range 9).foldl (fun t c => if bitOf mask.toNat c then (t.setEnergy c 0).modPower fun y =>
          { y with frac := y.frac.setIfInBounds c 0 } else t) s).flushSinks.settle) ∧
    (signedOf 11 temp.toNat ≤ 280 →
      exec (.pdHot temp) s = .next (s.put Pg.rails ⟨R.PD_TEMP.off, 0, 11⟩ temp.toNat).flushSinks.settle) ∧
    (280 < signedOf 11 temp.toNat →
      exec (.pdHot temp) s =
        .next (((s.put Pg.rails ⟨R.PD_TEMP.off, 0, 11⟩ temp.toNat).event Pg.rails E.P023_PD_HOT).raise Pg.rails K.PD_HOT
          0).flushSinks.settle)

/-- R491 to R509: the Thresher. -/
def Obligations.ThresherRows : Prop :=
  ∀ (s : State) (a : Agent) (n : Fin 128) (m : FaultMsg) (on : Bool),
    let p := Pg.thresher
    let q := Pg.active
    let taken := (s.modThr fun x => { x with queue := [] }).count p R.CNT_MSG_RECEIVED
    (s.thr.queue = [m] → s.thr.held = [] → m.island < 20 →
      (∀ e, s.heldEntry m = some e →
        exec .faultBatch s =
          .next ((taken.wr q (0x808 + 16 * e) (BitVec.ofNat 32 (satAdd 16 (s.actW e 2 % 65536) 1))).count p
            R.CNT_SUPPRESS_REPEATS).flushSinks.settle) ∧
      (s.heldEntry m = none → m.sev < 2 → (s.rd Pg.kindTable (4 * m.kind)).toNat % 2 = 0 → s.on p R.THR_STATUS_FF_VALID = true →
        exec .faultBatch s = .next taken.flushSinks.settle)) ∧
    (∀ e l, s.thr.persist = e :: l → s.storeOpen = true →
      exec .persistWrite s =
        .next ((s.modThr fun x => { x with persist := l, area := (e :: x.area).take 8192 }).count Pg.tlog
          R.CNT_PERSIST_ENTRIES).flushSinks.settle) ∧
    (s.writeCode a q R.CLR_CTRL.off = .ok → s.on q R.CLR_CTRL_BUSY = false →
      exec (.clrGo a n) s =
        .next ((((s.put q R.CLR_CTRL_ENTRY n).setF q R.CLR_CTRL_GO).setF q R.CLR_CTRL_BUSY).clrF q
          R.CLR_CTRL_DONE).flushSinks.settle) ∧
    (s.on q R.CLR_CTRL_BUSY = true →
      ( let done (t : State) (r : Nat) : State :=
          (((((t.clrF q R.CLR_CTRL_BUSY).clrF q R.CLR_CTRL_GO).setF q R.CLR_CTRL_DONE).putB q R.CLR_CTRL_REFUSED (r != 0)).put q
            R.CLR_CTRL_REASON r).event q E.P012_CLEAR_DONE
        let e := s.get q R.CLR_CTRL_ENTRY
        (s.actValid e = false → exec .clearDecided s = .next (done s 2).flushSinks.settle) ∧
        (s.clearReason e = 1 →
          exec .clearDecided s =
            .next (done ((s.count p R.CNT_SAFE_CLEARS_REFUSED).event q E.P012_CLEAR_REFUSED) 1).flushSinks.settle) ∧
        (s.clearReason e = 0 → s.actKind e ≠ K.DIE_LINK_LOST →
          exec .clearDecided s = .next (done (s.actClear e) 0).flushSinks.settle))) ∧
    (s.writeCode a p R.THR_CTRL.off = .ok →
      ( let u := (s.putB p R.THR_CTRL_SAFE_FORCE (s.on p R.THR_CTRL_SAFE_FORCE)).safeRefresh
        (u.actUsed = [] →
          exec (.thrClearAll a) s =
            .next ((u.put q R.CLR_ALL_RESULT_CLEARED 0).put q R.CLR_ALL_RESULT_REFUSED 0).flushSinks.settle) ∧
        exec (.ffClear a) s =
          .next ((((((((u.wr p R.FF_MSG_LO.off 0).wr p R.FF_MSG_HI.off 0).wr p R.FF_TIME_HI.off 0).wr p R.FF_INFO.off 0).wr p
            R.FF_UPTIME.off 0).wrTime p R.FF_TIME_LO.off R.FF_TIME_HI.off 0).clrF p R.THR_STATUS_FF_VALID)).flushSinks.settle) ∧
      exec (.safeForce a on) s = .next (s.putB p R.THR_CTRL_SAFE_FORCE on).safeRefresh.flushSinks.settle)

/-- R539 to R555: epochs and digests. -/
def Obligations.EpochsAndDigests : Prop :=
  ∀ (s : State) (a : Agent) (src : Fin 1024) (b : List Byte) (m : EpochMsg) (i tag : Nat) (r : EpochRun),
    let p := Pg.epoch
    let q := Pg.digest
    (s.writeCode a p R.EP_CMD.off = .ok →
      (s.stagingClosed = false → s.staged ≠ [] →
        exec (.discardStaged a) s = .next ({ s with staged := [] }.clrF q R.DIG_STATUS_STAGED_CURRENT).flushSinks.settle) ∧
      ( let t := s.get p R.EP_REQ_SCOPE_REQ_TAG
        let l := (List.range (Nat.min 16 (s.get p R.EP_REQ_SCOPE_COUNT))).map fun j =>
          s.get p (R.EP_LIST_NODE j) * 4 + s.get p (R.EP_LIST_HUB j)
        let ring := s.on p R.EP_REQ_SCOPE_RING
        let time := (s.rd p R.EP_REQ_TIME_LO.off).toNat + 2 ^ 32 * (s.rd p R.EP_REQ_TIME_HI.off).toNat
        let lead := Nat.max 100 (s.get p R.EP_CFG_LEAD_MIN_US) * 1000
        let shown := (((s.put p R.EP_REQ_STATUS_REQ_STATE 1).put p R.EP_REQ_STATUS_REQ_TAG t).put p R.EP_REQ_STATUS_OUTCOME
          0).clrF p R.EP_REQ_STATUS_REFUSER_VALID
        let ask : EpochMsg := { time := time, ring := ring, list_ := if !ring && l.isEmpty then [s.selfIndex] else l
                                by_ := s.selfIndex, tag := t }
        (s.timeValid = false → exec (.epochRequest a) s = .next (s.reqShow t 1 none).flushSinks.settle) ∧
        (s.domainOn 1 = true → s.timeValid = true → time < s.now + lead →
          exec (.epochRequest a) s = .next (s.reqShow t 2 none).flushSinks.settle) ∧
        (s.domainOn 1 = true → s.timeValid = true → s.now + lead ≤ time → s.epoch.waiting = none → s.isMaster = false →
          s.masterIndex = some i → s.nodeValid = true → s.ownerReachable i = true →
          exec (.epochRequest a) s =
            .next ((shown.modEpoch fun x => { x with waiting := some t, thermal := none }).sendOwn
              (State.epochFrame 1 i false ask)).1.flushSinks.settle)) ∧
      (s.epoch.waiting = some tag → s.epoch.thermal = none → s.isMaster = false → s.masterIndex = some i →
        exec (.epochCancel a) s =
          .next (s.sendOwn (State.epochFrame 7 i false { by_ := s.selfIndex, tag := tag })).1.flushSinks.settle)) ∧
    (s.ready p = true →
      (epochOf b = some m →
        (s.isMaster = true →
          (s.epoch.run = some r →
            exec (.request src b) s = .next (s.sendResult { m with by_ := src } 3 none).flushSinks.settle) ∧
          ( let num := (Nat.max s.epochNum s.epoch.seen + 1) % 2 ^ 32
            let n : EpochRun := { num := num, time := m.time, all_ := false, list_ := [src.val], by_ := src, tag := m.tag }
            s.epoch.run = none → s.domainOn 1 = true → s.timeValid = true → s.ringState = 4 →
            s.now + Nat.max 100 (s.get p R.EP_CFG_GUARD_US) * 1000 + 2 * (s.rd Pg.master R.LOOP_NS.off).toNat + 200000 ≤ m.time →
            m.ring = false → m.list_ = [] → s.ownerReachable src = true →
            exec (.request src b) s =
              .next ((((s.modEpoch fun x => { x with run := some n }).setF p R.EP_STATE_COORDINATING).sendOwn
                (State.epochFrame 2 0 true (State.runMsg n))).1.prepareIn (State.runMsg n)).flushSinks.settle)) ∧
        (s.masterIndex = some src.val → s.epochNum < m.num →
          (s.epochState ≠ 2 → s.inScope m = false →
            exec (.prepare src b) s = .next (s.epochIdle.markPages R.EPOCH_STATE_ABORTED false).flushSinks.settle) ∧
          (s.epochState = 1 → s.rd p R.EP_PEND_NUM.off = BitVec.ofNat 32 m.num →
            exec (.commitEpoch src b) s =
              .next ((s.put p R.EP_STATE_STATE 2).markPages R.EPOCH_STATE_ARMED true).flushSinks.settle ∧
            exec (.abortEpoch src b) s = .next s.epochAborted.flushSinks.settle)) ∧
        (s.epoch.run = some r → r.decision = none →
          (m.num = r.num → src.val ∈ r.list_ → m.outcome ≠ 0 →
            exec (.vote src b) s = .next (s.decide_ r m.outcome (some src.val)).flushSinks.settle) ∧
          (m.num = r.num → src.val ∈ r.list_ → m.outcome = 0 → s.on q R.DIG_CFG_CHECK_STAGED = false →
            r.list_.all (addNew src.val r.votes).contains = false →
            exec (.vote src b) s =
              .next (s.modEpoch fun x => { x with run := some { r with votes := addNew src.val r.votes } }).flushSinks.settle) ∧
          (m.tag = r.tag → r.by_ = src.val →
            exec (.epochCancelReceived src b) s = .next (s.decide_ r 8 none).flushSinks.settle))) ∧
      (s.epoch.run = some r →
        (r.decision = none →
          exec .epochGuardExpiry s =
            .next (s.decide_ r 7 ((List.range 1024).find? fun j => r.list_.contains j && !r.votes.contains j)).flushSinks.settle) ∧
        (r.decision.isSome = true → r.sent < 2 → exec .decisionResend s = .next s.decisionOut.flushSinks.settle)) ∧
      (s.epoch.voteWaits = false → exec .digestRecomputeDone s = .next s.digestDone.flushSinks.settle) ∧
      (s.ringState = 4 → s.isMaster = false → s.masterIndex = some i →
        exec .digestBeaconSend s =
          .next (s.sendOwn { cls := 2, prio := 6, ftype := 0x32, dstNode := i / 4, dstHub := i % 4
                             payload := leBytes 8 s.activeDigest ++ leBytes 4 s.epochNum ++
              [BitVec.ofNat 8 (s.get q R.DIG_STATUS_ACTIVE_CURRENT + 2 * b2n (s.epochState != 0) +
                4 * b2n (usedPages.any fun x => s.pageOn x && s.on x R.PAGE_STATUS_FACTORY) +
                8 * s.get Pg.seed R.SEED_STATUS_SUPPRESSED), 0, 0, 0] }).1.flushSinks.settle) ∧
      (s.isMaster = true → b.length = 16 → s.on q R.DIG_CFG_COMPARE_EN = false →
        exec (.digestBeacon src b) s =
          .next ((s.modEpoch fun x => { x with seen := Nat.max x.seen (leNat (bytesAt b 8 4)) }).clrF q
            (State.missingBit src)).flushSinks.settle) ∧
      (s.isMaster = true → bitOf (s.route src) 10 = true → s.on q (State.missingBit src) = false →
        exec (.beaconMissingTimeout src) s =
          .next ((s.setF q (State.missingBit src)).event q E.P00B_MISSING).flushSinks.settle)) ∧
    (∀ n < 8, s.digestDone.rd q (R.DIGEST n).off = BitVec.ofNat 32 (leNat (bytesAt ((s.sheaf false).drop (4 * n)) 0 4)))

/-- R514 to R534: policies. -/
def Obligations.RaluskPolicies : Prop :=
  ∀ (s : State) (a : Agent) (v : Word) (h : Bool) (l : LaneId) (lo mid hi : BitVec 64) (ring : Fin 2) (x src : Fin 1024)
    (d : Fin 19) (k : Fin 4) (j : BitVec 14) (c : Fin 64) (b : List Byte) (slot : BitVec 8) (tag aux : BitVec 16) (y : Slot),
    let p := Pg.ralusk
    let ln := Pg.lane l
    (s.writeCode a p R.POLICY_MODE.off = .ok →
      exec (.policyModeWrite a v) s = .next (s.storeWrite p R.POLICY_MODE.off v).ralSync.flushSinks.settle) ∧
    (s.writeCode a p R.RALUSK_CTRL.off = .ok → s.ral.limit = false →
      exec (.halt a h) s =
        .next (s.storeWrite p R.RALUSK_CTRL.off (BitVec.ofNat 32 (b2n h))).ralSync.flushSinks.settle) ∧
    (s.domainOn 0 = true →
      (s.raluskState = 1 → exec .raluskLoaded s = .next (s.raluskTo s.raluskRuns).flushSinks.settle) ∧
      ( let t := s.sensed j.toNat
        (t.thermRate = none →
          exec (.thermalRateDwell j) s = .next t.flushSinks.settle ∧
          exec (.thermalRestoreDwell j) s = .next t.flushSinks.settle) ∧
        (∀ n e, t.thermRate = some n → 2 * (n : Int) ≤ t.junction → s.policyAct 4 = true → s.ral.rateJobs = [] →
          (List.range 7).filter (fun k => t.pageOn (Pg.link k) && t.sideEnabled k && t.sideFast k) = [e] →
          exec (.thermalRateDwell j) s =
            .next (t.modRal fun r => { r with rateJobs := [(e, 1, 0)] }).thermalGoesOn.flushSinks.settle) ∧
        (∀ n e, t.thermRate = some n →
          t.junction < 2 * ((n : Int) - clamp 1 15 (t.get p R.THERM_CFG_THERM_HYST)) → s.policyAct 4 = true →
          s.ral.rateJobs = [] → s.ral.lowered = [e] →
          exec (.thermalRestoreDwell j) s =
            .next (t.modRal fun r => { r with rateJobs := [(e, 0, 0)] }).thermalGoesOn.flushSinks.settle) ∧
        (State.junctionMax < t.junction →
          exec (.thermalOver j) s =
            .next (t.raise p K.THERMAL_OVER (t.rd p R.JUNCTION_T.off).toNat).flushSinks.settle))) ∧
    (s.policyAct 0 = true → s.pageOn ln = true → s.on ln R.LANE_CFG_EQ_ADAPT = true → s.on ln R.EYE_CTRL_HOLD = false →
      s.laneSt l = 5 → l.val ∉ s.ral.eqVga → s.get ln R.RX_EQ_CTLE ≤ s.get ln R.EQ_BOUNDS_CTLE_MIN →
      s.get ln R.RX_EQ_CTLE < s.get ln R.EQ_BOUNDS_CTLE_MAX → hi.toNat < mid.toNat →
      100 * hi.toNat ≤ (100 - clamp 1 100 (s.get p R.EQ_CFG_EQ_HYST)) * mid.toNat →
      let n := s.get ln R.RX_EQ_CTLE
      exec (.eqPeriod l lo mid hi) s =
        .next ((((s.modRal fun r => { r with eqVga := r.eqVga ++ [l.val] }).putAdapt ln R.RX_EQ_CTLE (n + 1)).laneKeepEq
          l).logDecision 0 1 l ln R.RX_EQ.off n (n + 1)).flushSinks.settle) ∧
    (s.domainOn 4 = true →
      (∀ e, s.isMaster = true → s.policyAct 1 = true → s.ring.breaks = [e] → e.ring = ring.val → e.x = x.val → e.xDown = true →
        e.steered = false →
        exec (.pathHoldExpiry ring x) s =
          .next ((s.orderSteer ring x true).logDecision 1 1 0 0 0 0 1).flushSinks.settle) ∧
      (s.policyDecides 2 = true → s.core.queued = [] →
        exec .cmPeriod s =
          .next (((List.range 16).foldl State.cmProfile s).modRal fun r =>
            { r with cmDrops := [], cmMarks := [], cmBusy := [] }).flushSinks.settle) ∧
      (s.bridge.slots.find? (fun z => z.n == tag.toNat % 256 && z.gen == tag.toNat / 256 % 256) = none → s.bridge.past = [] →
        aux.toNat ≠ 0 →
        exec (.raCompletion src tag aux b) s = .next (s.count Pg.bridge R.CNT_LATE).thermalGoesOn.flushSinks.settle) ∧
      (s.bridge.slots.find? (fun z => z.n == tag.toNat % 256 && z.gen == tag.toNat / 256 % 256) = some y →
        s.readGone y.req = false → y.req.write = true → aux.toNat ≠ 0xA →
        exec (.raCompletion src tag aux b) s =
          .next (((s.releaseSlot (tag.toNat % 256)).answerTo y.req (tag.toNat % 256) (tag.toNat / 256 % 256) aux.toNat
            (bitsOf (b.getD 5 0).toNat 0 4) []).takeSlot).thermalGoesOn.flushSinks.settle)) ∧
    (s.bridge.slots.find? (·.n == slot.toNat) = some y → y.req.src = .engine 0 →
      exec (.readDiscardExpiry slot) s =
        .next (((((s.count Pg.bridge R.CNT_DISCARDED).event Pg.bridge E.P078_DISCARDED).releaseSlot slot.toNat).modBridge
          fun z => { z with past := z.past.filter (·.1 != slot.toNat) ++
            [(slot.toNat, y.gen, s.raAgent y.req, false)] }).answerTo y.req slot.toNat y.gen 9 0
              []).thermalGoesOn.flushSinks.settle) ∧
    (s.policyAct 3 = true →
      ( let before := (s.rd Pg.power R.PD_REQ.off).toNat
        s.domainOn d = true → bitOf before d = true → s.shedIdle d = true →
        bitOf (s.rd Pg.power R.PD_LOCK.off).toNat d = false → s.overridden d = false → s.stagingClosed = false →
        exec (.shedIdleExpiry d) s =
          .next ((s.putKept Pg.power ⟨R.PD_REQ.off, d, 1⟩ 0).logDecision 3 1 d Pg.power R.PD_REQ.off before
            (bitsPut before d 1 0)).flushSinks.settle) ∧
      ( let q := Pg.link k
        s.linkActive k = true → s.on q R.LINK_CFG_LP_ALLOWED = true → s.on q R.LINK_CTRL_LP_REQ = false →
        s.overridden (32 + k) = false →
        exec (.lpIdleExpiry k) s =
          .next (((State.wrLink k s R.LINK_CTRL.off 1).modRal fun r => { r with touched := s.ral.touched }).logDecision 3 1 k q
            R.LINK_CTRL.off 0 1).flushSinks.settle)) ∧
    (s.policyDecides 5 = true → s.domainOn 1 = true → s.on Pg.time R.TIME_CFG_SERVO_SW = false → 3 ≤ s.servo →
      exec .servoSummary s =
        .next (s.logDecision 5 5 0 Pg.prime (R.P_FREQ 0).off (s.get Pg.prime (R.P_FREQ 0))
          (s.get Pg.prime (R.P_FREQ 0))).flushSinks.settle) ∧
    ( let e := Pg.engine (2 * c)
      let tec (n : Nat) : Nat := s.get (Pg.mode n 6) R.CAN_ERR_TEC
      s.pageOn e = true → s.policyAct 7 = true → bitOf (s.rd p (0x078 + 4 * (c / 32))).toNat (c % 32) = true →
      s.engMode (2 * c) = 6 → s.canPaired (2 * c) = true → s.canRole (2 * c) = 1 →
      tec (2 * c + 1) + s.get p R.CAN_POL_CAN_SWAP_DELTA < tec (2 * c) →
      s.get (Pg.mode (2 * c + 1) 6) R.CAN_STATUS_STATE = 0 → look c s.ral.swapped = 0 → s.overridden (64 + c) = false →
      s.engUp (2 * c + 1) = true →
      exec (.canpairHoldExpiry c) s =
        .next (((s.pairSwap (2 * c)).modRal fun r => { r with swapped := file c (s.ns + 1) r.swapped }).logDecision 7 1 c e
          R.CAN_CMD.off 0 1).flushSinks.settle) ∧
    (∀ m t, s.ready Pg.epoch = true → epochOf b = some m → s.masterIndex = some src.val → m.by_ = s.selfIndex →
      s.epoch.waiting = some t → m.tag = t → s.epoch.thermal = none → m.outcome = 0 →
      exec (.epochResult src b) s =
        .next ((s.modEpoch fun z => { z with waiting := none }).reqShow t 0 none).thermalGoesOn.flushSinks.settle)

/-- R44 to R49: the owner. -/
def Obligations.OwnerToken : Prop :=
  ∀ (s : State) (a b : Agent) (v : Word),
    let p := Pg.identity
    let owned (x : Option Agent) : State :=
      (List.range 16).foldl (fun t n => t.wr Pg.grants (0x040 + 4 * n) 0xFFFF)
        (((s.putB p R.OWNER_STATUS_HELD x.isSome).put p R.OWNER_STATUS_OWNER_ID (x.getD 0xFFFF).toNat).put p
          R.OWNER_STATUS_GEN ((s.get p R.OWNER_STATUS_GEN + 1) % 256))
    let ends (t : State) (done : Bool) : State :=
      (((t.clrF p R.RECLAIM_CTRL_GO).clrF p R.RECLAIM_CTRL_BUSY).putB p R.RECLAIM_CTRL_DONE done).putB p R.RECLAIM_CTRL_FAIL
        (!done)
    (s.get Pg.security R.SEC_STATUS_ACCESS = 0 →
      (s.writeCode a p R.OWNER_CLAIM.off = .ok → s.held = false → agentKind a ≠ 3 →
        exec (.ownerClaim a 0xC1A1) s = .next (owned (some a)).flushSinks.settle) ∧
      (s.writeCode a p R.OWNER_RELEASE.off = .ok → s.isOwner a = true →
        exec (.ownerRelease a 0xE1E) s = .next (owned none).flushSinks.settle)) ∧
    (s.held = true ∨ agentKind a = 3 →
      exec (.ownerClaim a 0xC1A1) s =
        .next (s.logAccess .notOwner .posted a (s.ownAddr 0 (p * 0x1000 + R.OWNER_CLAIM.off)) (some p)).flushSinks.settle) ∧
    (s.writeCode a p R.OWNER_CLAIM.off = .ok → v ≠ 0xC1A1 → exec (.ownerClaim a v) s = .next s.flushSinks.settle) ∧
    (s.writeCode a p R.RECLAIM_CTRL.off = .ok → s.on p R.RECLAIM_CTRL_BUSY = false →
      (s.sec.badRandom = false →
        exec (.reclaimNonceNew a) s =
          .next { (((s.setF p R.RECLAIM_CTRL_NONCE_NEW).setF p R.RECLAIM_CTRL_BUSY).clrF p R.RECLAIM_CTRL_DONE).clrF p
            R.RECLAIM_CTRL_FAIL with reclaim := { s.reclaim with making := some a, valid := false } }.flushSinks.settle) ∧
      (s.reclaim.valid = true → s.reclaim.by_ = a →
        exec (.reclaimGo a) s =
          .next { (((s.setF p R.RECLAIM_CTRL_GO).setF p R.RECLAIM_CTRL_BUSY).clrF p R.RECLAIM_CTRL_DONE).clrF p
            R.RECLAIM_CTRL_FAIL with reclaim := { s.reclaim with valid := false, checking := some a } }.flushSinks.settle) ∧
      (s.reclaim.valid = false ∨ s.reclaim.by_ ≠ a →
        exec (.reclaimGo a) s =
          .next (ends { s with reclaim := { s.reclaim with valid := false } } false).flushSinks.settle)) ∧
    (s.reclaim.making = some b →
      exec .reclaimNonceReady s =
        .next { ((s.newNonce p 0x800).clrF p R.RECLAIM_CTRL_NONCE_NEW).clrF p R.RECLAIM_CTRL_BUSY with
          reclaim := { making := none, valid := true, by_ := b, checking := none } }.flushSinks.settle) ∧
    exec .reclaimNonceExpiry s = .next { s with reclaim := { s.reclaim with valid := false } }.flushSinks.settle ∧
    (s.reclaim.checking = some b →
      (agentKind b = 3 →
        exec .reclaimCheckDone s =
          .next (ends { s with reclaim := { s.reclaim with checking := none } } false).flushSinks.settle) ∧
      (agentKind b ≠ 3 → s.responseHolds 1 (s.rdWindow p 0x800 8) s.sec.sigReclaim = true → s.isOwner b = false →
        exec .reclaimCheckDone s =
          .next ((ends { s with reclaim := { s.reclaim with checking := none } } true).ownerTo (some b)).flushSinks.settle))

/-- R581 to R595: security. -/
def Obligations.SecurityRows : Prop :=
  ∀ (s : State) (a : Agent) (sel code : Byte) (v : Word),
    let p := Pg.security
    let ch := Pg.chaff 0
    let failed (t : State) (r : Nat) : State :=
      (((((t.clrF p R.OPEN_CTRL_BUSY).clrF p R.OPEN_CTRL_DONE).setF p R.OPEN_CTRL_FAIL).put p R.OPEN_CTRL_REASON r).event p
        E.P007_OPEN_FAILED).raise p K.OPEN_FAILED r
    let closed : State := (s.put p R.SEC_STATUS_ACCESS 0).event p E.P007_ACCESS_CLOSED
    (s.writeCode a p R.OTP_CMD.off = .ok → s.on p R.OTP_STATUS_BUSY = false →
      ( let refused (r : Nat) : State :=
          ((((s.clrF p R.OTP_STATUS_BUSY).clrF p R.OTP_STATUS_DONE).setF p R.OTP_STATUS_REFUSED).put p R.OTP_STATUS_REASON
            r).event p E.P007_OTP_DONE
        let started (program : Bool) : State :=
          ((((s.setF p R.OTP_STATUS_BUSY).clrF p R.OTP_STATUS_DONE).clrF p R.OTP_STATUS_REFUSED).put p R.OTP_STATUS_REASON
            0).modSec fun x => { x with job := some (sel.toNat, program, s.otpData sel.toNat) }
        (s.otpRefusal sel.toNat true ≠ 0 →
          exec (.program a sel) s = .next (refused (s.otpRefusal sel.toNat true)).flushSinks.settle) ∧
        (s.otpRefusal sel.toNat true = 0 → exec (.program a sel) s = .next (started true).flushSinks.settle) ∧
        (s.otpRefusal sel.toNat false ≠ 0 →
          exec (.revoke a sel) s = .next (refused (s.otpRefusal sel.toNat false)).flushSinks.settle) ∧
        (s.otpRefusal sel.toNat false = 0 → exec (.revoke a sel) s = .next (started false).flushSinks.settle))) ∧
    (∀ n d, s.sec.job = some (n, true, d) →
      exec (.otpDone true) s =
        .next ((((s.modSec fun x => { x with job := none, otp := x.otp ++ [(n, d)] }).clrF p R.OTP_STATUS_BUSY).setF p
          R.OTP_STATUS_DONE).event p E.P007_OTP_DONE).flushSinks.settle) ∧
    (s.writeCode a p R.ATTEST_CTRL.off = .ok → s.sec.badRandom = false → s.on p R.ATTEST_CTRL_BUSY = false →
      exec (.attestGo a) s =
        .next ((((s.setF p R.ATTEST_CTRL_GO).setF p R.ATTEST_CTRL_BUSY).clrF p R.ATTEST_CTRL_DONE).modSec fun x =>
          { x with attesting := true }).flushSinks.settle) ∧
    (s.sec.attesting = true →
      let msg := s.sec.nonce ++ leBytes 8 s.uid ++ leBytes 4 s.svnFloor ++ leBytes 4 s.bootedId ++ leBytes 8 s.activeDigest
      let sig := ecdsaSign Sys2Proof.Config.deviceKey (Sys2Proof.Config.signNonce s.fresh) msg
      exec .attestDone s =
        .next ((((((s.draw.wrWindow p 0xB40 (beBytes 48 sig.1 ++ beBytes 48 sig.2 ++ List.replicate 32 0)).modSec fun x =>
          { x with attesting := false }).clrF p R.ATTEST_CTRL_GO).clrF p R.ATTEST_CTRL_BUSY).setF p
            R.ATTEST_CTRL_DONE).event p E.P007_ATTEST_DONE).flushSinks.settle) ∧
    (s.writeCode a p R.OPEN_CTRL.off = .ok →
      (s.sec.badRandom = true →
        exec (.openNonceNew a) s = .next ((failed s 5).raise p K.TRNG_FAIL 0).flushSinks.settle) ∧
      (s.sec.badRandom = false →
        exec (.openNonceNew a) s =
          .next ((((s.newNonce p 0x800).modSec fun x => { x with opening := { valid := true, by_ := a } }).clrF p
            R.OPEN_CTRL_DONE).clrF p R.OPEN_CTRL_FAIL |>.put p R.OPEN_CTRL_REASON 0).flushSinks.settle) ∧
      ( let t := s.modSec fun x => { x with opening := {} }
        (State.ownerSels.any s.otpGood = false → exec (.goKey a) s = .next (failed t 6).flushSinks.settle) ∧
        (State.ownerSels.any s.otpGood = true → s.sec.opening.valid = false ∨ s.sec.opening.by_ ≠ a →
          exec (.goKey a) s = .next (failed t 2).flushSinks.settle) ∧
        (State.ownerSels.any s.otpGood = true → s.sec.opening.valid = true → s.sec.opening.by_ = a →
          s.responseHolds 2 (s.rdWindow p 0x800 8) s.sec.sigOpen = true →
          exec (.goKey a) s = .next (t.openAccess a 2).flushSinks.settle)) ∧
      ( let t := s.modSec fun x => { x with pass := List.replicate 32 0 }
        let len := s.get p R.PASS_LEN % 64
        (s.passInUse = none → exec (.goPass a) s = .next (failed t 4).flushSinks.settle) ∧
        (∀ n, s.passInUse = some n → s.on Pg.bringUp R.BRINGUP_STATUS_STRAP_NORESTORE = false →
          s.get p R.PASS_FAILS % 16 < 8 → s.sec.passUntil ≤ s.ns → 8 ≤ len → len ≤ 32 →
          s.otpRec n = some (sha384 (leBytes 8 s.uid ++ bytesAt s.sec.pass 0 len)) →
          exec (.goPass a) s = .next (t.openAccess a 1).flushSinks.settle)) ∧
      (s.get p R.SEC_STATUS_ACCESS ≠ 0 → s.domainOn 0 = false → exec (.close a) s = .next closed.flushSinks.settle)) ∧
    (s.get p R.SEC_STATUS_ACCESS ≠ 0 → s.domainOn 0 = false → exec .openTimerExpiry s = .next closed.flushSinks.settle) ∧
    (s.writeCode a p R.SEC_LOCK.off = .ok →
      exec (.lock a) s = .next (s.putKept p R.SEC_LOCK_OWNER_LOCK 1).flushSinks.settle ∧
      (s.unlocked = true → exec (.unlock a) s = .next (s.putKept p R.SEC_LOCK_OWNER_LOCK 0).flushSinks.settle)) ∧
    exec (.trngFail true) s =
      .next ((s.modSec fun x => { x with badRandom := true }).raise p K.TRNG_FAIL 0).flushSinks.settle ∧
    (s.writeCode a ch R.CH_CTRL.off = .ok →
      ( let t := s.storeWrite ch R.CH_CTRL.off v
        s.on ch R.CH_CTRL_RUN = false → t.on ch R.CH_CTRL_RUN = true → bitOf v.toNat 1 = false →
        (t.on ch R.CH_CTRL_CH_START_EN = false → exec (.run a v) s = .next t.chaffStart.flushSinks.settle) ∧
        (t.on ch R.CH_CTRL_CH_START_EN = true → t.timeValid = false →
          exec (.run a v) s = .next { t with chaff := { t.chaff with waiting := true } }.flushSinks.settle)) ∧
      exec (.stopAll a) s =
        .next (s.storeWrite ch R.CH_CTRL.off
          (BitVec.ofNat 32 (bitsPut (s.rd ch R.CH_CTRL.off).toNat 1 1 1))).chaffStop.flushSinks.settle) ∧
    (s.domainOn 0 = true → s.on ch R.CH_CTRL_RUN = true →
      exec .runSExpiry s =
        .next (({ s with chaff := {} }.clrF ch R.CH_CTRL_RUN).put ch ⟨R.CH_STATUS.off, 0, 5⟩ 0 |>.when s.chaffRuns fun t =>
          t.event ch E.P1C0_RUN_STOPPED).flushSinks.settle ∧
      (s.chaff.waiting = true → exec .chStartReached s = .next s.chaffStart.flushSinks.settle)) ∧
    (s.writeCode a (Pg.chaff 5) R.FI_CMD.off = .ok → s.unlocked = true → bitOf v.toNat 5 = true →
      let t := s.storeWrite (Pg.chaff 5) R.FI_CMD.off (BitVec.ofNat 32 (bitsPut v.toNat 5 1 0))
      t.chaffRuns = true → kindSeverity (bitsOf (t.rd (Pg.chaff 5) R.FI_MSG_LO.off).toNat 12 8) = none →
      exec (.fiGo a v) s = .next (t.event (Pg.chaff 5) E.P1C5_INJECT_REFUSED).flushSinks.settle) ∧
    (code = 0 ∨ code = 4 ∨ code = 5 →
      exec (.jtagInstruction code) s =
        .next ((((s.modSec fun x => { x with jtag := some code.toNat }).emit (.level p (code.toNat + 1))).event p
          E.P007_JTAG_CONTROL).raise p K.JTAG_CONTROL code.toNat).flushSinks.settle) ∧
    (2 ≤ code.toNat → code.toNat ≤ 3 → s.sec.jtag = none → exec (.jtagInstruction code) s = .next s.flushSinks.settle)

/-- R6 to R13, R449 to R475, R496: bring-up. -/
def Obligations.DomainsAndReadiness : Prop :=
  ∀ (s : State) (a : Agent) (v : Word) (p : BitVec 9) (off : BitVec 12) (d : Fin 19) (rail : Fin 6) (mv : BitVec 12) (isl : Fin 19)
    (slice : Fin 2) (on : Bool),
    let w := Pg.power
    let bu := Pg.bringUp
    let il := Pg.inlet
    let done (t : State) : State := ((t.wr w R.PD_BUSY.off 0).count w R.CNT_PD_SWITCHES).event w E.P004_SWITCHED
    (s.die.up = true → s.die.retraining = false →
      exec (.dieLinkWord 0) s = .next s.flushSinks.settle ∧
      exec (.dieLinkWord 1) s =
        .next ({ s with die := { s.die with corrected := s.die.corrected + 1 } }.raise il K.DIE_LINK_CORRECTED
          0).flushSinks.settle ∧
      exec (.dieLinkWord 2) s =
        .next ({ s with die := { s.die with retraining := true } }.raise il K.DIE_LINK_ERROR 0).flushSinks.settle) ∧
    exec .dieLinkRetrainDone s = .next { s with die := { s.die with retraining := false } }.flushSinks.settle ∧
    (s.die.watch = true →
      exec .keepaliveTimeout s =
        .next { s with die := { s.die with up := false, retraining := false, lost := true } }.finDieLost.safeRefresh.flushSinks.settle) ∧
    (s.power.dieUp = true → s.die.up = false → s.die.met = true → s.die.lost = true →
      exec .dieLinkUp s =
        .next (({ s with die := { s.die with up := true, watch := true } }.modPower fun x => { x with pfdNew := false }).raise
          il K.DIE_LINK_LOST 0).flushSinks.settle) ∧
    (pageUsed p.toNat = true → s.pageOn p.toNat = true → s.domainOn d = false →
      exec (.channelTransfer p (some d)) s = .next (s.event p.toNat 30).flushSinks.settle) ∧
    exec .crystalLock s =
      .next ((s.setF bu R.BRINGUP_STATUS_AON_LOCKED).clrF bu R.BRINGUP_STATUS_CRYSTAL_ABSENT).flushSinks.settle ∧
    (s.on bu R.BRINGUP_STATUS_AON_LOCKED = false →
      exec .crystalLockTimeout s =
        .next (((s.setF bu R.BRINGUP_STATUS_CRYSTAL_ABSENT).event bu E.P005_CRYSTAL_ABSENT).raise bu K.CRYSTAL_ABSENT
          0).flushSinks.settle) ∧
    (s.writeCode a w R.PD_REQ.off = .ok →
      exec (.domainSwitchRequest a v) s =
        .next (((List.range 19).foldl State.touch (s.storeWrite w R.PD_REQ.off v)).modPower fun x =>
          { x with reset := x.reset.filter fun e => bitOf v.toNat e }).flushSinks.settle) ∧
    (s.writeCode a p.toNat R.PAGE_CTRL.off = .ok → ∀ e, domainOf p.toNat = some e →
      exec (.powerReq a p on) s =
        .next (((s.putKept w ⟨R.PD_REQ.off, e, 1⟩ (b2n on)).touch e).modPower fun x =>
          { x with reset := if on then x.reset else x.reset.filter (· != e) }).flushSinks.settle) ∧
    (s.ready w = true → s.on w R.PD_BUSY_BUSY = false → ∀ e b, s.nextRequest = some (e, b) →
      (s.switchReason e b = 0 →
        exec .domainSwitchStart s =
          .next (s.wr w R.PD_BUSY.off (BitVec.ofNat 32 (1 + 2 * e + 64 * b2n b))).flushSinks.settle) ∧
      (s.switchReason e b ≠ 0 →
        exec .domainSwitchStart s =
          .next ((((s.putKept w ⟨R.PD_REQ.off, e, 1⟩ (b2n (s.domainOn e))).wr w R.PD_REFUSE.off (BitVec.ofNat 32
            (2 ^ 31 + b2n (!b) * 2 ^ 8 + s.switchReason e b * 2 ^ 5 + e))).count w R.CNT_PD_REFUSALS).event w
              E.P004_PD_REFUSED).flushSinks.settle)) ∧
    (∀ e, s.switching false = some e →
      exec .domainOffChannelsIdle s = .next (done (s.domainDown e)).flushSinks.settle ∧
      exec .domainOffIdleTimeout s = .next ((s.wr w R.PD_BUSY.off 0).switchRefused e false 3).flushSinks.settle) ∧
    (∀ e, s.switching true = some e →
      exec .domainOnDone s =
        .next (done ((s.domainUp e).modPower fun x => { x with reset := x.reset.filter (· != e) })).flushSinks.settle) ∧
    (s.power.dieUp = true → 1 ≤ rail.val → (∀ e < 19, s.domainOn e = false) → s.on w R.PD_BUSY_BUSY = false →
      exec (.railDip rail mv) s =
        .next ((((s.wr Pg.rails R.RAIL_DIP.off (BitVec.ofNat 32 (2 ^ 31 + mv.toNat * 2 ^ 16 + rail))).modPower fun x =>
          { x with dipped := addNew rail x.dipped }).event Pg.rails E.P023_RAIL_DIP).raise Pg.rails K.RAIL_DIP
            rail).flushSinks.settle) ∧
    exec (.railRecover rail) s =
      .next (s.modPower fun x => { x with dipped := x.dipped.filter (· != rail.val) }).flushSinks.settle ∧
    (s.mayRestore p.toNat = true → p.toNat ≠ Pg.security →
      exec (.pageRestore p) s = .next (s.restorePage p.toNat).flushSinks.settle) ∧
    (∀ f, pageUsed p.toNat = true → s.on p.toNat R.PAGE_STATUS_RESTORED = true →
      s.startable p.toNat = true → s.ready p.toNat = false → State.referenceOf p.toNat = some f →
      exec (.pageReady p true) s =
        .next ((s.setF bu f).when (!s.on bu f) fun t => t.event bu E.P005_REF_ABSENT).flushSinks.settle) ∧
    (s.on p.toNat R.PAGE_STATUS_RESTORED = true → pageUsed p.toNat = true → s.startable p.toNat = true →
      s.ready p.toNat = false → State.referenceOf p.toNat = none → p.toNat ≠ Pg.seed →
      exec (.pageReady p on) s =
        .next ((s.readyChange fun t => (t.setF p.toNat R.PAGE_STATUS_READY).event p.toNat 29).pageStarts
          p.toNat).flushSinks.settle) ∧
    (aonPages.contains p.toNat = true →
      exec (.aonParity p off) s = .next (s.raise p.toNat K.AON_PARITY off.toNat).flushSinks.settle) ∧
    (s.islandRuns isl = true → exec (.clockLost isl) s = .next (s.raise bu K.CLOCK_LOST isl).flushSinks.settle) ∧
    (s.domainOn 4 = true →
      exec (.coreSliceFail slice) s =
        .next ((s.modThr fun x => { x with sliceFail := addNew slice x.sliceFail }).raise Pg.core K.CORE_SLICE_FAIL
          slice).flushSinks.settle)

/-- R31, R464, R467, R623: resets. -/
def Obligations.ResetRows : Prop :=
  ∀ (s : State) (a : Agent) (p : BitVec 9) (v : Word) (pos : Fin 4) (nr dip : Bool),
    (s.writeCode a p.toNat R.PAGE_CTRL.off = .ok → s.pageShut p.toNat = false →
      exec (.softReset a p) s = .next (s.softResetBegin p.toNat).flushSinks.settle) ∧
    (s.softReset p.toNat = true →
      exec (.softResetDone p) s =
        .next ((resetPages p.toNat).foldl State.pageStarts
          ((resetPages p.toNat).foldl (fun t q => t.clrF q R.PAGE_CTRL_SOFT_RESET) s)).flushSinks.settle) ∧
    exec (.aonPowerOn dip pos nr) s = .next (s.aonReset (if dip then 2 else 1) pos nr).flushSinks.settle ∧
    exec (.nreset pos nr) s = .next (s.aonReset 3 pos nr).flushSinks.settle ∧
    (s.writeCode a Pg.bringUp R.BRINGUP_CMD.off = .ok →
      (v.toNat % 2 ^ 16 ≠ 0x5EED → exec (.hubReset a v pos nr) s = .next s.flushSinks.settle) ∧
      (v.toNat % 2 ^ 16 = 0x5EED → bitOf v.toNat 16 = true → s.isOwner a = true →
        exec (.hubReset a v pos nr) s = .next (s.commitAll.aonReset 4 pos nr).flushSinks.settle)) ∧
    (s.thr.fatal = true → exec (.hubFatalReset pos nr) s = .next (s.aonReset 5 pos nr).flushSinks.settle) ∧
    (∀ k, s.regs.wf factoryWord = true →
      (keyPage k ≠ p.toNat → (s.softRegs p.toNat).regs.get factoryWord k = s.regs.get factoryWord k) ∧
      (keyPage k = p.toNat → State.keptKey k = false → liveMask (k / 0x1000000) (k % 0x1000000) = 0 →
        (s.softRegs p.toNat).regs.get factoryWord k = factoryWord k)) ∧
    (∀ k, ( let q := keyPage k
            0x020 ≤ q ∧ q ≤ 0x027 ∧ k % 0x1000000 ≠ R.PAGE_STATUS.off → s.aonKeeps.regs.get factoryWord k = s.regs.get factoryWord k) ∧
          ( let q := keyPage k
            q < 0x020 ∨ 0x027 < q ∨ k % 0x1000000 = R.PAGE_STATUS.off → s.aonKeeps.regs.get factoryWord k = factoryWord k))

/-- R562 to R570: staging. LAST_COMMIT's duration is a free value within the bound of R481. -/
def Obligations.UpdateStaging : Prop :=
  ∀ (s : State) (a : Agent) (v : Word) (ok : Bool) (k : LinkId) (b : List Byte),
    let p := Pg.update
    let q := Pg.updateData
    let empty (t : State) : State := t.modSlot t.spareSlot fun _ => {}
    let erase (t : State) (lead : Option Nat) (id : Nat) : State :=
      (((({ empty t with upd := { lead := lead } }.wr p R.UPD_MANIFEST_ID.off (BitVec.ofNat 32 id)).put p
        R.UPD_STATUS_OUTCOME 0).clrF p R.UPD_STATUS_HELD).updTo 1).updShow
    let idle (t : State) (code part : Nat) : State :=
      ((((({ empty t with upd := {} }.updTo 0).updOutcome code part).wr p R.UPD_MANIFEST_ID.off 0).clrF p
        R.UPD_STATUS_LEAD_OF_SET).updShow).compactTry
    (s.writeCode a p R.UPD_CMD.off = .ok →
      (s.updCode (s.updState != 0) = 0 → exec (.start a) s = .next (erase s none 0).flushSinks.settle) ∧
      (s.updCode (s.updState != 0) ≠ 0 →
        exec (.start a) s = .next (s.updOutcome (s.updCode (s.updState != 0)) 0).flushSinks.settle) ∧
      (s.updState = 0 → exec (.abort a) s = .next s.flushSinks.settle) ∧
      (s.updState = 7 ∨ s.updState = 8 → exec (.abort a) s = .next s.flushSinks.settle) ∧
      (1 ≤ s.updState → s.updState ≤ 6 → s.upd.lead = none → s.upd.peers = [] →
        exec (.abort a) s = .next (idle s 14 0).flushSinks.settle)) ∧
    (s.domainOn 0 = true → s.updState = 1 → s.upd.lead = none →
      exec .eraseDone s = .next ((s.updTo 2).event q E.P009_SPACE).flushSinks.settle) ∧
    (s.writeCode a q R.UPD_DATA.off = .ok → s.updState = 2 → s.upd.lead = none → Stook.full s.upd.stream = false →
      (s.updSpace < 4 → s.upd.peers = [] →
        exec (.updData a v) s = .next (idle (s.event q E.P009_OVERRUN) 11 0).flushSinks.settle) ∧
      (4 ≤ s.updSpace → s.upd.peers = [] →
        (Stook.tableHere s.upd.stream = true ∨ Stook.tableHere (s.upd.stream ++ leBytes 4 v.toNat) = false) →
        exec (.updData a v) s =
          .next { s with upd := { s.upd with stream := s.upd.stream ++ leBytes 4 v.toNat } }.flushSinks.settle)) ∧
    (s.domainOn 0 = true → s.updState = 2 → Stook.full s.upd.stream = true →
      ( let st := s.upd.stream
        let t := (s.updTo 3).modUpd fun u =>
          { u with results := (Stook.parts st).map (State.partCheck st), taken := (Stook.parts st).filter (s.takesPart st) }
        ((s.updVerify st).1 ≠ 0 →
          exec (.streamComplete ok) s = .next (t.updFails (s.updVerify st).1 (s.updVerify st).2).flushSinks.settle) ∧
        ((s.updVerify st).1 = 0 →
          exec (.streamComplete false) s =
            .next ((t.raise q K.UPDATE_STORE (0x200000 * s.spareSlot)).updFails 13 0).flushSinks.settle ∧
          exec (.streamComplete true) s = .next t.slotComplete.updStaged.flushSinks.settle))) ∧
    (4 ≤ k.val → s.domainOn 0 = true → s.hubPos ≠ 0 → s.posAt k = 0 →
      ( let c := s.updCode (s.updState != 0)
        (c = 0 →
          exec (.updateStartReceived k b) s = .next (erase s (some k) (leNat (bytesAt b 0 4))).flushSinks.settle) ∧
        (c ≠ 0 →
          exec (.updateStartReceived k b) s =
            .next ((s.updOutcome c 0).updSend 0 0x04 [BitVec.ofNat 8 c]).flushSinks.settle))) ∧
    (s.updFromLead k b = true → s.updState = 2 → leNat (bytesAt b 4 4) = s.upd.stream.length → s.upd.peers = [] →
      s.upd.stream.length - s.upd.programmed + (b.drop 8).length ≤ 4096 → Stook.tableHere s.upd.stream = true →
      exec (.updateDataReceived k b) s =
        .next { s with upd := { s.upd with stream := s.upd.stream ++ b.drop 8 } }.flushSinks.settle) ∧
    (s.updFromLead k b = true →
      ( let c := (b.getD 4 0).toNat
        (1 ≤ s.updState → s.updState ≤ 3 →
          exec (.updateAbortReceived k b) s = .next (idle s c 0).flushSinks.settle) ∧
        (s.updState = 5 → c ≠ 14 →
          exec (.updateAbortReceived k b) s = .next ((s.updTo 4).updOutcome c 0).flushSinks.settle))) ∧
    (∀ n, s.seed.commit = some (n, false) → s.seed.again = false → (s.writeRecs n).seed.buf.length < 256 →
      s.upd.image = none →
      ( let t := (s.writeRecs n).modSeed fun x => { x with commit := none, again := false }
        exec .journalCommitDone s =
          .next ((((t.put Pg.seed R.LAST_COMMIT_RECORDS n).put Pg.seed R.LAST_COMMIT_DURATION
            (t.freeWord.toNat % ((1000 + 27 * n) / 100 + 1))).draw.count Pg.seed
              R.CNT_COMMIT_COMMITS).compactTry).flushSinks.settle))

/-- R534, R540, R568 to R576: commit and trial. -/
def Obligations.UpdateCommitAndTrial : Prop :=
  ∀ (s : State) (a : Agent) (k : LinkId) (b : List Byte) (pos : Fin 4) (nr : Bool),
    let p := Pg.update
    let phase (t : State) (arm : Bool) : State := t.modUpd fun u => { u with votes := [], arm := arm }
    let back (t : State) (code : Nat) : State := (((phase t false).updTo 4).updOutcome code 0).updShow
    (s.writeCode a p R.UPD_CMD.off = .ok →
      (s.updState = 4 → s.upd.arm = false →
        (s.updCode false ≠ 0 →
          exec (.activate a) s = .next (s.updOutcome (s.updCode false) 0).flushSinks.settle ∧
          exec (.armUpdate a) s = .next (s.updOutcome (s.updCode false) 0).flushSinks.settle) ∧
        (s.updCode false = 0 → s.upd.peers = [] →
          ( let t := (phase s false).updTo 5
            t.interlockActive = false →
            exec (.activate a) s = .next t.updCommit.updShow.flushSinks.settle) ∧
          exec (.armUpdate a) s = .next (((phase s true).updTo 6).updShow).flushSinks.settle)) ∧
      (s.updState = 8 →
        (s.groupReady = false → exec (.confirm a) s = .next (s.updOutcome 12 0).flushSinks.settle) ∧
        (s.groupReady = true → s.trialPeers = [] →
          exec (.confirm a) s = .next s.trialConfirmed.flushSinks.settle ∧
          (s.on p R.UPD_CFG_AUTO_CONFIRM = true → exec .autoConfirmExpiry s = .next s.trialConfirmed.flushSinks.settle)) ∧
        (s.trialLead = true → s.trialPeers = [] →
          exec (.reject a) s = .next s.rollBack.flushSinks.settle ∧
          exec .confirmSExpiry s = .next s.rollBack.flushSinks.settle))) ∧
    (s.updFromLead k b = true →
      ( let arm := bitOf (b.getD 4 0).toNat 0
        s.updState = 4 →
        (s.updCode false = 0 →
          exec (.updatePrepare k b) s =
            .next ((s.updTo (if arm then 6 else 5)).updVote 0).flushSinks.settle) ∧
        (s.updCode false ≠ 0 →
          exec (.updatePrepare k b) s =
            .next ((s.updOutcome (s.updCode false) 0).updVote (s.updCode false)).flushSinks.settle)) ∧
      (s.updState = 5 →
        (s.interlockActive = false → exec (.updateCommitReceived k b) s = .next s.updCommit.flushSinks.settle) ∧
        (s.interlockActive = true →
          exec (.updateCommitReceived k b) s =
            .next (((((phase s false).updTo 4).setF p R.UPD_STATUS_HELD).raise p K.UPDATE_HELD
              s.updIdent).updShow).flushSinks.settle)) ∧
      (s.updState = 8 →
        exec (.updateConfirmReceived k b) s = .next s.trialConfirmed.flushSinks.settle ∧
        exec (.updateRejectReceived k b) s = .next s.rollBack.flushSinks.settle)) ∧
    (s.updFromPeer k b = true → s.updState = 5 → s.upd.peers = [s.posAt k] → s.upd.votes = [] →
      ((b.getD 4 0).toNat ≠ 0 →
        exec (.updateVote k b) s =
          .next (back (s.updSend (s.posAt k) 0x06 [12]) 12).flushSinks.settle) ∧
      exec .updateVoteTimeout s =
        .next (back ((s.raise p K.UPDATE_PEER_LOST (s.posAt k)).updSend (s.posAt k) 0x06 [12]) 12).flushSinks.settle) ∧
    (s.updState = 5 →
      (s.upd.lead.isSome = true → exec .peerPreparedTimeout s = .next (s.updTo 4).flushSinks.settle) ∧
      (s.upd.lead = none → exec .peerPreparedTimeout s = .next s.flushSinks.settle)) ∧
    (s.updState = 7 → exec (.actDelayExpiry pos nr) s = .next (s.aonReset 6 pos nr).flushSinks.settle) ∧
    (4 ≤ k.val → s.domainOn 0 = true → s.hubPos = 0 → s.updState = 8 → s.trialPeers.contains (s.posAt k) = true →
      leNat (bytesAt b 8 4) = s.bootedId →
      exec (.trialReady k b) s =
        .next ((s.modUpd fun u =>
          { u with ready := if bitOf (b.getD 4 0).toNat 0 then addNew (s.posAt k) u.ready
                            else u.ready.filter (· != s.posAt k) }).updShow).flushSinks.settle) ∧
    ( let r := s.switchTime
      (r.2 = false → exec .epochSwitch s = .next r.1.thermalGoesOn.flushSinks.settle) ∧
      (r.2 = true → r.1.updState = 6 →
        (r.1.interlockActive = false → exec .epochSwitch s = .next r.1.updCommit.thermalGoesOn.flushSinks.settle) ∧
        (r.1.interlockActive = true → exec .epochSwitch s = .next r.1.updHeld.thermalGoesOn.flushSinks.settle))) ∧
    (s.domainOn 0 = true → s.raluskState ≠ 0 → s.ral.limit = false →
      ( let l := s.recentRestarts
        let q := Pg.ralusk
        (l.length < 2 →
          exec .watchdogMiss s =
            .next ((((s.modRal fun r => { r with restarts := l ++ [s.ns] }).count q R.CNT_RALUSK_RESTARTS).raluskLoads.raise q
              K.RALUSK_RESTART (l.length + 1)).trialHalted).flushSinks.settle) ∧
        (2 ≤ l.length →
          exec .watchdogMiss s =
            .next ((((s.modRal fun r => { r with restarts := l ++ [s.ns], limit := true, haltSeen := false }).raluskTo 3).raise q
              K.RALUSK_HALTED 0).trialHalted).flushSinks.settle)))
end

