-- ==== Sys2Proof/Laws/Store.lean ====
section
/-! SUPPORT. The laws of the sparse store: a read after a write, and that every operation keeps the canonical form. -/

namespace Sys2Proof.Machine.Cells

variable {d : Nat → Word} {m : Cells} {k j b : Nat} {v : Word}

@[simp] theorem find_nil : find k [] = none := rfl

theorem find_erase_same : find k (erase k m) = none := by
  induction m with
  | nil => rfl
  | cons e t ih =>
    obtain ⟨i, w⟩ := e
    by_cases h : i = k
    · simpa [erase, h] using ih
    · simpa [erase, find, h] using ih

theorem find_erase_ne (h : j ≠ k) : find j (erase k m) = find j m := by
  induction m with
  | nil => rfl
  | cons e t ih =>
    obtain ⟨i, w⟩ := e
    by_cases h1 : i = k
    · subst h1
      have h2 : ¬ i = j := fun e => h e.symm
      simpa [erase, find, h2] using ih
    · simp only [erase, h1, if_false, find, ih]

theorem find_insert_same (h : find k m = none) : find k (insert k v m) = some v := by
  induction m with
  | nil => simp [insert, find]
  | cons e t ih =>
    obtain ⟨i, w⟩ := e
    by_cases h1 : i = k
    · simp [find, h1] at h
    · simp [find, h1] at h
      by_cases h2 : i < k <;> simp [insert, find, h1, h2, ih h]

theorem find_insert_ne (h : j ≠ k) : find j (insert k v m) = find j m := by
  induction m with
  | nil => simp [insert, find]; exact fun e => h e.symm
  | cons e t ih =>
    obtain ⟨i, w⟩ := e
    have hk : ¬ k = j := fun e => h e.symm
    by_cases h2 : i < k
    · simp only [insert, h2, if_true, find, ih]
    · simp [insert, find, h2, hk]

/-- A read after a write to the same key gives the word written. -/
theorem get_set_same : get d (set d m k v) k = v := by
  unfold set get
  by_cases h : v = d k
  · simp [h, find_erase_same]
  · simp [h, find_insert_same find_erase_same]

/-- A write leaves every other key alone. -/
theorem get_set_ne (h : j ≠ k) : get d (set d m k v) j = get d m j := by
  unfold set get
  by_cases h1 : v = d k
  · simp [h1, find_erase_ne h]
  · simp [h1, find_insert_ne h, find_erase_ne h]

/-- What a store reads as after a write. -/
theorem get_set : get d (set d m k v) j = if j = k then v else get d m j := by
  by_cases h : j = k
  · simp [h, get_set_same]
  · simp [h, get_set_ne h]

theorem risesFrom_mono (hab : j ≤ b) (h : risesFrom b m = true) : risesFrom j m = true := by
  cases m with
  | nil => rfl
  | cons e t =>
    obtain ⟨i, w⟩ := e
    simp [risesFrom] at h ⊢
    exact ⟨by omega, h.2⟩

theorem risesFrom_erase (h : risesFrom b m = true) : risesFrom b (erase k m) = true := by
  induction m generalizing b with
  | nil => rfl
  | cons e t ih =>
    obtain ⟨i, w⟩ := e
    simp [risesFrom] at h
    by_cases h1 : i = k
    · simpa [erase, h1] using risesFrom_mono (by omega) (ih h.2)
    · simp [erase, h1, risesFrom, h.1, ih h.2]

theorem risesFrom_insert (hb : b ≤ k) (h : risesFrom b m = true) (hk : find k m = none) :
    risesFrom b (insert k v m) = true := by
  induction m generalizing b with
  | nil => simp [insert, risesFrom, hb]
  | cons e t ih =>
    obtain ⟨i, w⟩ := e
    simp [risesFrom] at h
    have hne : i ≠ k := by intro e; simp [find, e] at hk
    have hk' : find k t = none := by simpa [find, hne] using hk
    by_cases h2 : i < k
    · simp [insert, h2, risesFrom, h.1, ih (by omega) h.2 hk']
    · have : k + 1 ≤ i := by omega
      simp [insert, h2, risesFrom, hb, this, h.2]

theorem all_erase {p : Nat × Word → Bool} (h : m.all p = true) : (erase k m).all p = true := by
  induction m with
  | nil => rfl
  | cons e t ih =>
    obtain ⟨i, w⟩ := e
    simp only [List.all_cons, Bool.and_eq_true] at h
    by_cases h1 : i = k
    · simpa [erase, h1] using ih h.2
    · simp only [erase, h1, if_false, List.all_cons, h.1, ih h.2, Bool.and_self]

theorem all_insert {p : Nat × Word → Bool} (h : m.all p = true) (hp : p (k, v) = true) :
    (insert k v m).all p = true := by
  induction m with
  | nil => simp [insert, hp]
  | cons e t ih =>
    obtain ⟨i, w⟩ := e
    simp only [List.all_cons, Bool.and_eq_true] at h
    by_cases h1 : i < k
    · simp only [insert, h1, if_true, List.all_cons, h.1, ih h.2, Bool.and_self]
    · simp only [insert, h1, if_false, List.all_cons, h.1, h.2, hp, Bool.and_self]

/-- A write keeps the canonical form. -/
theorem wf_set (h : wf d m = true) : wf d (set d m k v) = true := by
  simp only [wf, Bool.and_eq_true] at h ⊢
  unfold set
  by_cases h1 : v = d k
  · simp only [h1, if_true]
    exact ⟨risesFrom_erase h.1, all_erase h.2⟩
  · simp only [h1, if_false]
    exact ⟨risesFrom_insert (by omega) (risesFrom_erase h.1) find_erase_same,
      all_insert (all_erase h.2) (by simp [h1])⟩

/-- The empty store is canonical. -/
theorem wf_nil : wf d [] = true := rfl

end Sys2Proof.Machine.Cells
end

