-- ==== Sys2Proof/Laws/Regs.lean ====
section
/-! SUPPORT. The laws of registers and their fields: what a read gives after a write of a register or of a field. -/

namespace Sys2Proof.Machine

/-! ### Fields of a number -/

theorem bitsOf_lt (x lo w : Nat) : bitsOf x lo w < 2 ^ w := Nat.mod_lt _ (Nat.two_pow_pos w)

theorem testBit_bitsOf (x lo w i : Nat) : (bitsOf x lo w).testBit i = (decide (i < w) && x.testBit (lo + i)) := by
  simp [bitsOf, Nat.testBit_mod_two_pow, Nat.testBit_div_two_pow]
  rw [Nat.add_comm]

/-- Which bits a field write changes. -/
theorem testBit_bitsPut (x lo w v i : Nat) :
    (bitsPut x lo w v).testBit i = if lo ≤ i ∧ i < lo + w then v.testBit (i - lo) else x.testBit i := by
  have h1 : bitsPut x lo w v = 2 ^ lo * (2 ^ w * (x / 2 ^ (lo + w)) + v % 2 ^ w) + x % 2 ^ lo := by
    rw [bitsPut, Nat.pow_add]
    ring
  rw [h1, Nat.testBit_two_pow_mul_add _ (Nat.mod_lt _ (Nat.two_pow_pos lo))]
  by_cases h : i < lo
  · have : ¬ (lo ≤ i ∧ i < lo + w) := by omega
    simp [h, this, Nat.testBit_mod_two_pow]
  · rw [if_neg h, Nat.testBit_two_pow_mul_add _ (Nat.mod_lt _ (Nat.two_pow_pos w))]
    by_cases h2 : i - lo < w
    · have : lo ≤ i ∧ i < lo + w := by omega
      simp [h2, this, Nat.testBit_mod_two_pow]
    · have h3 : ¬ (lo ≤ i ∧ i < lo + w) := by omega
      rw [if_neg h2, if_neg h3, Nat.testBit_div_two_pow]
      congr 1; omega

/-- A field reads as what was written to it. -/
theorem bitsOf_bitsPut_same (x lo w v : Nat) : bitsOf (bitsPut x lo w v) lo w = v % 2 ^ w := by
  apply Nat.eq_of_testBit_eq
  intro i
  rw [testBit_bitsOf, testBit_bitsPut, Nat.testBit_mod_two_pow]
  by_cases h : i < w
  · have : lo ≤ lo + i ∧ lo + i < lo + w := by omega
    simp [h]
  · simp [h]

/-- A field beside the written one keeps its value. -/
theorem bitsOf_bitsPut_ne (x lo w v l2 w2 : Nat) (h : l2 + w2 ≤ lo ∨ lo + w ≤ l2) :
    bitsOf (bitsPut x lo w v) l2 w2 = bitsOf x l2 w2 := by
  apply Nat.eq_of_testBit_eq
  intro i
  rw [testBit_bitsOf, testBit_bitsOf, testBit_bitsPut]
  by_cases hi : i < w2
  · have : ¬ (lo ≤ l2 + i ∧ l2 + i < lo + w) := by omega
    simp [this]
  · simp [hi]

/-- A field inside a 32-bit register does not see the register's end. -/
theorem bitsOf_mod (x lo w : Nat) (h : lo + w ≤ 32) : bitsOf (x % 2 ^ 32) lo w = bitsOf x lo w := by
  apply Nat.eq_of_testBit_eq
  intro i
  rw [testBit_bitsOf, testBit_bitsOf, Nat.testBit_mod_two_pow]
  by_cases hi : i < w
  · have : lo + i < 32 := by omega
    simp [this]
  · simp [hi]

/-! ### Registers -/

/-- Keys of different registers differ. -/
theorem regKey_ne {p q o r : Nat} (ho : o < 0x1000000) (hr : r < 0x1000000) (h : p ≠ q ∨ o ≠ r) :
    regKey p o ≠ regKey q r := by
  unfold regKey; omega

namespace State

variable (s : State) (p q o r : Nat)

@[simp] theorem rd_wr_same (v : Word) : (s.wr p o v).rd p o = v := Cells.get_set_same

theorem rd_wr_key (v : Word) :
    (s.wr p o v).rd q r = if regKey q r = regKey p o then v else s.rd q r := Cells.get_set

/-- A write leaves every other register alone. -/
theorem rd_wr_ne (v : Word) (ho : o < 0x1000000) (hr : r < 0x1000000) (h : q ≠ p ∨ r ≠ o) :
    (s.wr p o v).rd q r = s.rd q r := by
  rw [rd_wr_key, if_neg (regKey_ne hr ho h)]

/-- Every key but one reads as before a write. -/
theorem regs_wr_ne (v : Word) {k : Nat} (h : k ≠ regKey p o) :
    (s.wr p o v).regs.get factoryWord k = s.regs.get factoryWord k := Cells.get_set_ne h

theorem regs_put_ne (f : Fld) (v : Nat) {k : Nat} (h : k ≠ regKey p f.off) :
    (s.put p f v).regs.get factoryWord k = s.regs.get factoryWord k := Cells.get_set_ne h

theorem rd_put_ne (f : Fld) (v : Nat) (ho : f.off < 0x1000000) (hr : r < 0x1000000) (h : q ≠ p ∨ r ≠ f.off) :
    (s.put p f v).rd q r = s.rd q r := rd_wr_ne s p q f.off r _ ho hr h

theorem rd_put_same (f : Fld) (v : Nat) :
    (s.put p f v).rd p f.off = BitVec.ofNat 32 (bitsPut (s.rd p f.off).toNat f.lo f.w v) := rd_wr_same s p f.off _

/-- A field reads as what was written to it. -/
theorem get_put_same (f : Fld) (v : Nat) (h : f.lo + f.w ≤ 32) : (s.put p f v).get p f = v % 2 ^ f.w := by
  rw [get, rd_put_same, BitVec.toNat_ofNat, bitsOf_mod _ _ _ h, bitsOf_bitsPut_same]

/-- A field of another register, or beside the written one, keeps its value. -/
theorem get_put_ne (f g : Fld) (v : Nat) (ho : f.off < 0x1000000) (hr : g.off < 0x1000000) (hg : g.lo + g.w ≤ 32)
    (h : q ≠ p ∨ g.off ≠ f.off ∨ g.lo + g.w ≤ f.lo ∨ f.lo + f.w ≤ g.lo) : (s.put p f v).get q g = s.get q g := by
  by_cases hk : q = p ∧ g.off = f.off
  · obtain ⟨rfl, hoff⟩ := hk
    have h' : g.lo + g.w ≤ f.lo ∨ f.lo + f.w ≤ g.lo := by simpa [hoff] using h
    rw [get, hoff, rd_put_same, BitVec.toNat_ofNat, bitsOf_mod _ _ _ hg, bitsOf_bitsPut_ne _ _ _ _ _ _ h', get, hoff]
  · rw [get, rd_put_ne s p q g.off f v ho hr (by omega), get]

theorem on_putB_same (f : Fld) (b : Bool) (h : f.lo + f.w ≤ 32) (hw : f.w = 1) : (s.putB p f b).on p f = b := by
  rw [on, putB, get_put_same _ _ _ _ h, hw]; cases b <;> rfl

theorem on_setF_same (f : Fld) (h : f.lo + f.w ≤ 32) (hw : f.w = 1) : (s.setF p f).on p f = true :=
  s.on_putB_same p f true h hw

theorem on_clrF_same (f : Fld) (h : f.lo + f.w ≤ 32) (hw : f.w = 1) : (s.clrF p f).on p f = false :=
  s.on_putB_same p f false h hw

/-- A field write changes nothing but the register store. -/
theorem put_eq (f : Fld) (v : Nat) : s.put p f v = { s with regs := (s.put p f v).regs } := rfl

theorem wr_eq (v : Word) : s.wr p o v = { s with regs := (s.wr p o v).regs } := rfl

/-- The register store keeps its canonical form. -/
theorem wf_wr (v : Word) (h : s.regs.wf factoryWord = true) : (s.wr p o v).regs.wf factoryWord = true := Cells.wf_set h

theorem wf_put (f : Fld) (v : Nat) (h : s.regs.wf factoryWord = true) : (s.put p f v).regs.wf factoryWord = true :=
  Cells.wf_set h

@[simp] theorem when_true (f : State → State) : s.when true f = f s := rfl
@[simp] theorem when_false (f : State → State) : s.when false f = s := rfl

end State

/-- The state after reset has a canonical store. -/
theorem wf_reset : State.reset.regs.wf factoryWord = true := rfl

end Sys2Proof.Machine
end

