-- ==== Sys2Proof/Laws/Guard.lean ====
section
/-! SUPPORT. What a guarded write or read can do, and the word that a one-field command writes. -/

namespace Sys2Proof.Machine

open Sys2Proof (Word Byte Agent Code AccessKind Instr)

namespace State

variable (s : State) (a : Agent) (kind : AccessKind) (p off : Nat) (v : Word) (eff : State → Nat → Word → State)

/-- The token registers are those of page 0x000. -/
theorem tokenRefused_ne (h : p ≠ Pg.identity) : s.tokenRefused a p off v = false := by
  simp [tokenRefused, h]

/-- A write that passes the check has the register's write effect, and nothing else. -/
theorem poke_ok (h1 : s.tokenRefused a p off v = false) (h2 : stagingBit p off = none)
    (h3 : s.writeCode a p off = .ok) : s.poke a p off v eff = eff s off v := by
  unfold poke guardedWrite guardedAt
  rw [h1, h2, h3]
  rfl

/-- The same outside page 0x000 and away from the two staging commands. -/
theorem poke_ok' (h1 : p ≠ Pg.identity) (h2 : stagingBit p off = none) (h3 : s.writeCode a p off = .ok) :
    s.poke a p off v eff = eff s off v := s.poke_ok a p off v eff (s.tokenRefused_ne a p off v h1) h2 h3

/-- A write that a cause of R622 refuses is logged, and has no other effect. -/
theorem poke_refused {c : Code} (h1 : s.tokenRefused a p off v = false) (h2 : stagingBit p off = none)
    (h3 : s.writeCode a p off = c) (h4 : c ≠ .ok) (h5 : c ≠ .keyLocked) (h6 : c ≠ .unsupported) :
    s.poke a p off v eff = s.logAccess c .posted a (s.ownAddr 0 (p * 0x1000 + off)) (some p) := by
  unfold poke guardedWrite guardedAt
  rw [h1, h2, h3]
  cases c <;> first | rfl | contradiction

/-- A read that passes the check has its effect, and its answer leaves the hub. -/
theorem guardedRead_ok (f : State → State × Word) (h : s.readCode a p off = .ok) :
    s.guardedRead a p off f = (f s).1.reply a p off (f s).2 .ok := by
  unfold guardedRead
  rw [h]

/-- A refused read is logged and answered as R34 states. -/
theorem guardedRead_refused (f : State → State × Word) {c : Code} (h : s.readCode a p off = c) (hc : c ≠ .ok) :
    s.guardedRead a p off f
      = (s.logAccess c .read a (s.ownAddr 0 (p * 0x1000 + off)) (some p)).reply a p off (refusedRead c) c := by
  unfold guardedRead
  rw [h]
  cases c <;> first | rfl | contradiction

/-- The bits that a one-field command writes. -/
theorem testBit_withField (f : Fld) (x i : Nat) (hi : i < 32) {d : RegDesc} (hd : s.descOf p f.off = some d) :
    (s.withField p f x).toNat.testBit i =
      if f.lo ≤ i ∧ i < f.lo + f.w then x.testBit (i - f.lo)
      else (s.rd p f.off).toNat.testBit i && (d.rw ||| d.rwk).testBit i := by
  rw [withField, hd, BitVec.toNat_ofNat, Nat.testBit_mod_two_pow, testBit_bitsPut]
  simp only [hi, decide_true, Bool.true_and]
  split
  · rfl
  · show ((s.rd p f.off).toNat &&& (d.rw ||| d.rwk)).testBit i = _
    rw [Nat.testBit_and]

/-- Outside the engine pages the row of a register does not depend on the state. -/
theorem descOf_block (h : isEngine p = false) (ho : ¬ off < 0x28) : s.descOf p off = findDesc (blockRegs p) off := by
  simp [descOf, h, ho]

end State

end Sys2Proof.Machine
end

