-- ==== Sys2Proof/Laws/Settle.lean ====
section
/-! SUPPORT. What closes every step: every meaning ends settled, and what settling can change. -/

namespace Sys2Proof.Machine

open Sys2Proof (Word Byte Instr)

namespace State

/-- `t` differs from `s` in no more than what settling writes. -/
def SettleSame (s t : State) : Prop :=
  (∀ k, settleKey k = false → t.regs.get factoryWord k = s.regs.get factoryWord k) ∧
  ∃ r v n, t = { s with regs := r, pcie := { s.pcie with vecs := v }, usb := { s.usb with note := n } }

theorem SettleSame.refl (s : State) : SettleSame s s := ⟨fun _ _ => rfl, s.regs, s.pcie.vecs, s.usb.note, rfl⟩

theorem SettleSame.trans {s t u : State} (h1 : SettleSame s t) (h2 : SettleSame t u) : SettleSame s u := by
  obtain ⟨a1, r1, v1, n1, e1⟩ := h1
  obtain ⟨a2, r2, v2, n2, e2⟩ := h2
  refine ⟨fun k hk => (a2 k hk).trans (a1 k hk), r2, v2, n2, ?_⟩
  rw [e2, e1]

theorem settleSame_wr (s : State) {p o : Nat} (v : Word) (h : settleKey (regKey p o) = true) :
    SettleSame s (s.wr p o v) := by
  refine ⟨fun k hk => regs_wr_ne s p o v ?_, _, s.pcie.vecs, s.usb.note, rfl⟩
  intro e; rw [e, h] at hk; cases hk

theorem settleSame_setVec (s : State) (v : Nat) (x : Vec) : SettleSame s (s.setVec v x) :=
  ⟨fun _ _ => rfl, s.regs, _, s.usb.note, rfl⟩

theorem settleSame_vecDrop (s : State) (v : Nat) (hv : v < 64) : SettleSame s (s.vecDrop v) := by
  unfold vecDrop
  split
  · refine (settleSame_setVec s v {}).trans (settleSame_wr _ _ ?_)
    have h : v / 32 = 0 ∨ v / 32 = 1 := by omega
    show settleKey (regKey Pg.interrupts (0xC00 + 4 * (v / 32))) = true
    rcases h with h | h <;> rw [h] <;> decide
  · exact .refl s

theorem settleSame_vecDrops (s : State) (l : List Nat) (hl : ∀ v ∈ l, v < 64) : SettleSame s (l.foldl vecDrop s) := by
  induction l generalizing s with
  | nil => exact .refl s
  | cons v t ih =>
    exact (settleSame_vecDrop s v (hl v (by simp))).trans (ih _ fun w hw => hl w (by simp [hw]))

theorem settleSame_noteDrop (s : State) : SettleSame s s.noteDrop := by
  unfold noteDrop
  split
  · exact ⟨fun _ _ => rfl, s.regs, s.pcie.vecs, {}, rfl⟩
  · exact .refl s

theorem settleSame_driveNint (s : State) (b : Nat) (hb : b < 2) : SettleSame s (s.driveNint b) := by
  unfold driveNint
  have h1 : SettleSame s (s.putB Pg.interrupts ⟨R.INT_STATUS.off, b, 1⟩ (s.nintLow b)) :=
    settleSame_wr s _ (show settleKey (regKey Pg.interrupts R.INT_STATUS.off) = true by decide)
  dsimp only
  split
  · refine h1.trans ((settleSame_wr _ _ ?_).trans (settleSame_wr _ _ ?_)) <;>
      (have h : b = 0 ∨ b = 1 := by omega) <;> rcases h with rfl | rfl <;> decide
  · exact h1

/-- What settling can change, once for all. -/
theorem settleSame_settle (s : State) : SettleSame s s.settle := by
  unfold settle
  refine (((settleSame_vecDrops s _ fun v hv => by simpa using hv).trans (settleSame_noteDrop _)).trans
    (settleSame_driveNint _ 0 (by decide))).trans (settleSame_driveNint _ 1 (by decide))

/-- Settling leaves every register alone but those it writes. -/
theorem rd_settle (s : State) (p o : Nat) (h : settleKey (regKey p o) = false) : s.settle.rd p o = s.rd p o :=
  (settleSame_settle s).1 _ h

theorem get_settle (s : State) (p : Nat) (f : Fld) (h : settleKey (regKey p f.off) = false) :
    s.settle.get p f = s.get p f := by rw [get, rd_settle s p f.off h, get]

end State

/-- Every command is answered by a next state, settled. -/
theorem exec_settles (c : Instr) (s : State) : ∃ x : State, exec c s = .next x.settle := by
  cases c <;> exact ⟨_, rfl⟩

/-- A step with an empty queue is answered by a next state, settled. -/
theorem idle_settles (s : State) : ∃ x : State, idle s = .next x.settle := ⟨_, rfl⟩

/-- Every step is answered by a next state, settled. -/
theorem step_settles (s : State) : ∃ x : State, step s = .next x.settle := by
  unfold step
  split
  · exact idle_settles s
  · exact exec_settles _ _

end Sys2Proof.Machine
end

