-- ==== Sys2Proof/Laws/State.lean ====
section
/-! SUPPORT. What each update of the state does to each of its fields: one lemma for a field and an update, so that no later
proof unfolds a record update. -/

namespace Sys2Proof.Machine.State

open Sys2Proof (Word)

variable (s : State)

/-! ### wr -/

@[simp] theorem wr_regs (p o : Nat) (v : Word) : (s.wr p o v).regs = s.regs.set factoryWord (regKey p o) v := rfl
@[simp] theorem wr_staged (p o : Nat) (v : Word) : (s.wr p o v).staged = s.staged := rfl
@[simp] theorem wr_ns (p o : Nat) (v : Word) : (s.wr p o v).ns = s.ns := rfl
@[simp] theorem wr_fresh (p o : Nat) (v : Word) : (s.wr p o v).fresh = s.fresh := rfl
@[simp] theorem wr_out (p o : Nat) (v : Word) : (s.wr p o v).out = s.out := rfl
@[simp] theorem wr_pending (p o : Nat) (v : Word) : (s.wr p o v).pending = s.pending := rfl
@[simp] theorem wr_afl (p o : Nat) (v : Word) : (s.wr p o v).afl = s.afl := rfl
@[simp] theorem wr_reclaim (p o : Nat) (v : Word) : (s.wr p o v).reclaim = s.reclaim := rfl
@[simp] theorem wr_die (p o : Nat) (v : Word) : (s.wr p o v).die = s.die := rfl
@[simp] theorem wr_lanes (p o : Nat) (v : Word) : (s.wr p o v).lanes = s.lanes := rfl
@[simp] theorem wr_links (p o : Nat) (v : Word) : (s.wr p o v).links = s.links := rfl
@[simp] theorem wr_ring (p o : Nat) (v : Word) : (s.wr p o v).ring = s.ring := rfl
@[simp] theorem wr_core (p o : Nat) (v : Word) : (s.wr p o v).core = s.core := rfl
@[simp] theorem wr_sig (p o : Nat) (v : Word) : (s.wr p o v).sig = s.sig := rfl
@[simp] theorem wr_bridge (p o : Nat) (v : Word) : (s.wr p o v).bridge = s.bridge := rfl
@[simp] theorem wr_engs (p o : Nat) (v : Word) : (s.wr p o v).engs = s.engs := rfl
@[simp] theorem wr_field (p o : Nat) (v : Word) : (s.wr p o v).field = s.field := rfl
@[simp] theorem wr_prime0 (p o : Nat) (v : Word) : (s.wr p o v).prime0 = s.prime0 := rfl
@[simp] theorem wr_prime1 (p o : Nat) (v : Word) : (s.wr p o v).prime1 = s.prime1 := rfl
@[simp] theorem wr_units (p o : Nat) (v : Word) : (s.wr p o v).units = s.units := rfl
@[simp] theorem wr_time (p o : Nat) (v : Word) : (s.wr p o v).time = s.time := rfl
@[simp] theorem wr_pcie (p o : Nat) (v : Word) : (s.wr p o v).pcie = s.pcie := rfl
@[simp] theorem wr_usb (p o : Nat) (v : Word) : (s.wr p o v).usb = s.usb := rfl
@[simp] theorem wr_power (p o : Nat) (v : Word) : (s.wr p o v).power = s.power := rfl
@[simp] theorem wr_seed (p o : Nat) (v : Word) : (s.wr p o v).seed = s.seed := rfl
@[simp] theorem wr_thr (p o : Nat) (v : Word) : (s.wr p o v).thr = s.thr := rfl
@[simp] theorem wr_ral (p o : Nat) (v : Word) : (s.wr p o v).ral = s.ral := rfl
@[simp] theorem wr_epoch (p o : Nat) (v : Word) : (s.wr p o v).epoch = s.epoch := rfl
@[simp] theorem wr_upd (p o : Nat) (v : Word) : (s.wr p o v).upd = s.upd := rfl
@[simp] theorem wr_sec (p o : Nat) (v : Word) : (s.wr p o v).sec = s.sec := rfl
@[simp] theorem wr_chaff (p o : Nat) (v : Word) : (s.wr p o v).chaff = s.chaff := rfl

/-! ### put -/

@[simp] theorem put_staged (p : Nat) (f : Fld) (v : Nat) : (s.put p f v).staged = s.staged := rfl
@[simp] theorem put_ns (p : Nat) (f : Fld) (v : Nat) : (s.put p f v).ns = s.ns := rfl
@[simp] theorem put_fresh (p : Nat) (f : Fld) (v : Nat) : (s.put p f v).fresh = s.fresh := rfl
@[simp] theorem put_out (p : Nat) (f : Fld) (v : Nat) : (s.put p f v).out = s.out := rfl
@[simp] theorem put_pending (p : Nat) (f : Fld) (v : Nat) : (s.put p f v).pending = s.pending := rfl
@[simp] theorem put_afl (p : Nat) (f : Fld) (v : Nat) : (s.put p f v).afl = s.afl := rfl
@[simp] theorem put_reclaim (p : Nat) (f : Fld) (v : Nat) : (s.put p f v).reclaim = s.reclaim := rfl
@[simp] theorem put_die (p : Nat) (f : Fld) (v : Nat) : (s.put p f v).die = s.die := rfl
@[simp] theorem put_lanes (p : Nat) (f : Fld) (v : Nat) : (s.put p f v).lanes = s.lanes := rfl
@[simp] theorem put_links (p : Nat) (f : Fld) (v : Nat) : (s.put p f v).links = s.links := rfl
@[simp] theorem put_ring (p : Nat) (f : Fld) (v : Nat) : (s.put p f v).ring = s.ring := rfl
@[simp] theorem put_core (p : Nat) (f : Fld) (v : Nat) : (s.put p f v).core = s.core := rfl
@[simp] theorem put_sig (p : Nat) (f : Fld) (v : Nat) : (s.put p f v).sig = s.sig := rfl
@[simp] theorem put_bridge (p : Nat) (f : Fld) (v : Nat) : (s.put p f v).bridge = s.bridge := rfl
@[simp] theorem put_engs (p : Nat) (f : Fld) (v : Nat) : (s.put p f v).engs = s.engs := rfl
@[simp] theorem put_field (p : Nat) (f : Fld) (v : Nat) : (s.put p f v).field = s.field := rfl
@[simp] theorem put_prime0 (p : Nat) (f : Fld) (v : Nat) : (s.put p f v).prime0 = s.prime0 := rfl
@[simp] theorem put_prime1 (p : Nat) (f : Fld) (v : Nat) : (s.put p f v).prime1 = s.prime1 := rfl
@[simp] theorem put_units (p : Nat) (f : Fld) (v : Nat) : (s.put p f v).units = s.units := rfl
@[simp] theorem put_time (p : Nat) (f : Fld) (v : Nat) : (s.put p f v).time = s.time := rfl
@[simp] theorem put_pcie (p : Nat) (f : Fld) (v : Nat) : (s.put p f v).pcie = s.pcie := rfl
@[simp] theorem put_usb (p : Nat) (f : Fld) (v : Nat) : (s.put p f v).usb = s.usb := rfl
@[simp] theorem put_power (p : Nat) (f : Fld) (v : Nat) : (s.put p f v).power = s.power := rfl
@[simp] theorem put_seed (p : Nat) (f : Fld) (v : Nat) : (s.put p f v).seed = s.seed := rfl
@[simp] theorem put_thr (p : Nat) (f : Fld) (v : Nat) : (s.put p f v).thr = s.thr := rfl
@[simp] theorem put_ral (p : Nat) (f : Fld) (v : Nat) : (s.put p f v).ral = s.ral := rfl
@[simp] theorem put_epoch (p : Nat) (f : Fld) (v : Nat) : (s.put p f v).epoch = s.epoch := rfl
@[simp] theorem put_upd (p : Nat) (f : Fld) (v : Nat) : (s.put p f v).upd = s.upd := rfl
@[simp] theorem put_sec (p : Nat) (f : Fld) (v : Nat) : (s.put p f v).sec = s.sec := rfl
@[simp] theorem put_chaff (p : Nat) (f : Fld) (v : Nat) : (s.put p f v).chaff = s.chaff := rfl

/-! ### setF -/

@[simp] theorem setF_staged (p : Nat) (f : Fld) : (s.setF p f).staged = s.staged := rfl
@[simp] theorem setF_ns (p : Nat) (f : Fld) : (s.setF p f).ns = s.ns := rfl
@[simp] theorem setF_fresh (p : Nat) (f : Fld) : (s.setF p f).fresh = s.fresh := rfl
@[simp] theorem setF_out (p : Nat) (f : Fld) : (s.setF p f).out = s.out := rfl
@[simp] theorem setF_pending (p : Nat) (f : Fld) : (s.setF p f).pending = s.pending := rfl
@[simp] theorem setF_afl (p : Nat) (f : Fld) : (s.setF p f).afl = s.afl := rfl
@[simp] theorem setF_reclaim (p : Nat) (f : Fld) : (s.setF p f).reclaim = s.reclaim := rfl
@[simp] theorem setF_die (p : Nat) (f : Fld) : (s.setF p f).die = s.die := rfl
@[simp] theorem setF_lanes (p : Nat) (f : Fld) : (s.setF p f).lanes = s.lanes := rfl
@[simp] theorem setF_links (p : Nat) (f : Fld) : (s.setF p f).links = s.links := rfl
@[simp] theorem setF_ring (p : Nat) (f : Fld) : (s.setF p f).ring = s.ring := rfl
@[simp] theorem setF_core (p : Nat) (f : Fld) : (s.setF p f).core = s.core := rfl
@[simp] theorem setF_sig (p : Nat) (f : Fld) : (s.setF p f).sig = s.sig := rfl
@[simp] theorem setF_bridge (p : Nat) (f : Fld) : (s.setF p f).bridge = s.bridge := rfl
@[simp] theorem setF_engs (p : Nat) (f : Fld) : (s.setF p f).engs = s.engs := rfl
@[simp] theorem setF_field (p : Nat) (f : Fld) : (s.setF p f).field = s.field := rfl
@[simp] theorem setF_prime0 (p : Nat) (f : Fld) : (s.setF p f).prime0 = s.prime0 := rfl
@[simp] theorem setF_prime1 (p : Nat) (f : Fld) : (s.setF p f).prime1 = s.prime1 := rfl
@[simp] theorem setF_units (p : Nat) (f : Fld) : (s.setF p f).units = s.units := rfl
@[simp] theorem setF_time (p : Nat) (f : Fld) : (s.setF p f).time = s.time := rfl
@[simp] theorem setF_pcie (p : Nat) (f : Fld) : (s.setF p f).pcie = s.pcie := rfl
@[simp] theorem setF_usb (p : Nat) (f : Fld) : (s.setF p f).usb = s.usb := rfl
@[simp] theorem setF_power (p : Nat) (f : Fld) : (s.setF p f).power = s.power := rfl
@[simp] theorem setF_seed (p : Nat) (f : Fld) : (s.setF p f).seed = s.seed := rfl
@[simp] theorem setF_thr (p : Nat) (f : Fld) : (s.setF p f).thr = s.thr := rfl
@[simp] theorem setF_ral (p : Nat) (f : Fld) : (s.setF p f).ral = s.ral := rfl
@[simp] theorem setF_epoch (p : Nat) (f : Fld) : (s.setF p f).epoch = s.epoch := rfl
@[simp] theorem setF_upd (p : Nat) (f : Fld) : (s.setF p f).upd = s.upd := rfl
@[simp] theorem setF_sec (p : Nat) (f : Fld) : (s.setF p f).sec = s.sec := rfl
@[simp] theorem setF_chaff (p : Nat) (f : Fld) : (s.setF p f).chaff = s.chaff := rfl

/-! ### clrF -/

@[simp] theorem clrF_staged (p : Nat) (f : Fld) : (s.clrF p f).staged = s.staged := rfl
@[simp] theorem clrF_ns (p : Nat) (f : Fld) : (s.clrF p f).ns = s.ns := rfl
@[simp] theorem clrF_fresh (p : Nat) (f : Fld) : (s.clrF p f).fresh = s.fresh := rfl
@[simp] theorem clrF_out (p : Nat) (f : Fld) : (s.clrF p f).out = s.out := rfl
@[simp] theorem clrF_pending (p : Nat) (f : Fld) : (s.clrF p f).pending = s.pending := rfl
@[simp] theorem clrF_afl (p : Nat) (f : Fld) : (s.clrF p f).afl = s.afl := rfl
@[simp] theorem clrF_reclaim (p : Nat) (f : Fld) : (s.clrF p f).reclaim = s.reclaim := rfl
@[simp] theorem clrF_die (p : Nat) (f : Fld) : (s.clrF p f).die = s.die := rfl
@[simp] theorem clrF_lanes (p : Nat) (f : Fld) : (s.clrF p f).lanes = s.lanes := rfl
@[simp] theorem clrF_links (p : Nat) (f : Fld) : (s.clrF p f).links = s.links := rfl
@[simp] theorem clrF_ring (p : Nat) (f : Fld) : (s.clrF p f).ring = s.ring := rfl
@[simp] theorem clrF_core (p : Nat) (f : Fld) : (s.clrF p f).core = s.core := rfl
@[simp] theorem clrF_sig (p : Nat) (f : Fld) : (s.clrF p f).sig = s.sig := rfl
@[simp] theorem clrF_bridge (p : Nat) (f : Fld) : (s.clrF p f).bridge = s.bridge := rfl
@[simp] theorem clrF_engs (p : Nat) (f : Fld) : (s.clrF p f).engs = s.engs := rfl
@[simp] theorem clrF_field (p : Nat) (f : Fld) : (s.clrF p f).field = s.field := rfl
@[simp] theorem clrF_prime0 (p : Nat) (f : Fld) : (s.clrF p f).prime0 = s.prime0 := rfl
@[simp] theorem clrF_prime1 (p : Nat) (f : Fld) : (s.clrF p f).prime1 = s.prime1 := rfl
@[simp] theorem clrF_units (p : Nat) (f : Fld) : (s.clrF p f).units = s.units := rfl
@[simp] theorem clrF_time (p : Nat) (f : Fld) : (s.clrF p f).time = s.time := rfl
@[simp] theorem clrF_pcie (p : Nat) (f : Fld) : (s.clrF p f).pcie = s.pcie := rfl
@[simp] theorem clrF_usb (p : Nat) (f : Fld) : (s.clrF p f).usb = s.usb := rfl
@[simp] theorem clrF_power (p : Nat) (f : Fld) : (s.clrF p f).power = s.power := rfl
@[simp] theorem clrF_seed (p : Nat) (f : Fld) : (s.clrF p f).seed = s.seed := rfl
@[simp] theorem clrF_thr (p : Nat) (f : Fld) : (s.clrF p f).thr = s.thr := rfl
@[simp] theorem clrF_ral (p : Nat) (f : Fld) : (s.clrF p f).ral = s.ral := rfl
@[simp] theorem clrF_epoch (p : Nat) (f : Fld) : (s.clrF p f).epoch = s.epoch := rfl
@[simp] theorem clrF_upd (p : Nat) (f : Fld) : (s.clrF p f).upd = s.upd := rfl
@[simp] theorem clrF_sec (p : Nat) (f : Fld) : (s.clrF p f).sec = s.sec := rfl
@[simp] theorem clrF_chaff (p : Nat) (f : Fld) : (s.clrF p f).chaff = s.chaff := rfl

/-! ### putB -/

@[simp] theorem putB_staged (p : Nat) (f : Fld) (b : Bool) : (s.putB p f b).staged = s.staged := rfl
@[simp] theorem putB_ns (p : Nat) (f : Fld) (b : Bool) : (s.putB p f b).ns = s.ns := rfl
@[simp] theorem putB_fresh (p : Nat) (f : Fld) (b : Bool) : (s.putB p f b).fresh = s.fresh := rfl
@[simp] theorem putB_out (p : Nat) (f : Fld) (b : Bool) : (s.putB p f b).out = s.out := rfl
@[simp] theorem putB_pending (p : Nat) (f : Fld) (b : Bool) : (s.putB p f b).pending = s.pending := rfl
@[simp] theorem putB_afl (p : Nat) (f : Fld) (b : Bool) : (s.putB p f b).afl = s.afl := rfl
@[simp] theorem putB_reclaim (p : Nat) (f : Fld) (b : Bool) : (s.putB p f b).reclaim = s.reclaim := rfl
@[simp] theorem putB_die (p : Nat) (f : Fld) (b : Bool) : (s.putB p f b).die = s.die := rfl
@[simp] theorem putB_lanes (p : Nat) (f : Fld) (b : Bool) : (s.putB p f b).lanes = s.lanes := rfl
@[simp] theorem putB_links (p : Nat) (f : Fld) (b : Bool) : (s.putB p f b).links = s.links := rfl
@[simp] theorem putB_ring (p : Nat) (f : Fld) (b : Bool) : (s.putB p f b).ring = s.ring := rfl
@[simp] theorem putB_core (p : Nat) (f : Fld) (b : Bool) : (s.putB p f b).core = s.core := rfl
@[simp] theorem putB_sig (p : Nat) (f : Fld) (b : Bool) : (s.putB p f b).sig = s.sig := rfl
@[simp] theorem putB_bridge (p : Nat) (f : Fld) (b : Bool) : (s.putB p f b).bridge = s.bridge := rfl
@[simp] theorem putB_engs (p : Nat) (f : Fld) (b : Bool) : (s.putB p f b).engs = s.engs := rfl
@[simp] theorem putB_field (p : Nat) (f : Fld) (b : Bool) : (s.putB p f b).field = s.field := rfl
@[simp] theorem putB_prime0 (p : Nat) (f : Fld) (b : Bool) : (s.putB p f b).prime0 = s.prime0 := rfl
@[simp] theorem putB_prime1 (p : Nat) (f : Fld) (b : Bool) : (s.putB p f b).prime1 = s.prime1 := rfl
@[simp] theorem putB_units (p : Nat) (f : Fld) (b : Bool) : (s.putB p f b).units = s.units := rfl
@[simp] theorem putB_time (p : Nat) (f : Fld) (b : Bool) : (s.putB p f b).time = s.time := rfl
@[simp] theorem putB_pcie (p : Nat) (f : Fld) (b : Bool) : (s.putB p f b).pcie = s.pcie := rfl
@[simp] theorem putB_usb (p : Nat) (f : Fld) (b : Bool) : (s.putB p f b).usb = s.usb := rfl
@[simp] theorem putB_power (p : Nat) (f : Fld) (b : Bool) : (s.putB p f b).power = s.power := rfl
@[simp] theorem putB_seed (p : Nat) (f : Fld) (b : Bool) : (s.putB p f b).seed = s.seed := rfl
@[simp] theorem putB_thr (p : Nat) (f : Fld) (b : Bool) : (s.putB p f b).thr = s.thr := rfl
@[simp] theorem putB_ral (p : Nat) (f : Fld) (b : Bool) : (s.putB p f b).ral = s.ral := rfl
@[simp] theorem putB_epoch (p : Nat) (f : Fld) (b : Bool) : (s.putB p f b).epoch = s.epoch := rfl
@[simp] theorem putB_upd (p : Nat) (f : Fld) (b : Bool) : (s.putB p f b).upd = s.upd := rfl
@[simp] theorem putB_sec (p : Nat) (f : Fld) (b : Bool) : (s.putB p f b).sec = s.sec := rfl
@[simp] theorem putB_chaff (p : Nat) (f : Fld) (b : Bool) : (s.putB p f b).chaff = s.chaff := rfl

/-! ### event -/

@[simp] theorem event_staged (p n : Nat) : (s.event p n).staged = s.staged := rfl
@[simp] theorem event_ns (p n : Nat) : (s.event p n).ns = s.ns := rfl
@[simp] theorem event_fresh (p n : Nat) : (s.event p n).fresh = s.fresh := rfl
@[simp] theorem event_out (p n : Nat) : (s.event p n).out = s.out := rfl
@[simp] theorem event_pending (p n : Nat) : (s.event p n).pending = s.pending := rfl
@[simp] theorem event_afl (p n : Nat) : (s.event p n).afl = s.afl := rfl
@[simp] theorem event_reclaim (p n : Nat) : (s.event p n).reclaim = s.reclaim := rfl
@[simp] theorem event_die (p n : Nat) : (s.event p n).die = s.die := rfl
@[simp] theorem event_lanes (p n : Nat) : (s.event p n).lanes = s.lanes := rfl
@[simp] theorem event_links (p n : Nat) : (s.event p n).links = s.links := rfl
@[simp] theorem event_ring (p n : Nat) : (s.event p n).ring = s.ring := rfl
@[simp] theorem event_core (p n : Nat) : (s.event p n).core = s.core := rfl
@[simp] theorem event_sig (p n : Nat) : (s.event p n).sig = s.sig := rfl
@[simp] theorem event_bridge (p n : Nat) : (s.event p n).bridge = s.bridge := rfl
@[simp] theorem event_engs (p n : Nat) : (s.event p n).engs = s.engs := rfl
@[simp] theorem event_field (p n : Nat) : (s.event p n).field = s.field := rfl
@[simp] theorem event_prime0 (p n : Nat) : (s.event p n).prime0 = s.prime0 := rfl
@[simp] theorem event_prime1 (p n : Nat) : (s.event p n).prime1 = s.prime1 := rfl
@[simp] theorem event_units (p n : Nat) : (s.event p n).units = s.units := rfl
@[simp] theorem event_time (p n : Nat) : (s.event p n).time = s.time := rfl
@[simp] theorem event_pcie (p n : Nat) : (s.event p n).pcie = s.pcie := rfl
@[simp] theorem event_usb (p n : Nat) : (s.event p n).usb = s.usb := rfl
@[simp] theorem event_power (p n : Nat) : (s.event p n).power = s.power := rfl
@[simp] theorem event_seed (p n : Nat) : (s.event p n).seed = s.seed := rfl
@[simp] theorem event_thr (p n : Nat) : (s.event p n).thr = s.thr := rfl
@[simp] theorem event_ral (p n : Nat) : (s.event p n).ral = s.ral := rfl
@[simp] theorem event_epoch (p n : Nat) : (s.event p n).epoch = s.epoch := rfl
@[simp] theorem event_upd (p n : Nat) : (s.event p n).upd = s.upd := rfl
@[simp] theorem event_sec (p n : Nat) : (s.event p n).sec = s.sec := rfl
@[simp] theorem event_chaff (p n : Nat) : (s.event p n).chaff = s.chaff := rfl

/-! ### wrStaged -/

@[simp] theorem wrStaged_regs (p o : Nat) (v : Word) : (s.wrStaged p o v).regs = s.regs := rfl
@[simp] theorem wrStaged_ns (p o : Nat) (v : Word) : (s.wrStaged p o v).ns = s.ns := rfl
@[simp] theorem wrStaged_fresh (p o : Nat) (v : Word) : (s.wrStaged p o v).fresh = s.fresh := rfl
@[simp] theorem wrStaged_out (p o : Nat) (v : Word) : (s.wrStaged p o v).out = s.out := rfl
@[simp] theorem wrStaged_pending (p o : Nat) (v : Word) : (s.wrStaged p o v).pending = s.pending := rfl
@[simp] theorem wrStaged_afl (p o : Nat) (v : Word) : (s.wrStaged p o v).afl = s.afl := rfl
@[simp] theorem wrStaged_reclaim (p o : Nat) (v : Word) : (s.wrStaged p o v).reclaim = s.reclaim := rfl
@[simp] theorem wrStaged_die (p o : Nat) (v : Word) : (s.wrStaged p o v).die = s.die := rfl
@[simp] theorem wrStaged_lanes (p o : Nat) (v : Word) : (s.wrStaged p o v).lanes = s.lanes := rfl
@[simp] theorem wrStaged_links (p o : Nat) (v : Word) : (s.wrStaged p o v).links = s.links := rfl
@[simp] theorem wrStaged_ring (p o : Nat) (v : Word) : (s.wrStaged p o v).ring = s.ring := rfl
@[simp] theorem wrStaged_core (p o : Nat) (v : Word) : (s.wrStaged p o v).core = s.core := rfl
@[simp] theorem wrStaged_sig (p o : Nat) (v : Word) : (s.wrStaged p o v).sig = s.sig := rfl
@[simp] theorem wrStaged_bridge (p o : Nat) (v : Word) : (s.wrStaged p o v).bridge = s.bridge := rfl
@[simp] theorem wrStaged_engs (p o : Nat) (v : Word) : (s.wrStaged p o v).engs = s.engs := rfl
@[simp] theorem wrStaged_field (p o : Nat) (v : Word) : (s.wrStaged p o v).field = s.field := rfl
@[simp] theorem wrStaged_prime0 (p o : Nat) (v : Word) : (s.wrStaged p o v).prime0 = s.prime0 := rfl
@[simp] theorem wrStaged_prime1 (p o : Nat) (v : Word) : (s.wrStaged p o v).prime1 = s.prime1 := rfl
@[simp] theorem wrStaged_units (p o : Nat) (v : Word) : (s.wrStaged p o v).units = s.units := rfl
@[simp] theorem wrStaged_time (p o : Nat) (v : Word) : (s.wrStaged p o v).time = s.time := rfl
@[simp] theorem wrStaged_pcie (p o : Nat) (v : Word) : (s.wrStaged p o v).pcie = s.pcie := rfl
@[simp] theorem wrStaged_usb (p o : Nat) (v : Word) : (s.wrStaged p o v).usb = s.usb := rfl
@[simp] theorem wrStaged_power (p o : Nat) (v : Word) : (s.wrStaged p o v).power = s.power := rfl
@[simp] theorem wrStaged_seed (p o : Nat) (v : Word) : (s.wrStaged p o v).seed = s.seed := rfl
@[simp] theorem wrStaged_thr (p o : Nat) (v : Word) : (s.wrStaged p o v).thr = s.thr := rfl
@[simp] theorem wrStaged_ral (p o : Nat) (v : Word) : (s.wrStaged p o v).ral = s.ral := rfl
@[simp] theorem wrStaged_epoch (p o : Nat) (v : Word) : (s.wrStaged p o v).epoch = s.epoch := rfl
@[simp] theorem wrStaged_upd (p o : Nat) (v : Word) : (s.wrStaged p o v).upd = s.upd := rfl
@[simp] theorem wrStaged_sec (p o : Nat) (v : Word) : (s.wrStaged p o v).sec = s.sec := rfl
@[simp] theorem wrStaged_chaff (p o : Nat) (v : Word) : (s.wrStaged p o v).chaff = s.chaff := rfl

/-! ### emit -/

@[simp] theorem emit_regs (o : Output) : (s.emit o).regs = s.regs := rfl
@[simp] theorem emit_staged (o : Output) : (s.emit o).staged = s.staged := rfl
@[simp] theorem emit_ns (o : Output) : (s.emit o).ns = s.ns := rfl
@[simp] theorem emit_fresh (o : Output) : (s.emit o).fresh = s.fresh := rfl
@[simp] theorem emit_out (o : Output) : (s.emit o).out = o :: s.out := rfl
@[simp] theorem emit_pending (o : Output) : (s.emit o).pending = s.pending := rfl
@[simp] theorem emit_afl (o : Output) : (s.emit o).afl = s.afl := rfl
@[simp] theorem emit_reclaim (o : Output) : (s.emit o).reclaim = s.reclaim := rfl
@[simp] theorem emit_die (o : Output) : (s.emit o).die = s.die := rfl
@[simp] theorem emit_lanes (o : Output) : (s.emit o).lanes = s.lanes := rfl
@[simp] theorem emit_links (o : Output) : (s.emit o).links = s.links := rfl
@[simp] theorem emit_ring (o : Output) : (s.emit o).ring = s.ring := rfl
@[simp] theorem emit_core (o : Output) : (s.emit o).core = s.core := rfl
@[simp] theorem emit_sig (o : Output) : (s.emit o).sig = s.sig := rfl
@[simp] theorem emit_bridge (o : Output) : (s.emit o).bridge = s.bridge := rfl
@[simp] theorem emit_engs (o : Output) : (s.emit o).engs = s.engs := rfl
@[simp] theorem emit_field (o : Output) : (s.emit o).field = s.field := rfl
@[simp] theorem emit_prime0 (o : Output) : (s.emit o).prime0 = s.prime0 := rfl
@[simp] theorem emit_prime1 (o : Output) : (s.emit o).prime1 = s.prime1 := rfl
@[simp] theorem emit_units (o : Output) : (s.emit o).units = s.units := rfl
@[simp] theorem emit_time (o : Output) : (s.emit o).time = s.time := rfl
@[simp] theorem emit_pcie (o : Output) : (s.emit o).pcie = s.pcie := rfl
@[simp] theorem emit_usb (o : Output) : (s.emit o).usb = s.usb := rfl
@[simp] theorem emit_power (o : Output) : (s.emit o).power = s.power := rfl
@[simp] theorem emit_seed (o : Output) : (s.emit o).seed = s.seed := rfl
@[simp] theorem emit_thr (o : Output) : (s.emit o).thr = s.thr := rfl
@[simp] theorem emit_ral (o : Output) : (s.emit o).ral = s.ral := rfl
@[simp] theorem emit_epoch (o : Output) : (s.emit o).epoch = s.epoch := rfl
@[simp] theorem emit_upd (o : Output) : (s.emit o).upd = s.upd := rfl
@[simp] theorem emit_sec (o : Output) : (s.emit o).sec = s.sec := rfl
@[simp] theorem emit_chaff (o : Output) : (s.emit o).chaff = s.chaff := rfl

/-! ### draw -/

@[simp] theorem draw_regs : (s.draw).regs = s.regs := rfl
@[simp] theorem draw_staged : (s.draw).staged = s.staged := rfl
@[simp] theorem draw_ns : (s.draw).ns = s.ns := rfl
@[simp] theorem draw_fresh : (s.draw).fresh = s.fresh + 1 := rfl
@[simp] theorem draw_out : (s.draw).out = s.out := rfl
@[simp] theorem draw_pending : (s.draw).pending = s.pending := rfl
@[simp] theorem draw_afl : (s.draw).afl = s.afl := rfl
@[simp] theorem draw_reclaim : (s.draw).reclaim = s.reclaim := rfl
@[simp] theorem draw_die : (s.draw).die = s.die := rfl
@[simp] theorem draw_lanes : (s.draw).lanes = s.lanes := rfl
@[simp] theorem draw_links : (s.draw).links = s.links := rfl
@[simp] theorem draw_ring : (s.draw).ring = s.ring := rfl
@[simp] theorem draw_core : (s.draw).core = s.core := rfl
@[simp] theorem draw_sig : (s.draw).sig = s.sig := rfl
@[simp] theorem draw_bridge : (s.draw).bridge = s.bridge := rfl
@[simp] theorem draw_engs : (s.draw).engs = s.engs := rfl
@[simp] theorem draw_field : (s.draw).field = s.field := rfl
@[simp] theorem draw_prime0 : (s.draw).prime0 = s.prime0 := rfl
@[simp] theorem draw_prime1 : (s.draw).prime1 = s.prime1 := rfl
@[simp] theorem draw_units : (s.draw).units = s.units := rfl
@[simp] theorem draw_time : (s.draw).time = s.time := rfl
@[simp] theorem draw_pcie : (s.draw).pcie = s.pcie := rfl
@[simp] theorem draw_usb : (s.draw).usb = s.usb := rfl
@[simp] theorem draw_power : (s.draw).power = s.power := rfl
@[simp] theorem draw_seed : (s.draw).seed = s.seed := rfl
@[simp] theorem draw_thr : (s.draw).thr = s.thr := rfl
@[simp] theorem draw_ral : (s.draw).ral = s.ral := rfl
@[simp] theorem draw_epoch : (s.draw).epoch = s.epoch := rfl
@[simp] theorem draw_upd : (s.draw).upd = s.upd := rfl
@[simp] theorem draw_sec : (s.draw).sec = s.sec := rfl
@[simp] theorem draw_chaff : (s.draw).chaff = s.chaff := rfl

/-! ### setVec -/

@[simp] theorem setVec_regs (v : Nat) (x : Vec) : (s.setVec v x).regs = s.regs := rfl
@[simp] theorem setVec_staged (v : Nat) (x : Vec) : (s.setVec v x).staged = s.staged := rfl
@[simp] theorem setVec_ns (v : Nat) (x : Vec) : (s.setVec v x).ns = s.ns := rfl
@[simp] theorem setVec_fresh (v : Nat) (x : Vec) : (s.setVec v x).fresh = s.fresh := rfl
@[simp] theorem setVec_out (v : Nat) (x : Vec) : (s.setVec v x).out = s.out := rfl
@[simp] theorem setVec_pending (v : Nat) (x : Vec) : (s.setVec v x).pending = s.pending := rfl
@[simp] theorem setVec_afl (v : Nat) (x : Vec) : (s.setVec v x).afl = s.afl := rfl
@[simp] theorem setVec_reclaim (v : Nat) (x : Vec) : (s.setVec v x).reclaim = s.reclaim := rfl
@[simp] theorem setVec_die (v : Nat) (x : Vec) : (s.setVec v x).die = s.die := rfl
@[simp] theorem setVec_lanes (v : Nat) (x : Vec) : (s.setVec v x).lanes = s.lanes := rfl
@[simp] theorem setVec_links (v : Nat) (x : Vec) : (s.setVec v x).links = s.links := rfl
@[simp] theorem setVec_ring (v : Nat) (x : Vec) : (s.setVec v x).ring = s.ring := rfl
@[simp] theorem setVec_core (v : Nat) (x : Vec) : (s.setVec v x).core = s.core := rfl
@[simp] theorem setVec_sig (v : Nat) (x : Vec) : (s.setVec v x).sig = s.sig := rfl
@[simp] theorem setVec_bridge (v : Nat) (x : Vec) : (s.setVec v x).bridge = s.bridge := rfl
@[simp] theorem setVec_engs (v : Nat) (x : Vec) : (s.setVec v x).engs = s.engs := rfl
@[simp] theorem setVec_field (v : Nat) (x : Vec) : (s.setVec v x).field = s.field := rfl
@[simp] theorem setVec_prime0 (v : Nat) (x : Vec) : (s.setVec v x).prime0 = s.prime0 := rfl
@[simp] theorem setVec_prime1 (v : Nat) (x : Vec) : (s.setVec v x).prime1 = s.prime1 := rfl
@[simp] theorem setVec_units (v : Nat) (x : Vec) : (s.setVec v x).units = s.units := rfl
@[simp] theorem setVec_time (v : Nat) (x : Vec) : (s.setVec v x).time = s.time := rfl
@[simp] theorem setVec_usb (v : Nat) (x : Vec) : (s.setVec v x).usb = s.usb := rfl
@[simp] theorem setVec_power (v : Nat) (x : Vec) : (s.setVec v x).power = s.power := rfl
@[simp] theorem setVec_seed (v : Nat) (x : Vec) : (s.setVec v x).seed = s.seed := rfl
@[simp] theorem setVec_thr (v : Nat) (x : Vec) : (s.setVec v x).thr = s.thr := rfl
@[simp] theorem setVec_ral (v : Nat) (x : Vec) : (s.setVec v x).ral = s.ral := rfl
@[simp] theorem setVec_epoch (v : Nat) (x : Vec) : (s.setVec v x).epoch = s.epoch := rfl
@[simp] theorem setVec_upd (v : Nat) (x : Vec) : (s.setVec v x).upd = s.upd := rfl
@[simp] theorem setVec_sec (v : Nat) (x : Vec) : (s.setVec v x).sec = s.sec := rfl
@[simp] theorem setVec_chaff (v : Nat) (x : Vec) : (s.setVec v x).chaff = s.chaff := rfl

/-! ### setLink -/

@[simp] theorem setLink_regs (k : Nat) (l : Link) : (s.setLink k l).regs = s.regs := rfl
@[simp] theorem setLink_staged (k : Nat) (l : Link) : (s.setLink k l).staged = s.staged := rfl
@[simp] theorem setLink_ns (k : Nat) (l : Link) : (s.setLink k l).ns = s.ns := rfl
@[simp] theorem setLink_fresh (k : Nat) (l : Link) : (s.setLink k l).fresh = s.fresh := rfl
@[simp] theorem setLink_out (k : Nat) (l : Link) : (s.setLink k l).out = s.out := rfl
@[simp] theorem setLink_pending (k : Nat) (l : Link) : (s.setLink k l).pending = s.pending := rfl
@[simp] theorem setLink_afl (k : Nat) (l : Link) : (s.setLink k l).afl = s.afl := rfl
@[simp] theorem setLink_reclaim (k : Nat) (l : Link) : (s.setLink k l).reclaim = s.reclaim := rfl
@[simp] theorem setLink_die (k : Nat) (l : Link) : (s.setLink k l).die = s.die := rfl
@[simp] theorem setLink_lanes (k : Nat) (l : Link) : (s.setLink k l).lanes = s.lanes := rfl
@[simp] theorem setLink_links (k : Nat) (l : Link) : (s.setLink k l).links = s.links.setIfInBounds k l := rfl
@[simp] theorem setLink_ring (k : Nat) (l : Link) : (s.setLink k l).ring = s.ring := rfl
@[simp] theorem setLink_core (k : Nat) (l : Link) : (s.setLink k l).core = s.core := rfl
@[simp] theorem setLink_sig (k : Nat) (l : Link) : (s.setLink k l).sig = s.sig := rfl
@[simp] theorem setLink_bridge (k : Nat) (l : Link) : (s.setLink k l).bridge = s.bridge := rfl
@[simp] theorem setLink_engs (k : Nat) (l : Link) : (s.setLink k l).engs = s.engs := rfl
@[simp] theorem setLink_field (k : Nat) (l : Link) : (s.setLink k l).field = s.field := rfl
@[simp] theorem setLink_prime0 (k : Nat) (l : Link) : (s.setLink k l).prime0 = s.prime0 := rfl
@[simp] theorem setLink_prime1 (k : Nat) (l : Link) : (s.setLink k l).prime1 = s.prime1 := rfl
@[simp] theorem setLink_units (k : Nat) (l : Link) : (s.setLink k l).units = s.units := rfl
@[simp] theorem setLink_time (k : Nat) (l : Link) : (s.setLink k l).time = s.time := rfl
@[simp] theorem setLink_pcie (k : Nat) (l : Link) : (s.setLink k l).pcie = s.pcie := rfl
@[simp] theorem setLink_usb (k : Nat) (l : Link) : (s.setLink k l).usb = s.usb := rfl
@[simp] theorem setLink_power (k : Nat) (l : Link) : (s.setLink k l).power = s.power := rfl
@[simp] theorem setLink_seed (k : Nat) (l : Link) : (s.setLink k l).seed = s.seed := rfl
@[simp] theorem setLink_thr (k : Nat) (l : Link) : (s.setLink k l).thr = s.thr := rfl
@[simp] theorem setLink_ral (k : Nat) (l : Link) : (s.setLink k l).ral = s.ral := rfl
@[simp] theorem setLink_epoch (k : Nat) (l : Link) : (s.setLink k l).epoch = s.epoch := rfl
@[simp] theorem setLink_upd (k : Nat) (l : Link) : (s.setLink k l).upd = s.upd := rfl
@[simp] theorem setLink_sec (k : Nat) (l : Link) : (s.setLink k l).sec = s.sec := rfl
@[simp] theorem setLink_chaff (k : Nat) (l : Link) : (s.setLink k l).chaff = s.chaff := rfl

/-! ### modLane -/

@[simp] theorem modLane_regs (l : Nat) (f : Lane → Lane) : (s.modLane l f).regs = s.regs := rfl
@[simp] theorem modLane_staged (l : Nat) (f : Lane → Lane) : (s.modLane l f).staged = s.staged := rfl
@[simp] theorem modLane_ns (l : Nat) (f : Lane → Lane) : (s.modLane l f).ns = s.ns := rfl
@[simp] theorem modLane_fresh (l : Nat) (f : Lane → Lane) : (s.modLane l f).fresh = s.fresh := rfl
@[simp] theorem modLane_out (l : Nat) (f : Lane → Lane) : (s.modLane l f).out = s.out := rfl
@[simp] theorem modLane_pending (l : Nat) (f : Lane → Lane) : (s.modLane l f).pending = s.pending := rfl
@[simp] theorem modLane_afl (l : Nat) (f : Lane → Lane) : (s.modLane l f).afl = s.afl := rfl
@[simp] theorem modLane_reclaim (l : Nat) (f : Lane → Lane) : (s.modLane l f).reclaim = s.reclaim := rfl
@[simp] theorem modLane_die (l : Nat) (f : Lane → Lane) : (s.modLane l f).die = s.die := rfl
@[simp] theorem modLane_links (l : Nat) (f : Lane → Lane) : (s.modLane l f).links = s.links := rfl
@[simp] theorem modLane_ring (l : Nat) (f : Lane → Lane) : (s.modLane l f).ring = s.ring := rfl
@[simp] theorem modLane_core (l : Nat) (f : Lane → Lane) : (s.modLane l f).core = s.core := rfl
@[simp] theorem modLane_sig (l : Nat) (f : Lane → Lane) : (s.modLane l f).sig = s.sig := rfl
@[simp] theorem modLane_bridge (l : Nat) (f : Lane → Lane) : (s.modLane l f).bridge = s.bridge := rfl
@[simp] theorem modLane_engs (l : Nat) (f : Lane → Lane) : (s.modLane l f).engs = s.engs := rfl
@[simp] theorem modLane_field (l : Nat) (f : Lane → Lane) : (s.modLane l f).field = s.field := rfl
@[simp] theorem modLane_prime0 (l : Nat) (f : Lane → Lane) : (s.modLane l f).prime0 = s.prime0 := rfl
@[simp] theorem modLane_prime1 (l : Nat) (f : Lane → Lane) : (s.modLane l f).prime1 = s.prime1 := rfl
@[simp] theorem modLane_units (l : Nat) (f : Lane → Lane) : (s.modLane l f).units = s.units := rfl
@[simp] theorem modLane_time (l : Nat) (f : Lane → Lane) : (s.modLane l f).time = s.time := rfl
@[simp] theorem modLane_pcie (l : Nat) (f : Lane → Lane) : (s.modLane l f).pcie = s.pcie := rfl
@[simp] theorem modLane_usb (l : Nat) (f : Lane → Lane) : (s.modLane l f).usb = s.usb := rfl
@[simp] theorem modLane_power (l : Nat) (f : Lane → Lane) : (s.modLane l f).power = s.power := rfl
@[simp] theorem modLane_seed (l : Nat) (f : Lane → Lane) : (s.modLane l f).seed = s.seed := rfl
@[simp] theorem modLane_thr (l : Nat) (f : Lane → Lane) : (s.modLane l f).thr = s.thr := rfl
@[simp] theorem modLane_ral (l : Nat) (f : Lane → Lane) : (s.modLane l f).ral = s.ral := rfl
@[simp] theorem modLane_epoch (l : Nat) (f : Lane → Lane) : (s.modLane l f).epoch = s.epoch := rfl
@[simp] theorem modLane_upd (l : Nat) (f : Lane → Lane) : (s.modLane l f).upd = s.upd := rfl
@[simp] theorem modLane_sec (l : Nat) (f : Lane → Lane) : (s.modLane l f).sec = s.sec := rfl
@[simp] theorem modLane_chaff (l : Nat) (f : Lane → Lane) : (s.modLane l f).chaff = s.chaff := rfl

/-! ### modEng -/

@[simp] theorem modEng_regs (e : Nat) (f : Eng → Eng) : (s.modEng e f).regs = s.regs := rfl
@[simp] theorem modEng_staged (e : Nat) (f : Eng → Eng) : (s.modEng e f).staged = s.staged := rfl
@[simp] theorem modEng_ns (e : Nat) (f : Eng → Eng) : (s.modEng e f).ns = s.ns := rfl
@[simp] theorem modEng_fresh (e : Nat) (f : Eng → Eng) : (s.modEng e f).fresh = s.fresh := rfl
@[simp] theorem modEng_out (e : Nat) (f : Eng → Eng) : (s.modEng e f).out = s.out := rfl
@[simp] theorem modEng_pending (e : Nat) (f : Eng → Eng) : (s.modEng e f).pending = s.pending := rfl
@[simp] theorem modEng_afl (e : Nat) (f : Eng → Eng) : (s.modEng e f).afl = s.afl := rfl
@[simp] theorem modEng_reclaim (e : Nat) (f : Eng → Eng) : (s.modEng e f).reclaim = s.reclaim := rfl
@[simp] theorem modEng_die (e : Nat) (f : Eng → Eng) : (s.modEng e f).die = s.die := rfl
@[simp] theorem modEng_lanes (e : Nat) (f : Eng → Eng) : (s.modEng e f).lanes = s.lanes := rfl
@[simp] theorem modEng_links (e : Nat) (f : Eng → Eng) : (s.modEng e f).links = s.links := rfl
@[simp] theorem modEng_ring (e : Nat) (f : Eng → Eng) : (s.modEng e f).ring = s.ring := rfl
@[simp] theorem modEng_core (e : Nat) (f : Eng → Eng) : (s.modEng e f).core = s.core := rfl
@[simp] theorem modEng_sig (e : Nat) (f : Eng → Eng) : (s.modEng e f).sig = s.sig := rfl
@[simp] theorem modEng_bridge (e : Nat) (f : Eng → Eng) : (s.modEng e f).bridge = s.bridge := rfl
@[simp] theorem modEng_field (e : Nat) (f : Eng → Eng) : (s.modEng e f).field = s.field := rfl
@[simp] theorem modEng_prime0 (e : Nat) (f : Eng → Eng) : (s.modEng e f).prime0 = s.prime0 := rfl
@[simp] theorem modEng_prime1 (e : Nat) (f : Eng → Eng) : (s.modEng e f).prime1 = s.prime1 := rfl
@[simp] theorem modEng_units (e : Nat) (f : Eng → Eng) : (s.modEng e f).units = s.units := rfl
@[simp] theorem modEng_time (e : Nat) (f : Eng → Eng) : (s.modEng e f).time = s.time := rfl
@[simp] theorem modEng_pcie (e : Nat) (f : Eng → Eng) : (s.modEng e f).pcie = s.pcie := rfl
@[simp] theorem modEng_usb (e : Nat) (f : Eng → Eng) : (s.modEng e f).usb = s.usb := rfl
@[simp] theorem modEng_power (e : Nat) (f : Eng → Eng) : (s.modEng e f).power = s.power := rfl
@[simp] theorem modEng_seed (e : Nat) (f : Eng → Eng) : (s.modEng e f).seed = s.seed := rfl
@[simp] theorem modEng_thr (e : Nat) (f : Eng → Eng) : (s.modEng e f).thr = s.thr := rfl
@[simp] theorem modEng_ral (e : Nat) (f : Eng → Eng) : (s.modEng e f).ral = s.ral := rfl
@[simp] theorem modEng_epoch (e : Nat) (f : Eng → Eng) : (s.modEng e f).epoch = s.epoch := rfl
@[simp] theorem modEng_upd (e : Nat) (f : Eng → Eng) : (s.modEng e f).upd = s.upd := rfl
@[simp] theorem modEng_sec (e : Nat) (f : Eng → Eng) : (s.modEng e f).sec = s.sec := rfl
@[simp] theorem modEng_chaff (e : Nat) (f : Eng → Eng) : (s.modEng e f).chaff = s.chaff := rfl

/-! ### modRing -/

@[simp] theorem modRing_regs (f : Ring → Ring) : (s.modRing f).regs = s.regs := rfl
@[simp] theorem modRing_staged (f : Ring → Ring) : (s.modRing f).staged = s.staged := rfl
@[simp] theorem modRing_ns (f : Ring → Ring) : (s.modRing f).ns = s.ns := rfl
@[simp] theorem modRing_fresh (f : Ring → Ring) : (s.modRing f).fresh = s.fresh := rfl
@[simp] theorem modRing_out (f : Ring → Ring) : (s.modRing f).out = s.out := rfl
@[simp] theorem modRing_pending (f : Ring → Ring) : (s.modRing f).pending = s.pending := rfl
@[simp] theorem modRing_afl (f : Ring → Ring) : (s.modRing f).afl = s.afl := rfl
@[simp] theorem modRing_reclaim (f : Ring → Ring) : (s.modRing f).reclaim = s.reclaim := rfl
@[simp] theorem modRing_die (f : Ring → Ring) : (s.modRing f).die = s.die := rfl
@[simp] theorem modRing_lanes (f : Ring → Ring) : (s.modRing f).lanes = s.lanes := rfl
@[simp] theorem modRing_links (f : Ring → Ring) : (s.modRing f).links = s.links := rfl
@[simp] theorem modRing_ring (f : Ring → Ring) : (s.modRing f).ring = f s.ring := rfl
@[simp] theorem modRing_core (f : Ring → Ring) : (s.modRing f).core = s.core := rfl
@[simp] theorem modRing_sig (f : Ring → Ring) : (s.modRing f).sig = s.sig := rfl
@[simp] theorem modRing_bridge (f : Ring → Ring) : (s.modRing f).bridge = s.bridge := rfl
@[simp] theorem modRing_engs (f : Ring → Ring) : (s.modRing f).engs = s.engs := rfl
@[simp] theorem modRing_field (f : Ring → Ring) : (s.modRing f).field = s.field := rfl
@[simp] theorem modRing_prime0 (f : Ring → Ring) : (s.modRing f).prime0 = s.prime0 := rfl
@[simp] theorem modRing_prime1 (f : Ring → Ring) : (s.modRing f).prime1 = s.prime1 := rfl
@[simp] theorem modRing_units (f : Ring → Ring) : (s.modRing f).units = s.units := rfl
@[simp] theorem modRing_time (f : Ring → Ring) : (s.modRing f).time = s.time := rfl
@[simp] theorem modRing_pcie (f : Ring → Ring) : (s.modRing f).pcie = s.pcie := rfl
@[simp] theorem modRing_usb (f : Ring → Ring) : (s.modRing f).usb = s.usb := rfl
@[simp] theorem modRing_power (f : Ring → Ring) : (s.modRing f).power = s.power := rfl
@[simp] theorem modRing_seed (f : Ring → Ring) : (s.modRing f).seed = s.seed := rfl
@[simp] theorem modRing_thr (f : Ring → Ring) : (s.modRing f).thr = s.thr := rfl
@[simp] theorem modRing_ral (f : Ring → Ring) : (s.modRing f).ral = s.ral := rfl
@[simp] theorem modRing_epoch (f : Ring → Ring) : (s.modRing f).epoch = s.epoch := rfl
@[simp] theorem modRing_upd (f : Ring → Ring) : (s.modRing f).upd = s.upd := rfl
@[simp] theorem modRing_sec (f : Ring → Ring) : (s.modRing f).sec = s.sec := rfl
@[simp] theorem modRing_chaff (f : Ring → Ring) : (s.modRing f).chaff = s.chaff := rfl

/-! ### modCore -/

@[simp] theorem modCore_regs (f : Core → Core) : (s.modCore f).regs = s.regs := rfl
@[simp] theorem modCore_staged (f : Core → Core) : (s.modCore f).staged = s.staged := rfl
@[simp] theorem modCore_ns (f : Core → Core) : (s.modCore f).ns = s.ns := rfl
@[simp] theorem modCore_fresh (f : Core → Core) : (s.modCore f).fresh = s.fresh := rfl
@[simp] theorem modCore_out (f : Core → Core) : (s.modCore f).out = s.out := rfl
@[simp] theorem modCore_pending (f : Core → Core) : (s.modCore f).pending = s.pending := rfl
@[simp] theorem modCore_afl (f : Core → Core) : (s.modCore f).afl = s.afl := rfl
@[simp] theorem modCore_reclaim (f : Core → Core) : (s.modCore f).reclaim = s.reclaim := rfl
@[simp] theorem modCore_die (f : Core → Core) : (s.modCore f).die = s.die := rfl
@[simp] theorem modCore_lanes (f : Core → Core) : (s.modCore f).lanes = s.lanes := rfl
@[simp] theorem modCore_links (f : Core → Core) : (s.modCore f).links = s.links := rfl
@[simp] theorem modCore_ring (f : Core → Core) : (s.modCore f).ring = s.ring := rfl
@[simp] theorem modCore_core (f : Core → Core) : (s.modCore f).core = f s.core := rfl
@[simp] theorem modCore_sig (f : Core → Core) : (s.modCore f).sig = s.sig := rfl
@[simp] theorem modCore_bridge (f : Core → Core) : (s.modCore f).bridge = s.bridge := rfl
@[simp] theorem modCore_engs (f : Core → Core) : (s.modCore f).engs = s.engs := rfl
@[simp] theorem modCore_field (f : Core → Core) : (s.modCore f).field = s.field := rfl
@[simp] theorem modCore_prime0 (f : Core → Core) : (s.modCore f).prime0 = s.prime0 := rfl
@[simp] theorem modCore_prime1 (f : Core → Core) : (s.modCore f).prime1 = s.prime1 := rfl
@[simp] theorem modCore_units (f : Core → Core) : (s.modCore f).units = s.units := rfl
@[simp] theorem modCore_time (f : Core → Core) : (s.modCore f).time = s.time := rfl
@[simp] theorem modCore_pcie (f : Core → Core) : (s.modCore f).pcie = s.pcie := rfl
@[simp] theorem modCore_usb (f : Core → Core) : (s.modCore f).usb = s.usb := rfl
@[simp] theorem modCore_power (f : Core → Core) : (s.modCore f).power = s.power := rfl
@[simp] theorem modCore_seed (f : Core → Core) : (s.modCore f).seed = s.seed := rfl
@[simp] theorem modCore_thr (f : Core → Core) : (s.modCore f).thr = s.thr := rfl
@[simp] theorem modCore_ral (f : Core → Core) : (s.modCore f).ral = s.ral := rfl
@[simp] theorem modCore_epoch (f : Core → Core) : (s.modCore f).epoch = s.epoch := rfl
@[simp] theorem modCore_upd (f : Core → Core) : (s.modCore f).upd = s.upd := rfl
@[simp] theorem modCore_sec (f : Core → Core) : (s.modCore f).sec = s.sec := rfl
@[simp] theorem modCore_chaff (f : Core → Core) : (s.modCore f).chaff = s.chaff := rfl

/-! ### modSig -/

@[simp] theorem modSig_regs (f : Sig → Sig) : (s.modSig f).regs = s.regs := rfl
@[simp] theorem modSig_staged (f : Sig → Sig) : (s.modSig f).staged = s.staged := rfl
@[simp] theorem modSig_ns (f : Sig → Sig) : (s.modSig f).ns = s.ns := rfl
@[simp] theorem modSig_fresh (f : Sig → Sig) : (s.modSig f).fresh = s.fresh := rfl
@[simp] theorem modSig_out (f : Sig → Sig) : (s.modSig f).out = s.out := rfl
@[simp] theorem modSig_pending (f : Sig → Sig) : (s.modSig f).pending = s.pending := rfl
@[simp] theorem modSig_afl (f : Sig → Sig) : (s.modSig f).afl = s.afl := rfl
@[simp] theorem modSig_reclaim (f : Sig → Sig) : (s.modSig f).reclaim = s.reclaim := rfl
@[simp] theorem modSig_die (f : Sig → Sig) : (s.modSig f).die = s.die := rfl
@[simp] theorem modSig_lanes (f : Sig → Sig) : (s.modSig f).lanes = s.lanes := rfl
@[simp] theorem modSig_links (f : Sig → Sig) : (s.modSig f).links = s.links := rfl
@[simp] theorem modSig_ring (f : Sig → Sig) : (s.modSig f).ring = s.ring := rfl
@[simp] theorem modSig_core (f : Sig → Sig) : (s.modSig f).core = s.core := rfl
@[simp] theorem modSig_sig (f : Sig → Sig) : (s.modSig f).sig = f s.sig := rfl
@[simp] theorem modSig_bridge (f : Sig → Sig) : (s.modSig f).bridge = s.bridge := rfl
@[simp] theorem modSig_engs (f : Sig → Sig) : (s.modSig f).engs = s.engs := rfl
@[simp] theorem modSig_field (f : Sig → Sig) : (s.modSig f).field = s.field := rfl
@[simp] theorem modSig_prime0 (f : Sig → Sig) : (s.modSig f).prime0 = s.prime0 := rfl
@[simp] theorem modSig_prime1 (f : Sig → Sig) : (s.modSig f).prime1 = s.prime1 := rfl
@[simp] theorem modSig_units (f : Sig → Sig) : (s.modSig f).units = s.units := rfl
@[simp] theorem modSig_time (f : Sig → Sig) : (s.modSig f).time = s.time := rfl
@[simp] theorem modSig_pcie (f : Sig → Sig) : (s.modSig f).pcie = s.pcie := rfl
@[simp] theorem modSig_usb (f : Sig → Sig) : (s.modSig f).usb = s.usb := rfl
@[simp] theorem modSig_power (f : Sig → Sig) : (s.modSig f).power = s.power := rfl
@[simp] theorem modSig_seed (f : Sig → Sig) : (s.modSig f).seed = s.seed := rfl
@[simp] theorem modSig_thr (f : Sig → Sig) : (s.modSig f).thr = s.thr := rfl
@[simp] theorem modSig_ral (f : Sig → Sig) : (s.modSig f).ral = s.ral := rfl
@[simp] theorem modSig_epoch (f : Sig → Sig) : (s.modSig f).epoch = s.epoch := rfl
@[simp] theorem modSig_upd (f : Sig → Sig) : (s.modSig f).upd = s.upd := rfl
@[simp] theorem modSig_sec (f : Sig → Sig) : (s.modSig f).sec = s.sec := rfl
@[simp] theorem modSig_chaff (f : Sig → Sig) : (s.modSig f).chaff = s.chaff := rfl

/-! ### modBridge -/

@[simp] theorem modBridge_regs (f : Bridge → Bridge) : (s.modBridge f).regs = s.regs := rfl
@[simp] theorem modBridge_staged (f : Bridge → Bridge) : (s.modBridge f).staged = s.staged := rfl
@[simp] theorem modBridge_ns (f : Bridge → Bridge) : (s.modBridge f).ns = s.ns := rfl
@[simp] theorem modBridge_fresh (f : Bridge → Bridge) : (s.modBridge f).fresh = s.fresh := rfl
@[simp] theorem modBridge_out (f : Bridge → Bridge) : (s.modBridge f).out = s.out := rfl
@[simp] theorem modBridge_pending (f : Bridge → Bridge) : (s.modBridge f).pending = s.pending := rfl
@[simp] theorem modBridge_afl (f : Bridge → Bridge) : (s.modBridge f).afl = s.afl := rfl
@[simp] theorem modBridge_reclaim (f : Bridge → Bridge) : (s.modBridge f).reclaim = s.reclaim := rfl
@[simp] theorem modBridge_die (f : Bridge → Bridge) : (s.modBridge f).die = s.die := rfl
@[simp] theorem modBridge_lanes (f : Bridge → Bridge) : (s.modBridge f).lanes = s.lanes := rfl
@[simp] theorem modBridge_links (f : Bridge → Bridge) : (s.modBridge f).links = s.links := rfl
@[simp] theorem modBridge_ring (f : Bridge → Bridge) : (s.modBridge f).ring = s.ring := rfl
@[simp] theorem modBridge_core (f : Bridge → Bridge) : (s.modBridge f).core = s.core := rfl
@[simp] theorem modBridge_sig (f : Bridge → Bridge) : (s.modBridge f).sig = s.sig := rfl
@[simp] theorem modBridge_bridge (f : Bridge → Bridge) : (s.modBridge f).bridge = f s.bridge := rfl
@[simp] theorem modBridge_engs (f : Bridge → Bridge) : (s.modBridge f).engs = s.engs := rfl
@[simp] theorem modBridge_field (f : Bridge → Bridge) : (s.modBridge f).field = s.field := rfl
@[simp] theorem modBridge_prime0 (f : Bridge → Bridge) : (s.modBridge f).prime0 = s.prime0 := rfl
@[simp] theorem modBridge_prime1 (f : Bridge → Bridge) : (s.modBridge f).prime1 = s.prime1 := rfl
@[simp] theorem modBridge_units (f : Bridge → Bridge) : (s.modBridge f).units = s.units := rfl
@[simp] theorem modBridge_time (f : Bridge → Bridge) : (s.modBridge f).time = s.time := rfl
@[simp] theorem modBridge_pcie (f : Bridge → Bridge) : (s.modBridge f).pcie = s.pcie := rfl
@[simp] theorem modBridge_usb (f : Bridge → Bridge) : (s.modBridge f).usb = s.usb := rfl
@[simp] theorem modBridge_power (f : Bridge → Bridge) : (s.modBridge f).power = s.power := rfl
@[simp] theorem modBridge_seed (f : Bridge → Bridge) : (s.modBridge f).seed = s.seed := rfl
@[simp] theorem modBridge_thr (f : Bridge → Bridge) : (s.modBridge f).thr = s.thr := rfl
@[simp] theorem modBridge_ral (f : Bridge → Bridge) : (s.modBridge f).ral = s.ral := rfl
@[simp] theorem modBridge_epoch (f : Bridge → Bridge) : (s.modBridge f).epoch = s.epoch := rfl
@[simp] theorem modBridge_upd (f : Bridge → Bridge) : (s.modBridge f).upd = s.upd := rfl
@[simp] theorem modBridge_sec (f : Bridge → Bridge) : (s.modBridge f).sec = s.sec := rfl
@[simp] theorem modBridge_chaff (f : Bridge → Bridge) : (s.modBridge f).chaff = s.chaff := rfl

/-! ### modTime -/

@[simp] theorem modTime_regs (f : TimeBase → TimeBase) : (s.modTime f).regs = s.regs := rfl
@[simp] theorem modTime_staged (f : TimeBase → TimeBase) : (s.modTime f).staged = s.staged := rfl
@[simp] theorem modTime_ns (f : TimeBase → TimeBase) : (s.modTime f).ns = s.ns := rfl
@[simp] theorem modTime_fresh (f : TimeBase → TimeBase) : (s.modTime f).fresh = s.fresh := rfl
@[simp] theorem modTime_out (f : TimeBase → TimeBase) : (s.modTime f).out = s.out := rfl
@[simp] theorem modTime_pending (f : TimeBase → TimeBase) : (s.modTime f).pending = s.pending := rfl
@[simp] theorem modTime_afl (f : TimeBase → TimeBase) : (s.modTime f).afl = s.afl := rfl
@[simp] theorem modTime_reclaim (f : TimeBase → TimeBase) : (s.modTime f).reclaim = s.reclaim := rfl
@[simp] theorem modTime_die (f : TimeBase → TimeBase) : (s.modTime f).die = s.die := rfl
@[simp] theorem modTime_lanes (f : TimeBase → TimeBase) : (s.modTime f).lanes = s.lanes := rfl
@[simp] theorem modTime_links (f : TimeBase → TimeBase) : (s.modTime f).links = s.links := rfl
@[simp] theorem modTime_ring (f : TimeBase → TimeBase) : (s.modTime f).ring = s.ring := rfl
@[simp] theorem modTime_core (f : TimeBase → TimeBase) : (s.modTime f).core = s.core := rfl
@[simp] theorem modTime_sig (f : TimeBase → TimeBase) : (s.modTime f).sig = s.sig := rfl
@[simp] theorem modTime_bridge (f : TimeBase → TimeBase) : (s.modTime f).bridge = s.bridge := rfl
@[simp] theorem modTime_engs (f : TimeBase → TimeBase) : (s.modTime f).engs = s.engs := rfl
@[simp] theorem modTime_field (f : TimeBase → TimeBase) : (s.modTime f).field = s.field := rfl
@[simp] theorem modTime_prime0 (f : TimeBase → TimeBase) : (s.modTime f).prime0 = s.prime0 := rfl
@[simp] theorem modTime_prime1 (f : TimeBase → TimeBase) : (s.modTime f).prime1 = s.prime1 := rfl
@[simp] theorem modTime_units (f : TimeBase → TimeBase) : (s.modTime f).units = s.units := rfl
@[simp] theorem modTime_time (f : TimeBase → TimeBase) : (s.modTime f).time = f s.time := rfl
@[simp] theorem modTime_pcie (f : TimeBase → TimeBase) : (s.modTime f).pcie = s.pcie := rfl
@[simp] theorem modTime_usb (f : TimeBase → TimeBase) : (s.modTime f).usb = s.usb := rfl
@[simp] theorem modTime_power (f : TimeBase → TimeBase) : (s.modTime f).power = s.power := rfl
@[simp] theorem modTime_seed (f : TimeBase → TimeBase) : (s.modTime f).seed = s.seed := rfl
@[simp] theorem modTime_thr (f : TimeBase → TimeBase) : (s.modTime f).thr = s.thr := rfl
@[simp] theorem modTime_ral (f : TimeBase → TimeBase) : (s.modTime f).ral = s.ral := rfl
@[simp] theorem modTime_epoch (f : TimeBase → TimeBase) : (s.modTime f).epoch = s.epoch := rfl
@[simp] theorem modTime_upd (f : TimeBase → TimeBase) : (s.modTime f).upd = s.upd := rfl
@[simp] theorem modTime_sec (f : TimeBase → TimeBase) : (s.modTime f).sec = s.sec := rfl
@[simp] theorem modTime_chaff (f : TimeBase → TimeBase) : (s.modTime f).chaff = s.chaff := rfl

/-! ### modUsb -/

@[simp] theorem modUsb_regs (f : Usb → Usb) : (s.modUsb f).regs = s.regs := rfl
@[simp] theorem modUsb_staged (f : Usb → Usb) : (s.modUsb f).staged = s.staged := rfl
@[simp] theorem modUsb_ns (f : Usb → Usb) : (s.modUsb f).ns = s.ns := rfl
@[simp] theorem modUsb_fresh (f : Usb → Usb) : (s.modUsb f).fresh = s.fresh := rfl
@[simp] theorem modUsb_out (f : Usb → Usb) : (s.modUsb f).out = s.out := rfl
@[simp] theorem modUsb_pending (f : Usb → Usb) : (s.modUsb f).pending = s.pending := rfl
@[simp] theorem modUsb_afl (f : Usb → Usb) : (s.modUsb f).afl = s.afl := rfl
@[simp] theorem modUsb_reclaim (f : Usb → Usb) : (s.modUsb f).reclaim = s.reclaim := rfl
@[simp] theorem modUsb_die (f : Usb → Usb) : (s.modUsb f).die = s.die := rfl
@[simp] theorem modUsb_lanes (f : Usb → Usb) : (s.modUsb f).lanes = s.lanes := rfl
@[simp] theorem modUsb_links (f : Usb → Usb) : (s.modUsb f).links = s.links := rfl
@[simp] theorem modUsb_ring (f : Usb → Usb) : (s.modUsb f).ring = s.ring := rfl
@[simp] theorem modUsb_core (f : Usb → Usb) : (s.modUsb f).core = s.core := rfl
@[simp] theorem modUsb_sig (f : Usb → Usb) : (s.modUsb f).sig = s.sig := rfl
@[simp] theorem modUsb_bridge (f : Usb → Usb) : (s.modUsb f).bridge = s.bridge := rfl
@[simp] theorem modUsb_engs (f : Usb → Usb) : (s.modUsb f).engs = s.engs := rfl
@[simp] theorem modUsb_field (f : Usb → Usb) : (s.modUsb f).field = s.field := rfl
@[simp] theorem modUsb_prime0 (f : Usb → Usb) : (s.modUsb f).prime0 = s.prime0 := rfl
@[simp] theorem modUsb_prime1 (f : Usb → Usb) : (s.modUsb f).prime1 = s.prime1 := rfl
@[simp] theorem modUsb_units (f : Usb → Usb) : (s.modUsb f).units = s.units := rfl
@[simp] theorem modUsb_time (f : Usb → Usb) : (s.modUsb f).time = s.time := rfl
@[simp] theorem modUsb_pcie (f : Usb → Usb) : (s.modUsb f).pcie = s.pcie := rfl
@[simp] theorem modUsb_usb (f : Usb → Usb) : (s.modUsb f).usb = f s.usb := rfl
@[simp] theorem modUsb_power (f : Usb → Usb) : (s.modUsb f).power = s.power := rfl
@[simp] theorem modUsb_seed (f : Usb → Usb) : (s.modUsb f).seed = s.seed := rfl
@[simp] theorem modUsb_thr (f : Usb → Usb) : (s.modUsb f).thr = s.thr := rfl
@[simp] theorem modUsb_ral (f : Usb → Usb) : (s.modUsb f).ral = s.ral := rfl
@[simp] theorem modUsb_epoch (f : Usb → Usb) : (s.modUsb f).epoch = s.epoch := rfl
@[simp] theorem modUsb_upd (f : Usb → Usb) : (s.modUsb f).upd = s.upd := rfl
@[simp] theorem modUsb_sec (f : Usb → Usb) : (s.modUsb f).sec = s.sec := rfl
@[simp] theorem modUsb_chaff (f : Usb → Usb) : (s.modUsb f).chaff = s.chaff := rfl

/-! ### modPower -/

@[simp] theorem modPower_regs (f : Power → Power) : (s.modPower f).regs = s.regs := rfl
@[simp] theorem modPower_staged (f : Power → Power) : (s.modPower f).staged = s.staged := rfl
@[simp] theorem modPower_ns (f : Power → Power) : (s.modPower f).ns = s.ns := rfl
@[simp] theorem modPower_fresh (f : Power → Power) : (s.modPower f).fresh = s.fresh := rfl
@[simp] theorem modPower_out (f : Power → Power) : (s.modPower f).out = s.out := rfl
@[simp] theorem modPower_pending (f : Power → Power) : (s.modPower f).pending = s.pending := rfl
@[simp] theorem modPower_afl (f : Power → Power) : (s.modPower f).afl = s.afl := rfl
@[simp] theorem modPower_reclaim (f : Power → Power) : (s.modPower f).reclaim = s.reclaim := rfl
@[simp] theorem modPower_die (f : Power → Power) : (s.modPower f).die = s.die := rfl
@[simp] theorem modPower_lanes (f : Power → Power) : (s.modPower f).lanes = s.lanes := rfl
@[simp] theorem modPower_links (f : Power → Power) : (s.modPower f).links = s.links := rfl
@[simp] theorem modPower_ring (f : Power → Power) : (s.modPower f).ring = s.ring := rfl
@[simp] theorem modPower_core (f : Power → Power) : (s.modPower f).core = s.core := rfl
@[simp] theorem modPower_sig (f : Power → Power) : (s.modPower f).sig = s.sig := rfl
@[simp] theorem modPower_bridge (f : Power → Power) : (s.modPower f).bridge = s.bridge := rfl
@[simp] theorem modPower_engs (f : Power → Power) : (s.modPower f).engs = s.engs := rfl
@[simp] theorem modPower_field (f : Power → Power) : (s.modPower f).field = s.field := rfl
@[simp] theorem modPower_prime0 (f : Power → Power) : (s.modPower f).prime0 = s.prime0 := rfl
@[simp] theorem modPower_prime1 (f : Power → Power) : (s.modPower f).prime1 = s.prime1 := rfl
@[simp] theorem modPower_units (f : Power → Power) : (s.modPower f).units = s.units := rfl
@[simp] theorem modPower_time (f : Power → Power) : (s.modPower f).time = s.time := rfl
@[simp] theorem modPower_pcie (f : Power → Power) : (s.modPower f).pcie = s.pcie := rfl
@[simp] theorem modPower_usb (f : Power → Power) : (s.modPower f).usb = s.usb := rfl
@[simp] theorem modPower_power (f : Power → Power) : (s.modPower f).power = f s.power := rfl
@[simp] theorem modPower_seed (f : Power → Power) : (s.modPower f).seed = s.seed := rfl
@[simp] theorem modPower_thr (f : Power → Power) : (s.modPower f).thr = s.thr := rfl
@[simp] theorem modPower_ral (f : Power → Power) : (s.modPower f).ral = s.ral := rfl
@[simp] theorem modPower_epoch (f : Power → Power) : (s.modPower f).epoch = s.epoch := rfl
@[simp] theorem modPower_upd (f : Power → Power) : (s.modPower f).upd = s.upd := rfl
@[simp] theorem modPower_sec (f : Power → Power) : (s.modPower f).sec = s.sec := rfl
@[simp] theorem modPower_chaff (f : Power → Power) : (s.modPower f).chaff = s.chaff := rfl

/-! ### modSeed -/

@[simp] theorem modSeed_regs (f : Seed → Seed) : (s.modSeed f).regs = s.regs := rfl
@[simp] theorem modSeed_staged (f : Seed → Seed) : (s.modSeed f).staged = s.staged := rfl
@[simp] theorem modSeed_ns (f : Seed → Seed) : (s.modSeed f).ns = s.ns := rfl
@[simp] theorem modSeed_fresh (f : Seed → Seed) : (s.modSeed f).fresh = s.fresh := rfl
@[simp] theorem modSeed_out (f : Seed → Seed) : (s.modSeed f).out = s.out := rfl
@[simp] theorem modSeed_pending (f : Seed → Seed) : (s.modSeed f).pending = s.pending := rfl
@[simp] theorem modSeed_afl (f : Seed → Seed) : (s.modSeed f).afl = s.afl := rfl
@[simp] theorem modSeed_reclaim (f : Seed → Seed) : (s.modSeed f).reclaim = s.reclaim := rfl
@[simp] theorem modSeed_die (f : Seed → Seed) : (s.modSeed f).die = s.die := rfl
@[simp] theorem modSeed_lanes (f : Seed → Seed) : (s.modSeed f).lanes = s.lanes := rfl
@[simp] theorem modSeed_links (f : Seed → Seed) : (s.modSeed f).links = s.links := rfl
@[simp] theorem modSeed_ring (f : Seed → Seed) : (s.modSeed f).ring = s.ring := rfl
@[simp] theorem modSeed_core (f : Seed → Seed) : (s.modSeed f).core = s.core := rfl
@[simp] theorem modSeed_sig (f : Seed → Seed) : (s.modSeed f).sig = s.sig := rfl
@[simp] theorem modSeed_bridge (f : Seed → Seed) : (s.modSeed f).bridge = s.bridge := rfl
@[simp] theorem modSeed_engs (f : Seed → Seed) : (s.modSeed f).engs = s.engs := rfl
@[simp] theorem modSeed_field (f : Seed → Seed) : (s.modSeed f).field = s.field := rfl
@[simp] theorem modSeed_prime0 (f : Seed → Seed) : (s.modSeed f).prime0 = s.prime0 := rfl
@[simp] theorem modSeed_prime1 (f : Seed → Seed) : (s.modSeed f).prime1 = s.prime1 := rfl
@[simp] theorem modSeed_units (f : Seed → Seed) : (s.modSeed f).units = s.units := rfl
@[simp] theorem modSeed_time (f : Seed → Seed) : (s.modSeed f).time = s.time := rfl
@[simp] theorem modSeed_pcie (f : Seed → Seed) : (s.modSeed f).pcie = s.pcie := rfl
@[simp] theorem modSeed_usb (f : Seed → Seed) : (s.modSeed f).usb = s.usb := rfl
@[simp] theorem modSeed_power (f : Seed → Seed) : (s.modSeed f).power = s.power := rfl
@[simp] theorem modSeed_seed (f : Seed → Seed) : (s.modSeed f).seed = f s.seed := rfl
@[simp] theorem modSeed_thr (f : Seed → Seed) : (s.modSeed f).thr = s.thr := rfl
@[simp] theorem modSeed_ral (f : Seed → Seed) : (s.modSeed f).ral = s.ral := rfl
@[simp] theorem modSeed_epoch (f : Seed → Seed) : (s.modSeed f).epoch = s.epoch := rfl
@[simp] theorem modSeed_upd (f : Seed → Seed) : (s.modSeed f).upd = s.upd := rfl
@[simp] theorem modSeed_sec (f : Seed → Seed) : (s.modSeed f).sec = s.sec := rfl
@[simp] theorem modSeed_chaff (f : Seed → Seed) : (s.modSeed f).chaff = s.chaff := rfl

/-! ### modThr -/

@[simp] theorem modThr_regs (f : Thresher → Thresher) : (s.modThr f).regs = s.regs := rfl
@[simp] theorem modThr_staged (f : Thresher → Thresher) : (s.modThr f).staged = s.staged := rfl
@[simp] theorem modThr_ns (f : Thresher → Thresher) : (s.modThr f).ns = s.ns := rfl
@[simp] theorem modThr_fresh (f : Thresher → Thresher) : (s.modThr f).fresh = s.fresh := rfl
@[simp] theorem modThr_out (f : Thresher → Thresher) : (s.modThr f).out = s.out := rfl
@[simp] theorem modThr_pending (f : Thresher → Thresher) : (s.modThr f).pending = s.pending := rfl
@[simp] theorem modThr_afl (f : Thresher → Thresher) : (s.modThr f).afl = s.afl := rfl
@[simp] theorem modThr_reclaim (f : Thresher → Thresher) : (s.modThr f).reclaim = s.reclaim := rfl
@[simp] theorem modThr_die (f : Thresher → Thresher) : (s.modThr f).die = s.die := rfl
@[simp] theorem modThr_lanes (f : Thresher → Thresher) : (s.modThr f).lanes = s.lanes := rfl
@[simp] theorem modThr_links (f : Thresher → Thresher) : (s.modThr f).links = s.links := rfl
@[simp] theorem modThr_ring (f : Thresher → Thresher) : (s.modThr f).ring = s.ring := rfl
@[simp] theorem modThr_core (f : Thresher → Thresher) : (s.modThr f).core = s.core := rfl
@[simp] theorem modThr_sig (f : Thresher → Thresher) : (s.modThr f).sig = s.sig := rfl
@[simp] theorem modThr_bridge (f : Thresher → Thresher) : (s.modThr f).bridge = s.bridge := rfl
@[simp] theorem modThr_engs (f : Thresher → Thresher) : (s.modThr f).engs = s.engs := rfl
@[simp] theorem modThr_field (f : Thresher → Thresher) : (s.modThr f).field = s.field := rfl
@[simp] theorem modThr_prime0 (f : Thresher → Thresher) : (s.modThr f).prime0 = s.prime0 := rfl
@[simp] theorem modThr_prime1 (f : Thresher → Thresher) : (s.modThr f).prime1 = s.prime1 := rfl
@[simp] theorem modThr_units (f : Thresher → Thresher) : (s.modThr f).units = s.units := rfl
@[simp] theorem modThr_time (f : Thresher → Thresher) : (s.modThr f).time = s.time := rfl
@[simp] theorem modThr_pcie (f : Thresher → Thresher) : (s.modThr f).pcie = s.pcie := rfl
@[simp] theorem modThr_usb (f : Thresher → Thresher) : (s.modThr f).usb = s.usb := rfl
@[simp] theorem modThr_power (f : Thresher → Thresher) : (s.modThr f).power = s.power := rfl
@[simp] theorem modThr_seed (f : Thresher → Thresher) : (s.modThr f).seed = s.seed := rfl
@[simp] theorem modThr_thr (f : Thresher → Thresher) : (s.modThr f).thr = f s.thr := rfl
@[simp] theorem modThr_ral (f : Thresher → Thresher) : (s.modThr f).ral = s.ral := rfl
@[simp] theorem modThr_epoch (f : Thresher → Thresher) : (s.modThr f).epoch = s.epoch := rfl
@[simp] theorem modThr_upd (f : Thresher → Thresher) : (s.modThr f).upd = s.upd := rfl
@[simp] theorem modThr_sec (f : Thresher → Thresher) : (s.modThr f).sec = s.sec := rfl
@[simp] theorem modThr_chaff (f : Thresher → Thresher) : (s.modThr f).chaff = s.chaff := rfl

/-! ### modRal -/

@[simp] theorem modRal_regs (f : Ralusk → Ralusk) : (s.modRal f).regs = s.regs := rfl
@[simp] theorem modRal_staged (f : Ralusk → Ralusk) : (s.modRal f).staged = s.staged := rfl
@[simp] theorem modRal_ns (f : Ralusk → Ralusk) : (s.modRal f).ns = s.ns := rfl
@[simp] theorem modRal_fresh (f : Ralusk → Ralusk) : (s.modRal f).fresh = s.fresh := rfl
@[simp] theorem modRal_out (f : Ralusk → Ralusk) : (s.modRal f).out = s.out := rfl
@[simp] theorem modRal_pending (f : Ralusk → Ralusk) : (s.modRal f).pending = s.pending := rfl
@[simp] theorem modRal_afl (f : Ralusk → Ralusk) : (s.modRal f).afl = s.afl := rfl
@[simp] theorem modRal_reclaim (f : Ralusk → Ralusk) : (s.modRal f).reclaim = s.reclaim := rfl
@[simp] theorem modRal_die (f : Ralusk → Ralusk) : (s.modRal f).die = s.die := rfl
@[simp] theorem modRal_lanes (f : Ralusk → Ralusk) : (s.modRal f).lanes = s.lanes := rfl
@[simp] theorem modRal_links (f : Ralusk → Ralusk) : (s.modRal f).links = s.links := rfl
@[simp] theorem modRal_ring (f : Ralusk → Ralusk) : (s.modRal f).ring = s.ring := rfl
@[simp] theorem modRal_core (f : Ralusk → Ralusk) : (s.modRal f).core = s.core := rfl
@[simp] theorem modRal_sig (f : Ralusk → Ralusk) : (s.modRal f).sig = s.sig := rfl
@[simp] theorem modRal_bridge (f : Ralusk → Ralusk) : (s.modRal f).bridge = s.bridge := rfl
@[simp] theorem modRal_engs (f : Ralusk → Ralusk) : (s.modRal f).engs = s.engs := rfl
@[simp] theorem modRal_field (f : Ralusk → Ralusk) : (s.modRal f).field = s.field := rfl
@[simp] theorem modRal_prime0 (f : Ralusk → Ralusk) : (s.modRal f).prime0 = s.prime0 := rfl
@[simp] theorem modRal_prime1 (f : Ralusk → Ralusk) : (s.modRal f).prime1 = s.prime1 := rfl
@[simp] theorem modRal_units (f : Ralusk → Ralusk) : (s.modRal f).units = s.units := rfl
@[simp] theorem modRal_time (f : Ralusk → Ralusk) : (s.modRal f).time = s.time := rfl
@[simp] theorem modRal_pcie (f : Ralusk → Ralusk) : (s.modRal f).pcie = s.pcie := rfl
@[simp] theorem modRal_usb (f : Ralusk → Ralusk) : (s.modRal f).usb = s.usb := rfl
@[simp] theorem modRal_power (f : Ralusk → Ralusk) : (s.modRal f).power = s.power := rfl
@[simp] theorem modRal_seed (f : Ralusk → Ralusk) : (s.modRal f).seed = s.seed := rfl
@[simp] theorem modRal_thr (f : Ralusk → Ralusk) : (s.modRal f).thr = s.thr := rfl
@[simp] theorem modRal_ral (f : Ralusk → Ralusk) : (s.modRal f).ral = f s.ral := rfl
@[simp] theorem modRal_epoch (f : Ralusk → Ralusk) : (s.modRal f).epoch = s.epoch := rfl
@[simp] theorem modRal_upd (f : Ralusk → Ralusk) : (s.modRal f).upd = s.upd := rfl
@[simp] theorem modRal_sec (f : Ralusk → Ralusk) : (s.modRal f).sec = s.sec := rfl
@[simp] theorem modRal_chaff (f : Ralusk → Ralusk) : (s.modRal f).chaff = s.chaff := rfl

/-! ### modEpoch -/

@[simp] theorem modEpoch_regs (f : Epoch → Epoch) : (s.modEpoch f).regs = s.regs := rfl
@[simp] theorem modEpoch_staged (f : Epoch → Epoch) : (s.modEpoch f).staged = s.staged := rfl
@[simp] theorem modEpoch_ns (f : Epoch → Epoch) : (s.modEpoch f).ns = s.ns := rfl
@[simp] theorem modEpoch_fresh (f : Epoch → Epoch) : (s.modEpoch f).fresh = s.fresh := rfl
@[simp] theorem modEpoch_out (f : Epoch → Epoch) : (s.modEpoch f).out = s.out := rfl
@[simp] theorem modEpoch_pending (f : Epoch → Epoch) : (s.modEpoch f).pending = s.pending := rfl
@[simp] theorem modEpoch_afl (f : Epoch → Epoch) : (s.modEpoch f).afl = s.afl := rfl
@[simp] theorem modEpoch_reclaim (f : Epoch → Epoch) : (s.modEpoch f).reclaim = s.reclaim := rfl
@[simp] theorem modEpoch_die (f : Epoch → Epoch) : (s.modEpoch f).die = s.die := rfl
@[simp] theorem modEpoch_lanes (f : Epoch → Epoch) : (s.modEpoch f).lanes = s.lanes := rfl
@[simp] theorem modEpoch_links (f : Epoch → Epoch) : (s.modEpoch f).links = s.links := rfl
@[simp] theorem modEpoch_ring (f : Epoch → Epoch) : (s.modEpoch f).ring = s.ring := rfl
@[simp] theorem modEpoch_core (f : Epoch → Epoch) : (s.modEpoch f).core = s.core := rfl
@[simp] theorem modEpoch_sig (f : Epoch → Epoch) : (s.modEpoch f).sig = s.sig := rfl
@[simp] theorem modEpoch_bridge (f : Epoch → Epoch) : (s.modEpoch f).bridge = s.bridge := rfl
@[simp] theorem modEpoch_engs (f : Epoch → Epoch) : (s.modEpoch f).engs = s.engs := rfl
@[simp] theorem modEpoch_field (f : Epoch → Epoch) : (s.modEpoch f).field = s.field := rfl
@[simp] theorem modEpoch_prime0 (f : Epoch → Epoch) : (s.modEpoch f).prime0 = s.prime0 := rfl
@[simp] theorem modEpoch_prime1 (f : Epoch → Epoch) : (s.modEpoch f).prime1 = s.prime1 := rfl
@[simp] theorem modEpoch_units (f : Epoch → Epoch) : (s.modEpoch f).units = s.units := rfl
@[simp] theorem modEpoch_time (f : Epoch → Epoch) : (s.modEpoch f).time = s.time := rfl
@[simp] theorem modEpoch_pcie (f : Epoch → Epoch) : (s.modEpoch f).pcie = s.pcie := rfl
@[simp] theorem modEpoch_usb (f : Epoch → Epoch) : (s.modEpoch f).usb = s.usb := rfl
@[simp] theorem modEpoch_power (f : Epoch → Epoch) : (s.modEpoch f).power = s.power := rfl
@[simp] theorem modEpoch_seed (f : Epoch → Epoch) : (s.modEpoch f).seed = s.seed := rfl
@[simp] theorem modEpoch_thr (f : Epoch → Epoch) : (s.modEpoch f).thr = s.thr := rfl
@[simp] theorem modEpoch_ral (f : Epoch → Epoch) : (s.modEpoch f).ral = s.ral := rfl
@[simp] theorem modEpoch_epoch (f : Epoch → Epoch) : (s.modEpoch f).epoch = f s.epoch := rfl
@[simp] theorem modEpoch_upd (f : Epoch → Epoch) : (s.modEpoch f).upd = s.upd := rfl
@[simp] theorem modEpoch_sec (f : Epoch → Epoch) : (s.modEpoch f).sec = s.sec := rfl
@[simp] theorem modEpoch_chaff (f : Epoch → Epoch) : (s.modEpoch f).chaff = s.chaff := rfl

/-! ### modUpd -/

@[simp] theorem modUpd_regs (f : Update → Update) : (s.modUpd f).regs = s.regs := rfl
@[simp] theorem modUpd_staged (f : Update → Update) : (s.modUpd f).staged = s.staged := rfl
@[simp] theorem modUpd_ns (f : Update → Update) : (s.modUpd f).ns = s.ns := rfl
@[simp] theorem modUpd_fresh (f : Update → Update) : (s.modUpd f).fresh = s.fresh := rfl
@[simp] theorem modUpd_out (f : Update → Update) : (s.modUpd f).out = s.out := rfl
@[simp] theorem modUpd_pending (f : Update → Update) : (s.modUpd f).pending = s.pending := rfl
@[simp] theorem modUpd_afl (f : Update → Update) : (s.modUpd f).afl = s.afl := rfl
@[simp] theorem modUpd_reclaim (f : Update → Update) : (s.modUpd f).reclaim = s.reclaim := rfl
@[simp] theorem modUpd_die (f : Update → Update) : (s.modUpd f).die = s.die := rfl
@[simp] theorem modUpd_lanes (f : Update → Update) : (s.modUpd f).lanes = s.lanes := rfl
@[simp] theorem modUpd_links (f : Update → Update) : (s.modUpd f).links = s.links := rfl
@[simp] theorem modUpd_ring (f : Update → Update) : (s.modUpd f).ring = s.ring := rfl
@[simp] theorem modUpd_core (f : Update → Update) : (s.modUpd f).core = s.core := rfl
@[simp] theorem modUpd_sig (f : Update → Update) : (s.modUpd f).sig = s.sig := rfl
@[simp] theorem modUpd_bridge (f : Update → Update) : (s.modUpd f).bridge = s.bridge := rfl
@[simp] theorem modUpd_engs (f : Update → Update) : (s.modUpd f).engs = s.engs := rfl
@[simp] theorem modUpd_field (f : Update → Update) : (s.modUpd f).field = s.field := rfl
@[simp] theorem modUpd_prime0 (f : Update → Update) : (s.modUpd f).prime0 = s.prime0 := rfl
@[simp] theorem modUpd_prime1 (f : Update → Update) : (s.modUpd f).prime1 = s.prime1 := rfl
@[simp] theorem modUpd_units (f : Update → Update) : (s.modUpd f).units = s.units := rfl
@[simp] theorem modUpd_time (f : Update → Update) : (s.modUpd f).time = s.time := rfl
@[simp] theorem modUpd_pcie (f : Update → Update) : (s.modUpd f).pcie = s.pcie := rfl
@[simp] theorem modUpd_usb (f : Update → Update) : (s.modUpd f).usb = s.usb := rfl
@[simp] theorem modUpd_power (f : Update → Update) : (s.modUpd f).power = s.power := rfl
@[simp] theorem modUpd_seed (f : Update → Update) : (s.modUpd f).seed = s.seed := rfl
@[simp] theorem modUpd_thr (f : Update → Update) : (s.modUpd f).thr = s.thr := rfl
@[simp] theorem modUpd_ral (f : Update → Update) : (s.modUpd f).ral = s.ral := rfl
@[simp] theorem modUpd_epoch (f : Update → Update) : (s.modUpd f).epoch = s.epoch := rfl
@[simp] theorem modUpd_upd (f : Update → Update) : (s.modUpd f).upd = f s.upd := rfl
@[simp] theorem modUpd_sec (f : Update → Update) : (s.modUpd f).sec = s.sec := rfl
@[simp] theorem modUpd_chaff (f : Update → Update) : (s.modUpd f).chaff = s.chaff := rfl

/-! ### modSec -/

@[simp] theorem modSec_regs (f : Sec → Sec) : (s.modSec f).regs = s.regs := rfl
@[simp] theorem modSec_staged (f : Sec → Sec) : (s.modSec f).staged = s.staged := rfl
@[simp] theorem modSec_ns (f : Sec → Sec) : (s.modSec f).ns = s.ns := rfl
@[simp] theorem modSec_fresh (f : Sec → Sec) : (s.modSec f).fresh = s.fresh := rfl
@[simp] theorem modSec_out (f : Sec → Sec) : (s.modSec f).out = s.out := rfl
@[simp] theorem modSec_pending (f : Sec → Sec) : (s.modSec f).pending = s.pending := rfl
@[simp] theorem modSec_afl (f : Sec → Sec) : (s.modSec f).afl = s.afl := rfl
@[simp] theorem modSec_reclaim (f : Sec → Sec) : (s.modSec f).reclaim = s.reclaim := rfl
@[simp] theorem modSec_die (f : Sec → Sec) : (s.modSec f).die = s.die := rfl
@[simp] theorem modSec_lanes (f : Sec → Sec) : (s.modSec f).lanes = s.lanes := rfl
@[simp] theorem modSec_links (f : Sec → Sec) : (s.modSec f).links = s.links := rfl
@[simp] theorem modSec_ring (f : Sec → Sec) : (s.modSec f).ring = s.ring := rfl
@[simp] theorem modSec_core (f : Sec → Sec) : (s.modSec f).core = s.core := rfl
@[simp] theorem modSec_sig (f : Sec → Sec) : (s.modSec f).sig = s.sig := rfl
@[simp] theorem modSec_bridge (f : Sec → Sec) : (s.modSec f).bridge = s.bridge := rfl
@[simp] theorem modSec_engs (f : Sec → Sec) : (s.modSec f).engs = s.engs := rfl
@[simp] theorem modSec_field (f : Sec → Sec) : (s.modSec f).field = s.field := rfl
@[simp] theorem modSec_prime0 (f : Sec → Sec) : (s.modSec f).prime0 = s.prime0 := rfl
@[simp] theorem modSec_prime1 (f : Sec → Sec) : (s.modSec f).prime1 = s.prime1 := rfl
@[simp] theorem modSec_units (f : Sec → Sec) : (s.modSec f).units = s.units := rfl
@[simp] theorem modSec_time (f : Sec → Sec) : (s.modSec f).time = s.time := rfl
@[simp] theorem modSec_pcie (f : Sec → Sec) : (s.modSec f).pcie = s.pcie := rfl
@[simp] theorem modSec_usb (f : Sec → Sec) : (s.modSec f).usb = s.usb := rfl
@[simp] theorem modSec_power (f : Sec → Sec) : (s.modSec f).power = s.power := rfl
@[simp] theorem modSec_seed (f : Sec → Sec) : (s.modSec f).seed = s.seed := rfl
@[simp] theorem modSec_thr (f : Sec → Sec) : (s.modSec f).thr = s.thr := rfl
@[simp] theorem modSec_ral (f : Sec → Sec) : (s.modSec f).ral = s.ral := rfl
@[simp] theorem modSec_epoch (f : Sec → Sec) : (s.modSec f).epoch = s.epoch := rfl
@[simp] theorem modSec_upd (f : Sec → Sec) : (s.modSec f).upd = s.upd := rfl
@[simp] theorem modSec_sec (f : Sec → Sec) : (s.modSec f).sec = f s.sec := rfl
@[simp] theorem modSec_chaff (f : Sec → Sec) : (s.modSec f).chaff = s.chaff := rfl

end Sys2Proof.Machine.State
end

