-- ==== Sys2Proof/Laws/Ops.lean ====
section
/-! SUPPORT. What each shared operation can do, said once: counting, events, faults, the journal, the access fault log, and
the end of a step where no sink waits. -/

namespace Sys2Proof.Machine.State

open Sys2Proof (Word Byte Agent Code AccessKind)

variable (s : State)

/-! ### Conditions -/

theorem when_cases (b : Bool) (f : State → State) : s.when b f = f s ∨ s.when b f = s := by
  cases b <;> simp [when]

/-! ### Counting -/

/-- Counting changes nothing but the register store. -/
theorem countN_eq (p : Nat) (f : Fld) (n : Nat) : ∃ r, s.countN p f n = { s with regs := r } := by
  unfold countN
  dsimp only
  split
  · split <;> exact ⟨_, rfl⟩
  · exact ⟨_, rfl⟩

/-- Counting writes the counter's word and, where it saturates, the page's event word. -/
theorem regs_countN_ne (p : Nat) (f : Fld) (n : Nat) {k : Nat} (h1 : k ≠ regKey p f.off) (h2 : k ≠ regKey p 0x010) :
    (s.countN p f n).regs.get factoryWord k = s.regs.get factoryWord k := by
  unfold countN
  dsimp only
  split
  · split
    · exact (regs_put_ne _ p ⟨0x010, _, 1⟩ 1 h2).trans (regs_put_ne s p f _ h1)
    · exact regs_put_ne s p f _ h1
  · exact regs_put_ne s p f _ h1

/-- A counter in a word of its own, below its top, counts. -/
theorem get_count_same (p : Nat) (f : Fld) (hw : f.lo + f.w ≤ 32) (hx : s.get p f + 1 < 2 ^ f.w - 1) :
    (s.count p f).get p f = s.get p f + 1 := by
  have hy : satAdd f.w (s.get p f) 1 = s.get p f + 1 := by unfold satAdd; exact Nat.min_eq_left (by omega)
  have hc : ¬ (s.get p f < 2 ^ f.w - 1 ∧ satAdd f.w (s.get p f) 1 = 2 ^ f.w - 1) := by rw [hy]; omega
  have : s.count p f = s.put p f (s.get p f + 1) := by
    unfold count countN
    dsimp only
    rw [if_neg hc, hy]
  rw [this, get_put_same s p f _ hw, Nat.mod_eq_of_lt (by omega)]

theorem count_eq (p : Nat) (f : Fld) : ∃ r, s.count p f = { s with regs := r } := s.countN_eq p f 1

/-- Counting keeps the canonical form. -/
theorem wf_countN (p : Nat) (f : Fld) (n : Nat) (h : s.regs.wf factoryWord = true) :
    (s.countN p f n).regs.wf factoryWord = true := by
  unfold countN
  dsimp only
  split
  · split
    · exact wf_put _ _ _ _ (wf_put _ _ _ _ h)
    · exact wf_put _ _ _ _ h
  · exact wf_put _ _ _ _ h

/-! ### Events and faults -/

theorem event_eq (p n : Nat) : ∃ r, s.event p n = { s with regs := r } := ⟨_, rfl⟩

/-- Entering a message into the fault queues changes them and the count of discarded messages. -/
theorem queueFault_eq (m : FaultMsg) : ∃ r x, s.queueFault m = { s with regs := r, thr := x } := by
  unfold queueFault
  obtain ⟨r, h⟩ := s.count_eq Pg.thresher R.CNT_MSG_DISCARDED
  split
  · exact ⟨_, _, rfl⟩
  · split
    · exact ⟨r, s.thr, h⟩
    · split
      · exact ⟨r, s.thr, h⟩
      · exact ⟨_, _, rfl⟩

/-- A fault changes registers and the Thresher's queues, and nothing else. -/
theorem raise_eq (p kind addr : Nat) : ∃ r x, s.raise p kind addr = { s with regs := r, thr := x } := by
  unfold raise
  split
  · exact ⟨_, _, rfl⟩
  · dsimp only
    obtain ⟨r, x, h⟩ := queueFault_eq (s.wr p R.FAULT_LAST.off (BitVec.ofNat 32 (2 ^ 31 + _ * 2 ^ 8 + kind))) _
    exact ⟨r, x, h⟩

theorem eventFault_eq (p n kind addr : Nat) :
    ∃ r x, s.eventFault p n kind addr = { s with regs := r, thr := x } := by
  obtain ⟨r, x, h⟩ := (s.event p n).raise_eq p kind addr
  exact ⟨r, x, h⟩

/-! ### The journal -/

theorem startCommit_eq (w : Bool) : ∃ x, s.startCommit w = { s with seed := x } := by
  unfold startCommit
  split
  · exact ⟨_, rfl⟩
  · split
    · exact ⟨_, rfl⟩
    · split <;> exact ⟨_, rfl⟩

/-- Journalling changes the store, and where the buffers are full registers and the Thresher's queues. -/
theorem journal_eq (k : Nat) (v : Word) : ∃ r x y, s.journal k v = { s with regs := r, seed := x, thr := y } := by
  unfold journal
  split
  · split
    · dsimp only
      rcases when_cases _ _ _ with h | h <;> rw [h]
      · obtain ⟨x, hx⟩ := startCommit_eq _ _
        exact ⟨_, x, _, hx⟩
      · exact ⟨_, _, _, rfl⟩
    · obtain ⟨r, h1⟩ := s.count_eq Pg.seed R.CNT_JOURNAL_JRN_LOST
      obtain ⟨q, y, h2⟩ := eventFault_eq ((s.count Pg.seed R.CNT_JOURNAL_JRN_LOST).setF Pg.seed R.SEED_STATUS_RESYNC) Pg.seed
        E.P006_JOURNAL_LOST K.JOURNAL_LOST 0
      exact ⟨q, s.seed, y, by rw [h2, setF, put_eq, h1]⟩
  · exact ⟨_, _, _, rfl⟩

/-- Nothing is journalled while the store does not journal (R479). -/
theorem journal_off (k : Nat) (v : Word) (h : s.on Pg.seed R.SEED_STATUS_JOURNALLING = false) : s.journal k v = s := by
  simp [journal, h]

/-! ### The access fault log -/

/-- A refused access changes the log, the count of lost entries, and the event word of the page it names. -/
theorem logAccess_eq (c : Code) (kind : AccessKind) (a : Agent) (addr : Nat) (p : Option Nat) :
    ∃ r l, s.logAccess c kind a addr p = { s with regs := r, afl := l } := by
  have key : ∀ t : State, (∃ r l, t = { s with regs := r, afl := l }) → ∃ r l, (match p with
      | some q => if pageUsed q && s.pageOn q then t.event q 31 else t
      | none => t) = { s with regs := r, afl := l } := by
    rintro t ⟨r, l, ht⟩
    cases p with
    | none => exact ⟨r, l, ht⟩
    | some q =>
      dsimp only
      split
      · obtain ⟨r', h'⟩ := t.event_eq q 31
        exact ⟨r', l, by rw [h', ht]⟩
      · exact ⟨r, l, ht⟩
  unfold logAccess
  dsimp only
  refine key _ ?_
  split
  · exact ⟨s.regs, _, rfl⟩
  · exact ⟨_, s.afl, put_eq ..⟩

/-! ### The end of a step -/

/-- Where no sink waits and no I²C target stretches the clock, presenting changes nothing. -/
theorem flushSinks_quiet (h : s.Quiet) : s.flushSinks = s := by
  obtain ⟨h1, h2⟩ := h
  have h3 : s.engs.filter (fun x => x.2.stretch.isSome) = [] := by
    rw [List.filter_eq_nil_iff]
    intro x hx
    simp [h2 x hx]
  have h4 : (s.modSig fun g => { g with toSinks := [] }) = s := by
    have : ({ s.sig with toSinks := [] } : Sig) = s.sig := by rw [← h1]
    show ({ s with sig := { s.sig with toSinks := [] } } : State) = s
    rw [this]
  unfold flushSinks
  rw [h1]
  dsimp only [List.foldl_nil]
  rw [h4, h3]
  rfl

/-- The end of a step where nothing waits: settling alone. -/
theorem end_quiet (h : s.Quiet) : s.flushSinks.settle = s.settle := by rw [flushSinks_quiet s h]

end Sys2Proof.Machine.State
end

