-- ==== Sys2Proof/Tests/Slice0.lean ====
section
/-! SUPPORT. Small tests: a witness for the hypotheses of every clause of every statement, an ill-formed command for each
check of `WellFormed`, and a few facts of single operations with numbers taken from the spec. -/

namespace Sys2Proof.Tests

open Sys2Proof (Word Byte Agent Code AccessKind Instr LaneId LinkId EngineId BankId)
open Sys2Proof.Machine

set_option maxRecDepth 100000
set_option Elab.async false
set_option linter.unusedVariables false

/-- A hub whose domains are on, with the named pages READY and agent 1 the owner. -/
def live (ps : List Nat) : State :=
  let s := (State.reset.wr Pg.power R.PD_ON.off 0x7FFFF).wr Pg.identity R.OWNER_STATUS.off 0x10001
  ps.foldl (fun t p => t.setF p R.PAGE_STATUS_READY) { s with die := { up := true } }

/-- The hypotheses of `Obligations.RegisterWriteBits`, clause by clause, hold somewhere. -/
theorem test_witness_RegisterWriteBits :
  ((let s : State := live [Pg.update];
    let p : Nat := Pg.update;
    let off : Nat := R.UPD_CFG.off;
    let d : RegDesc := (findDesc (blockRegs Pg.update) 0x40).getD { off := 0 };
    let i : Nat := 0;
    decide (p < 0x200 ∧ off < 0x1000 ∧ s.descOf p off = some d ∧ s.locate p off = (p, off) ∧ d.rwe = 0 ∧ off ≠ 0x010 ∧
      off ≠ 0x014 ∧ i < 32)) &&
  (let s : State := live [Pg.security];
    let p : Nat := 0x00F;
    let off : Nat := 0x40;
    let d : RegDesc := (findDesc (blockRegs 0x00F) 0x40).getD { off := 0 };
    decide (p < 0x200 ∧ off < 0x1000 ∧ s.descOf p off = some d ∧ s.locate p off = (p, off) ∧ d.rwe = 0 ∧ off ≠ 0x010 ∧
      off ≠ 0x014 ∧ State.keptKey (regKey p off) = false))) = true := by
  decide +kernel

/-- The hypotheses of `Obligations.SensitiveReads`, clause by clause, hold somewhere. -/
theorem test_witness_SensitiveReads :
  ((let s : State := State.reset;
    decide (s.held = false)) &&
  (let s : State := State.reset;
    let a : Agent := 3;
    let p : BitVec 9 := 0x00F;
    let w : BitVec 10 := 21;
    let d : RegDesc := (findDesc (blockRegs 0x00F) 84).getD { off := 0 };
    decide (s.isOwner a = false ∧ pageUsed p.toNat = true ∧ s.descOf p.toNat (4 * w.toNat) = some d ∧
      (d.rcl ≠ 0 ∨ d.rpop ≠ 0) ∧ s.granted a p.toNat = false)) &&
  (let s : State := State.reset;
    let a : Agent := 3;
    decide (s.isOwner a = false ∧ s.granted a Pg.afl = false)) &&
  (let s : State := State.reset;
    let a : Agent := 3;
    decide (s.isOwner a = false ∧ s.granted a Pg.logs = false)) &&
  (let s : State := State.reset;
    let a : Agent := 3;
    decide (s.isOwner a = false ∧ s.granted a Pg.sigMirror = false))) = true := by
  decide +kernel

def wAfl (n : Nat) : State := { live [Pg.afl] with afl := List.replicate n { code := 3, kind := 1, agent := 2, addr := 0x1234, time := 5 } }

/-- The hypotheses of `Obligations.AccessFaultLog`, clause by clause, hold somewhere. -/
theorem test_witness_AccessFaultLog :
  ((let s : State := wAfl 0;
    decide (s.afl.length < 64)) &&
  (let s : State := wAfl 64;
    decide (64 ≤ s.afl.length)) &&
  (let s : State := wAfl 0;
    let a : Agent := 1;
    let p := Pg.afl;
    decide (s.readCode a p R.AFL_POP.off = .ok ∧ s.afl = [])) &&
  (let s : State := wAfl 2;
    let a : Agent := 1;
    let p := Pg.afl;
    decide (s.readCode a p R.AFL_POP.off = .ok) &&
    (match s.afl with
     | e :: l => true
     | _ => false))) = true := by
  decide +kernel

/-- The hypotheses of `Obligations.RefusedWrites`, clause by clause, hold somewhere. -/
theorem test_witness_RefusedWrites :
  ((let be : BitVec 4 := 3;
    decide (be ≠ 15)) &&
  (let s : State := live [];
    let a : Agent := 3;
    let p : BitVec 9 := 8;
    let w : BitVec 10 := 16;
    let v : Word := 0;
    let c : Code := .notOwner;
    decide (c ≠ .ok ∧ c ≠ .keyLocked ∧ c ≠ .unsupported ∧ s.tokenRefused a p.toNat (4 * w.toNat) v = false ∧
      State.stagingBit p.toNat (4 * w.toNat) = none ∧ s.writeCode a p.toNat (4 * w.toNat) = c)) &&
  (let s : State := live [];
    let a : Agent := 3;
    let c : Code := .notOwner;
    let l : LaneId := 4;
    decide (c ≠ .ok ∧ c ≠ .keyLocked ∧ c ≠ .unsupported ∧ s.writeCode a (Pg.lane l) R.LANE_CMD.off = c)) &&
  (let s : State := live [];
    let a : Agent := 3;
    let c : Code := .notOwner;
    let k : LinkId := 1;
    decide (c ≠ .ok ∧ c ≠ .keyLocked ∧ c ≠ .unsupported ∧ s.writeCode a (Pg.link k) R.PAGE_CTRL.off = c)) &&
  (let s : State := live [];
    let a : Agent := 3;
    let c : Code := .notOwner;
    decide (c ≠ .ok ∧ c ≠ .keyLocked ∧ c ≠ .unsupported ∧ s.writeCode a Pg.mirror R.MIRROR_CMD_CAP_FLUSH.off = c)) &&
  (let s : State := live [];
    let a : Agent := 3;
    let c : Code := .notOwner;
    decide (c ≠ .ok ∧ c ≠ .keyLocked ∧ c ≠ .unsupported ∧ s.writeCode a Pg.latch R.LATCH_CMD.off = c))) = true := by
  decide +kernel

/-- The hypotheses of `Obligations.CauseOrder`, clause by clause, hold somewhere. -/
theorem test_witness_CauseOrder :
  ((let s : State := live [Pg.security];
    let a : Agent := 1;
    let p : Nat := Pg.security;
    let off : Nat := 0x44;
    decide (s.writeCode a p off = .keyLocked)) &&
  (let s : State := live [8];
    let a : Agent := 3;
    let p : Nat := 8;
    let off : Nat := 0x40;
    decide (s.readCode a p off = .ok))) = true := by
  decide +kernel

/-- The hypotheses of `Obligations.RegisterRows`, clause by clause, hold somewhere. -/
theorem test_witness_RegisterRows :
  ((let s : State := live [8, 0x68, 0x40, 0x59];
    let a : Agent := 1;
    let p : BitVec 9 := 8;
    let w : BitVec 10 := 16;
    let v : Word := 7;
    let n := p.toNat;
    let off := 4 * w.toNat;
    decide (s.tokenRefused a n off v = false ∧ State.stagingBit n off = none ∧ s.writeCode a n off = .ok)) &&
  (let s : State := live [8, 0x68, 0x40, 0x59];
    let a : Agent := 1;
    let p : BitVec 9 := 8;
    let n := p.toNat;
    decide (s.writeCode a n 0x018 = .ok ∧ s.pageShut n = false)) &&
  (let s : State := live [8, 0x68, 0x40, 0x59];
    let a : Agent := 1;
    let p : BitVec 9 := 8;
    let w : BitVec 10 := 16;
    let n := p.toNat;
    let off := 4 * w.toNat;
    decide (s.readCode a n off = .ok ∧ s.popRead n off = none)) &&
  (let s : State := live [8, 0x68, 0x40, 0x59];
    let a : Agent := 1;
    let p : BitVec 9 := 8;
    let n := p.toNat;
    (match clearBit n with
     | some c => decide (s.tokenRefused a c.1 c.2.off (s.withField c.1 c.2 1) = false ∧
       State.stagingBit c.1 c.2.off = none ∧ s.writeCode a c.1 c.2.off = .ok)
     | _ => false)) &&
  (let s : State := live [8, 0x68, 0x40, 0x59];
    let a : Agent := 1;
    let p : BitVec 9 := 0x68;
    let n := p.toNat;
    decide (n = Pg.core ∧ s.writeCode a Pg.core 0x044 = .ok ∧ s.pageShut Pg.core = false))) = true := by
  decide +kernel

/-- The hypotheses of `Obligations.CounterClearBits`, clause by clause, hold somewhere. -/
theorem test_witness_CounterClearBits :
  ((let p : Nat := 0x40;
    let d : RegDesc := ((blockRegs 0x40).find? fun (d : RegDesc) => d.cnt != 0).getD { off := 0 };
    let i : Nat := 0;
    let b : Nat := 0;
    decide (d ∈ blockRegs p ∧ i < d.count ∧ bitOf d.cnt b = true)) &&
  (let p : Nat := 0x40;
    let d : RegDesc := ((blockRegs 0x40).find? fun (d : RegDesc) => d.cnt != 0).getD { off := 0 };
    let i : Nat := 0;
    let off' : Nat := 0;
    let b : Nat := 0;
    decide (d ∈ blockRegs p ∧ i < d.count) &&
    (let off := d.off + d.stride * i;
    decide (off' < 0x1000 ∧
      (∀ e ∈ blockRegs p, ∀ j, j < e.count → e.off + e.stride * j = off' → bitOf e.cnt b = false)))) &&
  (let p : Nat := 0x40;
    let d : RegDesc := ((blockRegs 0x40).find? fun (d : RegDesc) => d.cnt != 0).getD { off := 0 };
    let i : Nat := 0;
    let k : Nat := 0;
    decide (d ∈ blockRegs p ∧ i < d.count ∧ k / 0x1000000 ≠ p)) &&
  (let p : Nat := 0x40;
    let d : RegDesc := ((blockRegs 0x40).find? fun (d : RegDesc) => d.cnt != 0).getD { off := 0 };
    let i : Nat := 0;
    decide (d ∈ blockRegs p ∧ i < d.count))) = true := by
  decide +kernel

/-- The hypotheses of `Obligations.EventSources`, clause by clause, hold somewhere. -/
theorem test_witness_EventSources :
  ((let n : Nat := 6;
    decide (n < 128)) &&
  (let s : State := (((live [8]).wr 8 0x10 5).wr 8 0x14 4).wr Pg.events 0x50 0xFFFFFFFF;
    let n : Nat := 6;
    decide (n < 128 ∧ bitOf (s.rd Pg.events (R.SRC_MASK (n / 32)).off).toNat (n % 32) = true)) &&
  (let s : State := State.reset;
    let n : Nat := 6;
    decide (n < 128 ∧ (∀ p ∈ sourcePages n, s.pageOn p = false)))) = true := by
  decide +kernel

def wLane (st : Nat) : State := (live [0x40]).put 0x40 R.LANE_STATUS_STATE st

/-- The hypotheses of `Obligations.LaneStateRegister`, clause by clause, hold somewhere. -/
theorem test_witness_LaneStateRegister :
  ((let f := R.LANE_STATUS_FAST_EXIT_ELIGIBLE;
    decide (f.off = R.LANE_STATUS.off ∧ f.lo + f.w ≤ 32 ∧
      (∀ g ∈ [R.LANE_STATUS_STATE, R.LANE_STATUS_CDR_LOCK, R.LANE_STATUS_BLOCK_LOCK, R.LANE_STATUS_DESKEWED, R.LANE_STATUS_RX_IDLE], f.lo + f.w ≤ g.lo ∨ g.lo + g.w ≤ f.lo))) &&
  (let l : LaneId := 0;
    let k : Nat := 0;
    decide (k ≠ regKey (Pg.lane l) R.LANE_STATUS.off)) &&
  (let l : LaneId := 0;
    let m := 5;
    decide (m ≠ l))) = true := by
  decide +kernel

/-- The hypotheses of `Obligations.LaneReceiverTransitions`, clause by clause, hold somewhere. -/
theorem test_witness_LaneReceiverTransitions :
  ((let s : State := wLane 1;
    let l : LaneId := 0;
    decide (s.laneSt l = 1)) &&
  (let s : State := wLane 2;
    let l : LaneId := 0;
    decide (s.laneSt l = 2)) &&
  (let s : State := (wLane 3).setF 0x40 R.LANE_CFG_AUTO_ALIGN;
    let l : LaneId := 0;
    let good : BitVec 16 := 64;
    let p := Pg.lane l;
    decide (s.laneSt l = 3 ∧ s.on p R.LANE_CFG_AUTO_ALIGN = true ∧ 64 ≤ good.toNat)) &&
  (let s : State := wLane 5;
    let l : LaneId := 0;
    decide (s.laneSt l = 5)) &&
  (let s : State := (wLane 5).modLink 0 fun l => { l with idleExpected := true };
    let l : LaneId := 0;
    decide (s.laneSt l = 5 ∧ (s.link (laneLink l)).idleExpected = true)) &&
  (let s : State := wLane 5;
    let l : LaneId := 0;
    decide (s.laneSt l = 5 ∧ (s.link (laneLink l)).idleExpected = false)) &&
  (let s : State := wLane 2;
    let l : LaneId := 0;
    decide ((s.laneSt l = 2 ∨ s.laneSt l = 3 ∨ s.laneSt l = 4))) &&
  (let s : State := wLane 6;
    let l : LaneId := 0;
    decide (s.laneSt l = 6)) &&
  (let s : State := wLane 7;
    let l : LaneId := 0;
    decide (s.laneSt l = 7))) = true := by
  decide +kernel

/-- The hypotheses of `Obligations.LaneCommands`, clause by clause, hold somewhere. -/
theorem test_witness_LaneCommands :
  ((let s : State := (wLane 3).clrF 0x40 R.LANE_CFG_AUTO_ALIGN;
    let a : Agent := 1;
    let l : LaneId := 0;
    let p := Pg.lane l;
    decide (s.writeCode a p R.LANE_CMD.off = .ok ∧ s.laneSt l = 3 ∧ s.on p R.LANE_CFG_AUTO_ALIGN = false)) &&
  (let s : State := wLane 4;
    let a : Agent := 1;
    let l : LaneId := 0;
    let p := Pg.lane l;
    decide (s.writeCode a p R.LANE_CMD.off = .ok ∧ s.laneSt l = 4)) &&
  (let s : State := wLane 5;
    let a : Agent := 1;
    let l : LaneId := 0;
    let p := Pg.lane l;
    decide (s.writeCode a p R.LANE_CMD.off = .ok ∧ s.laneSt l = 5)) &&
  (let s : State := (wLane 0).clrF 0x40 R.LANE_CFG_EQ_ADAPT;
    let a : Agent := 1;
    let l : LaneId := 0;
    let p := Pg.lane l;
    decide (s.writeCode a p R.LANE_CMD.off = .ok ∧ s.laneSt l = 0 ∧ s.sideEnabled (laneLink l) = false ∧
      s.on p R.LANE_CMD_TEST_MODE = false)) &&
  (let s : State := (wLane 1).setF 0x58 R.PAGE_CTRL_ENABLE;
    let a : Agent := 1;
    let l : LaneId := 0;
    let p := Pg.lane l;
    decide (s.writeCode a p R.LANE_CMD.off = .ok ∧ s.sideEnabled (laneLink l) = true ∧
      s.on p R.LANE_CMD_TEST_MODE = false)) &&
  (let s : State := (wLane 8).setF 0x40 R.LANE_CMD_TEST_MODE;
    let a : Agent := 1;
    let l : LaneId := 0;
    let p := Pg.lane l;
    decide (s.writeCode a p R.LANE_CMD.off = .ok ∧ s.laneSt l = 8 ∧ s.sideEnabled (laneLink l) = false ∧
      s.on p R.LANE_CMD_TEST_MODE = true)) &&
  (let s : State := (wLane 3).clrF 0x40 R.LANE_CFG_AUTO_ALIGN;
    let a : Agent := 1;
    let l : LaneId := 0;
    let p := Pg.lane l;
    decide (s.writeCode a p R.LANE_CMD.off = .ok ∧ s.on p R.LANE_CMD_IDLE_REQ = false)) &&
  (let s : State := (wLane 5).setF 0x40 R.LANE_CMD_IDLE_REQ;
    let a : Agent := 1;
    let l : LaneId := 0;
    let p := Pg.lane l;
    decide (s.writeCode a p R.LANE_CMD.off = .ok ∧ s.on p R.LANE_CMD_IDLE_REQ = true)) &&
  (let s : State := (wLane 0).clrF 0x40 R.LANE_CFG_EQ_ADAPT;
    let a : Agent := 1;
    let l : LaneId := 0;
    let v : Word := 0x00210201;
    let p := Pg.lane l;
    decide (s.writeCode a p R.EQ_BOUNDS.off = .ok ∧ bitsOf v.toNat 0 5 ≤ bitsOf v.toNat 8 5 ∧
      bitsOf v.toNat 16 4 ≤ bitsOf v.toNat 20 4 ∧ s.on p R.LANE_CFG_EQ_ADAPT = false)) &&
  (let s : State := (wLane 5).setF 0x40 R.LANE_CMD_IDLE_REQ;
    let a : Agent := 1;
    let l : LaneId := 0;
    let v : Word := 0x00000001;
    let p := Pg.lane l;
    decide (s.writeCode a p R.EQ_BOUNDS.off = .ok ∧ bitsOf v.toNat 8 5 < bitsOf v.toNat 0 5))) = true := by
  decide +kernel

def wBlock (b0 b1 b2 : Nat) : BitVec 64 := BitVec.ofNat 64 (b0 + 256 * b1 + 65536 * b2)

/-- The hypotheses of `Obligations.LaneFindings`, clause by clause, hold somewhere. -/
theorem test_witness_LaneFindings :
  ((let s : State := ((wLane 4).clrF 0x40 R.LANE_CFG_RX_POL_AUTO).clrF 0x40 R.LANE_CFG_RX_POL_INV;
    let l : LaneId := 0;
    let block : BitVec 64 := 0x00000F5AFFFFF0A5;
    let p := Pg.lane l;
    let b1 := bitsOf block.toNat 8 8;
    decide (s.laneSt l = 4 ∧ s.on p R.LANE_CFG_RX_POL_AUTO = false ∧ s.on p R.LANE_CFG_RX_POL_INV = false ∧
      block.toNat % 256 = 0xA5 ∧ bitsOf block.toNat 32 32 = notW 32 block.toNat ∧ b1 / 32 ≠ expectedOrigin l)) &&
  (let s : State := (([0x41, 0x42, 0x43].foldl (fun t p => t.put p R.LANE_STATUS_STATE 5) (wLane 7)));
    let l : LaneId := 0;
    decide (s.laneSt l = 7 ∧ (∀ m ∈ linkLanes (laneLink l), m ≠ l.val → s.laneSt m = 5 ∧ (s.lane m).mark = none))) &&
  (let s : State := ((wLane 8).setF 0x40 R.LANE_CMD_TEST_MODE).setF 0x40 R.PRBS_CTRL_CHK_EN;
    let l : LaneId := 0;
    let p := Pg.lane l;
    decide (s.laneSt l = 8 ∧ s.on p R.PRBS_CTRL_CHK_EN = true)) &&
  (let s : State := ((wLane 8).setF 0x40 R.PRBS_CTRL_CHK_EN).setF 0x40 R.PRBS_STAT_CHK_LOCKED;
    let l : LaneId := 0;
    let p := Pg.lane l;
    decide (s.laneSt l = 8 ∧ s.on p R.PRBS_STAT_CHK_LOCKED = true)) &&
  (let s : State := ((wLane 8).setF 0x40 R.LANE_CMD_TEST_MODE).setF 0x40 R.PRBS_CTRL_CHK_EN;
    let a : Agent := 1;
    let l : LaneId := 0;
    let p := Pg.lane l;
    decide (s.laneSt l = 8 ∧ s.on p R.PRBS_CTRL_GEN_EN = false ∧ s.writeCode a p R.PRBS_CTRL.off = .ok)) &&
  (let s : State := (wLane 8).setF 0x40 R.PRBS_CTRL_GEN_EN;
    let a : Agent := 1;
    let l : LaneId := 0;
    let p := Pg.lane l;
    decide (s.laneSt l = 8 ∧ s.on p R.PRBS_CTRL_GEN_EN = true ∧ s.writeCode a p R.PRBS_CTRL.off = .ok)) &&
  (let s : State := (wLane 5).setF 0x40 R.EYE_CTRL_HOLD;
    let a : Agent := 1;
    let l : LaneId := 0;
    let p := Pg.lane l;
    decide (s.on p R.EYE_CTRL_HOLD = true ∧ s.on p R.EYE_CTRL_BUSY = false ∧ s.writeCode a p R.EYE_CTRL.off = .ok)) &&
  (let s : State := (wLane 5).setF 0x40 R.EYE_CTRL_BUSY;
    let l : LaneId := 0;
    let p := Pg.lane l;
    decide ((s.laneSt l = 5 ∨ s.laneSt l = 8) ∧ s.on p R.EYE_CTRL_BUSY = true ∧
      s.on p R.EYE_CTRL_RALUSK_ACTIVE = false))) = true := by
  decide +kernel

def wLink (k st : Nat) : State :=
  let s := (live [Pg.link k]).put (Pg.link k) R.LINK_STATUS_STATE st
  (s.setF (Pg.link k) R.LINK_STATUS_RETRY_ACTIVE).modLink k fun l => { l with retryEn := true, initAck := true, base := 0 }
/-- Bytes 1 to 7 of a control symbol with its check. -/
def wSym (k f : Nat) : BitVec 56 := BitVec.ofNat 56 (f + symbolCrc k f * 2 ^ 48)

/-- The hypotheses of `Obligations.LinkSymbols`, clause by clause, hold somewhere. -/
theorem test_witness_LinkSymbols :
  ((let s : State := wLink 4 3;
    let k : LinkId := 4;
    let b : BitVec 56 := wSym 0x1E 0;
    let f : Nat := 0;
    let p := Pg.link k;
    decide (s.pageOn p = true ∧ 2 ≤ s.linkSt k ∧ symbolFields 0x1E b = some f)) &&
  (let s : State := wLink 4 3;
    let k : LinkId := 4;
    let b : BitVec 56 := 0x55;
    let p := Pg.link k;
    decide (s.pageOn p = true ∧ 2 ≤ s.linkSt k ∧ symbolFields 0x1E b = none)) &&
  (let s : State := wLink 4 3;
    let k : LinkId := 4;
    let b : BitVec 56 := wSym 0x55 1;
    let f : Nat := 1;
    let p := Pg.link k;
    decide (s.pageOn p = true ∧ 2 ≤ s.linkSt k ∧ symbolFields 0x55 b = some f)) &&
  (let s : State := wLink 4 3;
    let k : LinkId := 4;
    let b : BitVec 56 := wSym 0x78 0x1234;
    let f : Nat := 0x1234;
    let p := Pg.link k;
    decide (s.pageOn p = true ∧ 2 ≤ s.linkSt k ∧ symbolFields 0x78 b = some f)) &&
  (let s : State := wLink 4 3;
    let k : LinkId := 4;
    let b : BitVec 56 := wSym 0xB4 1;
    let f : Nat := 1;
    let p := Pg.link k;
    decide (s.pageOn p = true ∧ 2 ≤ s.linkSt k ∧ symbolFields 0xB4 b = some f)) &&
  (let s : State := (wLink 4 3).modLink 4 fun l => { l with replay := [{ frame := {}, idx := 0 }] };
    let k : LinkId := 4;
    let b : BitVec 56 := wSym 0x2D 0;
    let f : Nat := 0;
    let p := Pg.link k;
    let l := s.link k;
    decide (s.pageOn p = true ∧ 2 ≤ s.linkSt k ∧ symbolFields 0x2D b = some f) &&
    (let n := (f % 65536 + 65537 - l.base) % 65536;
    decide (1 ≤ n ∧ n ≤ l.replay.length ∧ s.retryOn k = true))) &&
  (let s : State := wLink 4 3;
    let k : LinkId := 4;
    let b : BitVec 56 := wSym 0x33 0;
    let f : Nat := 0;
    let p := Pg.link k;
    decide (s.pageOn p = true ∧ s.linkSt k = 3 ∧ s.retryOn k = true ∧ symbolFields 0x33 b = some f)) &&
  (let s : State := (wLink 4 3).modLink 4 fun l => { l with nak := some 5 };
    let k : LinkId := 4;
    let b : BitVec 56 := wSym 0x4B 5;
    let f : Nat := 5;
    let p := Pg.link k;
    let l := s.link k;
    decide (s.pageOn p = true ∧ s.linkSt k = 3 ∧ s.retryOn k = true ∧ symbolFields 0x4B b = some f) &&
    (match l.nak with
     | some n => decide (n = f % 65536)
     | _ => false)) &&
  (let s : State := wLink 4 3;
    let k : LinkId := 4;
    let b : BitVec 56 := wSym 0xC3 1;
    let f : Nat := 1;
    let p := Pg.link k;
    decide (s.pageOn p = true ∧ (s.linkSt k = 3 ∨ s.linkSt k = 4) ∧ symbolFields 0xC3 b = some f)) &&
  (let s : State := (wLink 4 3).modLink 4 fun l => { l with lpAsked := true };
    let k : LinkId := 4;
    let b : BitVec 56 := wSym 0x96 0;
    let f : Nat := 0;
    let p := Pg.link k;
    let l := s.link k;
    decide (s.pageOn p = true ∧ s.linkSt k = 3 ∧ symbolFields 0x96 b = some f ∧ l.lpAsked = true)) &&
  (let s : State := ((wLink 4 3).setF (Pg.link 4) R.LINK_CFG_LP_ALLOWED);
    let k : LinkId := 4;
    let b : BitVec 56 := wSym 0x96 0;
    let f : Nat := 0;
    let p := Pg.link k;
    let l := s.link k;
    decide (s.pageOn p = true ∧ s.linkSt k = 3 ∧ symbolFields 0x96 b = some f ∧ l.lpAsked = false ∧ s.lpDenial k = 0)) &&
  (let s : State := ((wLink 4 3).clrF (Pg.link 4) R.LINK_CFG_LP_ALLOWED);
    let k : LinkId := 4;
    let b : BitVec 56 := wSym 0x96 0;
    let f : Nat := 0;
    let p := Pg.link k;
    let l := s.link k;
    decide (s.pageOn p = true ∧ s.linkSt k = 3 ∧ symbolFields 0x96 b = some f ∧ l.lpAsked = false ∧ s.lpDenial k ≠ 0)) &&
  (let s : State := wLink 0 2;
    let k : LinkId := 0;
    let b : BitVec 56 := wSym 0x66 0x11;
    let f : Nat := 0x11;
    let p := Pg.link k;
    decide (s.pageOn p = true ∧ s.linkSt k = 2 ∧ k.val < 4 ∧ symbolFields 0x66 b = some f)) &&
  (let s : State := wLink 0 2;
    let k : LinkId := 0;
    let b : BitVec 56 := wSym 0x69 ((wLink 0 2).initFields 0);
    let f : Nat := ((wLink 0 2).initFields 0);
    let p := Pg.link k;
    decide (s.pageOn p = true ∧ s.linkSt k = 2 ∧ symbolFields 0x69 b = some f ∧
      State.ackPart f = State.ackPart (s.initFields k))) &&
  (let s : State := wLink 0 2;
    let k : LinkId := 0;
    let b : BitVec 56 := wSym 0x7F 0;
    let f : Nat := 0;
    let p := Pg.link k;
    let l := s.link k;
    decide (s.pageOn p = true ∧ s.linkSt k = 2 ∧ symbolFields 0x7F b = some f ∧ l.rtts.length < 4))) = true := by
  decide +kernel

def wHeader (f : Frame) : List Byte := f.header
def wLanesUp (s : State) (k : Nat) : State := (linkLanes k).foldl (fun t m => t.put (Pg.lane m) R.LANE_STATUS_STATE 5) s

/-- The hypotheses of `Obligations.LinkLife`, clause by clause, hold somewhere. -/
theorem test_witness_LinkLife :
  ((let s : State := wLanesUp (wLink 4 1) 4;
    let k : LinkId := 4;
    let p := Pg.link k;
    decide (s.pageOn p = true ∧ s.linkSt k = 1 ∧ s.lanesUp k = true)) &&
  (let s : State := wLink 4 2;
    let k : LinkId := 4;
    let p := Pg.link k;
    decide (s.pageOn p = true ∧ s.linkSt k = 2)) &&
  (let s : State := wLink 4 2;
    let k : LinkId := 4;
    let p := Pg.link k;
    decide (s.pageOn p = true ∧ s.linkSt k = 2 ∧ s.on p R.STITCH_STATUS_PEER_MISMATCH = false)) &&
  (let s : State := wLink 4 3;
    let k : LinkId := 4;
    let p := Pg.link k;
    decide (s.pageOn p = true ∧ s.linkSt k = 3)) &&
  (let s : State := wLink 4 3;
    let k : LinkId := 4;
    let p := Pg.link k;
    decide (s.pageOn p = true ∧ s.linkSt k = 3 ∧ s.lanesUp k = false)) &&
  (let s : State := (wLink 4 3).modLink 4 fun l => { l with replay := [{ frame := {}, idx := 0 }], tries := 200 };
    let k : LinkId := 4;
    let p := Pg.link k;
    let l := s.link k;
    decide (s.pageOn p = true ∧ s.linkSt k = 3 ∧ s.retryOn k = true ∧ l.replay ≠ [] ∧
      Nat.max 1 (s.get p R.LINK_CFG_REPLAY_LIMIT) ≤ l.tries)) &&
  (let s : State := ((wLink 4 3).put (Pg.link 4) R.LINK_CFG_REPLAY_LIMIT 4).modLink 4 fun l => { l with replay := [{ frame := {}, idx := 0 }] };
    let k : LinkId := 4;
    let p := Pg.link k;
    let l := s.link k;
    decide (s.pageOn p = true ∧ s.linkSt k = 3 ∧ s.retryOn k = true ∧ l.replay ≠ [] ∧
      l.tries < Nat.max 1 (s.get p R.LINK_CFG_REPLAY_LIMIT))) &&
  (let s : State := wLink 4 3;
    let k : LinkId := 4;
    let bytes : List Byte := [];
    let p := Pg.link k;
    let l := s.link k;
    decide (s.pageOn p = true ∧ s.linkSt k = 3 ∧ l.nak = none ∧ checkHeader bytes = .badCrc)) &&
  (let s : State := wLink 4 3;
    let k : LinkId := 4;
    let bytes : List Byte := wHeader { cls := 2, ftype := 0x10, dstNode := 0, dstHub := 0, srcNode := 1, srcHub := 1, payload := List.replicate 8 0 };
    let since : BitVec 4 := 0;
    let p := Pg.link k;
    let l := s.link k;
    decide (s.pageOn p = true ∧ s.linkSt k = 3 ∧ l.nak = none) &&
    (let num := (l.rxNum + since.toNat) % 65536;
    let t := s.modLink k fun l => { l with rxNum := (num + 1) % 65536, opened := l.opened.map fun o => { o with got := o.got + since.toNat } };
    decide (4 ≤ k.val) &&
    (match checkHeader bytes with
     | .good f n => decide (l.opened = none ∧ l.delivered.contains num = false ∧ State.received l num = false ∧
       (t.passage k { f with payload := List.replicate n 0 }).expired = false)
     | _ => false))) &&
  (let s : State := wLanesUp (wLink 4 4) 4;
    let k : LinkId := 4;
    let p := Pg.link k;
    decide (s.pageOn p = true ∧ s.linkSt k = 4 ∧ s.lanesUp k = true)) &&
  (let s : State := wLanesUp (wLink 4 4) 4;
    let k : LinkId := 4;
    let p := Pg.link k;
    decide (s.pageOn p = true ∧ s.linkSt k = 4)) &&
  (let s : State := wLanesUp (wLink 4 5) 4;
    let k : LinkId := 4;
    let p := Pg.link k;
    decide (s.pageOn p = true ∧ s.linkSt k = 5 ∧ s.lanesUp k = true)) &&
  (let s : State := wLink 4 5;
    let k : LinkId := 4;
    let p := Pg.link k;
    decide (s.pageOn p = true ∧ s.linkSt k = 5 ∧ s.lanesUp k = false)) &&
  (let s : State := wLink 4 3;
    let a : Agent := 1;
    let k : LinkId := 4;
    let p := Pg.link k;
    decide (s.writeCode a p R.LINK_CTRL.off = .ok ∧ s.linkSt k = 3 ∧ s.on p R.LINK_CTRL_LP_REQ = false)) &&
  (let s : State := wLanesUp (wLink 4 1) 4;
    let a : Agent := 1;
    let k : LinkId := 4;
    let p := Pg.link k;
    decide (s.writeCode a p R.LINK_CTRL.off = .ok ∧ s.linkSt k ≠ 0)) &&
  (let s : State := wLanesUp (wLink 4 1) 4;
    let a : Agent := 1;
    let k : LinkId := 4;
    let p := Pg.link k;
    decide (s.writeCode a p R.PAGE_CTRL.off = .ok ∧ s.on p R.PAGE_CTRL_ENABLE = false ∧ s.blockStopped p = false ∧
      s.ratesDiffer k = false ∧ s.mapInvalid k = false)) &&
  (let s : State := (wLink 4 1).setF (Pg.link 4) R.PAGE_CTRL_ENABLE;
    let a : Agent := 1;
    let k : LinkId := 4;
    let p := Pg.link k;
    decide (s.writeCode a p R.PAGE_CTRL.off = .ok ∧ s.on p R.PAGE_CTRL_ENABLE = true ∧ s.linkSt k = 1))) = true := by
  decide +kernel

/-- The hypotheses of `Obligations.HeaderRoundTrip`, clause by clause, hold somewhere. -/
theorem test_witness_HeaderRoundTrip :
  ((let f : Frame := { cls := 1, prio := 3, ftype := 0x30, dstNode := 9, dstHub := 2, srcNode := 7, hops := 5, seq := 65535, tag := 7, ts := 99, aux := 4, payload := [1, 2, 3] };
    decide (f.cls < 3 ∧ f.prio < 8 ∧ f.ring < 2 ∧ f.ftype < 256 ∧ f.dstNode < 256 ∧ f.dstHub < 4 ∧ f.srcNode < 256 ∧
      f.srcHub < 4 ∧ f.hops < 1024 ∧ f.seq < 65536 ∧ f.tag < 65536 ∧ f.ts < 2 ^ 32 ∧ f.aux < 65536 ∧
      f.payload.length ≤ 256))) = true := by
  decide +kernel

/-- The hypotheses of `Obligations.BundleRoundTrip`, clause by clause, hold somewhere. -/
theorem test_witness_BundleRoundTrip :
  ((let n : Nat := 2;
    let rs : List SigRec := [{ ident := 5, valid := true, version := 7, ts := 9, value := [1, 2] }, { ident := 0xFFFFFF, valid := false, version := 7, ts := 9, value := List.replicate 32 1 }];
    decide (rs.length ≤ n ∧ (∀ r ∈ rs, r.ident < 2 ^ 24 ∧ r.version < 2 ^ 32 ∧ r.ts < 2 ^ 64 ∧ 1 ≤ r.value.length ∧
      r.value.length ≤ 32)))) = true := by
  decide +kernel

/-- The hypotheses of `Obligations.SymbolCheck`, clause by clause, hold somewhere. -/
theorem test_witness_SymbolCheck :
  ((let fields : Nat := 5;
    let crc : Nat := symbolCrc 0x2D 5;
    decide (fields < 2 ^ 48 ∧ crc < 256)) &&
  (let kind : Nat := 0x2D;
    let fields : Nat := 5;
    let crc : Nat := symbolCrc 0x2D 5;
    decide (fields < 2 ^ 48 ∧ crc < 256 ∧ crc = symbolCrc kind fields)) &&
  (let kind : Nat := 0x2D;
    let fields : Nat := 5;
    let crc : Nat := (symbolCrc 0x2D 5 + 1) % 256;
    decide (fields < 2 ^ 48 ∧ crc < 256 ∧ crc ≠ symbolCrc kind fields))) = true := by
  decide +kernel

/-- The hypotheses of `Obligations.CredentialOrder`, clause by clause, hold somewhere. -/
theorem test_witness_CredentialOrder :
  ((let a : Cred := { prio := 3, node := 1, nodeValid := true, hub := 0, cand := true, uid := 9 };
    let b : Cred := { prio := 2, node := 1, nodeValid := true, hub := 0, cand := true, uid := 8 };
    let c : Cred := { prio := 1, node := 1, nodeValid := true, hub := 0, cand := true, uid := 7 };
    decide (Cred.better a b = true ∧ Cred.better b c = true)) &&
  (let a : Cred := { prio := 3, node := 1, nodeValid := true, hub := 0, cand := true, uid := 9 };
    let b : Cred := { prio := 2, node := 1, nodeValid := true, hub := 0, cand := true, uid := 8 };
    decide (a.cand = true ∧ b.cand = true ∧ a.uid ≠ b.uid)) &&
  (let a : Cred := { prio := 3, node := 1, nodeValid := true, hub := 0, cand := false, uid := 9 };
    decide (a.cand = false))) = true := by
  decide +kernel

/-- The hypotheses of `Obligations.ClaimRoundTrip`, clause by clause, hold somewhere. -/
theorem test_witness_ClaimRoundTrip :
  ((let c : Cred := { prio := 3, node := 1, nodeValid := true, hub := 2, cand := true, uid := 9 };
    let term : Nat := 5;
    decide (c.prio < 16 ∧ c.node < 256 ∧ c.hub < 4 ∧ c.uid < 2 ^ 64 ∧ term < 2 ^ 32))) = true := by
  decide +kernel

def wCore : State := live [Pg.granary, Pg.qprof, Pg.mirror, Pg.gleaner, Pg.core]
/-- A presented mirror record of four or eight bytes. -/
def wCap (n : Nat) : State :=
  let s := wCore
  { s with core := { s.core with queued := [{ point := 9, frame := { cls := 2, ftype := 0x41, payload := List.replicate n 7 }, at_ := 0, id := 0 }] } }

/-- The hypotheses of `Obligations.SwitchCoreCommands`, clause by clause, hold somewhere. -/
theorem test_witness_SwitchCoreCommands :
  ((let s : State := wCore;
    let a : Agent := 1;
    let v : Word := 100;
    let g := Pg.granary;
    decide (s.writeCode a g R.RESERVE_URGENT.off = .ok ∧ v.toNat % 2 ^ 17 + s.get g R.RESERVE_COMPL ≤ 65536)) &&
  (let s : State := wCore;
    let a : Agent := 1;
    let v : Word := 70000;
    let g := Pg.granary;
    decide (s.writeCode a g R.RESERVE_URGENT.off = .ok ∧ 65536 < v.toNat % 2 ^ 17 + s.get g R.RESERVE_COMPL)) &&
  (let s : State := wCore;
    let a : Agent := 1;
    let v : Word := 100;
    let p : Fin 16 := 0;
    decide (s.policyAct 2 = false ∧ s.writeCode a Pg.qprof (R.CM_MIN p).off = .ok ∧
      v.toNat % 2 ^ 17 ≤ s.get Pg.qprof (R.CM_MAX p) ∧ (s.storeWrite Pg.qprof (R.CM_MIN p).off v).policyAct 2 = false)) &&
  (let s : State := wCore;
    let a : Agent := 1;
    let v : Word := 70000;
    let p : Fin 16 := 0;
    decide (s.policyAct 2 = false ∧ s.writeCode a Pg.qprof (R.CM_MIN p).off = .ok ∧
      s.get Pg.qprof (R.CM_MAX p) < v.toNat % 2 ^ 17)) &&
  (let s : State := { wCore with core := { wCore.core with holds := [{ engine := 3, since := 0 }] } };
    let e : EngineId := 3;
    decide (s.holding e = true)) &&
  (let s : State := wCore;
    let a : Agent := 1;
    decide (s.readCode a Pg.mirror R.CAP_DATA.off = .ok ∧ s.capHead = none)) &&
  (let s : State := wCap 8;
    let a : Agent := 1;
    decide (s.readCode a Pg.mirror R.CAP_DATA.off = .ok) &&
    (match s.capHead with
     | some q => decide (s.core.capRead + 1 < (q.frame.plen + 3) / 4)
     | _ => false)) &&
  (let s : State := wCap 4;
    let a : Agent := 1;
    decide (s.readCode a Pg.mirror R.CAP_DATA.off = .ok) &&
    (match s.capHead with
     | some q => decide ((q.frame.plen + 3) / 4 = s.core.capRead + 1) &&
    (let t := (s.unqueue q).modCore fun c => { c with capRead := 0 };
    decide (t.capHead = none))
     | _ => false)) &&
  (let s : State := wCore;
    let a : Agent := 1;
    decide (s.writeCode a Pg.mirror R.MIRROR_CMD_CAP_FLUSH.off = .ok)) &&
  (let s : State := wCore.setF Pg.gleaner R.GLEAN_STATUS_VERIFY_BUSY;
    decide (s.on Pg.gleaner R.GLEAN_STATUS_VERIFY_BUSY = true)) &&
  (let s : State := wCore;
    let a : Agent := 1;
    let v : Word := 0x00200010;
    decide (s.policyAct 6 = false ∧ s.writeCode a Pg.gleaner R.GLEAN_BOUNDS.off = .ok ∧
      bitsOf v.toNat 0 10 ≤ bitsOf v.toNat 16 10)) &&
  (let s : State := wCore;
    let a : Agent := 1;
    let v : Word := 100;
    decide (s.policyAct 6 = false ∧ s.writeCode a Pg.gleaner R.GLEAN_BOUNDS.off = .ok ∧
      bitsOf v.toNat 16 10 < bitsOf v.toNat 0 10))) = true := by
  decide +kernel

def wRing (st : Nat) : State := (live [Pg.master, Pg.sched, Pg.redun, Pg.routes]).put Pg.master R.RING_STATUS_STATE st
def wCred : Cred := { prio := 3, node := 1, nodeValid := true, hub := 2, cand := true, uid := 9 }
def wBest (s : State) : State := { s with ring := { s.ring with best := some wCred } }

/-- The hypotheses of `Obligations.RingDiscovery`, clause by clause, hold somewhere. -/
theorem test_witness_RingDiscovery :
  ((let s : State := wBest (wRing 1);
    let b : List Byte := wCred.bytes 5;
    decide (s.domainOn 4 = true ∧ b.length = 16 ∧ s.ringState = 1) &&
    (match s.ring.best with
     | some best => true
     | _ => false)) &&
  (let s : State := wBest (wRing 1);
    decide (s.domainOn 4 = true ∧ s.ringState = 1)) &&
  (let s : State := wBest (wRing 1);
    decide (s.domainOn 4 = true ∧ s.ringState = 1) &&
    (match s.ring.best with
     | some best => decide (best.uid ≠ s.uid ∧ s.ring.early = none)
     | _ => false)) &&
  (let s : State := (wRing 2).put (Pg.link 0) R.LINK_STATUS_STATE 3;
    let b : List Byte := leBytes 4 0 ++ leBytes 4 0 ++ leBytes 8 77;
    let h (i n : Nat) : Nat := leNat (bytesAt b i n);
    decide (s.domainOn 4 = true ∧ b.length = 16 ∧ h 8 8 ≠ s.uid ∧ bitOf (b.getD 2 0).toNat 2 = false) &&
    (let dir := (b.getD 2 0).toNat % 2;
    let ring := bitsOf (b.getD 2 0).toNat 1 1;
    let t := (s.seeTerm (h 4 4)).modRing fun r => { r with counts := r.counts.filter (fun c => !(c.1 == ring && c.2.1 == dir)) ++ [(ring, dir, h 0 2)] };
    decide (t.linkActive (sideOf ring dir) = true))) &&
  (let s : State := (wRing 2).put (Pg.link 0) R.LINK_STATUS_STATE 3;
    decide (s.domainOn 4 = true ∧ s.ringState = 2)) &&
  (let s : State := wRing 3;
    decide (s.domainOn 4 = true ∧ s.ringState = 3)) &&
  (let s : State := wRing 1;
    let b : List Byte := leBytes 20 0;
    decide (s.domainOn 4 = true ∧ b.length = 20 ∧ s.ringState = 1)) &&
  (let s : State := wBest (wRing 1);
    let b : List Byte := wCred.bytes 5;
    decide (s.domainOn 4 = true ∧ b.length = 16 ∧ s.ringState < 3 ∧ bitOf (b.getD 3 0).toNat 2 = false)) &&
  (let s : State := wRing 4;
    let b : List Byte := [0x0A, 0, 5, 0] ++ leBytes 8 (wRing 4).uid;
    let h (i n : Nat) : Nat := leNat (bytesAt b i n);
    decide (s.domainOn 4 = true ∧ b.length = 12 ∧ h 4 8 = s.uid ∧ s.hubPos = 0 ∧ s.nodeValid = false ∧
      (b.getD 2 0).toNat ≠ 255)) &&
  (let s : State := wRing 4;
    decide (s.domainOn 4 = true ∧ 4 ≤ s.ringState ∧ s.isMaster = false)) &&
  (let s : State := wRing 4;
    let a : Agent := 1;
    let m := Pg.master;
    decide (s.domainOn 4 = true ∧ 4 ≤ s.ringState ∧ s.writeCode a m R.RING_CMD.off = .ok))) = true := by
  decide +kernel

def wMaster (s : State) : State := (s.wr Pg.master R.MASTER_UID_LO.off (s.rd Pg.identity R.UID_LO.off)).wr Pg.master R.MASTER_UID_HI.off (s.rd Pg.identity R.UID_HI.off)

/-- The hypotheses of `Obligations.RingRunning`, clause by clause, hold somewhere. -/
theorem test_witness_RingRunning :
  ((let s : State := (wMaster (wRing 4)).setF Pg.master R.RING_STATUS_IS_MASTER;
    decide (s.domainOn 4 = true ∧ s.isMaster = true ∧ 4 ≤ s.ringState)) &&
  (let s : State := wRing 4;
    let b : List Byte := leBytes 12 0 ++ leBytes 8 (wRing 4).masterUid ++ leBytes 4 0 ++
      leBytes 4 ((wRing 4).get Pg.sched R.SCHED_CFG_BASE_CYCLE_US) ++ leBytes 8 (wRing 4).cycleOrigin;
    let h (i n : Nat) : Nat := leNat (bytesAt b i n);
    decide (s.domainOn 4 = true ∧ b.length = 36 ∧ h 12 8 = s.masterUid ∧
      h 24 2 = s.get Pg.sched R.SCHED_CFG_BASE_CYCLE_US ∧ h 28 8 = s.cycleOrigin)) &&
  (let s : State := wRing 4;
    let b : List Byte := leBytes 7 0x00000000000106;
    let h (i n : Nat) : Nat := leNat (bytesAt b i n);
    let ring := (b.getD 0 0).toNat % 2;
    decide (s.domainOn 4 = true ∧ b.length = 7 ∧
      (s.ring.breaks.any fun x => x.ring == ring && x.x == h 2 2 % 1024) = false)) &&
  (let s : State := (wRing 4).put Pg.master R.RING_STATUS_RING_SIZE 8;
    let b : List Byte := leBytes 6 0x00050107;
    let h (i n : Nat) : Nat := leNat (bytesAt b i n);
    let ring := (b.getD 0 0).toNat % 2;
    decide (s.domainOn 4 = true ∧ b.length = 6 ∧
      (s.ring.breaks.any fun x => x.ring == ring && x.x == h 2 2 % 1024 && x.steered) = false ∧
      s.ringPos ≠ s.downstream ring (h 2 2 % 1024))) &&
  (let s : State := wRing 4;
    let b : List Byte := leBytes 8 0;
    decide (s.domainOn 4 = true ∧ b.length = 8)) &&
  (let s : State := wRing 4;
    let b : List Byte := leBytes 8 0;
    let ring := (b.getD 0 0).toNat % 2;
    decide (s.domainOn 4 = true ∧ b.length = 8 ∧ ring = s.dataRing)) &&
  (let s : State := wRing 4;
    let b : List Byte := [9, 1] ++ leBytes 6 0;
    let ring := (b.getD 0 0).toNat % 2;
    decide (s.domainOn 4 = true ∧ b.length = 8 ∧ ring ≠ s.dataRing ∧ s.ringDests = [])) &&
  (let s : State := { wRing 4 with ring := { (wRing 4).ring with fences := [{ key := 5, frames := [] }] } };
    let key : Fin 1028 := 5;
    decide (s.domainOn 4 = true ∧ key.val < 1024) &&
    (match s.ring.fences.find? (·.key == key.val) with
     | some x => true
     | _ => false)) &&
  (let s : State := { (wRing 4).put (Pg.link 0) R.LINK_STATUS_STATE 3 with ring := { (wRing 4).ring with wrapping := [0] } };
    let k : Fin 4 := 0;
    decide (s.domainOn 4 = true ∧ s.ring.wrapping.contains k.val = true ∧ s.linkActive k = true ∧
      s.ring.unwrapping.contains k.val = false)) &&
  (let s : State := { (wRing 4).put (Pg.link 0) R.LINK_STATUS_STATE 3 with ring := { (wRing 4).ring with wrapping := [0], unwrapping := [0] } };
    let k : Fin 4 := 0;
    decide (s.domainOn 4 = true ∧ s.ring.unwrapping.contains k.val = true)) &&
  (let s : State := wRing 4;
    let a : Agent := 1;
    let v : Word := 0x80000005;
    decide (s.domainOn 4 = true ∧ s.writeCode a Pg.routes R.ROUTE_STEER.off = .ok ∧ bitOf v.toNat 31 = true ∧
      s.policyAct 1 = false)) &&
  (let s : State := ((wRing 4).wr Pg.ralusk R.POLICY_MODE.off 8).put Pg.ralusk R.RALUSK_STATUS_STATE 2;
    let a : Agent := 1;
    let v : Word := 0x80000005;
    decide (s.domainOn 4 = true ∧ s.writeCode a Pg.routes R.ROUTE_STEER.off = .ok ∧ bitOf v.toNat 31 = true ∧
      s.policyAct 1 = true))) = true := by
  decide +kernel

/-- Schedule entry 0 is valid: every cycle, express, one signal, to node 0. -/
def wFire : State :=
  (((wRing 4).setF Pg.sched R.SCHED_CFG_SCHED_EN).wr Pg.schedTable 0 0x80000000).wr Pg.schedTable 4 0x400 |>.wr Pg.schedTable 8 0x10000

/-- The hypotheses of `Obligations.RingTables`, clause by clause, hold somewhere. -/
theorem test_witness_RingTables :
  ((let s : State := { wRing 4 with ring := { (wRing 4).ring with dup := [(1, 2, 3, 4)] } };
    let node : BitVec 8 := 1;
    let hub : BitVec 2 := 2;
    let seq : BitVec 16 := 3;
    let key (e : Nat × Nat × Nat × Nat) : Bool := e.1 == node.toNat && e.2.1 == hub.toNat && e.2.2.1 == seq.toNat;
    decide (s.ring.dup.any key = true)) &&
  (let s : State := { wRing 4 with ring := { (wRing 4).ring with dup := [(1, 2, 3, 4)] } };
    let a : Agent := 1;
    let p := Pg.sched;
    let w (n : Nat) : Nat := s.get p (R.SCHED_W n);
    decide (s.writeCode a p R.SCHED_CMD.off = .ok ∧ s.stagingClosed = false ∧
      State.schedBad (w 0) (w 1) (w 2) s.stagedCycle = false)) &&
  (let s : State := ((wRing 4).wr Pg.sched (R.SCHED_W 0).off 0x80000000).wr Pg.sched (R.SCHED_W 2).off 0xFFFFFFFF;
    let a : Agent := 1;
    let p := Pg.sched;
    let w (n : Nat) : Nat := s.get p (R.SCHED_W n);
    decide (s.writeCode a p R.SCHED_CMD.off = .ok ∧ s.stagingClosed = false ∧
      State.schedBad (w 0) (w 1) (w 2) s.stagedCycle = true)) &&
  (let s : State := { wRing 4 with ring := { (wRing 4).ring with dup := [(1, 2, 3, 4)] } };
    let a : Agent := 1;
    let p := Pg.sched;
    decide (s.writeCode a p R.SCHED_CMD.off = .ok ∧ s.stagingClosed = false ∧ s.on p R.PAGE_CTRL_VIEW_STAGED = false)) &&
  (let s : State := wFire;
    let i : Fin 4096 := 0;
    let cycle : BitVec 64 := 0;
    let p := Pg.sched;
    decide (s.domainOn 4 = true ∧ s.on p R.SCHED_CFG_SCHED_EN = true ∧ bitOf (s.schedW i 0) 31 = true ∧
      State.schedBad (s.schedW i 0) (s.schedW i 1) (s.schedW i 2) s.baseCycle = false ∧
      cycle.toNat % 2 ^ bitsOf (s.schedW i 0) 24 4 = s.schedW i 1 % 1024 ∧
      (s.ring.fired.any fun e => e.1 == i.val && decide (cycle.toNat ≤ e.2)) = false ∧ s.timeValid = false)) &&
  (let s : State := wFire.setF Pg.time R.TIME_STATUS_TIME_VALID;
    let i : Fin 4096 := 0;
    let cycle : BitVec 64 := 0;
    let p := Pg.sched;
    decide (s.domainOn 4 = true ∧ s.on p R.SCHED_CFG_SCHED_EN = true ∧ bitOf (s.schedW i 0) 31 = true ∧
      State.schedBad (s.schedW i 0) (s.schedW i 1) (s.schedW i 2) s.baseCycle = false ∧
      cycle.toNat % 2 ^ bitsOf (s.schedW i 0) 24 4 = s.schedW i 1 % 1024 ∧
      (s.ring.fired.any fun e => e.1 == i.val && decide (cycle.toNat ≤ e.2)) = false ∧ s.timeValid = true ∧
      bitsOf (s.schedW i 1) 10 2 = 1))) = true := by
  decide +kernel

def wSig : State := live [Pg.signal, Pg.publish, Pg.sigMirror, Pg.latch, Pg.directory]
/-- Words 0 to 2 of an active directory entry. -/
def wDir (i w0 w1 w2 : Nat) (s : State) : State :=
  ((s.wr Pg.dirTable (16 * i) (BitVec.ofNat 32 w0)).wr Pg.dirTable (16 * i + 4) (BitVec.ofNat 32 w1)).wr Pg.dirTable
    (16 * i + 8) (BitVec.ofNat 32 w2)

/-- The hypotheses of `Obligations.DirectoryAndHostPublish`, clause by clause, hold somewhere. -/
theorem test_witness_DirectoryAndHostPublish :
  ((let s : State := wSig;
    let a : Agent := 1;
    let i : Fin 16384 := 5;
    let v : Word := 5;
    let p := Pg.directory;
    decide (s.writeCode a p 0x800 = .ok ∧ s.dirReason i v.toNat = 0)) &&
  (let s : State := wSig;
    let a : Agent := 1;
    let i : Fin 16384 := 5;
    let v : Word := 0x60000005;
    let p := Pg.directory;
    decide (s.writeCode a p 0x800 = .ok ∧ s.dirReason i v.toNat ≠ 0)) &&
  (let s : State := wDir 5 0x20000005 0 1 wSig;
    let a : Agent := 1;
    let i : Fin 16384 := 5;
    let p := Pg.directory;
    decide (s.writeCode a p 0x800 = .ok ∧ dRole (s.dirS i 0) ≠ 0)) &&
  (let s : State := wSig;
    let a : Agent := 1;
    let i : Fin 16384 := 5;
    let p := Pg.directory;
    decide (s.writeCode a p 0x800 = .ok ∧ dRole (s.dirS i 0) = 0)) &&
  (let s : State := wDir 5 0x21000005 0 1 wSig;
    let a : Agent := 1;
    let off : BitVec 20 := 160;
    let data : List Byte := [1, 2];
    decide (s.domainOn 4 = true ∧ s.isOwner a = true) &&
    (match s.hostEntry off.toNat data.length with
     | some j => decide (s.mirrorCode = .ok)
     | _ => false)) &&
  (let s : State := wSig;
    let off : BitVec 20 := 0;
    let data : List Byte := [];
    decide (s.domainOn 4 = true ∧ s.hostEntry off.toNat data.length = none))) = true := by
  decide +kernel

/-- The hypotheses of `Obligations.EventPublishing`, clause by clause, hold somewhere. -/
theorem test_witness_EventPublishing :
  ((let s : State := wDir 5 0x21000005 0x10000000 1 wSig;
    let i : Fin 16384 := 5;
    decide (s.publishes i = true ∧ s.domainOn 4 = true ∧ s.isPending i = false ∧ s.eventClass i = 1)) &&
  (let s : State := wDir 5 0x21000005 0x20000000 1 wSig;
    let i : Fin 16384 := 5;
    decide (s.publishes i = true ∧ s.domainOn 4 = true ∧ s.isPending i = false ∧ s.eventClass i = 2)) &&
  (let s : State := wDir 5 0x21000005 0 1 wSig;
    let i : Fin 16384 := 5;
    decide (s.publishes i = true ∧ s.domainOn 4 = true ∧ s.isPending i = false ∧ s.eventClass i = 0)) &&
  (let s : State := ((wDir 5 0x21000005 0x10000000 1 wSig).setF Pg.identity R.NODE_ID_VALID |>.put Pg.master R.RING_STATUS_RING_SIZE 4).modSig fun g => { g with pendX := [5] };
    let prio : Fin 8 := 0;
    let l := s.fitting 256 (s.sig.pendX.filter fun j => !s.sig.gap.contains j && s.eventClass j == 1 &&
      s.dirW j 3 % 8 == prio.val);
    decide (s.nodeValid = true ∧ s.domainOn 4 = true ∧ 2 ≤ s.ringSize ∧ l ≠ [] ∧
      s.sig.waiting.contains (1, prio.val) = false))) = true := by
  decide +kernel

/-- The hypotheses of `Obligations.MirrorGeneration`, clause by clause, hold somewhere. -/
theorem test_witness_MirrorGeneration :
  ((let s : State := wSig;
    let i : Nat := 5;
    let update : Bool := true;
    let f : Mir → Mir := fun m => { m with got := true };
    decide ((update = true ∨ s.validityOf i (s.mir i) ≠ s.validityOf i (f (s.mir i))))) &&
  (let s : State := wSig;
    let i : Nat := 5;
    let update : Bool := false;
    let f : Mir → Mir := fun m => { m with version := 3 };
    decide (update = false ∧ s.validityOf i (s.mir i) = s.validityOf i (f (s.mir i)))) &&
  (let i : Nat := 5;
    let j : Nat := 0;
    decide (j ≠ i))) = true := by
  decide +kernel

/-- The hypotheses of `Obligations.MirrorAccess`, clause by clause, hold somewhere. -/
theorem test_witness_MirrorAccess :
  ((let s : State := wSig;
    let a : Agent := 1;
    let p := Pg.sigMirror;
    decide (s.readCode a p R.CHG_POP.off = .ok ∧ s.sig.chg = [])) &&
  (let s : State := wSig.modSig fun g => { g with chg := [5, 6] };
    let a : Agent := 1;
    let p := Pg.sigMirror;
    decide (s.readCode a p R.CHG_POP.off = .ok) &&
    (match s.sig.chg with
     | i :: l => true
     | _ => false)) &&
  (let s : State := wSig;
    let a : Agent := 1;
    let p := Pg.sigMirror;
    decide (s.writeCode a p R.SIGMIR_CMD.off = .ok)) &&
  (let s : State := wSig;
    decide (s.mirrorCode = .ok))) = true := by
  decide +kernel

/-- The hypotheses of `Obligations.LatchAndNotices`, clause by clause, hold somewhere. -/
theorem test_witness_LatchAndNotices :
  ((let s : State := (wSig.setF Pg.time R.TIME_STATUS_TIME_VALID).wr Pg.latch R.LATCH_TIME_HI.off 5;
    let a : Agent := 1;
    let p := Pg.latch;
    let time := (s.rd p R.LATCH_TIME_LO.off).toNat + 2 ^ 32 * (s.rd p R.LATCH_TIME_HI.off).toNat;
    let lead := 1000 * Nat.max 10 (s.get p R.LATCH_LEAD_US % 65536);
    decide (s.writeCode a p R.LATCH_CMD.off = .ok ∧ s.timeValid = true ∧ s.now + lead ≤ time ∧ s.sig.armed.length < 4)) &&
  (let s : State := wSig;
    let a : Agent := 1;
    let p := Pg.latch;
    let time := (s.rd p R.LATCH_TIME_LO.off).toNat + 2 ^ 32 * (s.rd p R.LATCH_TIME_HI.off).toNat;
    let lead := 1000 * Nat.max 10 (s.get p R.LATCH_LEAD_US % 65536);
    decide (s.writeCode a p R.LATCH_CMD.off = .ok ∧ (s.timeValid = false ∨ time < s.now + lead))) &&
  (let s : State := (wSig.setF Pg.time R.TIME_STATUS_TIME_VALID).wr Pg.latch R.LATCH_TIME_HI.off 5;
    let a : Agent := 1;
    let p := Pg.latch;
    decide (s.writeCode a p R.LATCH_CMD.off = .ok)) &&
  (let s : State := (wSig.setF Pg.time R.TIME_STATUS_TIME_VALID).wr Pg.latch R.LATCH_TIME_HI.off 5;
    let b : List Byte := leBytes 4 0x01 ++ leBytes 8 1000000;
    decide (s.domainOn 4 = true ∧ b.length = 12 ∧ b.getD 0 0 = 0x01 ∧ s.sig.armed.length < 4 ∧
      (s.timeValid = true → s.now < leNat (bytesAt b 4 8)))) &&
  (let s : State := wSig.setF Pg.time R.TIME_STATUS_TIME_VALID;
    let b : List Byte := leBytes 4 0x01 ++ leBytes 8 0;
    decide (s.domainOn 4 = true ∧ b.length = 12 ∧ b.getD 0 0 = 0x01 ∧ s.timeValid = true ∧
      leNat (bytesAt b 4 8) ≤ s.now)) &&
  (let s : State := wSig;
    let b : List Byte := leBytes 4 0x02;
    decide (s.domainOn 4 = true ∧ b.length = 4 ∧ b.getD 0 0 = 0x02)) &&
  (let s : State := wSig;
    let b : List Byte := [3, 0, 0, 16] ++ leBytes 8 9 ++ [1, 0, 0, 0] ++
      { ident := 5, valid := true, version := 7, ts := 9, value := [1, 2] : SigRec }.bytes;
    decide (s.domainOn 4 = true ∧ 16 ≤ b.length ∧ b.getD 0 0 = 0x03) &&
    (match parseBundle 20 (b.drop 16) with
     | some rs => decide (rs.length = (b.getD 12 0).toNat ∧ bitOf (b.getD 3 0).toNat 4 = true)
     | _ => false)) &&
  (let s : State := wSig;
    let b : List Byte := leBytes 4 0x10 ++ leBytes 8 0;
    decide (s.domainOn 4 = true ∧ b.length = 12 ∧ b.getD 0 0 = 0x10 ∧ s.findIdent (leNat (bytesAt b 4 3)) = none ∧
      s.isMaster = false)) &&
  (let s : State := wSig.modSig fun g => { g with fired := [{ key := 7, time := 9, invalid := false, samples := [] }] };
    let key : BitVec 18 := 7;
    (match s.sig.fired.find? (·.key == key.toNat) with
     | some x => decide (x.samples = [])
     | _ => false)) &&
  (let s : State := wSig.modSig fun g => { g with notices := [{ dst := 9, count := 2 }] };
    let dst : Fin 1024 := 9;
    (match s.sig.notices.find? (·.dst == dst.val) with
     | some n => decide (n.count ≠ 0 ∧ n.last = none)
     | _ => false))) = true := by
  decide +kernel

def wBridge : State := live [Pg.bridge, Pg.windows, Pg.ports, Pg.logs, Pg.record, Pg.update, Pg.core]

/-- The hypotheses of `Obligations.BridgeLogs`, clause by clause, hold somewhere. -/
theorem test_witness_BridgeLogs :
  ((let s : State := wBridge.modBridge fun g => { g with orphans := [{ agent := 2, addr := 5, data := [1, 2, 3], time := 9 }] };
    let a : Agent := 1;
    let p := Pg.logs;
    decide (s.readCode a p R.FEL_POP.off = .ok ∧ s.bridge.far = [])) &&
  (let s : State := wBridge.modBridge fun g => { g with far := [{ outcome := 3, isLocal := true, agent := 2, addr := 5, time := 9 }] };
    let a : Agent := 1;
    let p := Pg.logs;
    decide (s.readCode a p R.FEL_POP.off = .ok) &&
    (match s.bridge.far with
     | x :: l => true
     | _ => false)) &&
  (let s : State := wBridge.modBridge fun g => { g with far := [{ outcome := 3, isLocal := true, agent := 2, addr := 5, time := 9 }] };
    let a : Agent := 1;
    let p := Pg.logs;
    decide (s.readCode a p R.ORL_POP.off = .ok ∧ s.bridge.orphans = [])) &&
  (let s : State := wBridge.modBridge fun g => { g with orphans := [{ agent := 2, addr := 5, data := [1, 2, 3], time := 9 }] };
    let a : Agent := 1;
    let p := Pg.logs;
    decide (s.readCode a p R.ORL_POP.off = .ok) &&
    (match s.bridge.orphans with
     | x :: l => true
     | _ => false)) &&
  (let s : State := wBridge.modBridge fun g => { g with far := [{ outcome := 3, isLocal := true, agent := 2, addr := 5, time := 9 }] };
    let a : Agent := 1;
    decide (s.writeCode a Pg.record R.CR_CMD.off = .ok)) &&
  (let s : State := wBridge.modBridge fun g => { g with far := [{ outcome := 3, isLocal := true, agent := 2, addr := 5, time := 9 }] };
    decide (s.domainOn 4 = true ∧ s.bridge.far.length < 64)) &&
  (let s : State := wBridge.modBridge fun g => { g with far := List.replicate 64 { outcome := 3, isLocal := true, agent := 2, addr := 5, time := 9 } };
    decide (s.domainOn 4 = true ∧ 64 ≤ s.bridge.far.length))) = true := by
  decide +kernel

/-- The hypotheses of `Obligations.RemoteRequests`, clause by clause, hold somewhere. -/
theorem test_witness_RemoteRequests :
  ((let s : State := wBridge.setF Pg.bridge R.BRIDGE_CFG_TARGET_EN;
    let src : Fin 1024 := 5;
    let prio : Fin 8 := 3;
    let tag : BitVec 16 := 7;
    let aux : BitVec 16 := 2;
    let b : List Byte := leBytes 4 0x8040 ++ [0, 0xFF] ++ leBytes 2 0x8005 ++ leBytes 4 9;
    let rd := s.accessOf src prio tag.toNat aux.toNat false false false b;
    let fits (x : State.Access) : Prop := State.agentFits x.src x.agent = true ∧ 1 ≤ x.words ∧ x.words ≤ 60;
    decide (s.domainOn 4 = true ∧ s.on Pg.bridge R.BRIDGE_CFG_TARGET_EN = true ∧ fits rd)) &&
  (let s : State := wBridge.setF Pg.bridge R.BRIDGE_CFG_TARGET_EN;
    let src : Fin 1024 := 5;
    let aux : BitVec 16 := 0xFFFF;
    let b : List Byte := leBytes 4 0x8040 ++ [0, 0xFF] ++ leBytes 2 0x8005 ++ leBytes 4 9 ++ leBytes 8 77;
    let wp := s.accessOf src 0 0 aux.toNat true true false b;
    let fits (x : State.Access) : Prop := State.agentFits x.src x.agent = true ∧ 1 ≤ x.words ∧ x.words ≤ 60;
    decide (s.domainOn 4 = true ∧ s.on Pg.bridge R.BRIDGE_CFG_TARGET_EN = true ∧ fits wp)) &&
  (let s : State := wBridge.setF Pg.bridge R.BRIDGE_CFG_TARGET_EN;
    let src : Fin 1024 := 5;
    let prio : Fin 8 := 3;
    let tag : BitVec 16 := 7;
    let aux : BitVec 16 := 0xFFFF;
    let b : List Byte := leBytes 4 0x8040 ++ [0, 0xFF] ++ leBytes 2 0x8005 ++ leBytes 4 9 ++ leBytes 8 77;
    let wn := s.accessOf src prio tag.toNat aux.toNat true false false b;
    let fits (x : State.Access) : Prop := State.agentFits x.src x.agent = true ∧ 1 ≤ x.words ∧ x.words ≤ 60;
    decide (s.domainOn 4 = true ∧ s.on Pg.bridge R.BRIDGE_CFG_TARGET_EN = true ∧ fits wn)) &&
  (let s : State := wBridge.clrF Pg.bridge R.BRIDGE_CFG_TARGET_EN;
    decide (s.domainOn 4 = true ∧ s.on Pg.bridge R.BRIDGE_CFG_TARGET_EN = false))) = true := by
  decide +kernel

def wHost : State :=
  let s := (wBridge.setCfg 4 6).setF Pg.pcie R.PCIE_STATUS_DL_ACTIVE
  s

/-- The hypotheses of `Obligations.HostRequests`, clause by clause, hold somewhere. -/
theorem test_witness_HostRequests :
  ((let s : State := wHost;
    let off : BitVec 34 := 0x8040;
    let o := off.toNat;
    decide (s.hostMay = true ∧ s.memSpace = true ∧ s.inD3 = false ∧ o % 4 = 0 ∧ o + 4 ≤ 0x200000 ∧
      s.readCode pcieHost (o / 0x1000) (o % 0x1000) = .ok)) &&
  (let s : State := wHost;
    let off : BitVec 34 := 0x8040;
    let data : List Byte := leBytes 4 5;
    let o := off.toNat;
    decide (s.hostMay = true ∧ s.memSpace = true ∧ s.inD3 = false ∧ o % 4 = 0 ∧ o + 4 ≤ 0x200000 ∧ data.length = 4)) &&
  (let s : State := wHost;
    let off : BitVec 34 := 0x8041;
    let o := off.toNat;
    decide (s.hostMay = true ∧ s.memSpace = true ∧ s.inD3 = false ∧ o % 4 ≠ 0)) &&
  (let s : State := wHost.setF Pg.windows (R.WIN_CTRL_EN 0);
    let off : BitVec 34 := 64;
    let len : BitVec 13 := 4;
    let o := off.toNat;
    decide (s.hostMay = true ∧ s.memSpace = true ∧ s.inD3 = false ∧ 1 ≤ len.toNat ∧ len.toNat ≤ 512 ∧
      o + len.toNat ≤ 2 ^ 34 ∧ s.windowCode o false = .ok)) &&
  (let s : State := wHost;
    let off : BitVec 34 := 64;
    let len : BitVec 13 := 4;
    let o := off.toNat;
    decide (s.hostMay = true ∧ s.memSpace = true ∧ s.inD3 = false ∧ 1 ≤ len.toNat ∧ len.toNat ≤ 512 ∧
      o + len.toNat ≤ 2 ^ 34 ∧ s.bridgeCode = .ok ∧ s.on Pg.windows (R.WIN_CTRL_EN (o / 2 ^ 30 % 16)) = false)) &&
  (let s : State := wHost.setF Pg.windows (R.WIN_CTRL_EN 0);
    let off : BitVec 34 := 64;
    let data : List Byte := leBytes 4 5;
    let o := off.toNat;
    decide (s.hostMay = true ∧ s.memSpace = true ∧ s.inD3 = false ∧ 1 ≤ data.length ∧ data.length ≤ 256 ∧
      o + data.length ≤ 2 ^ 34 ∧ s.windowCode o true = .ok)) &&
  (let s : State := wHost;
    let off : BitVec 34 := 0x8040;
    let data : List Byte := leBytes 4 5;
    let o := off.toNat;
    decide (s.hostMay = true ∧ s.memSpace = true ∧ s.inD3 = false ∧ 1 ≤ data.length ∧ data.length ≤ 256 ∧
      o + data.length ≤ 2 ^ 34 ∧ s.bridgeCode = .ok ∧ s.on Pg.windows (R.WIN_CTRL_EN (o / 2 ^ 30 % 16)) = false)) &&
  (let s : State := wHost.setF Pg.ports (R.CP_CTRL_BUSY 1);
    let a : Agent := 1;
    let p : Fin 4 := 1;
    decide (s.writeCode a Pg.ports (R.CP_CTRL_LEN p).off = .ok ∧ s.pageShut Pg.ports = false ∧
      s.on Pg.ports (R.CP_CTRL_BUSY p) = true)) &&
  (let s : State := wHost;
    let a : Agent := 1;
    let p : Fin 4 := 1;
    decide (s.writeCode a Pg.ports (R.CP_CTRL_LEN p).off = .ok ∧ s.pageShut Pg.ports = false ∧
      s.on Pg.ports (R.CP_CTRL_BUSY p) = false))) = true := by
  decide +kernel

def wFrame : Frame := { cls := 2, ftype := 0x10, srcNode := 1, srcHub := 1, payload := List.replicate 8 0 }
def wOpen : RxOpen := { frame := wFrame, num := 0 }
def wArea : List Byte := List.replicate 32 5
def wQueued : Queued := { point := 4, frame := wFrame, at_ := 0, id := 0 }

/-- The hypotheses of `Obligations.FramesAndCells`, clause by clause, hold somewhere. -/
theorem test_witness_FramesAndCells :
  ((let s : State := (wLink 4 3).modLink 4 fun l => { l with opened := some wOpen };
    let k : LinkId := 4;
    let n : BitVec 4 := 1;
    let area : List Byte := wArea;
    let tail : List Byte := 0x87 :: List.replicate 3 0 ++ leBytes 4 (crc32c wArea);
    let o : RxOpen := wOpen;
    let l := s.link k;
    decide (s.pageOn (Pg.link k) = true ∧ s.linkSt k = 3 ∧ l.nak = none ∧ l.opened = some o ∧ o.skip = false ∧
      State.judge o.frame (o.got + n.toNat) area tail false = .good)) &&
  (let s : State := (wLink 4 3).modLink 4 fun l => { l with opened := some wOpen };
    let k : LinkId := 4;
    let n : BitVec 4 := 1;
    let area : List Byte := wArea;
    let tail : List Byte := [0x99];
    let o : RxOpen := wOpen;
    let l := s.link k;
    decide (s.pageOn (Pg.link k) = true ∧ s.linkSt k = 3 ∧ l.nak = none ∧ l.opened = some o ∧ o.skip = false ∧
      State.judge o.frame (o.got + n.toNat) area tail false = .stomped ∧ o.cut = none)) &&
  (let s : State := { wLink 4 3 with core := { (wLink 4 3).core with queued := [wQueued] } };
    let point : Fin 139 := 4;
    let q : Queued := wQueued;
    decide (s.domainOn 4 = true ∧ s.chaffHolds point = false ∧ point.val < 7 ∧ s.linkActive point = true ∧
      s.on (Pg.link point) R.LINK_STATUS_REPLAY_STALL = false ∧ (s.link point).txCut = [] ∧
      s.selectAt point false = some q ∧ s.replayRoom point q.frame = true)) &&
  (let s : State := { wLink 4 3 with core := { (wLink 4 3).core with downEngines := [] } };
    let e : EngineId := 3;
    decide (s.engUp e = true ∧ s.engineDown e = true)) &&
  (let s : State := (wLink 4 3).setF (Pg.engine 3) R.PAGE_CTRL_ENABLE;
    let e : EngineId := 3;
    decide (s.engUp e = false ∧ s.engineDown e = false)) &&
  (let s : State := (live [Pg.gleaner]).setF Pg.gleaner R.GLEAN_CFG_EN;
    decide (s.granaryOn = true ∧ s.ready Pg.gleaner = true ∧ s.on Pg.gleaner R.GLEAN_CFG_EN = true ∧
      s.core.gleanCell < 131071)) &&
  (let s : State := { (live [Pg.gleaner]).setF Pg.gleaner R.GLEAN_CFG_EN with core := { (live []).core with orphans := [(0, 5)] } };
    decide (s.granaryOn = true ∧ s.ready Pg.gleaner = true ∧ s.on Pg.gleaner R.GLEAN_CFG_EN = true ∧
      s.core.gleanCell < 131071) &&
    (match s.core.orphans.find? (·.1 == s.core.gleanCell) with
     | some a => decide (s.ns < a.2 + 1000000 * s.auditMs)
     | _ => false)) &&
  (let s : State := { (wRing 4).setF Pg.master R.RING_STATUS_IS_MASTER with ring := { (wRing 4).ring with failedOver := true } };
    let c := s.get Pg.redun R.REDUN_CFG_DATA_RING;
    decide (s.domainOn 4 = true ∧ s.isMaster = true ∧ s.ring.failedOver = true ∧ s.breakCount c ≤ 1))) = true := by
  decide +kernel

/-- Engine 3, up in a mode. -/
def wEng (m : Nat) : State :=
  let s := (live [Pg.engine 3, Pg.bank 0]).put (Pg.engine 3) R.ENG_CFG_MODE m
  { s.setF (Pg.engine 3) R.PAGE_CTRL_ENABLE with core := { s.core with downEngines := [] } }
/-- Slot `b` of engine 3 is active, with its words 0 to 2, and bound to directory entry 5 of a role and a length. -/
def wSlot (b role len w0 w1 w2 : Nat) (s : State) : State :=
  let t := (((s.wr (Pg.engine 3) (0x800 + 16 * b) (BitVec.ofNat 32 w0)).wr (Pg.engine 3) (0x804 + 16 * b)
    (BitVec.ofNat 32 w1)).wr (Pg.engine 3) (0x808 + 16 * b) (BitVec.ofNat 32 w2)).wr (Pg.engine 3) R.BIND_STATUS.off
      (BitVec.ofNat 32 (2 ^ b))
  wDir 5 (5 + (len - 1) * 2 ^ 24 + role * 2 ^ 29) 0 (2 + 3 * 16 + b * 2048) t
/-- Entry 5 is VALID with a value that its sink has not taken. -/
def wValue (v : List Byte) (s : State) : State :=
  s.modSig fun g => { g with mir := [(5, { value := v, srcValid := true, got := true, untaken := true })] }
def wWork (w : EngWork) (s : State) : State := s.modEng 3 fun g => { g with work := some w }
def wReq : DevReq := { agent := 0x8001, addr := 0, write := true, todo := [(0, [1, 2, 3, 4]), (4, [5, 6, 7, 8])] }
def wRaw : Queued := { point := 13, frame := { cls := 2, ftype := 0x40, payload := rawBytes 0 0 9 [1, 2] }, at_ := 0, id := 0 }

/-- The hypotheses of `Obligations.EngineStores`, clause by clause, hold somewhere. -/
theorem test_witness_EngineStores :
  ((let s : State := (wEng 1).put (Pg.bank 0) R.BANK_CFG_VIO_SEL 1;
    let b : BankId := 0;
    let meas : BitVec 2 := 1;
    let q := Pg.bank b;
    decide (s.pageOn q = true ∧ meas.toNat ≠ 0 ∧ s.get q R.BANK_CFG_VIO_SEL = meas.toNat)) &&
  (let s : State := (wEng 1).put (Pg.bank 0) R.BANK_CFG_VIO_SEL 2;
    let b : BankId := 0;
    let meas : BitVec 2 := 1;
    let q := Pg.bank b;
    decide (s.pageOn q = true ∧ s.get q R.BANK_CFG_VIO_SEL ≠ meas.toNat ∧ s.on q R.BANK_STATUS_VIO_OK = false)) &&
  (let s : State := (wEng 1).put (Pg.bank 0) R.BANK_CFG_VIO_SEL 1;
    let b : BankId := 0;
    let q := Pg.bank b;
    decide (s.pageOn q = true)) &&
  (let s : State := (wEng 1).setF (Pg.bank 0) R.BANK_STATUS_CLK80_LOCK;
    let b : BankId := 0;
    let q := Pg.bank b;
    decide (s.pageOn q = true ∧ s.on q R.BANK_STATUS_CLK80_LOCK = true)) &&
  (let s : State := wEng 1;
    let a : Agent := 1;
    let c : Fin 320 := 7;
    let v : Word := 2;
    let cp := Pg.bank (c / 40);
    decide (s.writeCode a cp (0x800 + 4 * (c % 40)) = .ok ∧ ownerAllowed c v.toNat = false)) &&
  (let s : State := (wEng 1).put (Pg.bank 0) R.BANK_CFG_VIO_SEL 1;
    let a : Agent := 1;
    let c : Fin 320 := 0;
    let v : Word := 0;
    let cp := Pg.bank (c / 40);
    decide (s.writeCode a cp (0x800 + 4 * (c % 40)) = .ok ∧ ownerAllowed c v.toNat = true ∧
      (∀ x ∈ [s.cellWord c, v.toNat], ∀ y ∈ cellUse c x, s.engOn y.1 = false))) &&
  (let s : State := wSlot 2 1 2 0 0 1 ((wEng 2).put (Pg.mode 3 2) R.POLL_US 10);
    let e : EngineId := 3;
    decide (s.engUp e = true) &&
    (let now := (List.range 32).filter fun n => (s.pubEntry e n).isSome && s.slotW e n 2 % 256 != 0 &&
      ((s.eng e).ticks + 1) % (s.slotW e n 2 % 256) == 0;
    decide (s.pollUs e ≠ 0 ∧ (∀ n ∈ now, n ∉ (s.eng e).due)))) &&
  (let s : State := (wEng 1).modEng 3 fun g => { g with breakAsked := true };
    let e : EngineId := 3;
    decide (s.engUp e = true ∧ (s.engMode e = 1 ∨ s.engMode e = 2 ∨ s.engMode e = 4) ∧ (s.eng e).work = none ∧
      (s.eng e).breakAsked = true)) &&
  (let s : State := (wSlot 2 1 2 0 0 1 (wEng 2)).modEng 3 fun g => { g with due := [2] };
    let e : EngineId := 3;
    decide (s.engUp e = true ∧ (s.engMode e = 1 ∨ s.engMode e = 2 ∨ s.engMode e = 4) ∧ (s.eng e).work = none ∧
      (s.eng e).breakAsked = false ∧ (s.eng e).alertAsked = false) &&
    (match ((List.range 32).find? fun n => (s.eng e).due.contains n && (s.pubEntry e n).isSome) with
     | some n => true
     | _ => false)) &&
  (let s : State := (wEng 2).modEng 3 fun g => { g with down := [wReq] };
    let e : EngineId := 3;
    decide (s.engUp e = true ∧ (s.engMode e = 1 ∨ s.engMode e = 2 ∨ s.engMode e = 4) ∧ (s.eng e).work = none ∧
      (s.eng e).breakAsked = false ∧ (s.eng e).alertAsked = false ∧ (s.eng e).due = [] ∧
      (∀ n ∈ List.range 32, s.subValue e n = none) ∧ (s.eng e).down ≠ [])) &&
  (let s : State := { wEng 1 with core := { (wEng 1).core with queued := [wRaw] } };
    let e : EngineId := 3;
    decide (s.engUp e = true) &&
    (match s.takeNext e with
     | some x => decide (s.stale x = false ∧ bitOf x.frame.aux 7 = false ∧ s.engMode e ≠ 6 ∧
       s.rawSends e x.frame.payload = true ∧ (s.eng e).work = none)
     | _ => false)) &&
  (let s : State := ((wEng 1).setF (Pg.engine 3) R.ENG_CFG_RAW_RX_EN).modEng 3 fun g => { g with rx := [[1, 2, 3, 4, 5]] };
    let e : EngineId := 3;
    let flags : Byte := 0;
    let rkind : Byte := 0;
    let at_ : BitVec 64 := 0;
    let data : List Byte := [9, 8];
    let p := Pg.engine e;
    decide (s.engUp e = true) &&
    (let t := s.engCount e R.CNT_RX_MSG;
    let r := rawBytes (flags.toNat % 128 + b2n (t.engTsBad e) * 128) rkind.toNat (t.engStamp e at_.toNat) (data.take 240);
    decide (1 ≤ s.engMode e ∧ s.engMode e ≤ 6 ∧ s.on p R.ENG_CFG_RAW_RX_EN = true ∧ s.on p R.ENG_CFG_RAW_FWD = false ∧
      s.rxLevel e + r.length ≤ 2048 ∧ (s.eng e).rx ≠ []))) &&
  (let s : State := ((wEng 1).setF (Pg.engine 3) R.ENG_CFG_RAW_RX_EN).modEng 3 fun g => { g with rx := [List.replicate 2040 0] };
    let e : EngineId := 3;
    let flags : Byte := 0;
    let rkind : Byte := 0;
    let at_ : BitVec 64 := 0;
    let data : List Byte := [9, 8];
    let p := Pg.engine e;
    decide (s.engUp e = true) &&
    (let t := s.engCount e R.CNT_RX_MSG;
    let r := rawBytes (flags.toNat % 128 + b2n (t.engTsBad e) * 128) rkind.toNat (t.engStamp e at_.toNat) (data.take 240);
    decide (1 ≤ s.engMode e ∧ s.engMode e ≤ 6 ∧ s.on p R.ENG_CFG_RAW_RX_EN = true ∧ s.on p R.ENG_CFG_RAW_FWD = false ∧
      2048 < s.rxLevel e + r.length))) &&
  (let s : State := (wEng 1).put (Pg.bank 0) R.BANK_CFG_VIO_SEL 1;
    let a : Agent := 1;
    let e : EngineId := 3;
    let p := Pg.engine e;
    decide (s.readCode a p R.RX_DATA.off = .ok ∧ (s.eng e).rx = [])) &&
  (let s : State := ((wEng 1).setF (Pg.engine 3) R.ENG_CFG_RAW_RX_EN).modEng 3 fun g => { g with rx := [[1, 2, 3, 4, 5]] };
    let a : Agent := 1;
    let e : EngineId := 3;
    let p := Pg.engine e;
    decide (s.readCode a p R.RX_DATA.off = .ok) &&
    (match (s.eng e).rx with
     | r :: l => let n := (s.eng e).rxRead;
    decide (4 * (n + 1) < r.length)
     | _ => false)) &&
  (let s : State := (wEng 1).modEng 3 fun g => { g with rx := [[1, 2, 3]] };
    let a : Agent := 1;
    let e : EngineId := 3;
    let p := Pg.engine e;
    decide (s.readCode a p R.RX_DATA.off = .ok) &&
    (match (s.eng e).rx with
     | r :: l => let n := (s.eng e).rxRead;
    decide (r.length ≤ 4 * (n + 1) ∧ l = [])
     | _ => false)) &&
  (let s : State := (wEng 1).put (Pg.bank 0) R.BANK_CFG_VIO_SEL 1;
    let a : Agent := 1;
    let e : EngineId := 3;
    let p := Pg.engine e;
    decide (s.writeCode a p R.ENG_CMD.off = .ok)) &&
  (let s : State := (wEng 1).put (Pg.bank 0) R.BANK_CFG_VIO_SEL 1;
    let a : Agent := 1;
    let e : EngineId := 3;
    let p := Pg.engine e;
    decide (s.writeCode a p R.TX_DATA.off = .ok ∧ (s.eng e).stage.length < 240)) &&
  (let s : State := (wEng 1).modEng 3 fun g => { g with stage := List.replicate 240 1 };
    let a : Agent := 1;
    let e : EngineId := 3;
    let p := Pg.engine e;
    decide (s.writeCode a p R.TX_DATA.off = .ok ∧ 240 ≤ (s.eng e).stage.length)) &&
  (let s : State := (wEng 1).modEng 3 fun g => { g with stage := [1, 2, 3, 4] };
    let a : Agent := 1;
    let e : EngineId := 3;
    let len : Byte := 5;
    let p := Pg.engine e;
    decide (s.writeCode a p R.TX_COMMIT.off = .ok ∧ (s.eng e).stage.length < len.toNat)) &&
  (let s : State := (wEng 1).put (Pg.bank 0) R.BANK_CFG_VIO_SEL 1;
    let a : Agent := 1;
    let e : EngineId := 3;
    let len : Byte := 0;
    let p := Pg.engine e;
    decide (s.writeCode a p R.TX_COMMIT.off = .ok ∧ len.toNat ≤ (s.eng e).stage.length)) &&
  (let s : State := (wEng 5).modBridge fun g => { g with answers := [{ engine := 3, slot := 1, gen := 0, addr := 8, outcome := 0, data := [1] }] };
    let e : EngineId := 3;
    decide (s.domainOn 4 = true) &&
    (match s.bridge.answers with
     | [x] => decide (x.engine = e.val ∧ x.outcome = 0)
     | _ => false)) &&
  (let s : State := wWork .device ((wEng 2).modEng 3 fun g => { g with down := [wReq] });
    let e : EngineId := 3;
    let p := Pg.engine e;
    decide ((s.eng e).work = some .device) &&
    (match (s.eng e).down with
     | x :: l => (match x.todo with
     | u :: m => decide (m ≠ [] ∧ x.write = true ∧ s.engMode e = 2 ∧
       s.on p (R.DEV_PROF_A_BIG_ENDIAN (State.devProf u.1)) = false)
     | _ => false)
     | _ => false))) = true := by
  decide +kernel

/-- The hypotheses of `Obligations.SerialPorts`, clause by clause, hold somewhere. -/
theorem test_witness_SerialPorts :
  ((let s : State := (wEng 1).modEng 3 fun g => { g with msg := [1] };
    let e : EngineId := 3;
    decide (s.engUp e = true ∧ s.engMode e = 1)) &&
  (let s : State := (wEng 1).modEng 3 fun g => { g with msg := [1] };
    let e : EngineId := 3;
    let p := Pg.engine e;
    decide (s.engUp e = true ∧ s.engMode e = 1 ∧ s.mget e 1 R.UART_CFG_DATA_BITS ≠ 9 ∧
      s.on p R.ENG_CFG_RAW_RX_EN = false ∧ s.mon e 1 R.UART_FRAME_DELIM_EN = false ∧ (s.eng e).msg ≠ [] ∧
      (s.eng e).msg.length + 1 < s.uartMax e)) &&
  (let s : State := ((wEng 1).modEng 3 fun g => { g with msg := [1], msgOwn := true }).put (Pg.mode 3 1) R.UART_FRAME_IDLE_BITS 10;
    let e : EngineId := 3;
    decide (s.engUp e = true ∧ s.engMode e = 1 ∧ (s.eng e).msg ≠ [] ∧ (s.eng e).msgOwn = true ∧
      s.mget e 1 R.UART_FRAME_IDLE_BITS ≠ 0)) &&
  (let s : State := wWork (.raw 0 [1, 2]) ((wEng 1).clrF (Pg.mode 3 1) R.UART_CFG_RTS_CTS);
    let e : EngineId := 3;
    decide (s.engUp e = true ∧ s.engMode e = 1 ∧ (s.eng e).msg = [] ∧ (s.eng e).msgAt = none)) &&
  (let s : State := wWork (.raw 0 [1, 2]) ((wEng 1).clrF (Pg.mode 3 1) R.UART_CFG_RTS_CTS);
    let e : EngineId := 3;
    decide (s.engUp e = true ∧ s.engMode e = 1) &&
    (match (s.eng e).work with
     | some (.raw k d) => decide ((s.mon e 1 R.UART_CFG_RTS_CTS = false ∨ (s.eng e).cts = true))
     | _ => false)) &&
  (let s : State := (wEng 1).modEng 3 fun g => { g with msg := [1] };
    let a : Agent := 1;
    let e : EngineId := 3;
    let p := Pg.engine e;
    decide (s.engUp e = true ∧ s.engMode e = 1 ∧ s.writeCode a p R.ENG_CMD.off = .ok)) &&
  (let s : State := wWork (.poll 2) (wSlot 2 1 2 0 0 1 (wEng 2));
    let e : EngineId := 3;
    decide (s.engUp e = true ∧ s.engMode e = 2) &&
    (match (s.eng e).work with
     | some (.poll b) => (match s.pubEntry e b with
     | some i => true
     | _ => false)
     | _ => false)) &&
  (let s : State := wSlot 2 1 2 0 0x44 0 (wEng 3);
    let e : EngineId := 3;
    let data : List Byte := [1, 2];
    let x : Byte := 0x44;
    decide (s.engUp e = true ∧ s.engMode e = 3) &&
    (match s.spiSlot e x.toNat with
     | some b => (match s.pubEntry e b with
     | some i => decide (data.length = s.lenOf i)
     | _ => false)
     | _ => false)) &&
  (let s : State := wSlot 2 1 2 0 0x44 0 (wEng 3);
    let e : EngineId := 3;
    let x : Byte := 0x45;
    decide (s.engUp e = true ∧ s.engMode e = 3 ∧ s.spiSlot e x.toNat = none)) &&
  (let s : State := wWork (.poll 2) (wSlot 2 1 2 0 0 1 ((wEng 4).setF (Pg.mode 3 4) R.I2C_CFG_SMBUS));
    let e : EngineId := 3;
    let losses : BitVec 4 := 0;
    decide (s.engUp e = true ∧ s.engMode e = 4) &&
    (match (s.eng e).work with
     | some (.poll b) => (match s.pubEntry e b with
     | some i => decide (losses.toNat ≤ s.mget e 4 R.I2C_CFG_ARB_RETRY)
     | _ => false)
     | _ => false)) &&
  (let s : State := wWork (.poll 2) (wSlot 2 1 2 0 0 1 ((wEng 4).setF (Pg.mode 3 4) R.I2C_CFG_SMBUS));
    let e : EngineId := 3;
    decide (s.engUp e = true ∧ s.engMode e = 4) &&
    (match (s.eng e).work with
     | some (.poll b) => true
     | _ => false)) &&
  (let s : State := wWork (.poll 2) (wSlot 2 1 2 0 0 1 ((wEng 4).setF (Pg.mode 3 4) R.I2C_CFG_SMBUS));
    let e : EngineId := 3;
    decide (s.engUp e = true ∧ s.engMode e = 4) &&
    (match (s.eng e).work with
     | some (.poll b) => decide (s.smbus e = true)
     | _ => false)) &&
  (let s : State := ((wEng 4).setF (Pg.mode 3 4) R.I2C_CFG_SMBUS).setF (Pg.mode 3 4) R.I2C_CFG_ALERT_ARA;
    let e : EngineId := 3;
    decide (s.engUp e = true ∧ s.engMode e = 4 ∧ s.smbus e = true ∧ s.mon e 4 R.I2C_CFG_ALERT_ARA = true)) &&
  (let s : State := wWork (.poll 2) (wSlot 2 1 2 0 0 1 ((wEng 4).setF (Pg.mode 3 4) R.I2C_CFG_SMBUS));
    let a : Agent := 1;
    let e : EngineId := 3;
    let p := Pg.engine e;
    decide (s.engUp e = true ∧ s.engMode e = 4 ∧ s.writeCode a p R.ENG_CMD.off = .ok)) &&
  (let s : State := wSlot 2 1 2 0 0x700 0 (wEng 5);
    let e : EngineId := 3;
    let reg : BitVec 16 := 7;
    let data : List Byte := [1, 2];
    let own : Bool := false;
    decide (s.engUp e = true ∧ s.engMode e = 5 ∧ (own = false ∨ s.mon e 4 R.I2C_CFG_ADDR1_EN = true)) &&
    (match ((List.range 32).find? fun n => s.slotOn e n &&
      s.slotW e n 1 == b2n own + (if s.mon e 4 R.I2C_CFG_TGT_REG_BYTES then reg.toNat else reg.toNat % 256) * 256 &&
      (s.pubEntry e n).isSome) with
     | some b => (match s.pubEntry e b with
     | some i => decide (s.smbus e = false ∧ data.length = s.lenOf i)
     | _ => false)
     | _ => false)) &&
  (let s : State := (wEng 5).modEng 3 fun g => { g with stretch := some 2 };
    let e : EngineId := 3;
    decide (s.engUp e = true ∧ s.engMode e = 5) &&
    (match (s.eng e).stretch with
     | some b => true
     | _ => false))) = true := by
  decide +kernel

/-- The hypotheses of `Obligations.LinePorts`, clause by clause, hold somewhere. -/
theorem test_witness_LinePorts :
  ((let s : State := (wEng 1).clrF (Pg.engine 3) R.PAGE_CTRL_ENABLE;
    let a : Agent := 1;
    let e : EngineId := 3;
    let p := Pg.engine e;
    decide (s.writeCode a p R.PAGE_CTRL.off = .ok ∧ s.engOn e = false ∧ s.blockStopped p = false ∧ s.enableReason e ≠ 0)) &&
  (let s : State := { ((wEng 0).clrF (Pg.engine 3) R.PAGE_CTRL_ENABLE) with core := {} };
    let a : Agent := 1;
    let e : EngineId := 3;
    let p := Pg.engine e;
    decide (s.writeCode a p R.PAGE_CTRL.off = .ok ∧ s.engOn e = false ∧ s.blockStopped p = false ∧ s.enableReason e = 0)) &&
  (let s : State := (wEng 7).wr (Pg.bank 0) 0x80C 0x4D;
    let a : Agent := 1;
    let e : EngineId := 3;
    let p := Pg.engine e;
    decide (s.writeCode a p R.PAGE_CTRL.off = .ok ∧ s.engOn e = true ∧ s.engUp e = true ∧
      (s.putKept p R.PAGE_CTRL_ENABLE 0).engineDown e = true)) &&
  (let s : State := (wEng 7).wr (Pg.bank 0) 0x80C 0x4D;
    let e : EngineId := 3;
    let line : Fin 4 := 1;
    let level : Bool := true;
    decide (s.engUp e = true ∧ s.engMode e = 7 ∧ bitOf (s.get (Pg.mode e 7) R.DISC_STATE_FILTERED) line ≠ level ∧
      (s.engCells e).any (·.2 == line.val) = true ∧ (∀ n ∈ List.range 32, s.slotOn e n = false))) &&
  (let s : State := wValue [7, 0, 0, 0] (wSlot 0 2 4 0 0 0 (wEng 8));
    let e : EngineId := 3;
    let late : BitVec 4 := 0;
    decide (s.engUp e = true ∧ s.engMode e = 8) &&
    (match s.subValue e 0 with
     | some (i, val) => decide ((∀ n ∈ List.range 32, n ≠ 0 → s.slotOn e n = false) ∧
       bitOf late.toNat (s.slotW e 0 1 % 4) = false)
     | _ => false)) &&
  (let s : State := wEng 9;
    let e : EngineId := 3;
    let ca : Bool := true;
    let cb : Bool := true;
    decide (s.engUp e = true ∧ s.engMode e = 9 ∧ (∀ n ∈ List.range 32, s.slotOn e n = false)) &&
    (let n := s.get (Pg.mode e 9) R.ENC_COUNT;
    decide (ca ≠ (s.eng e).encA ∧ cb ≠ (s.eng e).encB))) &&
  (let s : State := (wEng 9).put (Pg.mode 3 9) R.ENC_CFG_RESOLUTION 2;
    let e : EngineId := 3;
    let ca : Bool := true;
    let cb : Bool := false;
    decide (s.engUp e = true ∧ s.engMode e = 9 ∧ (∀ n ∈ List.range 32, s.slotOn e n = false)) &&
    (let n := s.get (Pg.mode e 9) R.ENC_COUNT;
    decide (s.mget e 9 R.ENC_CFG_RESOLUTION = 2 ∧ s.mon e 9 R.ENC_CFG_INVERT_DIR = false ∧ ca ≠ (s.eng e).encA ∧
      cb = (s.eng e).encB))) &&
  (let s : State := (wEng 9).put (Pg.mode 3 9) R.ENC_CFG_RESOLUTION 2;
    let e : EngineId := 3;
    let ca : Bool := false;
    let cb : Bool := true;
    decide (s.engUp e = true ∧ s.engMode e = 9 ∧ (∀ n ∈ List.range 32, s.slotOn e n = false)) &&
    (let n := s.get (Pg.mode e 9) R.ENC_COUNT;
    decide (s.mget e 9 R.ENC_CFG_RESOLUTION = 2 ∧ s.mon e 9 R.ENC_CFG_INVERT_DIR = false ∧ ca = (s.eng e).encA ∧
      cb ≠ (s.eng e).encB))) &&
  (let s : State := (wEng 9).put (Pg.mode 3 9) R.ENC_CFG_INDEX_MODE 2;
    let e : EngineId := 3;
    decide (s.engUp e = true ∧ s.engMode e = 9 ∧ (∀ n ∈ List.range 32, s.slotOn e n = false)) &&
    (let n := s.get (Pg.mode e 9) R.ENC_COUNT;
    decide (s.get (Pg.mode e 9) R.ENC_CFG_INDEX_MODE = 2))) &&
  (let s : State := wEng 9;
    let a : Agent := 1;
    let e : EngineId := 3;
    let p := Pg.engine e;
    decide (s.engMode e = 9 ∧ s.writeCode a p R.ENC_PRESET.off = .ok))) = true := by
  decide +kernel

def wCanRaw : Queued := { point := 13, frame := { cls := 2, ftype := 0x40, payload := rawBytes 0 0x30 9 ([5, 0, 0, 0] ++ [2, 0, 0, 0] ++ [1, 2]) }, at_ := 0, id := 0 }
def wTry (c : Nat) : CanTry := { cand := c, head := 5, ctl := 2, data := [1, 2] }
/-- Slot 2 of engine 3 sends directory entry 5 with identifier 5, every 10 ms. -/
def wCanSub : State := wValue [9, 8] (wSlot 2 2 2 1 5 0 (wEng 6)) |>.wr (Pg.engine 3) 0x82C 10

/-- The hypotheses of `Obligations.CanTransmit`, clause by clause, hold somewhere. -/
theorem test_witness_CanTransmit :
  ((let s : State := (wEng 6).modEng 3 fun g => { g with raw := some wCanRaw };
    let e : EngineId := 3;
    let c : CanTry := ((((wEng 6).modEng 3 fun g => { g with raw := some wCanRaw }).canRawTry 3)).getD (wTry 0);
    decide (s.engUp e = true ∧ s.engMode e = 6 ∧ s.canPaired e = false ∧ s.core.queued = [] ∧ s.canMayStart e = true ∧
      canWinner (s.canSet e) = some c ∧ c.cand = 32)) &&
  (let s : State := wCanSub.modEng 3 fun g => { g with pend := [2] };
    let e : EngineId := 3;
    let c : CanTry := (wCanSub.canBinding 3 2).getD (wTry 0);
    decide (s.engUp e = true ∧ s.engMode e = 6 ∧ s.canPaired e = false ∧ s.core.queued = [] ∧ s.canMayStart e = true ∧
      canWinner (s.canSet e) = some c ∧ c.cand < 32) &&
    (match s.subEntry e c.cand with
     | some i => true
     | _ => false)) &&
  (let s : State := (wCanSub.clrF (Pg.mode 3 6) R.CAN_CFG_TDC_EN |>.put (Pg.mode 3 6) R.CAN_CFG_OPMODE 0).modEng 3 fun g => { g with attempt := some (wTry 2) };
    let e : EngineId := 3;
    let c : CanTry := wTry 2;
    decide (s.engUp e = true ∧ s.engMode e = 6 ∧ s.canPaired e = false ∧ (s.eng e).attempt = some c ∧
      (s.eng e).abort = false ∧ (s.eng (e / 2 * 2)).swap = false ∧ s.mget e 6 R.CAN_CFG_OPMODE = 0 ∧ c.cand < 32 ∧
      c.renewed = false ∧ s.mon e 6 R.CAN_CFG_TDC_EN = false)) &&
  (let s : State := wCanSub.modEng 3 fun g => { g with attempt := some (wTry 2) };
    let e : EngineId := 3;
    let c : CanTry := wTry 2;
    decide (s.engUp e = true ∧ s.engMode e = 6 ∧ s.canPaired e = false ∧ (s.eng e).attempt = some c ∧
      (s.eng e).abort = false ∧ (s.eng (e / 2 * 2)).swap = false)) &&
  (let s : State := wCanSub.modEng 3 fun g => { g with attempt := some (wTry 2) };
    let e : EngineId := 3;
    let c : CanTry := wTry 2;
    let m := Pg.mode e 6;
    decide (s.engUp e = true ∧ s.engMode e = 6 ∧ s.canPaired e = false ∧ (s.eng e).attempt = some c ∧
      (s.eng e).abort = false ∧ (s.eng (e / 2 * 2)).swap = false ∧ s.get m R.CAN_ERR_TEC + 8 ≤ 255)) &&
  (let s : State := wCanSub.modEng 3 fun g => { g with attempt := some (wTry 2) };
    let e : EngineId := 3;
    let slot : Fin 32 := 2;
    decide (s.engUp e = true ∧ s.engMode e = 6 ∧ s.canPaired e = false ∧ (s.subEntry e slot).isSome = true ∧
      s.slotW e slot 3 ≠ 0 ∧ s.mget e 6 R.CAN_CFG_OPMODE ≠ 1 ∧ slot.val ∉ (s.eng e).pend)) &&
  (let s : State := (wEng 6).modEng 3 fun g => { g with raw := some wCanRaw };
    let a : Agent := 1;
    let e : EngineId := 3;
    let p := Pg.engine e;
    decide (s.engUp e = true ∧ s.engMode e = 6 ∧ s.canPaired e = false ∧ s.writeCode a p R.CAN_CMD.off = .ok ∧
      (s.eng e).raw.isSome = true ∧ (s.eng e).attempt = none)) &&
  (let s : State := (wEng 6).modEng 3 fun g => { g with raw := some wCanRaw, attempt := some (wTry 32) };
    let a : Agent := 1;
    let e : EngineId := 3;
    let p := Pg.engine e;
    decide (s.engUp e = true ∧ s.engMode e = 6 ∧ s.canPaired e = false ∧ s.writeCode a p R.CAN_CMD.off = .ok ∧
      (s.eng e).raw.isSome = true ∧ (s.eng e).attempt.isSome = true))) = true := by
  decide +kernel

def wPair : State :=
  let s := (wEng 6).put (Pg.engine 2) R.ENG_CFG_MODE 6
  (((s.setF (Pg.engine 2) R.PAGE_CTRL_ENABLE).setF (Pg.engine 2) R.PAGE_STATUS_READY).setF (Pg.mode 2 6) R.CAN_CFG_PAIR_EN).setF
    (Pg.mode 2 6) R.CAN_STATUS_PAIR_ACTIVE

/-- The hypotheses of `Obligations.CanReceiveAndPairs`, clause by clause, hold somewhere. -/
theorem test_witness_CanReceiveAndPairs :
  ((let s : State := (wEng 6).modEng 3 fun g => { g with quiet := true };
    let e : EngineId := 3;
    decide (s.engMode e = 6 ∧ s.engUp e = true)) &&
  (let s : State := ((wEng 6).setF (Pg.mode 3 6) R.CAN_CFG_FD_EN).setF (Pg.mode 3 6) R.CAN_CFG_PEX_EN;
    let e : EngineId := 3;
    let fdf : Bool := false;
    let m := Pg.mode e 6;
    decide (s.engMode e = 6 ∧ s.engUp e = true ∧ (s.eng e).quiet = false ∧ s.canPaired e = false ∧ fdf = false ∧
      s.get m R.CAN_ERR_REC = 0 ∧ (∀ n ∈ List.range 32, s.slotOn e n = false))) &&
  (let s : State := wSlot 0 1 2 1 5 0x1FFFFFFF (wEng 6);
    let e : EngineId := 3;
    let ident : BitVec 29 := 5;
    let ide : Bool := false;
    let fdf : Bool := false;
    let dlc : BitVec 4 := 2;
    let m := Pg.mode e 6;
    decide (s.engMode e = 6 ∧ s.engUp e = true ∧ (s.eng e).quiet = false ∧ s.canPaired e = false ∧ fdf = false ∧
      s.get m R.CAN_ERR_REC = 0) &&
    (match s.pubEntry e 0 with
     | some i => decide ((∀ n ∈ List.range 32, n ≠ 0 → s.slotOn e n = false) ∧
       s.canMatches e 0 ident.toNat ide false = true ∧ s.slotKind e 0 = 1 ∧ bitOf (s.slotA e 0) 5 = false ∧
       s.slotVpos e 0 + s.lenOf i ≤ dlcLen false dlc.toNat)
     | _ => false)) &&
  (let s : State := ((wEng 6).setF (Pg.mode 3 6) R.CAN_CFG_FD_EN).setF (Pg.mode 3 6) R.CAN_CFG_PEX_EN;
    let e : EngineId := 3;
    decide (s.engMode e = 6 ∧ s.engUp e = true ∧ (s.eng e).quiet = false ∧ s.canPaired e = false ∧
      s.mon e 6 R.CAN_CFG_FD_EN = true ∧ s.mon e 6 R.CAN_CFG_PEX_EN = true)) &&
  (let s : State := wSlot 2 2 2 0x100001 5 0 (wEng 6);
    let e : EngineId := 3;
    let ident : BitVec 29 := 5;
    let ide : Bool := false;
    decide (s.engMode e = 6 ∧ s.engUp e = true ∧ (s.eng e).quiet = false ∧ s.canPaired e = false ∧
      s.mget e 6 R.CAN_CFG_OPMODE ≠ 1) &&
    (match ((List.range 32).filter fun b => (s.subEntry e b).isSome && bitOf (s.slotA e b) 4 &&
      bitOf (s.slotA e b) 0 == ide && s.slotW e b 1 % 2 ^ 29 == ident.toNat) with
     | [n] => decide (n ∉ (s.eng e).pend)
     | _ => false)) &&
  (let s : State := wSlot 0 1 2 1 5 0x1FFFFFFF (wEng 6);
    let e : EngineId := 3;
    decide (s.engMode e = 6 ∧ s.engUp e = true ∧ (s.eng e).quiet = false ∧ s.canPaired e = false)) &&
  (let s : State := (wEng 6).put (Pg.mode 3 6) R.CAN_STATUS_STATE 2;
    let a : Agent := 1;
    let e : EngineId := 3;
    let p := Pg.engine e;
    let m := Pg.mode e 6;
    decide (s.engMode e = 6 ∧ s.writeCode a p R.CAN_CMD.off = .ok ∧ s.get m R.CAN_STATUS_STATE = 2)) &&
  (let s : State := (wPair).clrF (Pg.mode 2 6) R.CAN_CFG_PAIR_EN;
    let a : Agent := 1;
    let e : EngineId := 2;
    let p := Pg.engine e;
    decide (s.engMode e = 6 ∧ s.writeCode a p R.CAN_CMD.off = .ok ∧ e % 2 = 0 ∧ s.canPaired e = false)) &&
  (let s : State := wPair;
    let a : Agent := 1;
    let e : EngineId := 2;
    let p := Pg.engine e;
    decide (s.engMode e = 6 ∧ s.writeCode a p R.CAN_CMD.off = .ok ∧ e % 2 = 0 ∧ s.canPaired e = true ∧ s.canRole e = 1 ∧
      (s.eng e).attempt = none ∧ s.engUp (e + 1) = true ∧ s.get (Pg.mode (e + 1) 6) R.CAN_STATUS_STATE = 0)) &&
  (let s : State := { wPair with core := { wPair.core with downEngines := [2] } };
    let e : EngineId := 2;
    decide (s.engMode e = 6 ∧ e % 2 = 0 ∧ s.canPaired e = true ∧ s.canRole e = 1 ∧ s.engUp e = false ∧
      s.engUp (e + 1) = true) &&
    (let t := (s.moveSet e (e + 1)).setRoles (e + 1) e;
    decide (canWinner (t.canSet (e + 1)) = none))) &&
  (let s : State := { (wEng 6).put (Pg.mode 3 6) R.CAN_STATUS_STATE 3 with core := { (wEng 6).core with downEngines := [3] } };
    let e : EngineId := 3;
    let p := Pg.engine e;
    let m := Pg.mode e 6;
    decide (s.engMode e = 6) &&
    (let t := (s.put m R.CAN_STATUS_STATE 0).event p E.ENG_INTEGRATION_DONE;
    decide (s.engOn e = true ∧ s.get m R.CAN_STATUS_STATE = 3 ∧ s.engUp e = false ∧ t.engineDown e = false))) &&
  (let s : State := wSlot 0 1 2 1 5 0x1FFFFFFF (wEng 6);
    let a : Agent := 1;
    let e : EngineId := 3;
    let p := Pg.engine e;
    let m := Pg.mode e 6;
    decide (s.engMode e = 6 ∧ s.readCode a p R.CAN_STATUS.off = .ok ∧ s.get m R.CAN_ERR_TEC = 0 ∧
      s.get m R.CAN_ERR_REC = 0 ∧ (s.eng e).quiet = false ∧ (s.eng e).pend = [] ∧ (s.eng e).raw = none))) = true := by
  decide +kernel

def wField : State :=
  (live [Pg.fin, Pg.finCfg, Pg.fout, Pg.foutCfg, Pg.signal, Pg.latch, Pg.sigMirror]).put Pg.fuses (R.FUSE_STATUS_STATE 0) 3
/-- Entry 5 publishes field input 2. -/
def wFin : State := wDir 5 0x20000005 0 (3 + 2 * 16) wField

/-- The hypotheses of `Obligations.FieldInputs`, clause by clause, hold somewhere. -/
theorem test_witness_FieldInputs :
  ((let s : State := wField;
    let i : Fin 64 := 2;
    let level : Bool := true;
    decide (s.die.up = true ∧ (s.fin i).ball ≠ level ∧ s.finDown i = false ∧ s.finEntry i = none)) &&
  (let s : State := wFin;
    let i : Fin 64 := 2;
    let level : Bool := true;
    decide (s.die.up = true ∧ (s.fin i).ball ≠ level ∧ s.finDown i = false) &&
    (match s.finEntry i with
     | some j => true
     | _ => false)) &&
  (let s : State := wField.setF Pg.finCfg (R.FIN_CFG_WB_EN 2);
    let i : Fin 64 := 2;
    decide (s.die.up = true ∧ s.finEntry i = none ∧ s.on Pg.finCfg (R.FIN_CFG_WB_EN i) = true)) &&
  (let s : State := wField;
    let i : Fin 64 := 2;
    decide (s.die.up = true ∧ s.finEntry i = none)) &&
  (let s : State := wField;
    decide (s.die.up = true)) &&
  (let s : State := wField;
    let a : Agent := 1;
    let i : Fin 64 := 2;
    let inv : Bool := false;
    decide (s.writeCode a Pg.finCfg (0x800 + 4 * i.val) = .ok ∧ s.on Pg.finCfg (R.FIN_CFG_INV i) = inv)) &&
  (let s : State := (wField.setF Pg.fin (State.pairFld R.FIN_FAULT_LO 2)).modFin 2 fun x => { x with overvolt := true };
    let a : Agent := 1;
    let i : Fin 64 := 2;
    let p := Pg.fin;
    decide (s.writeCode a p (R.FIN_FAULT_LO.off + 4 * (i.val / 32)) = .ok ∧ s.finDown i = true ∧ s.finCause i = true)) &&
  (let s : State := { wField.setF Pg.fin (State.pairFld R.FIN_FAULT_LO 2) with die := { up := true, lost := false } };
    let a : Agent := 1;
    let i : Fin 64 := 2;
    let p := Pg.fin;
    decide (s.writeCode a p (R.FIN_FAULT_LO.off + 4 * (i.val / 32)) = .ok ∧ s.finDown i = true ∧ s.finCause i = false ∧
      s.finEntry i = none ∧ (∀ n ∈ List.range 128, s.actValid n = false))) &&
  (let s : State := wDir 5 0x40000005 0x2000 1 wField |>.modSig fun g => { g with mir := [(5, { got := true })] };
    let d : Fin 16384 := 5;
    decide (s.domainOn 4 = true ∧ s.subscribes d = true ∧ (s.mir d).got = true ∧ bitsOf (s.dirW d 1) 12 4 ≠ 0)) &&
  (let s : State := wField.modSig fun g => { g with armed := [{ key := 9, time := 1000 }] };
    let key : BitVec 18 := 9;
    (match s.sig.armed.find? (·.key == key.toNat) with
     | some x => decide (s.timeValid = false)
     | _ => false)) &&
  (let s : State := (wField.setF Pg.time R.TIME_STATUS_TIME_VALID).modSig fun g => { g with armed := [{ key := 9, time := 1000 }] };
    let key : BitVec 18 := 9;
    (match s.sig.armed.find? (·.key == key.toNat) with
     | some x => decide (s.timeValid = true ∧ s.domainOn 4 = true ∧
       (s.dirRole 1).filter (fun j => dLatchEn (s.dirW j 0)) = [])
     | _ => false)) &&
  (let s : State := wFin.modSig fun g => { g with fired := [{ key := 9, time := 1000, invalid := false, samples := [{ index := 5, version := 0, time := 0, valid := true, value := [], field := true }] }] };
    let key : BitVec 18 := 9;
    (match s.sig.fired with
     | [x] => decide (x.key = key.toNat) &&
    (match x.samples with
     | [q] => decide (q.field = true ∧ (s.fin (s.unitOf q.index)).hist = [])
     | _ => false)
     | _ => false))) = true := by
  decide +kernel

def wFout : State := wField.setF Pg.fout (R.FOUT_STAT_ON 2)

/-- The hypotheses of `Obligations.FieldOutputs`, clause by clause, hold somewhere. -/
theorem test_witness_FieldOutputs :
  ((let s : State := ((wField.setF Pg.fout ⟨R.FOUT_FAULT.off, 2, 1⟩).setF Pg.fout (R.FOUT_STAT_THERMAL 2)).modFout 2 fun x => { x with hot := true };
    let a : Agent := 1;
    decide (s.writeCode a Pg.foutCfg R.FOUT_SET.off = .ok)) &&
  (let s : State := ((wField.setF Pg.fout ⟨R.FOUT_FAULT.off, 2, 1⟩).setF Pg.fout (R.FOUT_STAT_THERMAL 2)).modFout 2 fun x => { x with hot := true };
    let a : Agent := 1;
    let o : Fin 32 := 2;
    let p := Pg.fout;
    decide (s.writeCode a p R.FOUT_FAULT.off = .ok ∧ s.outLatched o = true ∧ s.foutCause o = true)) &&
  (let s : State := wField.setF Pg.fout ⟨R.FOUT_FAULT.off, 2, 1⟩;
    let a : Agent := 1;
    let o : Fin 32 := 2;
    let p := Pg.fout;
    decide (s.writeCode a p R.FOUT_FAULT.off = .ok ∧ s.outLatched o = true ∧ s.foutCause o = false ∧
      (∀ n ∈ List.range 128, s.actValid n = false))) &&
  (let s : State := wFout;
    let o : Fin 32 := 2;
    let p := Pg.fout;
    decide (s.die.up = true ∧ s.on p (R.FOUT_STAT_ON o) = true)) &&
  (let s : State := wFout.setF Pg.fout (R.FOUT_STAT_IN_LIMIT 2);
    let o : Fin 32 := 2;
    let p := Pg.fout;
    decide (s.die.up = true ∧ s.on p (R.FOUT_STAT_IN_LIMIT o) = true)) &&
  (let s : State := ((wField.setF Pg.fout ⟨R.FOUT_FAULT.off, 2, 1⟩).setF Pg.fout (R.FOUT_STAT_THERMAL 2)).modFout 2 fun x => { x with hot := true };
    decide (s.die.up = true)) &&
  (let s : State := ((wField.setF Pg.fout ⟨R.FOUT_FAULT.off, 2, 1⟩).setF Pg.fout (R.FOUT_STAT_THERMAL 2)).modFout 2 fun x => { x with hot := true };
    let cur : List (BitVec 12) := [];
    let p := Pg.fout;
    decide (s.die.up = true) &&
    (let t := s.foutMeasure cur;
    decide (t.get p R.FOUT_AGG_MA ≤ 6000))) &&
  (let s : State := wFout;
    let o : Fin 32 := 2;
    let cur : List (BitVec 12) := List.replicate 3 2500;
    let p := Pg.fout;
    decide (s.die.up = true) &&
    (let t := s.foutMeasure cur;
    decide (6000 < t.get p R.FOUT_AGG_MA) &&
    (match t.shedNext with
     | some x => decide (x = o.val)
     | _ => false))) &&
  (let s : State := ((wField.setF Pg.fout ⟨R.FOUT_FAULT.off, 2, 1⟩).setF Pg.fout (R.FOUT_STAT_THERMAL 2)).modFout 2 fun x => { x with hot := true };
    decide (s.die.up = true ∧ s.field.shedding = false)) &&
  (let s : State := { wFout with field := { wFout.field with shedding := true } };
    let cur : List (BitVec 12) := [100];
    let p := Pg.fout;
    decide (s.die.up = true) &&
    (let t := s.foutMeasure cur;
    decide (s.field.shedding = true ∧ t.get p R.FOUT_AGG_MA ≤ 5500))) &&
  (let s : State := wFout;
    let o : Fin 32 := 2;
    let p := Pg.fout;
    decide (s.die.up = true ∧ s.branchOn (o / 4) = true ∧ s.on Pg.foutCfg (R.FOUT_CFG_OL_ON_EN o) = true ∧
      s.on p (R.FOUT_STAT_ON o) = true ∧ s.on p (R.FOUT_STAT_OPEN_ON o) = false)) &&
  (let s : State := wField.setF Pg.foutCfg (R.FOUT_CFG_OL_OFF_EN 2);
    let o : Fin 32 := 2;
    let p := Pg.fout;
    decide (s.die.up = true ∧ s.branchOn (o / 4) = true ∧ s.on Pg.foutCfg (R.FOUT_CFG_OL_OFF_EN o) = true ∧
      s.on p (R.FOUT_STAT_ON o) = false ∧ s.on p (R.FOUT_STAT_OPEN_OFF o) = false)) &&
  (let s : State := ((wField.setF Pg.fout ⟨R.FOUT_FAULT.off, 2, 1⟩).setF Pg.fout (R.FOUT_STAT_THERMAL 2)).modFout 2 fun x => { x with hot := true };
    let o : Fin 32 := 2;
    let p := Pg.fout;
    decide (s.die.up = true ∧ s.on p (R.FOUT_STAT_OPEN_OFF o) = false))) = true := by
  decide +kernel

def wTime : State := (live [Pg.time, Pg.prime, Pg.units, Pg.ptp]).setF Pg.time R.PAGE_CTRL_ENABLE
def wServo (n : Nat) (s : State) : State := s.put Pg.time R.TIME_STATUS_STATE n

/-- The hypotheses of `Obligations.ClocksAndPulses`, clause by clause, hold somewhere. -/
theorem test_witness_ClocksAndPulses :
  ((let s : State := (wTime.put Pg.ralusk R.RALUSK_STATUS_STATE 2).wr Pg.ralusk R.POLICY_MODE.off 0x800;
    let a : Agent := 1;
    let p := Pg.prime;
    decide (s.writeCode a p (R.P_FREQ 0).off = .ok ∧ s.servoHolds = true)) &&
  (let s : State := wServo 4 wTime;
    let a : Agent := 1;
    let p := Pg.prime;
    decide (s.writeCode a p (R.P_FREQ 0).off = .ok ∧ s.servoHolds = false)) &&
  (let s : State := (wTime.put Pg.ralusk R.RALUSK_STATUS_STATE 2).wr Pg.ralusk R.POLICY_MODE.off 0x800;
    let a : Agent := 1;
    let p := Pg.prime;
    decide (s.writeCode a p (R.P_FREQ 1).off = .ok)) &&
  (let s : State := (wTime.put Pg.ralusk R.RALUSK_STATUS_STATE 2).wr Pg.ralusk R.POLICY_MODE.off 0x800;
    let a : Agent := 1;
    let p := Pg.prime;
    decide (s.writeCode a p (R.P_ADJ 1).off = .ok)) &&
  (let s : State := (wTime.put Pg.ralusk R.RALUSK_STATUS_STATE 2).wr Pg.ralusk R.POLICY_MODE.off 0x800;
    let a : Agent := 1;
    let p := Pg.prime;
    decide (s.writeCode a p (R.P_ADJ 0).off = .ok ∧ s.servoHolds = true)) &&
  (let s : State := wServo 4 wTime;
    let a : Agent := 1;
    let p := Pg.prime;
    decide (s.writeCode a p (R.P_CMD 0).off = .ok ∧ 3 ≤ s.servo)) &&
  (let s : State := (wServo 1 wTime).put Pg.prime R.PPS_OUT_CFG_SRC 1;
    let a : Agent := 1;
    let p := Pg.prime;
    decide (s.writeCode a p (R.P_CMD 0).off = .ok ∧ s.servo < 3 ∧ s.isGm = false ∧ s.get p R.PPS_OUT_CFG_SRC ≠ 0)) &&
  (let s : State := wTime.setF Pg.prime R.EXT_STATUS_PPS_OK;
    let a : Agent := 1;
    let p := Pg.prime;
    decide (s.writeCode a p (R.P_CMD 1).off = .ok ∧ s.on p R.EXT_STATUS_PPS_OK = true)) &&
  (let s : State := (wTime.put Pg.ralusk R.RALUSK_STATUS_STATE 2).wr Pg.ralusk R.POLICY_MODE.off 0x800;
    decide (s.domainOn 1 = true)) &&
  (let s : State := (wTime.clrF Pg.prime R.EXT_CFG_EXT_EN).modTime fun t => { t with ppsRun := 1 };
    let interval : BitVec 40 := 1000000100;
    let p := Pg.prime;
    decide (s.domainOn 1 = true ∧ s.on p R.EXT_CFG_EXT_EN = false ∧ s.time.ppsRun = 1 ∧ 999999000 ≤ interval.toNat ∧
      interval.toNat ≤ 1000001000)) &&
  (let s : State := wTime.setF Pg.prime R.EXT_STATUS_PPS_OK;
    let p := Pg.prime;
    decide (s.domainOn 1 = true ∧ s.on p R.EXT_CFG_EXT_EN = false ∧ s.on p R.EXT_STATUS_PPS_OK = true ∧
      s.on p R.EXT_STATUS_P1_LOCKED = false)) &&
  (let s : State := (wTime.put Pg.ralusk R.RALUSK_STATUS_STATE 2).wr Pg.ralusk R.POLICY_MODE.off 0x800;
    let p := Pg.prime;
    decide (s.domainOn 1 = true ∧ s.on p R.EXT_CFG_EXT_EN = false ∧ s.on p R.EXT_STATUS_P1_LOCKED = false)) &&
  (let s : State := wTime.setF Pg.prime R.PPS_OUT_CFG_EN;
    let p := Pg.prime;
    decide (s.domainOn 1 = true ∧ s.on p R.PPS_OUT_CFG_EN = true ∧ s.time.ppsHigh = false)) &&
  (let s : State := wTime.modTime fun t => { t with ppsHigh := true };
    decide (s.domainOn 1 = true ∧ s.time.ppsHigh = true)) &&
  (let s : State := (wTime.put Pg.ralusk R.RALUSK_STATUS_STATE 2).wr Pg.ralusk R.POLICY_MODE.off 0x800;
    let a : Agent := 1;
    let u : Fin 32 := 3;
    decide (s.writeCode a Pg.time R.TIME_CMD.off = .ok ∧ u < 15)) &&
  (let s : State := (wTime.put Pg.ralusk R.RALUSK_STATUS_STATE 2).wr Pg.ralusk R.POLICY_MODE.off 0x800;
    let a : Agent := 1;
    decide (s.writeCode a Pg.time R.TIME_CMD.off = .ok)) &&
  (let s : State := (wTime.put Pg.ralusk R.RALUSK_STATUS_STATE 2).wr Pg.ralusk R.POLICY_MODE.off 0x800;
    let a : Agent := 1;
    decide (s.readCode a Pg.ptp R.MEAS_POP.off = .ok ∧ s.time.meas = [])) &&
  (let s : State := wTime.modTime fun t => { t with meas := [{ seq := 3, path := 1, stitch := false, transits := 2, offset := -9, at_ := 100 }] };
    let a : Agent := 1;
    decide (s.readCode a Pg.ptp R.MEAS_POP.off = .ok) &&
    (match s.time.meas with
     | m :: l => true
     | _ => false)) &&
  (let s : State := (wTime.put Pg.ralusk R.RALUSK_STATUS_STATE 2).wr Pg.ralusk R.POLICY_MODE.off 0x800;
    let a : Agent := 1;
    decide (s.readCode a Pg.units R.TXTS_POP.off = .ok ∧ s.time.txts = [])) &&
  (let s : State := wTime.modTime fun t => { t with txts := [{ ident := 3, source := 1, ts := 5, invalid := true }] };
    let a : Agent := 1;
    decide (s.readCode a Pg.units R.TXTS_POP.off = .ok) &&
    (match s.time.txts with
     | x :: l => true
     | _ => false)) &&
  (let s : State := (wTime.put Pg.ralusk R.RALUSK_STATUS_STATE 2).wr Pg.ralusk R.POLICY_MODE.off 0x800;
    let a : Agent := 1;
    decide (s.writeCode a Pg.units R.TXTS_STATUS.off = .ok ∧ s.time.txts.length < 32)) &&
  (let s : State := wTime.modTime fun t => { t with txts := List.replicate 32 { ident := 3, source := 1, ts := 5, invalid := true } };
    let a : Agent := 1;
    decide (s.writeCode a Pg.units R.TXTS_STATUS.off = .ok ∧ 32 ≤ s.time.txts.length))) = true := by
  decide +kernel

/-- A message of a type from clock 7, sequence number 1, with a body. -/
def wPtp (type spec : Nat) (body : List Byte) : List Byte :=
  [BitVec.ofNat 8 type, 0x12] ++ beBytes 2 (34 + body.length) ++ [0, 0, 0, 0] ++ beBytes 8 0 ++ beBytes 4 spec ++
    beBytes 8 7 ++ beBytes 2 1 ++ beBytes 2 1 ++ [0, 0] ++ body
def wResp : List Byte := wPtp 3 5 (List.replicate 10 0 ++ beBytes 8 wTime.uid ++ beBytes 2 1)
def wBetter : State :=
  wTime.modTime fun x => { x with anns := [{ prio1 := 0, cls := 6, acc := 0, prio2 := 0, ident := 7, steps := 1 }] }

/-- The hypotheses of `Obligations.PtpAndServo`, clause by clause, hold somewhere. -/
theorem test_witness_PtpAndServo :
  ((let s : State := (wTime.put (Pg.link 0) R.LINK_STATUS_STATE 3).setF (Pg.link 0) R.PAGE_STATUS_READY;
    let k : LinkId := 0;
    decide (s.timeOn = true ∧ s.linkActive k = true)) &&
  (let s : State := (wTime.put (Pg.link 0) R.LINK_STATUS_STATE 3).setF (Pg.link 0) R.PAGE_STATUS_READY;
    let k : LinkId := 0;
    decide (s.timeOn = true ∧ s.linkActive k = true ∧ s.domainOn 1 = true ∧ s.time.selPort ≠ some k.val)) &&
  (let s : State := (wTime.put (Pg.link 0) R.LINK_STATUS_STATE 3).setF (Pg.link 0) R.PAGE_STATUS_READY;
    let m : List Byte := [];
    decide (s.timeOn = true ∧ s.ptpGood 2 m = false)) &&
  (let s : State := wTime;
    let m : List Byte := wPtp 2 0 (List.replicate 20 0);
    decide (s.timeOn = true ∧ s.ptpGood 2 m = true)) &&
  (let s : State := wTime.modPort 0 fun x => { x with asked := some (1, 1000) };
    let k : LinkId := 0;
    let m : List Byte := wResp;
    let t1 : BitVec 80 := 1000;
    decide (s.timeOn = true ∧ s.ptpGood 3 m = true ∧ (s.ptpPort k).asked = some (State.mSeq m, t1.toNat) ∧
      beNat (bytesAt m 44 8) = s.uid ∧ beNat (bytesAt m 52 2) = k + 1)) &&
  (let s : State := (wTime.setF Pg.ptp (R.PORT_STATUS_PDELAY_OK 0)).modPort 0 fun x => { x with asked := some (1, 1000), misses := 2 };
    let k : LinkId := 0;
    decide (s.timeOn = true ∧ (s.ptpPort k).asked.isSome = true ∧ 2 ≤ (s.ptpPort k).misses ∧
      s.on Pg.ptp (R.PORT_STATUS_PDELAY_OK k) = true)) &&
  (let s : State := wTime.modPort 0 fun x => { x with asked := some (1, 1000) };
    let k : LinkId := 0;
    decide (s.timeOn = true ∧ (s.ptpPort k).asked.isSome = true ∧ (s.ptpPort k).misses < 2)) &&
  (let s : State := wServo 2 wTime;
    decide (s.timeOn = true ∧ s.servo = 2 ∧ s.ptpPorts = [])) &&
  (let s : State := wTime;
    let k : LinkId := 0;
    let m : List Byte := (wTime.ptpMessage 0 0 0 0 0 1 0 (List.replicate 10 0));
    decide (s.timeOn = true ∧ s.ptpGood 0 m = true ∧ s.ptpForward k m = none ∧ State.mClock m = s.uid)) &&
  (let s : State := wTime.setF Pg.ptp (R.PORT_STATUS_PDELAY_OK 0);
    let k : LinkId := 0;
    let m : List Byte := wPtp 0 0 (List.replicate 10 0);
    decide (s.timeOn = true ∧ s.ptpGood 0 m = true ∧ s.ptpForward k m = none ∧ State.mClock m ≠ s.uid ∧
      s.time.usedSeq ≠ some (State.mClock m, State.mSeq m) ∧ s.stitchOnly = none ∧
      s.on Pg.ptp (R.PORT_STATUS_PDELAY_OK k) = true)) &&
  (let s : State := wTime.modTime fun x => { x with copies := [{ port := 0, msg := wPtp 0 0 (List.replicate 10 0), at_ := 9 }] };
    decide (s.timeOn = true) &&
    (match s.time.copies with
     | [c] => decide (s.betterGm = none ∧ State.mClock c.msg ≠ s.uid)
     | _ => false)) &&
  (let s : State := ((wServo 1 wBetter).clrF Pg.time R.TIME_CFG_SYNT_EN).modTime fun x => { x with copies := [{ port := 0, msg := wPtp 0 0 (List.replicate 10 0), at_ := 9 }] };
    decide (s.timeOn = true) &&
    (match s.time.copies with
     | [c] => (match s.betterGm with
     | some d => decide (State.mClock c.msg = d.ident ∧ s.servo = 1 ∧ c.port < 4 ∧
       s.on Pg.time R.TIME_CFG_SYNT_EN = false ∧ s.ptpStitch c.port = [])
     | _ => false)
     | _ => false)) &&
  (let s : State := wTime;
    decide (s.timeOn = true ∧ s.on Pg.time R.TIME_CFG_GM_CAPABLE = true ∧ s.ptpPorts = [])) &&
  (let s : State := ((wServo 1 wBetter).clrF Pg.time R.TIME_CFG_SYNT_EN).modTime fun x => { x with copies := [{ port := 0, msg := wPtp 0 0 (List.replicate 10 0), at_ := 9 }] };
    decide (s.timeOn = true ∧ s.on Pg.time R.TIME_CFG_GM_CAPABLE = true ∧ (s.servo = 1 ∨ s.servo = 5))) &&
  (let s : State := wTime;
    let k : LinkId := 0;
    let m : List Byte := (wPtp 0xB 0 (List.replicate 30 0)).take 53 ++ beBytes 8 wTime.uid ++ [0, 0, 0];
    decide (s.timeOn = true ∧ s.ptpGood 0xB m = true ∧ s.ptpForward k m = none ∧ (s.annData m).ident = s.uid ∧
      (k = 0 ∨ k = 3))) &&
  (let s : State := wTime;
    let k : LinkId := 3;
    let m : List Byte := wPtp 0xB 0 (List.replicate 19 0 ++ [9] ++ List.replicate 10 0);
    decide (s.timeOn = true ∧ s.ptpGood 0xB m = true ∧ s.ptpForward k m = none ∧ (s.annData m).ident ≠ s.uid ∧
      3 ≤ k.val ∧ s.freshAnns = [])) &&
  (let s : State := wServo 4 wTime;
    decide (s.timeOn = true ∧ s.servo = 4)) &&
  (let s : State := (wServo 5 wTime).setF Pg.time R.TIME_STATUS_TIME_VALID;
    decide (s.timeOn = true ∧ s.servo = 5 ∧ s.timeValid = true)) &&
  (let s : State := wServo 5 wTime;
    decide (s.timeOn = true ∧ s.servo = 5 ∧ s.timeValid = false))) = true := by
  decide +kernel

def wUsb : State :=
  let s := (live ([Pg.usb, Pg.usbHub, Pg.mgmt, Pg.ralusk])).setF Pg.usb R.PAGE_CTRL_ENABLE
  { s with usb := { s.usb with pull := true, vbus := true } }
def wConf : State := wUsb.setF Pg.usb R.USB_STATUS_CONFIGURED
def wSusp : State := (wUsb.setF Pg.usb R.USB_STATUS_SUSPENDED).setF Pg.usb R.USB_STATUS_REMOTE_WAKE_EN

/-- The hypotheses of `Obligations.UsbDevice`, clause by clause, hold somewhere. -/
theorem test_witness_UsbDevice :
  ((let s : State := wUsb.modUsb fun u => { u with pull := false };
    let p := Pg.usb;
    decide (s.domainOn 3 = true ∧ s.on p R.PAGE_CTRL_ENABLE = true ∧ s.usb.apart = false ∧ s.usb.pull = false)) &&
  (let s : State := wUsb.modUsb fun u => { u with pull := false };
    let p := Pg.usb;
    decide (s.domainOn 3 = true ∧ s.on p R.PAGE_CTRL_ENABLE = true ∧ s.usb.apart = false ∧ s.usb.pull = false ∧
      s.usb.vbus = true)) &&
  (let s : State := wUsb.clrF Pg.usb R.USB_CFG_L1_ALLOWED;
    let a : Agent := 1;
    let p := Pg.usb;
    decide (s.domainOn 3 = true ∧ s.usb.pull = true ∧ s.writeCode a p R.USB_CMD.off = .ok)) &&
  (let s : State := wUsb.clrF Pg.usb R.USB_CFG_L1_ALLOWED;
    decide (s.domainOn 3 = true ∧ s.usb.pull = true)) &&
  (let s : State := wUsb.clrF Pg.usb R.USB_CFG_L1_ALLOWED;
    let p := Pg.usb;
    decide (s.domainOn 3 = true ∧ s.usb.pull = true ∧ s.on p R.USB_STATUS_SUSPENDED = false)) &&
  (let s : State := wUsb.clrF Pg.usb R.USB_CFG_L1_ALLOWED;
    let p := Pg.usb;
    decide (s.domainOn 3 = true ∧ s.usb.pull = true ∧ s.usbAwake = true ∧ s.on p R.USB_CFG_L1_ALLOWED = false)) &&
  (let s : State := wUsb.setF Pg.usb R.USB_CFG_L1_ALLOWED;
    let p := Pg.usb;
    decide (s.domainOn 3 = true ∧ s.usb.pull = true ∧ s.usbAwake = true ∧ s.on p R.USB_CFG_L1_ALLOWED = true ∧
      s.usb.nakCmd = none ∧ s.usb.nakResult = none ∧ s.conHasIn = false)) &&
  (let s : State := wUsb.clrF Pg.usb R.USB_CFG_L1_ALLOWED;
    let p := Pg.usb;
    decide (s.domainOn 3 = true ∧ s.usb.pull = true ∧ s.usbAwake = true ∧ s.on p R.SOF_FRAME_VALID = false ∧
      s.on p R.SOF_CAP_CFG_EN = false)) &&
  (let s : State := wUsb.clrF Pg.usb R.USB_CFG_L1_ALLOWED;
    let on : Bool := false;
    decide (s.domainOn 3 = true ∧ s.usb.pull = true ∧ s.usbAwake = true ∧ on = false)) &&
  (let s : State := wSusp.modUsb fun u => { u with note := { st := 1 } };
    let p := Pg.usb;
    decide (s.domainOn 3 = true ∧ s.usb.pull = true ∧ s.on p R.USB_STATUS_SUSPENDED = true ∧
      s.on p R.USB_STATUS_REMOTE_WAKE_EN = true ∧ s.on p R.USB_STATUS_L1 = false ∧ s.wakeCause = true ∧
      s.usb.wakes = none ∧ s.usb.spent = false)) &&
  (let s : State := wSusp;
    decide (s.domainOn 3 = true ∧ s.usbAwake = false ∧ s.usb.wakes = none ∧ s.usb.note.st ≠ 1)) &&
  (let s : State := (wSusp.put Pg.usb R.USB_CFG_WAKE_RETRIES 2).modUsb fun u => { u with wakes := some 2 };
    let p := Pg.usb;
    decide (s.domainOn 3 = true ∧ s.usbAwake = false) &&
    (match s.usb.wakes with
     | some n => decide (s.get p R.USB_CFG_WAKE_RETRIES ≤ n)
     | _ => false)) &&
  (let s : State := wUsb.modUsb fun u => { u with pull := false };
    decide (s.domainOn 3 = true)) &&
  (let s : State := wConf;
    decide (s.usbConfigured = true)) &&
  (let s : State := wConf;
    decide (s.usbConfigured = true ∧ s.usbAwake = true)) &&
  (let s : State := wUsb.modUsb fun u => { u with caps := [(80, 900)] };
    let a : Agent := 1;
    let p := Pg.usb;
    decide (s.readCode a p R.SOF_CAP_POP.off = .ok) &&
    (match s.usb.caps with
     | (f, t) :: l => true
     | _ => false))) = true := by
  decide +kernel

def wCmd : MfCmd := { seq := 7, op := 1, once := false, len := 4, addr := 2 ^ 48 - 1, data := [] }
def wCmdBytes : List Byte := leBytes 4 7 ++ [1, 0] ++ leBytes 2 4 ++ leBytes 6 64 ++ [0, 0]
def wCon (k : Nat) : State := (wConf.setF Pg.mgmt (R.CON_CFG_EN k)).put Pg.mgmt (R.CON_CFG_MAILBOX k) 3

/-- The hypotheses of `Obligations.ManagementFunction`, clause by clause, hold somewhere. -/
theorem test_witness_ManagementFunction :
  ((let s : State := wConf;
    let d : List Byte := [1];
    decide (s.usbConfigured = true ∧ s.usbAwake = true ∧ s.usb.nakCmd = none ∧ s.usb.nakResult = none ∧ d.length < 16)) &&
  (let s : State := wConf.clrF Pg.ralusk R.PAGE_STATUS_READY;
    let d : List Byte := wCmdBytes;
    decide (s.usbConfigured = true ∧ s.usbAwake = true ∧ s.usb.nakCmd = none ∧ s.usb.nakResult = none ∧ 16 ≤ d.length ∧
      d.length ≤ 1024 ∧ s.mgmtReady = false)) &&
  (let s : State := wConf;
    let d : List Byte := List.replicate 16 0;
    decide (s.usbConfigured = true ∧ s.usbAwake = true ∧ s.usb.nakCmd = none ∧ s.usb.nakResult = none ∧ 16 ≤ d.length ∧
      d.length ≤ 1024 ∧ s.mgmtReady = true ∧ s.usb.queue.length < 8 ∧ State.parseCmd d = none)) &&
  (let s : State := wConf;
    let d : List Byte := wCmdBytes;
    let c : MfCmd := (State.parseCmd wCmdBytes).getD wCmd;
    decide (s.usbConfigured = true ∧ s.usbAwake = true ∧ s.usb.nakCmd = none ∧ s.usb.nakResult = none ∧ 16 ≤ d.length ∧
      d.length ≤ 1024 ∧ s.mgmtReady = true ∧ s.usb.queue.length < 8 ∧ State.parseCmd d = some c ∧
      s.seqFollows c.seq = true ∧ s.usb.results = [])) &&
  (let s : State := wConf;
    decide (s.usbConfigured = true ∧ s.usbAwake = true ∧ s.usb.nakCmd = none ∧ s.usb.nakResult = none)) &&
  (let s : State := wConf;
    let wl : BitVec 16 := 64;
    decide (s.usbConfigured = true ∧ s.usbAwake = true ∧ s.usb.nakCmd = none ∧ s.usb.nakResult = none ∧
      s.mgmtReady = true ∧ 16 ≤ wl.toNat ∧ wl.toNat ≤ 1024 ∧ s.usb.results = [])) &&
  (let s : State := wConf.modUsb fun u => { u with run := some wCmd };
    decide (s.usbConfigured = true ∧ s.usbAwake = true ∧ s.usb.nakCmd = none ∧ s.usb.nakResult = none ∧
      s.mgmtReady = true ∧ s.usb.run.isSome = true)) &&
  (let s : State := wConf.modUsb fun u => { u with nakCmd := some [1] };
    let d : List Byte := [1];
    decide (s.usb.nakCmd = some d)) &&
  (let s : State := wConf.modUsb fun u => { u with queue := [wCmd] };
    let c : MfCmd := wCmd;
    let l : List MfCmd := [];
    decide (s.usb.queue = c :: l ∧ s.usb.run = none ∧ s.domainOn 3 = true ∧ s.mgmtReady = true ∧ s.usb.nakCmd = none ∧
      c.op ≠ 3 ∧ addrHub c.addr / 4 = 255)) &&
  (let s : State := wConf.modUsb fun u => { u with run := some wCmd, parts := [some (0, 0, [1, 2, 3, 4])], results := [{ slot := 0, seq := 7, st := 2 }] };
    let c : MfCmd := wCmd;
    decide (s.usb.run = some c ∧ s.mgmtReady = true) &&
    (match s.usb.parts with
     | [some (0, 0, x)] => decide (s.usb.nakResult = none ∧ s.usb.ackWait = false ∧ c.op = 1)
     | _ => false)) &&
  (let s : State := wConf;
    let a : Agent := 1;
    let m := Pg.mgmt;
    decide (s.writeCode a m R.MF_CMD.off = .ok)) &&
  (let s : State := wUsb.modUsb fun u => { u with note := { st := 1 } };
    decide (s.usb.note.st = 1 ∧ s.usbConfigured = false)) &&
  (let s : State := (wCon 1).put Pg.usb R.USB_STATUS_SPEED 2;
    let d : List Byte := List.replicate 512 65;
    let k : Fin 4 := 1;
    let p := Pg.usb;
    decide (s.conOn k = true ∧ s.get p R.USB_STATUS_SPEED = 2 ∧ d.length = 512 ∧ s.usb.gather.getD k [] = [])) &&
  (let s : State := (wCon 1).put Pg.usb R.USB_STATUS_SPEED 2;
    let k : Fin 4 := 1;
    decide (s.conOn k = true)) &&
  (let s : State := (wCon 1).modEng 3 fun g => { g with rx := [[1, 2, 3, 4, 5, 6, 7, 8, 9, 10, 11, 12, 13]] };
    let k : Fin 4 := 1;
    let m := Pg.mgmt;
    decide (s.conOn k = true) &&
    (match (s.eng (s.get m (R.CON_CFG_MAILBOX k))).rx with
     | [r] => true
     | _ => false))) = true := by
  decide +kernel

def wPcie : State :=
  ((live (Pg.interrupts :: domainPages 2)).setF Pg.pcie R.PCIE_STATUS_DL_ACTIVE).setF Pg.pcie R.PAGE_CTRL_ENABLE
/-- MSI-X is enabled and the function may master the bus. -/
def wMsix : State := (wPcie.setCfg 0x50 0x80000000).setCfg 0x04 4
/-- Source 2 is pending, not masked, and goes to vector 5; `c` is the vector's coalescing word. -/
def wSource (c : Nat) (s : State) : State :=
  (((s.wr Pg.routeTable 8 (5 + 64)).wr 4 0x010 1).wr 4 0x014 1).wr Pg.coalTable 20 (BitVec.ofNat 32 c)

/-- The hypotheses of `Obligations.EndpointAndVectors`, clause by clause, hold somewhere. -/
theorem test_witness_EndpointAndVectors :
  ((let s : State := wPcie.clrF Pg.pcie R.PAGE_STATUS_READY;
    decide (s.hostUp = true ∧ (domainPages 2).all s.ready = false)) &&
  (let s : State := wSource 0x20010 wMsix;
    decide (s.hostUp = true ∧ s.pcie.flr = false ∧ (domainPages 2).all s.ready = true)) &&
  (let s : State := wPcie.clrF Pg.pcie R.PCIE_STATUS_DL_ACTIVE;
    decide (s.domainOn 2 = true ∧ s.dlActive = false)) &&
  (let s : State := wPcie.clrF Pg.pcie R.PCIE_STATUS_DL_ACTIVE;
    let spd : BitVec 2 := 0;
    let wid : BitVec 2 := 0;
    let p := Pg.pcie;
    decide (s.domainOn 2 = true ∧ s.dlActive = false ∧ s.on p R.PAGE_CTRL_ENABLE = true ∧
      s.on Pg.bringUp R.BRINGUP_STATUS_PCIE_REF_ABSENT = false ∧ spd.toNat ≤ s.get p R.PCIE_CFG_MAX_SPEED ∧
      wid.toNat ≤ Nat.min 2 (s.get p R.PCIE_CFG_MAX_WIDTH) ∧ (∀ x ∈ List.range 64, (s.vec x).st ≠ 1))) &&
  (let s : State := wPcie.clrF Pg.pcie R.PAGE_STATUS_READY;
    decide (s.domainOn 2 = true)) &&
  (let s : State := wSource 0x20010 wMsix;
    let a : Agent := 1;
    let p := Pg.pcie;
    decide (s.writeCode a p R.PCIE_CMD.off = .ok ∧ s.dlActive = true)) &&
  (let s : State := wSource 0x20010 wMsix;
    let n : Fin 128 := 2;
    let v : Fin 64 := 5;
    decide (s.routeWord n % 64 = v.val ∧ s.sentTo 6 n = true ∧ s.sentTo 9 n = false ∧ (s.vec v).st = 0 ∧
      s.vecDue v = false ∧ (s.rd Pg.coalTable (4 * v.val)).toNat % 2 ^ 16 ≠ 0)) &&
  (let s : State := wSource 0 (wMsix.wr Pg.interrupts (0x80C + 80) 0);
    let n : Fin 128 := 2;
    let v : Fin 64 := 5;
    decide (s.routeWord n % 64 = v.val ∧ s.sentTo 6 n = true ∧ s.sentTo 9 n = false ∧ (s.vec v).st = 0 ∧
      (s.rd Pg.coalTable (4 * v.val)).toNat % 2 ^ 16 = 0 ∧ (s.domainOn 2 = true ∧ s.msixEnable = true ∧
      s.busMaster = true ∧ s.msixFuncMask = false ∧ s.vecMasked v = false))) &&
  (let s : State := (wSource 0x20010 (wMsix.wr Pg.interrupts (0x80C + 80) 0)).setVec 5 { st := 1 };
    let v : Fin 64 := 5;
    decide ((s.vec v).st = 1 ∧ (s.domainOn 2 = true ∧ s.msixEnable = true ∧ s.busMaster = true ∧
      s.msixFuncMask = false ∧ s.vecMasked v = false))) &&
  (let s : State := (wMsix.wr Pg.interrupts (0x80C + 80) 1).setVec 5 { st := 1 };
    let v : Fin 64 := 5;
    decide ((s.vec v).st = 1 ∧ s.domainOn 2 = true ∧ s.msixEnable = true ∧ s.busMaster = true ∧ s.vecMasked v = true)) &&
  (let s : State := wPcie;
    let a : Agent := pcieHost;
    let v : Fin 64 := 5;
    decide (s.writeCode a Pg.interrupts (0x80C + 16 * v.val) = .ok ∧ (s.vec v).st ≠ 1)) &&
  (let s : State := wMsix.setVec 5 { st := 2 };
    let a : Agent := 1;
    decide (s.writeCode a Pg.interrupts R.VEC_ACK0.off = .ok ∧ (s.vec 5).st = 2 ∧ s.liveCount 5 = 0))) = true := by
  decide +kernel

def wSeed : State := live [Pg.seed, Pg.ralusk]
def wKeyAt : Nat := regKey Pg.ralusk 0x100
def wRec : JRec := { key := wKeyAt, val := 2, seq := 0 }

/-- The hypotheses of `Obligations.SeedStore`, clause by clause, hold somewhere. -/
theorem test_witness_SeedStore :
  ((let s : State := (wSeed.setF Pg.seed R.SEED_STATUS_JOURNALLING).modSeed fun x => { x with dirty := [wKeyAt] };
    let w : BitVec 10 := 0x40;
    let p := Pg.seed;
    let k := regKey Pg.ralusk (4 * w.toNat);
    decide (s.seed.dirty = [k] ∧ s.seed.adapted = [] ∧ s.on p R.SEED_STATUS_JOURNALLING = true ∧
      s.seed.buf.length < 255)) &&
  (let s : State := wSeed.modSeed fun x => { x with buf := [wRec] };
    let p := Pg.seed;
    decide (s.on p R.SEED_STATUS_FROZEN = false ∧ s.seed.commit = none ∧ s.seed.buf ≠ [])) &&
  (let s : State := wSeed.modSeed fun x => { x with buf := [wRec] };
    let a : Agent := 1;
    let p := Pg.seed;
    decide (s.on p R.SEED_STATUS_FROZEN = false ∧ s.seed.commit = none ∧ s.seed.buf ≠ [] ∧
      s.writeCode a p R.SEED_CMD.off = .ok)) &&
  (let s : State := wSeed.setF Pg.seed R.SEED_STATUS_FROZEN;
    let a : Agent := 1;
    let p := Pg.seed;
    decide (s.writeCode a p R.SEED_CMD.off = .ok ∧ s.on p R.SEED_STATUS_FROZEN = true)) &&
  (let s : State := (wSeed.setF Pg.seed R.SEED_STATUS_JOURNALLING).modSeed fun x => { x with dirty := [wKeyAt] };
    let a : Agent := 1;
    let p := Pg.seed;
    decide (s.writeCode a p R.SEED_CMD.off = .ok ∧ s.compactHeld = false ∧ s.bank s.otherBank = [])) &&
  (let s : State := (wSeed.setF Pg.seed R.SEED_STATUS_JOURNALLING).modSeed fun x => { x with dirty := [wKeyAt] };
    let a : Agent := 1;
    let p := Pg.seed;
    decide (s.writeCode a p R.SEED_CMD.off = .ok ∧ s.on p R.SEED_STATUS_FROZEN = false)) &&
  (let s : State := wSeed.setF Pg.seed R.SEED_STATUS_COMPACTING;
    let p := Pg.seed;
    decide (s.on p R.SEED_STATUS_COMPACTING = true ∧ s.bank s.otherBank = [] ∧ s.activeImage = none))) = true := by
  decide +kernel

def wInlet (n : Nat) : State :=
  let s := (live [Pg.inlet, Pg.fuses, Pg.meters, Pg.rails, Pg.seed]).put Pg.inlet R.HS_STATUS_STATE n
  s.modPower fun x => { x with dieUp := true }

/-- The hypotheses of `Obligations.InletController`, clause by clause, hold somewhere. -/
theorem test_witness_InletController :
  ((let s : State := (wInlet 0).modPower fun x => { x with dieUp := false };
    decide (s.power.dieUp = false)) &&
  (let s : State := (wInlet 2).setF Pg.inlet R.HS_STATUS_WINDOW_MET;
    decide (s.power.dieUp = true)) &&
  (let s : State := (wInlet 2).setF Pg.inlet R.HS_STATUS_WINDOW_MET;
    let p := Pg.inlet;
    decide (s.power.dieUp = true ∧ s.hsState = 2 ∧ s.on p R.HS_STATUS_WINDOW_MET = true ∧ s.power.holdOff = false ∧
      s.pgood = false)) &&
  (let s : State := wInlet 3;
    decide (s.power.dieUp = true ∧ s.hsState = 3 ∧ s.pgood = false)) &&
  (let s : State := wInlet 4;
    let p := Pg.inlet;
    decide (s.power.dieUp = true ∧ s.hsState = 4 ∧ s.pgood = false ∧ s.on p R.HS_STATUS_IN_LIMIT = false ∧
      s.on p R.HS_STATUS_TIMER_RUN = false)) &&
  (let s : State := (wInlet 4).setF Pg.inlet R.HS_STATUS_TIMER_RUN;
    let p := Pg.inlet;
    decide (s.power.dieUp = true ∧ s.hsState = 4 ∧ s.pgood = false ∧ s.on p R.HS_STATUS_TIMER_RUN = true)) &&
  (let s : State := wInlet 4;
    decide (s.power.dieUp = true ∧ s.hsState = 4 ∧ s.pgood = false)) &&
  (let s : State := (wInlet 5).setF Pg.inlet R.HS_STATUS_PGOOD;
    decide (s.power.dieUp = true ∧ s.hsState = 5 ∧ s.pgood = true)) &&
  (let s : State := wInlet 3;
    decide (s.power.dieUp = true ∧ s.hsGate = true)) &&
  (let s : State := (wInlet 6).setF Pg.inlet R.HS_STATUS_PGOOD;
    decide (s.power.dieUp = true ∧ s.hsState = 6 ∧ s.pgood = true)) &&
  (let s : State := wInlet 6;
    decide (s.power.dieUp = true ∧ s.hsState = 6 ∧ s.pgood = false)) &&
  (let s : State := wInlet 1;
    decide (s.power.dieUp = true ∧ s.hsState = 1)) &&
  (let s : State := (wInlet 5).setF Pg.inlet R.HS_STATUS_PGOOD;
    decide (s.power.dieUp = true ∧ s.pgood = true)) &&
  (let s : State := { wInlet 5 with die := {} };
    let p := Pg.inlet;
    decide (s.power.dieUp = true ∧ s.on p R.HS_STATUS_PFW_ACTIVE = false ∧ s.die.up = false)) &&
  (let s : State := (wInlet 5).setF Pg.inlet R.HS_STATUS_PFW_ACTIVE;
    let p := Pg.inlet;
    decide (s.power.dieUp = true ∧ s.on p R.HS_STATUS_PFW_ACTIVE = true ∧ s.on Pg.seed R.SEED_STATUS_FROZEN = false)) &&
  (let s : State := (wInlet 0).modPower fun x => { x with dieUp := false };
    let a : Agent := 1;
    let v : Word := 5;
    let p := Pg.inlet;
    decide (s.writeCode a p R.HS_CYCLE.off = .ok ∧ v.toNat % 2 ^ 16 ≠ 0x0C1C)) &&
  (let s : State := wInlet 3;
    let a : Agent := 1;
    let v : Word := 0x0C1C;
    let p := Pg.inlet;
    decide (s.writeCode a p R.HS_CYCLE.off = .ok ∧ v.toNat % 2 ^ 16 = 0x0C1C ∧ s.hsState = 3 ∧ s.pgood = false)) &&
  (let s : State := (wInlet 2).wr Pg.inlet R.HS_LEVELS.off (BitVec.ofNat 32 (250 + 100 * 65536));
    let a : Agent := 1;
    let v : Word := BitVec.ofNat 32 (200 + 5 * 1024 + 600 * 65536);
    let p := Pg.inlet;
    decide (s.writeCode a p R.HS_WINDOW.off = .ok ∧ levelsFit v.toNat (s.rd p R.HS_LEVELS.off).toNat = true)) &&
  (let s : State := (wInlet 0).modPower fun x => { x with dieUp := false };
    let a : Agent := 1;
    let v : Word := 5;
    let p := Pg.inlet;
    decide (s.writeCode a p R.HS_WINDOW.off = .ok ∧ levelsFit v.toNat (s.rd p R.HS_LEVELS.off).toNat = false))) = true := by
  decide +kernel

def wFuse (n : Nat) : State :=
  ((wInlet 5).setF Pg.inlet R.HS_STATUS_PGOOD).put Pg.fuses (R.FUSE_STATUS_STATE 2) n |>.modPower fun x => { x with fsupMet := true }

/-- The hypotheses of `Obligations.FusesAndMeters`, clause by clause, hold somewhere. -/
theorem test_witness_FusesAndMeters :
  ((let s : State := (List.range 8).foldl (fun (t : State) j => t.putB Pg.fuses (R.FUSE_CFG_EN j) (j == 2)) (wFuse 0);
    let b : Fin 8 := 2;
    decide (s.power.dieUp = true ∧ s.fuseMayStart b = true ∧ (∀ j ∈ List.range (b.val), s.fuseMayStart j = false) ∧
      (∀ j ∈ List.range 8, s.fuseState j ≠ 2))) &&
  (let s : State := (wFuse 2).put Pg.fuses (R.FUSE_CFG_RETRY_MODE 2) 2;
    let b : Fin 8 := 2;
    let p := Pg.fuses;
    decide (s.power.dieUp = true ∧ s.fuseState b = 2 ∧ s.on p (R.FUSE_STATUS_IN_LIMIT b) = false ∧
      s.on p (R.FUSE_STATUS_TIMER_RUN b) = false)) &&
  (let s : State := (wFuse 2).put Pg.fuses (R.FUSE_CFG_RETRY_MODE 2) 2;
    let b : Fin 8 := 2;
    decide (s.power.dieUp = true ∧ s.fuseState b = 2)) &&
  (let s : State := (wFuse 2).put Pg.fuses (R.FUSE_CFG_RETRY_MODE 2) 2;
    let b : Fin 8 := 2;
    let p := Pg.fuses;
    decide (s.power.dieUp = true ∧ s.fuseState b = 2 ∧ s.get p (R.FUSE_CFG_RETRY_MODE b) = 2)) &&
  (let s : State := wFuse 1;
    let b : Fin 8 := 2;
    decide (s.power.dieUp = true ∧ s.fuseState b = 1)) &&
  (let s : State := wFuse 3;
    let b : Fin 8 := 2;
    decide (s.power.dieUp = true ∧ s.fuseState b = 3)) &&
  (let s : State := (List.range 8).foldl (fun (t : State) j => t.putB Pg.fuses (R.FUSE_CFG_EN j) (j == 2)) (wFuse 0);
    decide (s.power.dieUp = true)) &&
  (let s : State := (List.range 8).foldl (fun (t : State) j => t.putB Pg.fuses (R.FUSE_CFG_EN j) (j == 2)) (wFuse 0);
    decide (s.power.dieUp = true ∧ s.power.fsupMet = true ∧ (∀ j ∈ List.range 8, s.fuseState j ≠ 2 ∧ s.fuseState j ≠ 3))) &&
  (let s : State := ((wFuse 0).modPower fun x => { x with fsupMet := false }).setF Pg.fuses ⟨R.FUSE_FAULT.off, 2, 1⟩;
    let a : Agent := 1;
    let b : Fin 8 := 2;
    let p := Pg.fuses;
    let flt : Fld := ⟨R.FUSE_FAULT.off, b, 1⟩;
    decide (s.power.dieUp = true ∧ s.writeCode a p R.FUSE_FAULT.off = .ok ∧ s.on p flt = true ∧ s.power.fsupMet = false)) &&
  (let s : State := (wFuse 4).setF Pg.fuses ⟨R.FUSE_FAULT.off, 2, 1⟩;
    let a : Agent := 1;
    let b : Fin 8 := 2;
    let p := Pg.fuses;
    let flt : Fld := ⟨R.FUSE_FAULT.off, b, 1⟩;
    decide (s.power.dieUp = true ∧ s.writeCode a p R.FUSE_FAULT.off = .ok ∧ s.on p flt = true ∧ s.power.fsupMet = true)) &&
  (let s : State := (wFuse 0).modPower fun x => { x with count := 4, sums := Vector.replicate 21 9 };
    decide (s.power.dieUp = true ∧ s.power.count ≠ 0)) &&
  (let s : State := (List.range 8).foldl (fun (t : State) j => t.putB Pg.fuses (R.FUSE_CFG_EN j) (j == 2)) (wFuse 0);
    let a : Agent := 1;
    decide (s.power.dieUp = true ∧ s.writeCode a Pg.meters R.MTR_CMD.off = .ok)) &&
  (let s : State := (List.range 8).foldl (fun (t : State) j => t.putB Pg.fuses (R.FUSE_CFG_EN j) (j == 2)) (wFuse 0);
    let temp : BitVec 11 := 100;
    decide (s.power.dieUp = true ∧ signedOf 11 temp.toNat ≤ 280)) &&
  (let s : State := wFuse 0;
    let temp : BitVec 11 := 300;
    decide (s.power.dieUp = true ∧ 280 < signedOf 11 temp.toNat))) = true := by
  decide +kernel

def wThr : State := live [Pg.thresher, Pg.active, Pg.tlog, Pg.kindTable, Pg.seed]
def wMsg (kind sev : Nat) : FaultMsg := { island := 1, page := 4, kind := kind, sev := sev, tick := 5, addr := 9 }
def wQueue (m : FaultMsg) (s : State) : State := s.modThr fun x => { x with queue := [m] }
/-- Entry 3 of the active table holds a fault of page `p` and a kind. -/
def wAct (p kind : Nat) (s : State) : State := s.wr Pg.active (0x800 + 48) (BitVec.ofNat 32 (2 ^ 31 + kind * 2 ^ 12 + p))
def wEntry (n : Nat) : ThrEntry := { seq := n, words := [BitVec.ofNat 32 n] }
def wAsked (n : Nat) (s : State) : State := (s.setF Pg.active R.CLR_CTRL_BUSY).put Pg.active R.CLR_CTRL_ENTRY n

/-- The hypotheses of `Obligations.ThresherRows`, clause by clause, hold somewhere. -/
theorem test_witness_ThresherRows :
  ((let s : State := wQueue (wMsg 0x20 3) (wAct 4 0x20 wThr);
    let m : FaultMsg := wMsg 0x20 3;
    decide (s.thr.queue = [m] ∧ s.thr.held = [] ∧ m.island < 20) &&
    (match s.heldEntry m with
     | some e => true
     | _ => false)) &&
  (let s : State := (wQueue (wMsg 0x60 1) wThr).setF Pg.thresher R.THR_STATUS_FF_VALID |>.wr Pg.kindTable (4 * 0x60) 0;
    let m : FaultMsg := wMsg 0x60 1;
    let p := Pg.thresher;
    decide (s.thr.queue = [m] ∧ s.thr.held = [] ∧ m.island < 20 ∧ s.heldEntry m = none ∧ m.sev < 2 ∧
      (s.rd Pg.kindTable (4 * m.kind)).toNat % 2 = 0 ∧ s.on p R.THR_STATUS_FF_VALID = true)) &&
  (let s : State := wThr.modThr fun x => { x with persist := [wEntry 1] };
    (match s.thr.persist with
     | e :: l => decide (s.storeOpen = true)
     | _ => false)) &&
  (let s : State := wQueue (wMsg 0x20 3) (wAct 4 0x20 wThr);
    let a : Agent := 1;
    let q := Pg.active;
    decide (s.writeCode a q R.CLR_CTRL.off = .ok ∧ s.on q R.CLR_CTRL_BUSY = false)) &&
  (let s : State := wAsked 3 wThr;
    let q := Pg.active;
    decide (s.on q R.CLR_CTRL_BUSY = true) &&
    (let e := s.get q R.CLR_CTRL_ENTRY;
    decide (s.actValid e = false))) &&
  (let s : State := wAsked 3 (wAct 4 0x05 wThr);
    let q := Pg.active;
    decide (s.on q R.CLR_CTRL_BUSY = true) &&
    (let e := s.get q R.CLR_CTRL_ENTRY;
    decide (s.clearReason e = 1))) &&
  (let s : State := wAsked 3 (wAct 0x20 0x02 { wThr with die := { up := true } });
    let q := Pg.active;
    decide (s.on q R.CLR_CTRL_BUSY = true) &&
    (let e := s.get q R.CLR_CTRL_ENTRY;
    decide (s.clearReason e = 0 ∧ s.actKind e ≠ K.DIE_LINK_LOST))) &&
  (let s : State := (wQueue (wMsg 0x60 1) wThr).setF Pg.thresher R.THR_STATUS_FF_VALID |>.wr Pg.kindTable (4 * 0x60) 0;
    let a : Agent := 1;
    let p := Pg.thresher;
    decide (s.writeCode a p R.THR_CTRL.off = .ok) &&
    (let u := (s.putB p R.THR_CTRL_SAFE_FORCE (s.on p R.THR_CTRL_SAFE_FORCE)).safeRefresh;
    decide (u.actUsed = []))) &&
  (let s : State := wQueue (wMsg 0x20 3) (wAct 4 0x20 wThr);
    let a : Agent := 1;
    let p := Pg.thresher;
    decide (s.writeCode a p R.THR_CTRL.off = .ok))) = true := by
  decide +kernel

def wEpoch : State :=
  let s := live [Pg.epoch, Pg.digest, Pg.master, Pg.time, Pg.signal, Pg.routes]
  (((s.setF Pg.identity R.NODE_ID_VALID).setF Pg.time R.TIME_STATUS_TIME_VALID).setF Pg.master R.MASTER_ID_VALID).put Pg.master
    R.MASTER_ID_NODE 2
/-- The hub is the master, in RUN. -/
def wMaster2 : State := (wEpoch.setF Pg.master R.RING_STATUS_IS_MASTER).put Pg.master R.RING_STATUS_STATE 4
def wRun : EpochRun := { num := 5, time := 9000000, all_ := false, list_ := [8, 12], by_ := 8, tag := 3 }
def wEMsg : EpochMsg := { num := 5, time := 9000000, by_ := 8, tag := 3 }
def wHas (r : EpochRun) : State := wMaster2.modEpoch fun x => { x with run := some r }
def wDist (i : Nat) (s : State) : State := s.wr Pg.routes (0x800 + 4 * (i / 2)) 0x0C000C00

/-- The hypotheses of `Obligations.EpochsAndDigests`, clause by clause, hold somewhere. -/
theorem test_witness_EpochsAndDigests :
  ((let s : State := { wEpoch with staged := [(regKey Pg.core 0x40, 1)] };
    let a : Agent := 1;
    let p := Pg.epoch;
    decide (s.writeCode a p R.EP_CMD.off = .ok ∧ s.stagingClosed = false ∧ s.staged ≠ [])) &&
  (let s : State := wEpoch.clrF Pg.time R.TIME_STATUS_TIME_VALID;
    let a : Agent := 1;
    let p := Pg.epoch;
    decide (s.writeCode a p R.EP_CMD.off = .ok ∧ s.timeValid = false)) &&
  (let s : State := { wEpoch with staged := [(regKey Pg.core 0x40, 1)] };
    let a : Agent := 1;
    let p := Pg.epoch;
    decide (s.writeCode a p R.EP_CMD.off = .ok) &&
    (let time := (s.rd p R.EP_REQ_TIME_LO.off).toNat + 2 ^ 32 * (s.rd p R.EP_REQ_TIME_HI.off).toNat;
    let lead := Nat.max 100 (s.get p R.EP_CFG_LEAD_MIN_US) * 1000;
    decide (s.domainOn 1 = true ∧ s.timeValid = true ∧ time < s.now + lead))) &&
  (let s : State := wDist 8 (wEpoch.wr Pg.epoch R.EP_REQ_TIME_LO.off 90000000);
    let a : Agent := 1;
    let i : Nat := 8;
    let p := Pg.epoch;
    decide (s.writeCode a p R.EP_CMD.off = .ok) &&
    (let time := (s.rd p R.EP_REQ_TIME_LO.off).toNat + 2 ^ 32 * (s.rd p R.EP_REQ_TIME_HI.off).toNat;
    let lead := Nat.max 100 (s.get p R.EP_CFG_LEAD_MIN_US) * 1000;
    decide (s.domainOn 1 = true ∧ s.timeValid = true ∧ s.now + lead ≤ time ∧ s.epoch.waiting = none ∧
      s.isMaster = false ∧ s.masterIndex = some i ∧ s.nodeValid = true ∧ s.ownerReachable i = true))) &&
  (let s : State := wEpoch.modEpoch fun x => { x with waiting := some 3 };
    let a : Agent := 1;
    let i : Nat := 8;
    let tag : Nat := 3;
    let p := Pg.epoch;
    decide (s.writeCode a p R.EP_CMD.off = .ok ∧ s.epoch.waiting = some tag ∧ s.epoch.thermal = none ∧
      s.isMaster = false ∧ s.masterIndex = some i)) &&
  (let s : State := wHas wRun;
    let b : List Byte := wEMsg.bytes;
    let m : EpochMsg := (epochOf wEMsg.bytes).getD wEMsg;
    let r : EpochRun := wRun;
    let p := Pg.epoch;
    decide (s.ready p = true ∧ epochOf b = some m ∧ s.isMaster = true ∧ s.epoch.run = some r)) &&
  (let s : State := wDist 8 wMaster2;
    let src : Fin 1024 := 8;
    let b : List Byte := wEMsg.bytes;
    let m : EpochMsg := (epochOf wEMsg.bytes).getD wEMsg;
    let p := Pg.epoch;
    decide (s.ready p = true ∧ epochOf b = some m ∧ s.isMaster = true ∧ s.epoch.run = none ∧ s.domainOn 1 = true ∧
      s.timeValid = true ∧ s.ringState = 4 ∧
      s.now + Nat.max 100 (s.get p R.EP_CFG_GUARD_US) * 1000 + 2 * (s.rd Pg.master R.LOOP_NS.off).toNat + 200000 ≤ m.time ∧ m.ring = false ∧ m.list_ = [] ∧ s.ownerReachable src = true)) &&
  (let s : State := { wEpoch with staged := [(regKey Pg.core 0x40, 1)] };
    let src : Fin 1024 := 8;
    let b : List Byte := wEMsg.bytes;
    let m : EpochMsg := (epochOf wEMsg.bytes).getD wEMsg;
    let p := Pg.epoch;
    decide (s.ready p = true ∧ epochOf b = some m ∧ s.masterIndex = some src.val ∧ s.epochNum < m.num ∧
      s.epochState ≠ 2 ∧ s.inScope m = false)) &&
  (let s : State := (wEpoch.put Pg.epoch R.EP_STATE_STATE 1).wr Pg.epoch R.EP_PEND_NUM.off 5;
    let src : Fin 1024 := 8;
    let b : List Byte := wEMsg.bytes;
    let m : EpochMsg := (epochOf wEMsg.bytes).getD wEMsg;
    let p := Pg.epoch;
    decide (s.ready p = true ∧ epochOf b = some m ∧ s.masterIndex = some src.val ∧ s.epochNum < m.num ∧
      s.epochState = 1 ∧ s.rd p R.EP_PEND_NUM.off = BitVec.ofNat 32 m.num)) &&
  (let s : State := wHas wRun;
    let src : Fin 1024 := 8;
    let b : List Byte := { wEMsg with outcome := 4 : EpochMsg }.bytes;
    let m : EpochMsg := (epochOf { wEMsg with outcome := 4 : EpochMsg }.bytes).getD wEMsg;
    let r : EpochRun := wRun;
    let p := Pg.epoch;
    decide (s.ready p = true ∧ epochOf b = some m ∧ s.epoch.run = some r ∧ r.decision = none ∧ m.num = r.num ∧
      src.val ∈ r.list_ ∧ m.outcome ≠ 0)) &&
  (let s : State := (wHas wRun).clrF Pg.digest R.DIG_CFG_CHECK_STAGED;
    let src : Fin 1024 := 8;
    let b : List Byte := wEMsg.bytes;
    let m : EpochMsg := (epochOf wEMsg.bytes).getD wEMsg;
    let r : EpochRun := wRun;
    let p := Pg.epoch;
    let q := Pg.digest;
    decide (s.ready p = true ∧ epochOf b = some m ∧ s.epoch.run = some r ∧ r.decision = none ∧ m.num = r.num ∧
      src.val ∈ r.list_ ∧ m.outcome = 0 ∧ s.on q R.DIG_CFG_CHECK_STAGED = false ∧
      r.list_.all (addNew src.val r.votes).contains = false)) &&
  (let s : State := wHas wRun;
    let src : Fin 1024 := 8;
    let b : List Byte := wEMsg.bytes;
    let m : EpochMsg := (epochOf wEMsg.bytes).getD wEMsg;
    let r : EpochRun := wRun;
    let p := Pg.epoch;
    decide (s.ready p = true ∧ epochOf b = some m ∧ s.epoch.run = some r ∧ r.decision = none ∧ m.tag = r.tag ∧
      r.by_ = src.val)) &&
  (let s : State := wHas wRun;
    let r : EpochRun := wRun;
    let p := Pg.epoch;
    decide (s.ready p = true ∧ s.epoch.run = some r ∧ r.decision = none)) &&
  (let s : State := wHas { wRun with decision := some (0, none) };
    let r : EpochRun := { wRun with decision := some (0, none) };
    let p := Pg.epoch;
    decide (s.ready p = true ∧ s.epoch.run = some r ∧ r.decision.isSome = true ∧ r.sent < 2)) &&
  (let s : State := wEpoch.put Pg.master R.RING_STATUS_STATE 4;
    let p := Pg.epoch;
    decide (s.ready p = true ∧ s.epoch.voteWaits = false)) &&
  (let s : State := wEpoch.put Pg.master R.RING_STATUS_STATE 4;
    let i : Nat := 8;
    let p := Pg.epoch;
    decide (s.ready p = true ∧ s.ringState = 4 ∧ s.isMaster = false ∧ s.masterIndex = some i)) &&
  (let s : State := wMaster2.clrF Pg.digest R.DIG_CFG_COMPARE_EN;
    let b : List Byte := List.replicate 16 1;
    let p := Pg.epoch;
    let q := Pg.digest;
    decide (s.ready p = true ∧ s.isMaster = true ∧ b.length = 16 ∧ s.on q R.DIG_CFG_COMPARE_EN = false)) &&
  (let s : State := wDist 8 wMaster2;
    let src : Fin 1024 := 8;
    let p := Pg.epoch;
    let q := Pg.digest;
    decide (s.ready p = true ∧ s.isMaster = true ∧ bitOf (s.route src) 10 = true ∧
      s.on q (State.missingBit src) = false))) = true := by
  decide +kernel

/-- Ralusk runs with policy `n` in act mode. -/
def wPol (n : Nat) : State :=
  let s := live [Pg.ralusk, Pg.dlog, Pg.bridge, Pg.epoch, Pg.seed, Pg.prime, Pg.time, Pg.master, Pg.engine 2, Pg.bank 0]
  (s.put Pg.ralusk R.RALUSK_STATUS_STATE 2).wr Pg.ralusk R.POLICY_MODE.off (BitVec.ofNat 32 (2 * 4 ^ n))
def wReqOf (w : Bool) (src : ReqSrc) : Req := { src := src, agent := 1, addr := 0, write := w, len := 4 }
def wSlots (x : Slot) (s : State) : State := s.modBridge fun g => { g with slots := [x] }
def wSlotOf (r : Req) : Slot := { n := 5, gen := 0, req := r }
/-- Side 2 is enabled at the full rate and the step of THERM_RATE_C is 85. -/
def wHot (n : Nat) : State := (wPol 4).put Pg.ralusk R.THERM_CFG_THERM_RATE_C n |>.setF (Pg.link 2) R.PAGE_CTRL_ENABLE
def wCanPair : State :=
  let s := (wPair.put Pg.ralusk R.RALUSK_STATUS_STATE 2).wr Pg.ralusk R.POLICY_MODE.off 0x8000
  ((s.wr Pg.ralusk 0x078 2).put (Pg.mode 2 6) R.CAN_ERR_TEC 200).put Pg.ralusk R.CAN_POL_CAN_SWAP_DELTA 8

/-- The hypotheses of `Obligations.RaluskPolicies`, clause by clause, hold somewhere. -/
theorem test_witness_RaluskPolicies :
  ((let s : State := (wPol 0).put Pg.ralusk R.RALUSK_STATUS_STATE 1;
    let a : Agent := 1;
    let p := Pg.ralusk;
    decide (s.writeCode a p R.POLICY_MODE.off = .ok)) &&
  (let s : State := (wPol 0).put Pg.ralusk R.RALUSK_STATUS_STATE 1;
    let a : Agent := 1;
    let p := Pg.ralusk;
    decide (s.writeCode a p R.RALUSK_CTRL.off = .ok ∧ s.ral.limit = false)) &&
  (let s : State := (wPol 0).put Pg.ralusk R.RALUSK_STATUS_STATE 1;
    decide (s.domainOn 0 = true ∧ s.raluskState = 1)) &&
  (let s : State := (wPol 0).put Pg.ralusk R.RALUSK_STATUS_STATE 1;
    let j : BitVec 14 := 0;
    decide (s.domainOn 0 = true) &&
    (let t := s.sensed j.toNat;
    decide (t.thermRate = none))) &&
  (let s : State := wHot 85;
    let k : Fin 4 := 0;
    let j : BitVec 14 := BitVec.ofNat 14 (200 + 3 * 0x1000);
    decide (s.domainOn 0 = true) &&
    (let t := s.sensed j.toNat;
    (match t.thermRate with
     | some n => decide (2 * (n : Int) ≤ t.junction ∧ s.policyAct 4 = true ∧ s.ral.rateJobs = []) &&
    (match (List.range 7).filter (fun k => t.pageOn (Pg.link k) && t.sideEnabled k && t.sideFast k) with
     | [e] => true
     | _ => false)
     | _ => false))) &&
  (let s : State := (wHot 85).modRal fun r => { r with lowered := [2] };
    let j : BitVec 14 := BitVec.ofNat 14 100;
    let p := Pg.ralusk;
    decide (s.domainOn 0 = true) &&
    (let t := s.sensed j.toNat;
    (match t.thermRate with
     | some n => decide (t.junction < 2 * ((n : Int) - clamp 1 15 (t.get p R.THERM_CFG_THERM_HYST)) ∧
       s.policyAct 4 = true ∧ s.ral.rateJobs = []) &&
    (match s.ral.lowered with
     | [e] => true
     | _ => false)
     | _ => false))) &&
  (let s : State := wPol 0;
    let j : BitVec 14 := BitVec.ofNat 14 300;
    decide (s.domainOn 0 = true) &&
    (let t := s.sensed j.toNat;
    decide (State.junctionMax < t.junction))) &&
  (let s : State := ((((wPol 0).setF (Pg.lane 3) R.LANE_CFG_EQ_ADAPT).put (Pg.lane 3) R.LANE_STATUS_STATE 5).put (Pg.lane 3) R.RX_EQ_CTLE 0 |>.put (Pg.lane 3) R.EQ_BOUNDS_CTLE_MAX 9);
    let l : LaneId := 3;
    let mid : BitVec 64 := 1000;
    let hi : BitVec 64 := 0;
    let p := Pg.ralusk;
    let ln := Pg.lane l;
    decide (s.policyAct 0 = true ∧ s.pageOn ln = true ∧ s.on ln R.LANE_CFG_EQ_ADAPT = true ∧
      s.on ln R.EYE_CTRL_HOLD = false ∧ s.laneSt l = 5 ∧ l.val ∉ s.ral.eqVga ∧
      s.get ln R.RX_EQ_CTLE ≤ s.get ln R.EQ_BOUNDS_CTLE_MIN ∧ s.get ln R.RX_EQ_CTLE < s.get ln R.EQ_BOUNDS_CTLE_MAX ∧
      hi.toNat < mid.toNat ∧ 100 * hi.toNat ≤ (100 - clamp 1 100 (s.get p R.EQ_CFG_EQ_HYST)) * mid.toNat)) &&
  (let s : State := (((wPol 1).setF Pg.master R.RING_STATUS_IS_MASTER)).modRing fun g => { g with breaks := [{ ring := 0, x := 8, y := 9, xDown := true, yDown := true }] };
    let ring : Fin 2 := 0;
    let x : Fin 1024 := 8;
    decide (s.domainOn 4 = true ∧ s.isMaster = true ∧ s.policyAct 1 = true) &&
    (match s.ring.breaks with
     | [e] => decide (e.ring = ring.val ∧ e.x = x.val ∧ e.xDown = true ∧ e.steered = false)
     | _ => false)) &&
  (let s : State := wPol 2;
    decide (s.domainOn 4 = true ∧ s.policyDecides 2 = true ∧ s.core.queued = [])) &&
  (let s : State := wPol 0;
    let tag : BitVec 16 := 9;
    let aux : BitVec 16 := 1;
    decide (s.domainOn 4 = true ∧
      s.bridge.slots.find? (fun z => z.n == tag.toNat % 256 && z.gen == tag.toNat / 256 % 256) = none ∧
      s.bridge.past = [] ∧ aux.toNat ≠ 0)) &&
  (let s : State := wSlots (wSlotOf (wReqOf true (.port 1))) (wPol 0);
    let tag : BitVec 16 := 5;
    let aux : BitVec 16 := 0;
    let y : Slot := wSlotOf (wReqOf true (.port 1));
    decide (s.domainOn 4 = true ∧
      s.bridge.slots.find? (fun z => z.n == tag.toNat % 256 && z.gen == tag.toNat / 256 % 256) = some y ∧
      s.readGone y.req = false ∧ y.req.write = true ∧ aux.toNat ≠ 0xA)) &&
  (let s : State := wSlots (wSlotOf (wReqOf false (.engine 0))) (wPol 0);
    let slot : BitVec 8 := 5;
    let y : Slot := wSlotOf (wReqOf false (.engine 0));
    decide (s.bridge.slots.find? (·.n == slot.toNat) = some y ∧ y.req.src = .engine 0)) &&
  (let s : State := (wPol 3).wr Pg.power R.PD_REQ.off 0x7FFFF;
    let d : Fin 19 := 11;
    decide (s.policyAct 3 = true) &&
    (let before := (s.rd Pg.power R.PD_REQ.off).toNat;
    decide (s.domainOn d = true ∧ bitOf before d = true ∧ s.shedIdle d = true ∧
      bitOf (s.rd Pg.power R.PD_LOCK.off).toNat d = false ∧ s.overridden d = false ∧ s.stagingClosed = false))) &&
  (let s : State := ((wPol 3).put (Pg.link 0) R.LINK_STATUS_STATE 3).setF (Pg.link 0) R.LINK_CFG_LP_ALLOWED;
    let k : Fin 4 := 0;
    decide (s.policyAct 3 = true) &&
    (let q := Pg.link k;
    decide (s.linkActive k = true ∧ s.on q R.LINK_CFG_LP_ALLOWED = true ∧ s.on q R.LINK_CTRL_LP_REQ = false ∧
      s.overridden (32 + k) = false))) &&
  (let s : State := (wPol 5).put Pg.time R.TIME_STATUS_STATE 4;
    decide (s.policyDecides 5 = true ∧ s.domainOn 1 = true ∧ s.on Pg.time R.TIME_CFG_SERVO_SW = false ∧ 3 ≤ s.servo)) &&
  (let s : State := wCanPair;
    let c : Fin 64 := 1;
    let p := Pg.ralusk;
    let e := Pg.engine (2 * c);
    let tec (n : Nat) : Nat := s.get (Pg.mode n 6) R.CAN_ERR_TEC;
    decide (s.pageOn e = true ∧ s.policyAct 7 = true ∧ bitOf (s.rd p (0x078 + 4 * (c / 32))).toNat (c % 32) = true ∧
      s.engMode (2 * c) = 6 ∧ s.canPaired (2 * c) = true ∧ s.canRole (2 * c) = 1 ∧
      tec (2 * c + 1) + s.get p R.CAN_POL_CAN_SWAP_DELTA < tec (2 * c) ∧
      s.get (Pg.mode (2 * c + 1) 6) R.CAN_STATUS_STATE = 0 ∧ look c s.ral.swapped = 0 ∧ s.overridden (64 + c) = false ∧
      s.engUp (2 * c + 1) = true)) &&
  (let s : State := ((((wPol 0).setF Pg.master R.MASTER_ID_VALID).put Pg.master R.MASTER_ID_NODE 2).modEpoch fun z => { z with waiting := some 3 });
    let src : Fin 1024 := 8;
    let b : List Byte := { by_ := (wPol 0).selfIndex, tag := 3 : EpochMsg }.bytes;
    decide (s.ready Pg.epoch = true) &&
    (match epochOf b with
     | some m => decide (s.masterIndex = some src.val ∧ m.by_ = s.selfIndex) &&
    (match s.epoch.waiting with
     | some t => decide (m.tag = t ∧ s.epoch.thermal = none ∧ m.outcome = 0)
     | _ => false)
     | _ => false))) = true := by
  decide +kernel

def wFree : State := live [Pg.identity, Pg.grants, Pg.security] |>.wr Pg.identity R.OWNER_STATUS.off 0xFFFF
def wHeld : State := live [Pg.identity, Pg.grants, Pg.security]
/-- A block of signature `x`, `x` with owner key 0x20. -/
def wBlockOf (x : Nat) : List Byte := beBytes 48 x ++ beBytes 48 x ++ List.replicate 32 0
def wOwnKey (k : Nat × Nat) (s : State) : State := { s with sec := { s.sec with otp := [(0x20, keyToBytes (some k))] } }
/-- The SHA-384 of the purpose 1, a nonce of 3 and the identifier 0, and a key under which it signs itself (see `wDigest`). -/
def wReclaimSig : Nat := 0xd2d91dd935433753e71db2901fdd25587a6dc57661a11cdae598187ee87df2bdb201b7608cab5ca82f78c3704d7ca6a1
def wReclaimKey : Nat × Nat :=
  (0xecde2d65bff06f55f79bfd5fe0f34bbf743f403314e59e8dc59fbd4dd8412af8ea7e9b758a5028c8ae5be13861b11a30,
   0x6228f25b3232bcb348c4f7b8522d5b8e753cde15c7bddc824ee994cce47ee2f0ccda2005f95cec53eba1d9fc1a72127c)
def wReclaim : State :=
  let s := wOwnKey wReclaimKey (wHeld.wr Pg.identity 0x800 3)
  { s with reclaim := { checking := some 2 }, sec := { s.sec with sigReclaim := wBlockOf wReclaimSig } }

/-- The hypotheses of `Obligations.OwnerToken`, clause by clause, hold somewhere. -/
theorem test_witness_OwnerToken :
  ((let s : State := wFree;
    let a : Agent := 1;
    let p := Pg.identity;
    decide (s.get Pg.security R.SEC_STATUS_ACCESS = 0 ∧ s.writeCode a p R.OWNER_CLAIM.off = .ok ∧ s.held = false ∧
      agentKind a ≠ 3)) &&
  (let s : State := wHeld;
    let a : Agent := 1;
    let p := Pg.identity;
    decide (s.get Pg.security R.SEC_STATUS_ACCESS = 0 ∧ s.writeCode a p R.OWNER_RELEASE.off = .ok ∧ s.isOwner a = true)) &&
  (let s : State := wHeld;
    let a : Agent := 1;
    decide ((s.held = true ∨ agentKind a = 3))) &&
  (let s : State := wFree;
    let a : Agent := 1;
    let v : Word := 0;
    let p := Pg.identity;
    decide (s.writeCode a p R.OWNER_CLAIM.off = .ok ∧ v ≠ 0xC1A1)) &&
  (let s : State := wFree;
    let a : Agent := 1;
    let p := Pg.identity;
    decide (s.writeCode a p R.RECLAIM_CTRL.off = .ok ∧ s.on p R.RECLAIM_CTRL_BUSY = false ∧ s.sec.badRandom = false)) &&
  (let s : State := { wHeld with reclaim := { valid := true, by_ := 1 } };
    let a : Agent := 1;
    let p := Pg.identity;
    decide (s.writeCode a p R.RECLAIM_CTRL.off = .ok ∧ s.on p R.RECLAIM_CTRL_BUSY = false ∧ s.reclaim.valid = true ∧
      s.reclaim.by_ = a)) &&
  (let s : State := wFree;
    let a : Agent := 1;
    let p := Pg.identity;
    decide (s.writeCode a p R.RECLAIM_CTRL.off = .ok ∧ s.on p R.RECLAIM_CTRL_BUSY = false ∧
      (s.reclaim.valid = false ∨ s.reclaim.by_ ≠ a))) &&
  (let s : State := { wHeld with reclaim := { making := some 2 } };
    let b : Agent := 2;
    decide (s.reclaim.making = some b)) &&
  (let s : State := { wHeld with reclaim := { checking := some 0xF001 } };
    let b : Agent := 0xF001;
    decide (s.reclaim.checking = some b ∧ agentKind b = 3)) &&
  (let s : State := wReclaim;
    let b : Agent := 2;
    let p := Pg.identity;
    decide (s.reclaim.checking = some b ∧ agentKind b ≠ 3 ∧
      s.responseHolds 1 (s.rdWindow p 0x800 8) s.sec.sigReclaim = true ∧ s.isOwner b = false))) = true := by
  decide +kernel

def wSec : State := live [Pg.security, Pg.identity, Pg.chaff 0, Pg.chaff 5, Pg.bringUp]
def wOpenSig : Nat := 0xced7855443f413bca740b0420f51abcc9f1821f5cec5ba001fcb08881a2308ff674aa8673ddabc4efc092049bc584031
def wOpenKey : Nat × Nat :=
  (0x6ae8618fd69a799cbdb783275ff859550f84735f9c1f86276da105c87774356c130f64a2400a19c25fb07122f1387467,
   0xaf7cdf2e309ec5f45d33c8a3dbc44c79b8fead0b0fa13e6a69a73bda4945cdb67e6ab03ec40a874941ef0a895f756eaa)
def wOpening : State :=
  let s := wOwnKey wOpenKey (wSec.wr Pg.security 0x800 1)
  { s with sec := { s.sec with sigOpen := wBlockOf wOpenSig, opening := { valid := true, by_ := 1 } } }
def wPass : State :=
  let s := wSec.put Pg.security R.PASS_LEN 8
  { s with sec := { s.sec with otp := [(0x30, sha384 (leBytes 8 0 ++ List.replicate 8 0))] } }
def wAccess (n : Nat) : State := wSec.put Pg.security R.SEC_STATUS_ACCESS n
def wChaff : State := wSec.setF (Pg.chaff 0) R.CH_CTRL_RUN

/-- The hypotheses of `Obligations.SecurityRows`, clause by clause, hold somewhere. -/
theorem test_witness_SecurityRows :
  ((let s : State := wSec;
    let a : Agent := 1;
    let sel : Byte := 0x21;
    let p := Pg.security;
    decide (s.writeCode a p R.OTP_CMD.off = .ok ∧ s.on p R.OTP_STATUS_BUSY = false ∧ s.otpRefusal sel.toNat true ≠ 0)) &&
  (let s : State := wSec.modSec fun x => { x with data := keyToBytes (some wOpenKey) };
    let a : Agent := 1;
    let sel : Byte := 0x20;
    let p := Pg.security;
    decide (s.writeCode a p R.OTP_CMD.off = .ok ∧ s.on p R.OTP_STATUS_BUSY = false ∧ s.otpRefusal sel.toNat true = 0)) &&
  (let s : State := wSec;
    let a : Agent := 1;
    let sel : Byte := 0x21;
    let p := Pg.security;
    decide (s.writeCode a p R.OTP_CMD.off = .ok ∧ s.on p R.OTP_STATUS_BUSY = false ∧ s.otpRefusal sel.toNat false ≠ 0)) &&
  (let s : State := wOwnKey wOpenKey (wAccess 2) |>.modSec fun x => { x with otp := x.otp ++ [(0x21, keyToBytes (some wReclaimKey))] };
    let a : Agent := 1;
    let sel : Byte := 0x20;
    let p := Pg.security;
    decide (s.writeCode a p R.OTP_CMD.off = .ok ∧ s.on p R.OTP_STATUS_BUSY = false ∧ s.otpRefusal sel.toNat false = 0)) &&
  (let s : State := wSec.modSec fun x => { x with job := some (0x20, true, [1]) };
    (match s.sec.job with
     | some (n, true, d) => true
     | _ => false)) &&
  (let s : State := wSec;
    let a : Agent := 1;
    let p := Pg.security;
    decide (s.writeCode a p R.ATTEST_CTRL.off = .ok ∧ s.sec.badRandom = false ∧ s.on p R.ATTEST_CTRL_BUSY = false)) &&
  (let s : State := wSec.modSec fun x => { x with attesting := true };
    decide (s.sec.attesting = true)) &&
  (let s : State := wSec.modSec fun x => { x with badRandom := true };
    let a : Agent := 1;
    let p := Pg.security;
    decide (s.writeCode a p R.OPEN_CTRL.off = .ok ∧ s.sec.badRandom = true)) &&
  (let s : State := wSec;
    let a : Agent := 1;
    let p := Pg.security;
    decide (s.writeCode a p R.OPEN_CTRL.off = .ok ∧ s.sec.badRandom = false)) &&
  (let s : State := wSec;
    let a : Agent := 1;
    let p := Pg.security;
    decide (s.writeCode a p R.OPEN_CTRL.off = .ok ∧ State.ownerSels.any s.otpGood = false)) &&
  (let s : State := wOwnKey wOpenKey (wAccess 2) |>.modSec fun x => { x with otp := x.otp ++ [(0x21, keyToBytes (some wReclaimKey))] };
    let a : Agent := 1;
    let p := Pg.security;
    decide (s.writeCode a p R.OPEN_CTRL.off = .ok ∧ State.ownerSels.any s.otpGood = true ∧
      (s.sec.opening.valid = false ∨ s.sec.opening.by_ ≠ a))) &&
  (let s : State := wOpening;
    let a : Agent := 1;
    let p := Pg.security;
    decide (s.writeCode a p R.OPEN_CTRL.off = .ok ∧ State.ownerSels.any s.otpGood = true ∧ s.sec.opening.valid = true ∧
      s.sec.opening.by_ = a ∧ s.responseHolds 2 (s.rdWindow p 0x800 8) s.sec.sigOpen = true)) &&
  (let s : State := wSec;
    let a : Agent := 1;
    let p := Pg.security;
    decide (s.writeCode a p R.OPEN_CTRL.off = .ok ∧ s.passInUse = none)) &&
  (let s : State := wPass;
    let a : Agent := 1;
    let p := Pg.security;
    decide (s.writeCode a p R.OPEN_CTRL.off = .ok) &&
    (let len := s.get p R.PASS_LEN % 64;
    (match s.passInUse with
     | some n => decide (s.on Pg.bringUp R.BRINGUP_STATUS_STRAP_NORESTORE = false ∧ s.get p R.PASS_FAILS % 16 < 8 ∧
       s.sec.passUntil ≤ s.ns ∧ 8 ≤ len ∧ len ≤ 32 ∧
       s.otpRec n = some (sha384 (leBytes 8 s.uid ++ bytesAt s.sec.pass 0 len)))
     | _ => false))) &&
  (let s : State := (wAccess 1).wr Pg.power R.PD_ON.off 0;
    let a : Agent := 1;
    let p := Pg.security;
    decide (s.writeCode a p R.OPEN_CTRL.off = .ok ∧ s.get p R.SEC_STATUS_ACCESS ≠ 0 ∧ s.domainOn 0 = false)) &&
  (let s : State := (wAccess 1).wr Pg.power R.PD_ON.off 0;
    let p := Pg.security;
    decide (s.get p R.SEC_STATUS_ACCESS ≠ 0 ∧ s.domainOn 0 = false)) &&
  (let s : State := wOwnKey wOpenKey (wAccess 2) |>.modSec fun x => { x with otp := x.otp ++ [(0x21, keyToBytes (some wReclaimKey))] };
    let a : Agent := 1;
    let p := Pg.security;
    decide (s.writeCode a p R.SEC_LOCK.off = .ok)) &&
  (let s : State := wOwnKey wOpenKey (wAccess 2) |>.modSec fun x => { x with otp := x.otp ++ [(0x21, keyToBytes (some wReclaimKey))] };
    let a : Agent := 1;
    let p := Pg.security;
    decide (s.writeCode a p R.SEC_LOCK.off = .ok ∧ s.unlocked = true)) &&
  (let s : State := wAccess 1;
    let a : Agent := 1;
    let v : Word := 1;
    let ch := Pg.chaff 0;
    decide (s.writeCode a ch R.CH_CTRL.off = .ok) &&
    (let t := s.storeWrite ch R.CH_CTRL.off v;
    decide (s.on ch R.CH_CTRL_RUN = false ∧ t.on ch R.CH_CTRL_RUN = true ∧ bitOf v.toNat 1 = false ∧
      t.on ch R.CH_CTRL_CH_START_EN = false))) &&
  (let s : State := wAccess 1;
    let a : Agent := 1;
    let v : Word := 5;
    let ch := Pg.chaff 0;
    decide (s.writeCode a ch R.CH_CTRL.off = .ok) &&
    (let t := s.storeWrite ch R.CH_CTRL.off v;
    decide (s.on ch R.CH_CTRL_RUN = false ∧ t.on ch R.CH_CTRL_RUN = true ∧ bitOf v.toNat 1 = false ∧
      t.on ch R.CH_CTRL_CH_START_EN = true ∧ t.timeValid = false))) &&
  (let s : State := wOwnKey wOpenKey (wAccess 2) |>.modSec fun x => { x with otp := x.otp ++ [(0x21, keyToBytes (some wReclaimKey))] };
    let a : Agent := 1;
    let ch := Pg.chaff 0;
    decide (s.writeCode a ch R.CH_CTRL.off = .ok)) &&
  (let s : State := wChaff;
    let ch := Pg.chaff 0;
    decide (s.domainOn 0 = true ∧ s.on ch R.CH_CTRL_RUN = true)) &&
  (let s : State := { wChaff with chaff := { waiting := true } };
    let ch := Pg.chaff 0;
    decide (s.domainOn 0 = true ∧ s.on ch R.CH_CTRL_RUN = true ∧ s.chaff.waiting = true)) &&
  (let s : State := (wAccess 1).setF (Pg.chaff 0) R.CH_STATUS_RUNNING |>.wr (Pg.chaff 5) R.FI_MSG_LO.off 0xFF000;
    let a : Agent := 1;
    let v : Word := 0x20;
    decide (s.writeCode a (Pg.chaff 5) R.FI_CMD.off = .ok ∧ s.unlocked = true ∧ bitOf v.toNat 5 = true) &&
    (let t := s.storeWrite (Pg.chaff 5) R.FI_CMD.off (BitVec.ofNat 32 (bitsPut v.toNat 5 1 0));
    decide (t.chaffRuns = true ∧ kindSeverity (bitsOf (t.rd (Pg.chaff 5) R.FI_MSG_LO.off).toNat 12 8) = none))) &&
  (let code : Byte := 0;
    decide ((code = 0 ∨ code = 4 ∨ code = 5))) &&
  (let s : State := wSec;
    let code : Byte := 2;
    decide (2 ≤ code.toNat ∧ code.toNat ≤ 3 ∧ s.sec.jtag = none))) = true := by
  decide +kernel

def wUp : State := live [Pg.power, Pg.bringUp, Pg.inlet, Pg.identity, Pg.seed, Pg.rails, Pg.core]
def wDead : State := { wUp with die := { met := true, lost := true }, power := { wUp.power with dieUp := true } }
def wReq2 (on req : Nat) : State := (wUp.wr Pg.power R.PD_ON.off (BitVec.ofNat 32 on)).wr Pg.power R.PD_REQ.off (BitVec.ofNat 32 req)

/-- The hypotheses of `Obligations.DomainsAndReadiness`, clause by clause, hold somewhere. -/
theorem test_witness_DomainsAndReadiness :
  ((let s : State := { wUp with die := { up := true, watch := true } };
    decide (s.die.up = true ∧ s.die.retraining = false)) &&
  (let s : State := { wUp with die := { up := true, watch := true } };
    decide (s.die.watch = true)) &&
  (let s : State := wDead;
    decide (s.power.dieUp = true ∧ s.die.up = false ∧ s.die.met = true ∧ s.die.lost = true)) &&
  (let s : State := (wUp.wr Pg.power R.PD_ON.off 1);
    let p : BitVec 9 := 8;
    let d : Fin 19 := 3;
    decide (pageUsed p.toNat = true ∧ s.pageOn p.toNat = true ∧ s.domainOn d = false)) &&
  (let s : State := { wUp with die := { up := true, watch := true } };
    let bu := Pg.bringUp;
    decide (s.on bu R.BRINGUP_STATUS_AON_LOCKED = false)) &&
  (let s : State := { wUp with die := { up := true, watch := true } };
    let a : Agent := 1;
    let w := Pg.power;
    decide (s.writeCode a w R.PD_REQ.off = .ok)) &&
  (let s : State := { wUp with die := { up := true, watch := true } };
    let a : Agent := 1;
    let p : BitVec 9 := 0x100;
    decide (s.writeCode a p.toNat R.PAGE_CTRL.off = .ok) &&
    (match domainOf p.toNat with
     | some e => true
     | _ => false)) &&
  (let s : State := (wUp.wr Pg.power R.PD_ON.off 1);
    let w := Pg.power;
    decide (s.ready w = true ∧ s.on w R.PD_BUSY_BUSY = false) &&
    (match s.nextRequest with
     | some (e, b) => decide (s.switchReason e b = 0)
     | _ => false)) &&
  (let s : State := wReq2 0 0x800;
    let w := Pg.power;
    decide (s.ready w = true ∧ s.on w R.PD_BUSY_BUSY = false) &&
    (match s.nextRequest with
     | some (e, b) => decide (s.switchReason e b ≠ 0)
     | _ => false)) &&
  (let s : State := wUp.wr Pg.power R.PD_BUSY.off 7;
    (match s.switching false with
     | some e => true
     | _ => false)) &&
  (let s : State := wUp.wr Pg.power R.PD_BUSY.off 71;
    (match s.switching true with
     | some e => true
     | _ => false)) &&
  (let s : State := { (wUp.wr Pg.power R.PD_ON.off 0) with power := { wUp.power with dieUp := true } };
    let rail : Fin 6 := 2;
    let w := Pg.power;
    decide (s.power.dieUp = true ∧ 1 ≤ rail.val ∧ (∀ e ∈ List.range 19, s.domainOn e = false) ∧
      s.on w R.PD_BUSY_BUSY = false)) &&
  (let s : State := { wUp with die := { up := true, watch := true } };
    let p : BitVec 9 := 0x100;
    decide (s.mayRestore p.toNat = true ∧ p.toNat ≠ Pg.security)) &&
  (let s : State := ((aonPages.foldl (fun (t : State) q => t.setF q R.PAGE_STATUS_READY) wUp).setF 0x30 R.PAGE_STATUS_RESTORED).setF Pg.bringUp R.BRINGUP_STATUS_AON_LOCKED;
    let p : BitVec 9 := 0x30;
    decide (pageUsed p.toNat = true ∧ s.on p.toNat R.PAGE_STATUS_RESTORED = true ∧ s.startable p.toNat = true ∧
      s.ready p.toNat = false) &&
    (match State.referenceOf p.toNat with
     | some f => true
     | _ => false)) &&
  (let s : State := wUp.setF 0x11 R.PAGE_STATUS_RESTORED;
    let p : BitVec 9 := 0x11;
    decide (s.on p.toNat R.PAGE_STATUS_RESTORED = true ∧ pageUsed p.toNat = true ∧ s.startable p.toNat = true ∧
      s.ready p.toNat = false ∧ State.referenceOf p.toNat = none ∧ p.toNat ≠ Pg.seed)) &&
  (let p : BitVec 9 := 6;
    decide (aonPages.contains p.toNat = true)) &&
  (let s : State := { wUp with die := { up := true, watch := true } };
    let isl : Fin 19 := 0;
    decide (s.islandRuns isl = true)) &&
  (let s : State := { wUp with die := { up := true, watch := true } };
    decide (s.domainOn 4 = true))) = true := by
  decide +kernel

/-- The hypotheses of `Obligations.ResetRows`, clause by clause, hold somewhere. -/
theorem test_witness_ResetRows :
  ((let s : State := wUp.setF 6 R.PAGE_CTRL_SOFT_RESET;
    let a : Agent := 1;
    let p : BitVec 9 := 6;
    decide (s.writeCode a p.toNat R.PAGE_CTRL.off = .ok ∧ s.pageShut p.toNat = false)) &&
  (let s : State := wUp.setF 6 R.PAGE_CTRL_SOFT_RESET;
    let p : BitVec 9 := 6;
    decide (s.softReset p.toNat = true)) &&
  (let s : State := wUp.setF 6 R.PAGE_CTRL_SOFT_RESET;
    let a : Agent := 1;
    let v : Word := 0;
    decide (s.writeCode a Pg.bringUp R.BRINGUP_CMD.off = .ok ∧ v.toNat % 2 ^ 16 ≠ 0x5EED)) &&
  (let s : State := wUp;
    let a : Agent := 1;
    let v : Word := 0x15EED;
    decide (s.writeCode a Pg.bringUp R.BRINGUP_CMD.off = .ok ∧ v.toNat % 2 ^ 16 = 0x5EED ∧ bitOf v.toNat 16 = true ∧
      s.isOwner a = true)) &&
  (let s : State := { wUp with thr := { wUp.thr with fatal := true } };
    decide (s.thr.fatal = true)) &&
  (let s : State := wUp.setF 6 R.PAGE_CTRL_SOFT_RESET;
    let p : BitVec 9 := 6;
    let k := regKey 7 0x40;
    decide (s.regs.wf factoryWord = true ∧ keyPage k ≠ p.toNat)) &&
  (let s : State := wUp.setF 6 R.PAGE_CTRL_SOFT_RESET;
    let p : BitVec 9 := 6;
    let k := regKey 6 0x10;
    decide (s.regs.wf factoryWord = true ∧ keyPage k = p.toNat ∧ State.keptKey k = false ∧
      liveMask (k / 0x1000000) (k % 0x1000000) = 0)) &&
  (let k := regKey 0x21 0x40;
    let q := keyPage k;
    decide (0x020 ≤ q ∧ q ≤ 0x027 ∧ k % 0x1000000 ≠ R.PAGE_STATUS.off)) &&
  (let k := regKey 6 0x40;
    let q := keyPage k;
    decide ((q < 0x020 ∨ 0x027 < q ∨ k % 0x1000000 = R.PAGE_STATUS.off)))) = true := by
  decide +kernel

def wUpd (n : Nat) : State := (live [Pg.update, Pg.updateData, Pg.seed]).put Pg.update R.UPD_STATUS_STATE n
/-- The supply is good and the hold-up long enough. -/
def wSupply (s : State) : State :=
  (((s.wr Pg.meters (R.MTR_AVG 0).off 24000).setF Pg.inlet R.HS_STATUS_PGOOD).put Pg.update R.UPD_SUPPLY_HOLDUP_US 500)
def wPeer (s : State) : State := s.put Pg.bringUp R.BRINGUP_STATUS_STRAP_POS 1
def wStream (s : State) (b : List Byte) : State := { s with upd := { s.upd with stream := b } }
/-- A stream whose table names one part, of no total length; the header is wrong. -/
def wBytes (n : Nat) : List Byte := leBytes 4 0x53544B31 ++ leBytes 2 1 ++ leBytes 2 1 ++ leBytes 4 7 ++ List.replicate n 0
/-- A well-formed, signed manifest of one empty part of kind 1 for position 3, under update key 1. -/
def wManifest : List Byte :=
  leBytes 4 0x53544B31 ++ leBytes 2 1 ++ leBytes 2 1 ++ leBytes 4 14 ++ leBytes 4 0 ++ leBytes 4 96 ++ [1, 0, 0, 0] ++
    leBytes 2 0x1280 ++ [0, 255] ++ List.replicate 36 0 ++ [1, 8, 255, 0] ++ leBytes 4 96 ++ List.replicate 24 0
/-- The SHA-384 of the manifest as a number, which is also the x coordinate of the sum of the key and the base point: with it
for r and for s the signature holds. -/
def wDigest : Nat := 0x5c0fe4d363d977937ae12a07b65f17a722ea041232741eb34f86d6c608f2556ba4caca553c66035e5530978851914238
def wKey : Nat × Nat :=
  (0x4f7dc7ab1cbbea71006f0781e8a35d03f9e795d66a6ca83b59071435d09b07870df30c07b6c571a619cd8bb2137802cc,
   0x9299059dc5b2e489a3e2c033cb774f223b9cdc3474dc9de8d74722a2e27d0cd99bb9b9c3c6656581af4f1864d7cc8966)
def wSigned : State :=
  let s := wStream (wUpd 2) (wManifest ++ (beBytes 48 wDigest ++ beBytes 48 wDigest))
  { s with sec := { s.sec with otp := [(0x11, keyToBytes (some wKey))] } }

/-- The hypotheses of `Obligations.UpdateStaging`, clause by clause, hold somewhere. -/
theorem test_witness_UpdateStaging :
  ((let s : State := wSupply (wUpd 0);
    let a : Agent := 1;
    let p := Pg.update;
    decide (s.writeCode a p R.UPD_CMD.off = .ok ∧ s.updCode (s.updState != 0) = 0)) &&
  (let s : State := wSigned;
    let a : Agent := 1;
    let p := Pg.update;
    decide (s.writeCode a p R.UPD_CMD.off = .ok ∧ s.updCode (s.updState != 0) ≠ 0)) &&
  (let s : State := wUpd 0;
    let a : Agent := 1;
    let p := Pg.update;
    decide (s.writeCode a p R.UPD_CMD.off = .ok ∧ s.updState = 0)) &&
  (let s : State := wUpd 7;
    let a : Agent := 1;
    let p := Pg.update;
    decide (s.writeCode a p R.UPD_CMD.off = .ok ∧ (s.updState = 7 ∨ s.updState = 8))) &&
  (let s : State := wSigned;
    let a : Agent := 1;
    let p := Pg.update;
    decide (s.writeCode a p R.UPD_CMD.off = .ok ∧ 1 ≤ s.updState ∧ s.updState ≤ 6 ∧ s.upd.lead = none ∧
      s.upd.peers = [])) &&
  (let s : State := wUpd 1;
    decide (s.domainOn 0 = true ∧ s.updState = 1 ∧ s.upd.lead = none)) &&
  (let s : State := wStream (wUpd 2) (List.replicate 4094 1);
    let a : Agent := 1;
    let q := Pg.updateData;
    decide (s.writeCode a q R.UPD_DATA.off = .ok ∧ s.updState = 2 ∧ s.upd.lead = none ∧
      Stook.full s.upd.stream = false ∧ s.updSpace < 4 ∧ s.upd.peers = [])) &&
  (let s : State := wUpd 2;
    let a : Agent := 1;
    let v : Word := 0;
    let q := Pg.updateData;
    decide (s.writeCode a q R.UPD_DATA.off = .ok ∧ s.updState = 2 ∧ s.upd.lead = none ∧
      Stook.full s.upd.stream = false ∧ 4 ≤ s.updSpace ∧ s.upd.peers = [] ∧
      (Stook.tableHere s.upd.stream = true ∨ Stook.tableHere (s.upd.stream ++ leBytes 4 v.toNat) = false))) &&
  (let s : State := wStream (wUpd 2) (wBytes 200);
    decide (s.domainOn 0 = true ∧ s.updState = 2 ∧ Stook.full s.upd.stream = true) &&
    (let st := s.upd.stream;
    decide ((s.updVerify st).1 ≠ 0))) &&
  (let s : State := wSigned;
    decide (s.domainOn 0 = true ∧ s.updState = 2 ∧ Stook.full s.upd.stream = true) &&
    (let st := s.upd.stream;
    decide ((s.updVerify st).1 = 0))) &&
  (let s : State := wSupply (wPeer (wUpd 0));
    let k : LinkId := 6;
    decide (4 ≤ k.val ∧ s.domainOn 0 = true ∧ s.hubPos ≠ 0 ∧ s.posAt k = 0) &&
    (let c := s.updCode (s.updState != 0);
    decide (c = 0))) &&
  (let s : State := wSupply (wPeer (wUpd 4));
    let k : LinkId := 6;
    decide (4 ≤ k.val ∧ s.domainOn 0 = true ∧ s.hubPos ≠ 0 ∧ s.posAt k = 0) &&
    (let c := s.updCode (s.updState != 0);
    decide (c ≠ 0))) &&
  (let s : State := wStream (wPeer (wUpd 2)) (wBytes 100);
    let k : LinkId := 6;
    let b : List Byte := leBytes 4 0 ++ leBytes 4 112 ++ [1, 2, 3, 4];
    decide (s.updFromLead k b = true ∧ s.updState = 2 ∧ leNat (bytesAt b 4 4) = s.upd.stream.length ∧ s.upd.peers = [] ∧
      s.upd.stream.length - s.upd.programmed + (b.drop 8).length ≤ 4096 ∧ Stook.tableHere s.upd.stream = true)) &&
  (let s : State := wStream (wPeer (wUpd 2)) (wBytes 100);
    let k : LinkId := 6;
    let b : List Byte := leBytes 4 0 ++ leBytes 4 112 ++ [1, 2, 3, 4];
    decide (s.updFromLead k b = true ∧ 1 ≤ s.updState ∧ s.updState ≤ 3)) &&
  (let s : State := wPeer (wUpd 5);
    let k : LinkId := 6;
    let b : List Byte := leBytes 4 0 ++ [12];
    decide (s.updFromLead k b = true) &&
    (let c := (b.getD 4 0).toNat;
    decide (s.updState = 5 ∧ c ≠ 14))) &&
  (let s : State := { wUpd 0 with seed := { (wUpd 0).seed with commit := some (1, false), buf := [{ key := 1, val := 2, seq := 0 }] } };
    (match s.seed.commit with
     | some (n, false) => decide (s.seed.again = false ∧ (s.writeRecs n).seed.buf.length < 256 ∧ s.upd.image = none)
     | _ => false))) = true := by
  decide +kernel

def wLead (k h : Nat) (s : State) : State := { s with upd := { s.upd with peers := [h] } }
def wTrial (g : List Nat) (lead : Nat) (s : State) : State :=
  { (s.put Pg.update R.UPD_STATUS_STATE 8).put Pg.ralusk R.RALUSK_STATUS_STATE 2 with
    seed := { s.seed with trial := some { group := g, lead := lead, mark := 0 } } }

/-- The hypotheses of `Obligations.UpdateCommitAndTrial`, clause by clause, hold somewhere. -/
theorem test_witness_UpdateCommitAndTrial :
  ((let s : State := wUpd 4;
    let a : Agent := 1;
    let p := Pg.update;
    decide (s.writeCode a p R.UPD_CMD.off = .ok ∧ s.updState = 4 ∧ s.upd.arm = false ∧ s.updCode false ≠ 0)) &&
  (let s : State := wSupply (wUpd 4);
    let a : Agent := 1;
    let p := Pg.update;
    let phase (t : State) (arm : Bool) : State := t.modUpd fun u => { u with votes := [], arm := arm };
    decide (s.writeCode a p R.UPD_CMD.off = .ok ∧ s.updState = 4 ∧ s.upd.arm = false ∧ s.updCode false = 0 ∧
      s.upd.peers = []) &&
    (let t := (phase s false).updTo 5;
    decide (t.interlockActive = false))) &&
  (let s : State := wSupply (wUpd 4);
    let a : Agent := 1;
    let p := Pg.update;
    decide (s.writeCode a p R.UPD_CMD.off = .ok ∧ s.updState = 4 ∧ s.upd.arm = false ∧ s.updCode false = 0 ∧
      s.upd.peers = [])) &&
  (let s : State := (wTrial [0] 0 (wUpd 8)).put Pg.ralusk R.RALUSK_STATUS_STATE 1;
    let a : Agent := 1;
    let p := Pg.update;
    decide (s.writeCode a p R.UPD_CMD.off = .ok ∧ s.updState = 8 ∧ s.groupReady = false)) &&
  (let s : State := (wTrial [0] 0 (wUpd 8)).setF Pg.update R.UPD_CFG_AUTO_CONFIRM;
    let a : Agent := 1;
    let p := Pg.update;
    decide (s.writeCode a p R.UPD_CMD.off = .ok ∧ s.updState = 8 ∧ s.groupReady = true ∧ s.trialPeers = [])) &&
  (let s : State := (wTrial [0] 0 (wUpd 8)).setF Pg.update R.UPD_CFG_AUTO_CONFIRM;
    let a : Agent := 1;
    let p := Pg.update;
    decide (s.writeCode a p R.UPD_CMD.off = .ok ∧ s.updState = 8 ∧ s.groupReady = true ∧ s.trialPeers = [] ∧
      s.on p R.UPD_CFG_AUTO_CONFIRM = true)) &&
  (let s : State := (wTrial [0] 0 (wUpd 8)).put Pg.ralusk R.RALUSK_STATUS_STATE 1;
    let a : Agent := 1;
    let p := Pg.update;
    decide (s.writeCode a p R.UPD_CMD.off = .ok ∧ s.updState = 8 ∧ s.trialLead = true ∧ s.trialPeers = [])) &&
  (let s : State := wSupply (wPeer (wUpd 4));
    let k : LinkId := 6;
    let b : List Byte := leBytes 4 0 ++ [1];
    decide (s.updFromLead k b = true ∧ s.updState = 4 ∧ s.updCode false = 0)) &&
  (let s : State := wPeer (wUpd 4);
    let k : LinkId := 6;
    let b : List Byte := leBytes 4 0;
    decide (s.updFromLead k b = true ∧ s.updState = 4 ∧ s.updCode false ≠ 0)) &&
  (let s : State := wPeer (wUpd 5);
    let k : LinkId := 6;
    let b : List Byte := leBytes 4 0;
    decide (s.updFromLead k b = true ∧ s.updState = 5 ∧ s.interlockActive = false)) &&
  (let s : State := (wPeer (wUpd 5)).wr Pg.update R.UPD_INTERLOCK.off 1;
    let k : LinkId := 6;
    let b : List Byte := leBytes 4 0;
    decide (s.updFromLead k b = true ∧ s.updState = 5 ∧ s.interlockActive = true)) &&
  (let s : State := wPeer (wTrial [0, 1] 0 (wUpd 8));
    let k : LinkId := 6;
    let b : List Byte := leBytes 4 0;
    decide (s.updFromLead k b = true ∧ s.updState = 8)) &&
  (let s : State := wLead 4 1 (wUpd 5);
    let k : LinkId := 4;
    let b : List Byte := leBytes 4 0 ++ [2];
    decide (s.updFromPeer k b = true ∧ s.updState = 5 ∧ s.upd.peers = [s.posAt k] ∧ s.upd.votes = [] ∧
      (b.getD 4 0).toNat ≠ 0)) &&
  (let s : State := wLead 4 1 (wUpd 5);
    let k : LinkId := 4;
    let b : List Byte := leBytes 4 0 ++ [2];
    decide (s.updFromPeer k b = true ∧ s.updState = 5 ∧ s.upd.peers = [s.posAt k] ∧ s.upd.votes = [])) &&
  (let s : State := { wUpd 5 with upd := { lead := some 6 } };
    decide (s.updState = 5 ∧ s.upd.lead.isSome = true)) &&
  (let s : State := wPeer (wUpd 5);
    decide (s.updState = 5 ∧ s.upd.lead = none)) &&
  (let s : State := wUpd 7;
    decide (s.updState = 7)) &&
  (let s : State := wTrial [0, 1] 0 (wUpd 8);
    let k : LinkId := 4;
    let b : List Byte := leBytes 4 0 ++ [1, 0, 0, 0] ++ leBytes 4 0;
    decide (4 ≤ k.val ∧ s.domainOn 0 = true ∧ s.hubPos = 0 ∧ s.updState = 8 ∧ s.trialPeers.contains (s.posAt k) = true ∧
      leNat (bytesAt b 8 4) = s.bootedId)) &&
  (let s : State := wSupply (wUpd 4);
    let r := s.switchTime;
    decide (r.2 = false)) &&
  (let s : State := (((wUpd 6).put Pg.epoch R.EP_STATE_STATE 2).setF Pg.master R.RING_STATUS_STATE);
    let r := s.switchTime;
    decide (r.2 = true ∧ r.1.updState = 6 ∧ r.1.interlockActive = false)) &&
  (let s : State := (((wUpd 6).put Pg.epoch R.EP_STATE_STATE 2)).wr Pg.update R.UPD_INTERLOCK.off 1;
    let r := s.switchTime;
    decide (r.2 = true ∧ r.1.updState = 6 ∧ r.1.interlockActive = true)) &&
  (let s : State := (wTrial [0] 0 (wUpd 8)).put Pg.ralusk R.RALUSK_STATUS_STATE 1;
    decide (s.domainOn 0 = true ∧ s.raluskState ≠ 0 ∧ s.ral.limit = false) &&
    (let l := s.recentRestarts;
    decide (l.length < 2))) &&
  (let s : State := { (wUpd 0).put Pg.ralusk R.RALUSK_STATUS_STATE 2 with ral := { restarts := [1, 2] } };
    decide (s.domainOn 0 = true ∧ s.raluskState ≠ 0 ∧ s.ral.limit = false) &&
    (let l := s.recentRestarts;
    decide (2 ≤ l.length)))) = true := by
  decide +kernel
/-! ### Steps and their end -/

/-- The hypotheses of `Obligations.StepRunsCommand` hold somewhere. -/
theorem test_witness_StepRunsCommand :
    (State.reset.withCommand .claimResend).pending = [.claimResend] ∧ State.reset.pending = [] := ⟨rfl, rfl⟩

/-- The hypothesis of `Obligations.StepEndFrame` holds somewhere. -/
theorem test_witness_StepEndFrame : State.reset.Quiet := ⟨rfl, fun _ h => nomatch h⟩

/-! ### Numbers that the spec gives -/

/-- The ASCII string "123456789" over which R90, R93 and R98 give check values. -/
def nine : List Byte := [0x31, 0x32, 0x33, 0x34, 0x35, 0x36, 0x37, 0x38, 0x39]

theorem test_crc8 : crcMsb 8 0x07 0 nine = 0xF4 := by decide +kernel
theorem test_crc16 : crcMsb 16 0x1021 0xFFFF nine = 0x29B1 := by decide +kernel
theorem test_crc32c : crc32c nine = 0xE3069283 ∧ crc32c [] = 0 := by decide +kernel

/-- The digests of "abc" that FIPS 180-4 gives. -/
theorem test_sha256 :
    beNat (sha256 [0x61, 0x62, 0x63]) = 0xba7816bf8f01cfea414140de5dae2223b00361a396177a9cb410ff61f20015ad := by decide +kernel
theorem test_sha384 :
    beNat (sha384 [0x61, 0x62, 0x63]) =
      0xcb00753f45a35e8bb5a03d699ac65007272c32ab0eded1631a8b605a43ff5bed8086072ba1e7cc2358baeca134c825a7 := by decide +kernel

/-- The packaging line of the worked example of 11_field_lines.md: coils on outputs 0 to 17, a heater band on 18, lamps on 29
to 31, all on, with their ranks. -/
def cartoner : State :=
  let s := (List.range 19 ++ [29, 30, 31]).foldl (fun (t : State) o => t.setF Pg.fout (R.FOUT_STAT_ON o)) wField
  [29, 30, 31].foldl (fun (t : State) o => t.put Pg.foutCfg (R.FOUT_CFG_SHED o) 3) (s.put Pg.foutCfg (R.FOUT_CFG_SHED 18) 2)

/-- The currents of the example, in mA, with the outputs of a list off. -/
def cartonerMa (off : List Nat) : List (BitVec 12) :=
  (List.range 32).map fun o =>
    if off.contains o then 0 else if o < 18 then 280 else if o = 18 then 450 else if 29 ≤ o then 200 else 0

/-- Steps 2 to 4 of the example: outputs 31, 30 and 29 are shed, then shedding stops. -/
def shed2 : State := cartoner.shed (cartonerMa []) 6000
def shed3 : State := shed2.shed (cartonerMa [31]) 5500
def shed4 : State := shed3.shed (cartonerMa [31, 30]) 5500

theorem test_shed_first :
    (cartoner.foutMeasure (cartonerMa [])).get Pg.fout R.FOUT_AGG_MA = 6090 ∧
      shed2.on Pg.fout (R.FOUT_STAT_SHED 31) = true ∧
      shed2.on Pg.fout (R.FOUT_STAT_SHED 30) = false ∧ shed2.field.shedding = true := by decide +kernel

/-- The signature of `wSigned`'s manifest holds (R560), and of no other key's. -/
theorem test_signature :
    ecdsaHolds wKey wManifest wDigest wDigest = true ∧ ecdsaHolds wOpenKey wManifest wDigest wDigest = false := by
  decide +kernel

/-! ### Ill-formed commands -/

/-- A list of a length. -/
def zs {α : Type} [Inhabited α] (n : Nat) : List α := List.replicate n default

/-! A term for each check of `Instr.wf`, one bound broken in each: the check refuses it. -/

theorem test_wf_refuses_1 :
    ([(.frameHeader 0 (zs 23) 0 0), (.frameEnd 0 0 (zs 257) (zs 8) false 0), (.frameEnd 0 0 (zs 1) (zs 7) false 0),
        (.claim 0 (zs 257)), (.position 0 (zs 257)), (.ringInfo 0 (zs 257)), (.announce 0 (zs 257)),
        (.assignNode 0 (zs 257)), (.masterBeacon 0 (zs 257)), (.wrapNotice 0 (zs 257)), (.unwrapNotice 0 (zs 257)),
        (.routeUpdate 0 (zs 257)), (.dataRingSwitch 0 (zs 257)), (.sourceUpdate 0 (zs 33) false 0),
        (.sourceUpdate 0 (zs 0) false 0), (.hostPublishWrite 0 0 (zs 257)), (.hostPublishWrite 0 0 (zs 0)),
        (.conflictNotice 0 (zs 257)), (.arm 0 (zs 257)), (.cancel 0 (zs 257)), (.result 0 (zs 257)),
        (.hostBar4Write 0 (zs 257)), (.hostBar4Write 0 (zs 0)),
        (.raRead 0 0 0 0 (zs 257))] : List Instr).all (fun c => !c.wf) = true := by
  decide +kernel

theorem test_wf_refuses_2 :
    ([(.raWritePosted 0 false 0 (zs 257)), (.raWriteNp 0 0 0 0 (zs 257)), (.raCompletion 0 0 0 (zs 257)),
        (.raFarError 0 0 (zs 257)), (.downstreamUnit 0 0 .ok (zs 241)), (.rawRecord 0 0 0 0 (zs 241)),
        (.spiTransaction 0 (zs 257) 0), (.spiTargetSelect 0 (zs 257) 0), (.i2cTransaction 0 0 .ok (zs 257) 0),
        (.i2cTargetAccess 0 false 0 false (zs 257) false 0),
        (.canFrameReceived 0 .good 0 false false false false 0 (zs 65) 0), (.aggregateShed (zs 31)),
        (.shedNext (zs 31)), (.pdelayReq 0 (zs 257) 0), (.pdelayResp 0 (zs 257) 0), (.sync 0 (zs 257) 0 0),
        (.ptpAnnounce 0 (zs 257)), (.pcieMemWrite .bar0 0 (zs 257) (zs 1)), (.pcieMemWrite .bar0 0 (zs 0) (zs 1)),
        (.pcieMemWrite .bar0 0 (zs 1) (zs 2)), (.cmd 0 (zs 1025)), (.consoleOutPacket 0 (zs 513)),
        (.request 0 (zs 257)), (.prepare 0 (zs 257))] : List Instr).all (fun c => !c.wf) = true := by
  decide +kernel

theorem test_wf_refuses_3 :
    ([(.vote 0 (zs 257)), (.commitEpoch 0 (zs 257)), (.abortEpoch 0 (zs 257)), (.epochResult 0 (zs 257)),
        (.epochCancelReceived 0 (zs 257)), (.digestBeacon 0 (zs 257)), (.updateStartReceived 0 (zs 257)),
        (.updateDataReceived 0 (zs 257)), (.updatePrepare 0 (zs 257)), (.updateVote 0 (zs 257)),
        (.updateCommitReceived 0 (zs 257)), (.updateAbortReceived 0 (zs 257)), (.trialReady 0 (zs 257)),
        (.updateConfirmReceived 0 (zs 257)), (.updateRejectReceived 0 (zs 257)),
        (.meterSample 0 0 0 0 (zs 7))] : List Instr).all (fun c => !c.wf) = true := by
  decide +kernel


end Sys2Proof.Tests
end

section
/-! SUPPORT. What each meaning of bring-up does to the state under the condition it tests: the die-to-die link, channels,
clocks, the switching of domains, rail dips, restore and READY. -/

namespace Sys2Proof.Machine.State

open Sys2Proof (Word Agent AccessKind)

variable (s : State)

/-! ### Conditions and checks -/

theorem when_of_true {b : Bool} (f : State → State) (h : b = true) : s.when b f = f s := if_pos h

/-- A command write that passes the check has its effect, and nothing else. -/
theorem guarded_ok {a : Agent} {kind : AccessKind} {p off : Nat} (f : State → State)
    (h : s.writeCode a p off = .ok) : s.guarded a kind p off f = f s := by
  simp [guarded, guardedAt, h]

/-! ### What a fault and a counter leave alone -/

/-- Counting reaches no page but its own. -/
theorem rd_countN_page_ne {p q r : Nat} (f : Fld) (n : Nat) (hf : f.off < 0x1000000) (hr : r < 0x1000000) (h : q ≠ p) :
    (s.countN p f n).rd q r = s.rd q r :=
  s.regs_countN_ne p f n (regKey_ne hr hf (.inl h)) (regKey_ne hr (by decide) (.inl h))

/-- Of the registers, queueing a fault message writes those of the Thresher's page only. -/
theorem rd_queueFault_ne {q r : Nat} (m : FaultMsg) (hr : r < 0x1000000) (h : q ≠ Pg.thresher) :
    (s.queueFault m).rd q r = s.rd q r := by
  have hcount : (s.count Pg.thresher R.CNT_MSG_DISCARDED).rd q r = s.rd q r :=
    s.rd_countN_page_ne R.CNT_MSG_DISCARDED 1 (by decide) hr h
  unfold queueFault
  split
  · rfl
  · split
    · exact hcount
    · split
      · exact hcount
      · rfl

/-- Of the registers, a fault writes those of its page and of the Thresher's only. -/
theorem rd_raise_ne {p q r : Nat} (kind addr : Nat) (hr : r < 0x1000000) (hp : q ≠ p) (ht : q ≠ Pg.thresher) :
    (s.raise p kind addr).rd q r = s.rd q r := by
  unfold raise
  split
  · rfl
  · exact (rd_queueFault_ne _ _ hr ht).trans (s.rd_wr_ne p q _ r _ (by decide) hr (.inl hp))

/-- The same of a fault with its event bit. -/
theorem rd_eventFault_ne {p q r : Nat} (bit kind addr : Nat) (hr : r < 0x1000000) (hp : q ≠ p) (ht : q ≠ Pg.thresher) :
    (s.eventFault p bit kind addr).rd q r = s.rd q r :=
  ((s.event p bit).rd_raise_ne kind addr hr hp ht).trans (s.rd_put_ne p q r _ 1 (by decide : 0x010 < _) hr (.inl hp))

/-! ### The die-to-die link (R6 to R8) -/

theorem dieWord_zero : s.dieWord 0 = s := by simp [dieWord]

theorem dieWord_one (hup : s.die.up = true) (hre : s.die.retraining = false) :
    s.dieWord 1 =
      { s with die := { s.die with corrected := s.die.corrected + 1 } }.raise Pg.inlet K.DIE_LINK_CORRECTED 0 := by
  simp [dieWord, hup, hre]

theorem dieWord_two (hup : s.die.up = true) (hre : s.die.retraining = false) :
    s.dieWord 2 = { s with die := { s.die with retraining := true } }.raise Pg.inlet K.DIE_LINK_ERROR 0 := by
  simp [dieWord, hup, hre]

theorem keepaliveLost_watched (h : s.die.watch = true) :
    s.keepaliveLost =
      { s with die := { s.die with up := false, retraining := false, lost := true } }.finDieLost.safeRefresh := if_pos h

/-- A link that was up before and was lost comes up again: the loss is raised, and no start is recorded. -/
theorem dieLinkUp_again (hdie : s.power.dieUp = true) (hup : s.die.up = false) (hmet : s.die.met = true)
    (hlost : s.die.lost = true) :
    s.dieLinkUp =
      ({ s with die := { s.die with up := true, watch := true } }.modPower fun x => { x with pfdNew := false }).raise
        Pg.inlet K.DIE_LINK_LOST 0 := by
  simp [dieLinkUp, hdie, hup, hmet, hlost]

/-! ### Channels and clocks (R10 to R13) -/

/-- The island of a domain that is off takes no handshake. -/
theorem domainShut_of_off {d : Nat} (h : s.domainOn d = false) : s.domainShut d = true := by simp [domainShut, h]

theorem channel_off {p d : Nat} (hp : pageUsed p = true) (hon : s.pageOn p = true) (hd : s.domainOn d = false) :
    s.channel p (some d) = s.event p 30 := by
  simp [channel, hp, hon, s.domainShut_of_off hd]

theorem crystalTimeout_unlocked (h : s.on Pg.bringUp R.BRINGUP_STATUS_AON_LOCKED = false) :
    s.crystalTimeout =
      ((s.setF Pg.bringUp R.BRINGUP_STATUS_CRYSTAL_ABSENT).event Pg.bringUp E.P005_CRYSTAL_ABSENT).raise Pg.bringUp
        K.CRYSTAL_ABSENT 0 := by
  simp [crystalTimeout, h, eventFault]

/-! ### Requests and switches of domains (R458 to R460) -/

/-- A write of PD_REQ stores the word, counts as an agent's write of every domain, and ends the wait of each domain that it
does not request. -/
theorem poke_pdReq {a : Agent} (v : Word) (h : s.writeCode a Pg.power R.PD_REQ.off = .ok) :
    s.poke a Pg.power R.PD_REQ.off v wrDomains =
      ((List.range 19).foldl touch (s.storeWrite Pg.power R.PD_REQ.off v)).modPower fun x =>
        { x with reset := x.reset.filter fun e => bitOf v.toNat e } := by
  rw [s.poke_ok' a Pg.power R.PD_REQ.off v wrDomains (by decide) (by decide) h, wrDomains, if_pos rfl]

theorem powerReq_domain {p d : Nat} (on : Bool) (h : domainOf p = some d) :
    s.powerReq p on =
      ((s.putKept Pg.power ⟨R.PD_REQ.off, d, 1⟩ (b2n on)).touch d).modPower fun x =>
        { x with reset := if on then x.reset else x.reset.filter (· != d) } := by
  simp only [powerReq, h]

/-- A switch starts only where the power page is READY and no switch is in progress; then its reason decides. -/
theorem switchStart_taken {d : Nat} {on : Bool} (hrdy : s.ready Pg.power = true)
    (hbusy : s.on Pg.power R.PD_BUSY_BUSY = false) (hnext : s.nextRequest = some (d, on)) :
    s.switchStart =
      if s.switchReason d on ≠ 0 then s.switchRefused d on (s.switchReason d on)
      else s.wr Pg.power R.PD_BUSY.off (BitVec.ofNat 32 (1 + 2 * d + 64 * b2n on)) := by
  simp [switchStart, hrdy, hbusy, hnext]

/-! ### Rail dips (R466) -/

/-- While PD_BUSY is clear no domain is being switched. -/
theorem switching_idle (on : Bool) (h : s.on Pg.power R.PD_BUSY_BUSY = false) : s.switching on = none := by
  simp [switching, h]

/-- A dip leaves a domain alone that is off and not being switched. -/
theorem dipDomain_off {d : Nat} (hd : s.domainOn d = false) (hbusy : s.on Pg.power R.PD_BUSY_BUSY = false) :
    s.dipDomain d = s := by
  simp [dipDomain, hd, s.switching_idle _ hbusy]

theorem foldl_dipDomain_off {l : List Nat} (hl : ∀ d ∈ l, s.domainOn d = false)
    (hbusy : s.on Pg.power R.PD_BUSY_BUSY = false) : l.foldl dipDomain s = s := by
  induction l with
  | nil => rfl
  | cons d l ih =>
    rw [List.foldl_cons, s.dipDomain_off (hl d List.mem_cons_self) hbusy]
    exact ih fun e he => hl e (List.mem_cons_of_mem d he)

/-- A rail feeds domains of the table of R458 only. -/
theorem lt_of_mem_railDomains {rail d : Nat} (h : d ∈ railDomains rail) : d < 19 := by
  unfold railDomains at h
  split at h <;> simp at h <;> omega

/-- What a dip of a rail records before it reaches the domains. -/
def dipRecorded (s : State) (rail mv : Nat) : State :=
  ((((s.wr Pg.rails R.RAIL_DIP.off (BitVec.ofNat 32 (2 ^ 31 + mv * 2 ^ 16 + rail))).modPower fun x =>
    { x with dipped := addNew rail x.dipped }).event Pg.rails E.P023_RAIL_DIP).raise Pg.rails K.RAIL_DIP rail)

/-- Recording a dip leaves the registers of the power page as they were. -/
theorem rd_dipRecorded_power (rail mv : Nat) {r : Nat} (hr : r < 0x1000000) :
    (s.dipRecorded rail mv).rd Pg.power r = s.rd Pg.power r :=
  (rd_eventFault_ne _ E.P023_RAIL_DIP K.RAIL_DIP rail hr (by decide) (by decide)).trans
    (s.rd_wr_ne Pg.rails Pg.power R.RAIL_DIP.off r _ (by decide) hr (.inl (by decide)))

/-- A dip of a rail other than VDD_AON, with every domain off and no switch in progress, is recorded and resets nothing. -/
theorem railDip_allOff {rail mv : Nat} (hmv : mv < 2 ^ 12) (hdie : s.power.dieUp = true) (hrail : rail ≠ 0)
    (hoff : ∀ d < 19, s.domainOn d = false) (hbusy : s.on Pg.power R.PD_BUSY_BUSY = false) :
    s.railDip rail mv = s.dipRecorded rail mv := by
  have hfold : (railDomains rail).reverse.foldl dipDomain (s.dipRecorded rail mv) = s.dipRecorded rail mv := by
    refine foldl_dipDomain_off _ (fun d hd => ?_) ?_
    · rw [domainOn, s.rd_dipRecorded_power rail mv (by decide)]
      exact hoff d (lt_of_mem_railDomains (List.mem_reverse.mp hd))
    · rw [on, get, s.rd_dipRecorded_power rail mv (by decide)]
      exact hbusy
  rw [railDip, hdie, Nat.mod_eq_of_lt hmv, if_neg hrail]
  exact hfold

/-! ### Restore and READY (R469 to R475) -/

/-- Only the restore of the security page sets OWNER_LOCK; that of another page brings back its words alone (R590). -/
theorem pageRestored_ne_security {p : Nat} (h : s.mayRestore p = true) (hp : p ≠ Pg.security) :
    s.pageRestored p = s.restorePage p := by
  simp [pageRestored, h, beq_false_of_ne hp]

/-- A page whose reference clock is missing does not become READY: the clock's bit is set, and reported once (R472). -/
theorem pageReady_missing {p : Nat} {f : Fld} (hp : pageUsed p = true) (hres : s.on p R.PAGE_STATUS_RESTORED = true)
    (hstart : s.startable p = true) (hrdy : s.ready p = false) (href : referenceOf p = some f) :
    s.pageReady p true =
      (s.setF Pg.bringUp f).when (!s.on Pg.bringUp f) fun t => t.event Pg.bringUp E.P005_REF_ABSENT := by
  simp [pageReady, hp, hres, hstart, hrdy, href]

/-- A page that needs no reference clock becomes READY, whatever is said of its clock; the seed page reports as well. -/
theorem pageReady_noReference {p : Nat} (missing : Bool) (hp : pageUsed p = true)
    (hres : s.on p R.PAGE_STATUS_RESTORED = true) (hstart : s.startable p = true) (hrdy : s.ready p = false)
    (href : referenceOf p = none) (hseed : p ≠ Pg.seed) :
    s.pageReady p missing = (s.readyChange fun t => (t.setF p R.PAGE_STATUS_READY).event p 29).pageStarts p := by
  simp [pageReady, hp, hres, hstart, hrdy, href, beq_false_of_ne hseed]

/-! ### Faults of the die (R496) -/

theorem sliceFails_on (slice : Nat) (h : s.domainOn 4 = true) :
    s.sliceFails slice =
      (s.modThr fun x => { x with sliceFail := addNew slice x.sliceFail }).raise Pg.core K.CORE_SLICE_FAIL slice := if_pos h

end Sys2Proof.Machine.State
end

section
/-! The settling of the statement on the dies, the domains, the rails and readiness. -/

namespace Sys2Proof.Machine

/-- A command ends its step from the state that its meaning gives. -/
theorem finishAll_of_eq {s t : State} (h : s = t) : finishAll s = .next t.flushSinks.settle := by rw [h]; rfl

/-- Settles O57: each command is the end of a step after one meaning of bring-up (`finishAll_of_eq`), and each meaning is
said above under the condition it tests. The lock that clears CRYSTAL_ABSENT and the touch of every domain by PD_REQ are the
model's choice (log entry 77), as is the record of a refused channel transfer (log entry 78). -/
theorem domainsAndReadiness : Obligations.DomainsAndReadiness := by
  unfold Obligations.DomainsAndReadiness
  intro s a v p off d rail mv isl slice on w bu il done
  refine ⟨fun hup hre => ⟨finishAll_of_eq s.dieWord_zero, finishAll_of_eq (s.dieWord_one hup hre),
      finishAll_of_eq (s.dieWord_two hup hre)⟩, rfl, ?_, ?_, ?_, rfl, ?_, ?_, ?_, ?_, ?_, ?_, ?_, rfl, ?_, ?_, ?_, ?_, ?_, ?_⟩
  · intro hwatch
    exact finishAll_of_eq (s.keepaliveLost_watched hwatch)
  · intro hdie hup hmet hlost
    exact finishAll_of_eq (s.dieLinkUp_again hdie hup hmet hlost)
  · intro hp hon hd
    exact finishAll_of_eq (s.channel_off hp hon hd)
  · intro hlock
    exact finishAll_of_eq (s.crystalTimeout_unlocked hlock)
  · intro hok
    exact finishAll_of_eq (s.poke_pdReq v hok)
  · intro hok e he
    exact finishAll_of_eq ((s.guarded_ok _ hok).trans (s.powerReq_domain on he))
  · intro hrdy hbusy e b hnext
    have htaken := s.switchStart_taken hrdy hbusy hnext
    exact ⟨fun hreason => finishAll_of_eq (htaken.trans (if_neg (not_not_intro hreason))),
      fun hreason => finishAll_of_eq (htaken.trans (if_pos hreason))⟩
  · intro e he
    exact ⟨finishAll_of_eq (by rw [he]; rfl), finishAll_of_eq (by rw [he])⟩
  · intro e he
    exact finishAll_of_eq (by rw [he]; rfl)
  · intro hdie hrail hoff hbusy
    exact finishAll_of_eq (s.railDip_allOff mv.isLt hdie (Nat.pos_iff_ne_zero.mp hrail) hoff hbusy)
  · intro hmay hsecurity
    exact finishAll_of_eq (s.pageRestored_ne_security hmay hsecurity)
  · intro f hp hres hstart hrdy href
    exact finishAll_of_eq (s.pageReady_missing hp hres hstart hrdy href)
  · intro hres hp hstart hrdy href hseed
    exact finishAll_of_eq (s.pageReady_noReference on hp hres hstart hrdy href hseed)
  · intro haon
    exact finishAll_of_eq (s.when_of_true _ haon)
  · intro hrun
    exact finishAll_of_eq (s.when_of_true _ hrun)
  · intro hcore
    exact finishAll_of_eq (s.sliceFails_on slice hcore)

end Sys2Proof.Machine
end

section
/-! SUPPORT. What a register write leaves in its register (R27), and that the journal and the digests, which follow the
change of a Kept word, write no Kept word themselves. -/

namespace Sys2Proof.Machine.State

open Sys2Proof (Word)

variable (s : State)

/-! ### The journal and the digests write no Kept word -/

/-- A Kept word stands at another key than a word that is not Kept. -/
theorem ne_of_keptKey {k j : Nat} (hk : keptKey k = true) (hj : keptKey j = false) : k ≠ j := by
  rintro rfl
  exact absurd hk (by simp [hj])

/-- Queueing a fault message writes no Kept word. -/
theorem regs_queueFault_kept (m : FaultMsg) {k : Nat} (hk : keptKey k = true) :
    (s.queueFault m).regs.get factoryWord k = s.regs.get factoryWord k := by
  have hcount : (s.count Pg.thresher R.CNT_MSG_DISCARDED).regs.get factoryWord k = s.regs.get factoryWord k :=
    s.regs_countN_ne _ _ 1 (ne_of_keptKey hk (by decide)) (ne_of_keptKey hk (by decide))
  unfold queueFault
  split
  · rfl
  · split
    · exact hcount
    · split
      · exact hcount
      · rfl

/-- A fault of a page whose FAULT_LAST is not Kept writes no Kept word. -/
theorem regs_raise_kept {p : Nat} (kind addr : Nat) {k : Nat} (hk : keptKey k = true)
    (hp : keptKey (regKey p R.FAULT_LAST.off) = false) :
    (s.raise p kind addr).regs.get factoryWord k = s.regs.get factoryWord k := by
  unfold raise
  split
  · rfl
  · exact (regs_queueFault_kept _ _ hk).trans (s.regs_wr_ne _ _ _ (ne_of_keptKey hk hp))

/-- Journalling writes no Kept word. -/
theorem regs_journal_kept (j : Nat) (v : Word) {k : Nat} (hk : keptKey k = true) :
    (s.journal j v).regs.get factoryWord k = s.regs.get factoryWord k := by
  unfold journal
  split
  · split
    · dsimp only
      rcases when_cases _ _ _ with h | h <;> rw [h]
      obtain ⟨x, hx⟩ := startCommit_eq _ false
      rw [hx]
    · calc
        _ = _ := regs_raise_kept _ _ _ hk (by decide)
        _ = _ := regs_put_ne _ Pg.seed ⟨0x010, E.P006_JOURNAL_LOST, 1⟩ 1 (ne_of_keptKey hk (by decide))
        _ = _ := regs_put_ne _ Pg.seed R.SEED_STATUS_RESYNC 1 (ne_of_keptKey hk (by decide))
        _ = _ := s.regs_countN_ne Pg.seed R.CNT_JOURNAL_JRN_LOST 1 (ne_of_keptKey hk (by decide))
          (ne_of_keptKey hk (by decide))
  · rfl

/-- A digest that goes out of date writes no Kept word. -/
theorem regs_digestStale_kept (p off : Nat) (old new : Word) (active : Bool) {k : Nat} (hk : keptKey k = true) :
    (s.digestStale p off old new active).regs.get factoryWord k = s.regs.get factoryWord k := by
  have hclr : ∀ (t : State) (f : Fld), f.off = R.DIG_STATUS_STAGED_CURRENT.off →
      (t.clrF Pg.digest f).regs.get factoryWord k = t.regs.get factoryWord k := fun t f hf =>
    t.regs_put_ne Pg.digest f 0 (ne_of_keptKey hk (by rw [hf]; decide))
  unfold digestStale
  split
  · rfl
  · dsimp only
    rcases when_cases _ active _ with h | h <;> rw [h]
    · exact (hclr (s.clrF Pg.digest R.DIG_STATUS_STAGED_CURRENT) R.DIG_STATUS_ACTIVE_CURRENT rfl).trans (hclr s _ rfl)
    · exact hclr s _ rfl

/-! ### The word that a write leaves -/

/-- An active word reads as what was written to it, journalled or not. -/
theorem rd_wrKept_same (p off : Nat) (v : Word) : (s.wrKept p off v).rd p off = v := by
  unfold wrKept
  dsimp only
  split
  case isTrue h =>
    have hk : keptKey (regKey p off) = true := (Bool.and_eq_true_iff.mp h).1
    exact (regs_digestStale_kept _ _ _ _ _ _ hk).trans
      ((regs_journal_kept _ _ _ hk).trans (s.rd_wr_same p off v))
  case isFalse => exact s.rd_wr_same p off v

/-- A word that is not Kept is written alone. -/
theorem wrKept_notKept {p off : Nat} (v : Word) (h : keptKey (regKey p off) = false) : s.wrKept p off v = s.wr p off v := by
  simp [wrKept, h]

/-- The bits of a word under a write of `v`: those of `free` take it, those of `ones` are set and those of `clear` are
cleared by a written 1, and the others stay. -/
theorem bitOf_written (old v : Word) (free ones clear : Nat) {i : Nat} (hi : i < 32) :
    bitOf (((old &&& ~~~(BitVec.ofNat 32 free)) ||| (v &&& BitVec.ofNat 32 free) ||| (v &&& BitVec.ofNat 32 ones)) &&&
        ~~~(v &&& BitVec.ofNat 32 clear)).toNat i =
      (if bitOf clear i && bitOf v.toNat i then false
       else if bitOf ones i && bitOf v.toNat i then true
       else if bitOf free i then bitOf v.toNat i
       else bitOf old.toNat i) := by
  have table : ∀ o x f n c : Bool, ((o && !f || x && f || x && n) && !(x && c)) =
      (if c && x then false else if n && x then true else if f then x else o) := by decide
  simp only [bitOf, BitVec.testBit_toNat, BitVec.getLsbD_and, BitVec.getLsbD_or, BitVec.getLsbD_not, BitVec.getLsbD_ofNat,
    hi, decide_true, Bool.true_and]
  exact table _ _ _ _ _

/-- A write of a register held in place, with no staged bits and away from the event words, is a write of one word, whose
bits follow their access codes (R27, R585). -/
theorem storeWrite_inPlace {p off : Nat} (v : Word) {d : RegDesc} (hd : s.descOf p off = some d)
    (hloc : s.locate p off = (p, off)) (hrwe : d.rwe = 0) (h1 : off ≠ 0x010) (h2 : off ≠ 0x014) :
    ∃ new, s.storeWrite p off v = s.wrKept p off new ∧ ∀ i < 32, bitOf new.toNat i =
      (if bitOf d.w1c i && bitOf v.toNat i then false
       else if bitOf d.w1s i && bitOf v.toNat i then true
       else if bitOf d.rw i || (bitOf d.rwk i && s.unlocked) then bitOf v.toNat i
       else bitOf (s.rd p off).toNat i) := by
  have hall : ∀ i < 32, ∀ n, bitOf (n &&& 0xFFFFFFFF) i = bitOf n i := fun i hi n => by
    rw [bitOf, Nat.testBit_and, Nat.testBit_two_pow_sub_one (n := 32)]
    simp [bitOf, hi]
  refine ⟨_, ?_, fun i hi => (bitOf_written (s.rd p off) v ((d.rw ||| (if s.unlocked then d.rwk else 0)) &&& 0xFFFFFFFF)
    d.w1s (d.w1c &&& 0xFFFFFFFF) hi).trans ?_⟩
  · simp only [storeWrite, hd, hloc, hrwe, h1, h2, or_self, if_true, if_false]
  · have hfree : bitOf (d.rw ||| (if s.unlocked then d.rwk else 0)) i =
        (bitOf d.rw i || (bitOf d.rwk i && s.unlocked)) := by
      rw [bitOf, Nat.testBit_or]
      cases s.unlocked <;> simp [bitOf]
    rw [hall i hi, hall i hi, hfree]

end Sys2Proof.Machine.State
end

section
/-! SUPPORT. Reads and writes of registers by agents: the refusal of a read-sensitive register (R35), the pops of the access
fault log (R52), and the commands of plain registers (R24, R28, R202). -/

namespace Sys2Proof.Machine.State

open Sys2Proof (Word Agent Code AccessKind)

variable (s : State) (a : Agent)

/-! ### Read-sensitive registers (R35) -/

/-- While the token is free no agent holds it. -/
theorem isOwner_of_free (h : s.held = false) : s.isOwner a = false := by
  have h' : s.on Pg.identity R.OWNER_STATUS_HELD = false := h
  simp [isOwner, h']

/-- While the token is free no page is granted. -/
theorem granted_of_free (p : Nat) (h : s.held = false) : s.granted a p = false := by
  simp [granted, h]

/-- A read of a read-sensitive register by an agent that is neither the owner nor granted is refused. -/
theorem readCode_sensitive {p off : Nat} {d : RegDesc} (hp : pageUsed p = true) (hd : s.descOf p off = some d)
    (hs : d.rcl ≠ 0 ∨ d.rpop ≠ 0) (ho : s.isOwner a = false) (hg : s.granted a p = false) :
    s.readCode a p off = .sideEffectRefused := by
  simp [readCode, hp, hd, hs, ho, hg]

/-- Such a read is logged, answers 0 and does nothing else, whatever it would have read. -/
theorem guardedRead_sensitive {p off : Nat} {d : RegDesc} (f : State → State × Word) (hp : pageUsed p = true)
    (hd : s.descOf p off = some d) (hs : d.rcl ≠ 0 ∨ d.rpop ≠ 0) (ho : s.isOwner a = false)
    (hg : s.granted a p = false) :
    s.guardedRead a p off f =
      (s.logAccess .sideEffectRefused .read a (s.ownAddr 0 (p * 0x1000 + off)) (some p)).reply a p off 0
        .sideEffectRefused :=
  s.guardedRead_refused a p off f (s.readCode_sensitive a hp hd hs ho hg) (by decide)

/-! ### The access fault log (R52) -/

/-- The KIND of an entry of the log (R52). -/
def aflKind : AccessKind → Nat
  | .read => 0
  | .posted => 1
  | .nonPosted => 2

/-- The event bit that reports a refused access leaves the log alone. -/
theorem afl_accessEvent (b : Bool) (p : Nat) : (if b then s.event p 31 else s).afl = s.afl := by
  rw [apply_ite afl, event_afl, ite_self]

/-- A refused access enters the log at its end, where the log has room. -/
theorem afl_logAccess_room (c : Code) (kind : AccessKind) (addr : Nat) (page : Option Nat) (h : s.afl.length < 64) :
    (s.logAccess c kind a addr page).afl =
      s.afl ++ [{ code := c.num, kind := aflKind kind, agent := a.toNat, addr := addr % 2 ^ 48, time := s.uptime }] := by
  unfold logAccess
  dsimp only
  rw [if_pos h]
  cases page with
  | none => cases kind <;> simp only [aflKind]
  | some p => cases kind <;> simp only [aflKind, afl_accessEvent]

/-- A full log stays as it is. -/
theorem afl_logAccess_full (c : Code) (kind : AccessKind) (addr : Nat) (page : Option Nat) (h : 64 ≤ s.afl.length) :
    (s.logAccess c kind a addr page).afl = s.afl := by
  unfold logAccess
  dsimp only
  rw [if_neg (Nat.not_lt.mpr h)]
  cases page with
  | none => exact s.put_afl ..
  | some p => exact (afl_accessEvent _ _ p).trans (s.put_afl ..)

theorem aflPop_nil (h : s.afl = []) : s.aflPop = (s, 0) := by simp [aflPop, h]

theorem aflPop_cons {e : AflEntry} {l : List AflEntry} (h : s.afl = e :: l) :
    s.aflPop =
      ((({ s with afl := l }.wr Pg.afl R.AFL_ADDR_LO.off (BitVec.ofNat 32 e.addr)).wr Pg.afl R.AFL_ADDR_HI.off
        (BitVec.ofNat 32 (e.addr / 2 ^ 32 % 2 ^ 16))).wr Pg.afl R.AFL_TIME.off (BitVec.ofNat 32 e.time),
        BitVec.ofNat 32 (2 ^ 31 + e.code % 16 * 2 ^ 24 + e.kind % 8 * 2 ^ 20 + e.agent % 2 ^ 16)) := by
  simp only [aflPop, h, word]

/-! ### The commands of plain registers (R24, R27, R28, R202) -/

/-- Away from the claim and the release no write is one of the token. -/
theorem tokenRefused_off_ne {p off : Nat} (v : Word) (h1 : off ≠ R.OWNER_CLAIM.off) (h2 : off ≠ R.OWNER_RELEASE.off) :
    s.tokenRefused a p off v = false := by
  simp [tokenRefused, h1, h2]

/-- A write of a whole register that passes the check has the register's write effect, and answers OK. -/
theorem regWriteBe_ok {kind : AccessKind} {p off : Nat} {v : Word} (h1 : s.tokenRefused a p off v = false)
    (h2 : stagingBit p off = none) (h3 : s.writeCode a p off = .ok) :
    s.regWriteBe a kind p off 15 v = (pageWrite a p s off v, .ok) := by
  simp [regWriteBe, regWrite, guardedWrite, guardedAt, h1, h2, h3]

/-- EVT_FORCE sets the event bits that exist (R28). -/
theorem poke_evtForce {p : Nat} (v : Word) (h : s.writeCode a p 0x018 = .ok) (hshut : s.pageShut p = false) :
    s.poke a p 0x018 v (pageWrite a p) =
      s.wr p 0x010 (s.rd p 0x010 ||| (v &&& BitVec.ofNat 32 (s.eventMask p))) := by
  have hstaging : stagingBit p 0x018 = none := by simp [stagingBit, R.SCHED_CMD, R.EP_CMD]
  rw [s.poke_ok a p 0x018 v _ (s.tokenRefused_off_ne a v (by decide) (by decide)) hstaging h, pageWrite,
    if_neg (by decide), hshut, if_neg (by decide), if_pos rfl, evtForce, word]

/-- A read that pops no queue answers the word shown, and clears and latches. -/
theorem guardedRead_pageRead {p off : Nat} (h : s.readCode a p off = .ok) (hpop : s.popRead p off = none) :
    s.guardedRead a p off (fun t => t.pageRead a p off) =
      ((s.readClears p off).readLatches p off).reply a p off (s.shown a p off) .ok := by
  rw [s.guardedRead_ok a p off _ h, pageRead, hpop]

/-- The command that writes one field carries the field's value. -/
theorem bitOf_withField_same (p : Nat) (f : Fld) (x : Nat) (hw : f.w = 1) (hlo : f.lo < 32) :
    bitOf (s.withField p f x).toNat f.lo = x.testBit 0 := by
  rw [bitOf, withField, BitVec.toNat_ofNat, Nat.testBit_mod_two_pow, testBit_bitsPut]
  simp [hw, hlo]

/-- A write beyond the common header of a page that is on has the effect of the page's block. -/
theorem pageWrite_block {p off : Nat} (v : Word) (hoff : 0x28 ≤ off) (hshut : s.pageShut p = false) :
    pageWrite a p s off v = blockWrite a p s off v := by
  have hctrl : off ≠ R.PAGE_CTRL.off := fun h => absurd (h ▸ hoff) (by decide)
  have hforce : off ≠ 0x018 := by omega
  simp [pageWrite, hctrl, hshut, hforce, Nat.not_lt.mpr hoff]

/-- The clear command of page 0x068 zeroes its counters (R202). -/
theorem pageWrite_cntClear {v : Word} (hv : bitOf v.toNat 0 = true) (hshut : s.pageShut Pg.core = false) :
    pageWrite a Pg.core s 0x044 v = s.cntClear Pg.core := by
  have hblock : blockWrite a Pg.core s 0x044 v = s.when (bitOf v.toNat 0) fun t => t.cntClear Pg.core := rfl
  rw [s.pageWrite_block a v (by decide) hshut, hblock, s.when_of_true _ hv]

end Sys2Proof.Machine.State
end

section
/-! SUPPORT. The requests of the PCIe host (R393, R40, R41, R241) and the command ports (R261). -/

namespace Sys2Proof.Machine.State

open Sys2Proof (Word Byte Agent Code AccessKind)

variable (s : State)

/-! ### Registers through BAR0 -/

/-- A read that passes its check has its effect and answers OK. -/
theorem regRead_ok {a : Agent} {p off : Nat} (h : s.readCode a p off = .ok) :
    s.regRead a p off = ((s.pageRead a p off).1, (s.pageRead a p off).2, .ok) := by
  unfold regRead
  rw [h]

/-- A write with all byte enables is a write of the register. -/
theorem regWriteBe_all (a : Agent) (kind : AccessKind) (p off : Nat) (v : Word) :
    s.regWriteBe a kind p off 15 v = s.regWrite a kind p off v := if_pos rfl

/-- A request for one aligned register of BAR0 lies within the limits of R393. -/
theorem hostFits_bar0 {o : Nat} (read : Bool) (hspace : s.memSpace = true) (hd3 : s.inD3 = false) (halign : o % 4 = 0)
    (hend : o + 4 ≤ 0x200000) : s.hostFits .bar0 o 4 read = true := by
  simp [hostFits, hspace, hd3, halign, hend]

/-- One beside the register boundaries does not. -/
theorem hostFits_bar0_unaligned {o : Nat} (n : Nat) (read : Bool) (halign : o % 4 ≠ 0) :
    s.hostFits .bar0 o n read = false := by
  simp [hostFits, halign]

theorem memRead_bar0 {o : Nat} (hmay : s.hostMay = true) (hfits : s.hostFits .bar0 o 4 true = true)
    (hok : s.readCode pcieHost (o / 0x1000) (o % 0x1000) = .ok) :
    s.memRead .bar0 o 4 =
      (s.pageRead pcieHost (o / 0x1000) (o % 0x1000)).1.emit (.readData pcieHost (s.ownAddr 0 o)
        [(s.pageRead pcieHost (o / 0x1000) (o % 0x1000)).2] 0) := by
  simp [memRead, hmay, hfits, s.regRead_ok hok]

theorem memWrite_bar0 {o : Nat} {data : List Byte} (hmay : s.hostMay = true)
    (hfits : s.hostFits .bar0 o 4 false = true) (hlen : data.length = 4) :
    s.memWrite .bar0 o data (List.replicate 4 true) =
      (s.regWrite pcieHost .posted (o / 0x1000) (o % 0x1000) (BitVec.ofNat 32 (leNat (bytesAt data 0 4)))).1 := by
  have hbe : bitsNat ((List.range 4).map fun j => (List.replicate 4 true).getD (4 * 0 + j) false) = 15 := by decide
  simp only [memWrite, hmay, hlen, hfits]
  rw [show List.range (4 / 4) = [0] from rfl, List.foldl_cons, List.foldl_nil, hbe]
  exact congrArg Prod.fst (s.regWriteBe_all pcieHost .posted _ _ _)

/-- A read outside the limits of R393 is an Unsupported Request. -/
theorem memRead_unfit {bar : Sys2Proof.HostBar} {o n : Nat} (hmay : s.hostMay = true)
    (hfits : s.hostFits bar o n true = false) :
    s.memRead bar o n = (s.count Pg.pcieErr R.CNT_UR).emit (.bytes Pg.pcie 2 []) := by
  simp [memRead, hmay, hfits, unsupportedRequest]

/-! ### Windows through BAR4 -/

/-- A request of BAR4 within its length and its window lies within the limits of R393. -/
theorem hostFits_bar4 {o n : Nat} (read : Bool) (hspace : s.memSpace = true) (hd3 : s.inD3 = false) (h1 : 1 ≤ n)
    (h2 : n ≤ if read then 512 else 256) (hend : o + n ≤ 2 ^ 34) : s.hostFits .bar4 o n read = true := by
  simp only [hostFits, hspace, hd3, h1, h2, hend, decide_true, Bool.not_false, Bool.and_self]

/-- Bytes that are all enabled extend the run that ends before them. -/
theorem enabledRuns_extend (i : Nat) (bs run : List Byte) :
    enabledRuns (i + run.length) bs (List.replicate bs.length true) [(i, run)] = [(i, run ++ bs)] := by
  induction bs generalizing run with
  | nil => simp [enabledRuns]
  | cons b bs ih => simpa [enabledRuns, List.replicate_succ, Nat.add_assoc] using ih (run ++ [b])

/-- Bytes that are all enabled are one run. -/
theorem enabledRuns_all {bs : List Byte} (h : 1 ≤ bs.length) :
    enabledRuns 0 bs (List.replicate bs.length true) [] = [(0, bs)] := by
  cases bs with
  | nil => cases h
  | cons b bs => simpa [enabledRuns, List.replicate_succ] using enabledRuns_extend 0 bs [b]

theorem memRead_bar4 {o n : Nat} (hmay : s.hostMay = true) (hfits : s.hostFits .bar4 o n true = true) :
    s.memRead .bar4 o n = s.bar4Read o n := by
  simp [memRead, hmay, hfits]

theorem memWrite_bar4 {o : Nat} {data : List Byte} (hmay : s.hostMay = true)
    (hfits : s.hostFits .bar4 o data.length false = true) (h : 1 ≤ data.length) :
    s.memWrite .bar4 o data (List.replicate data.length true) = s.bar4Write o data := by
  simp [memWrite, hmay, hfits, enabledRuns_all h]

/-- A disabled window refuses (R41). -/
theorem windowCode_disabled {o : Nat} (write : Bool) (hbridge : s.bridgeCode = .ok)
    (hen : s.on Pg.windows (R.WIN_CTRL_EN (o / 2 ^ 30 % 16)) = false) : s.windowCode o write = .unsupported := by
  simp only [windowCode, hbridge, hen]
  rfl

theorem bar4Read_unsupported {o n : Nat} (h : s.windowCode o false = .unsupported) :
    s.bar4Read o n =
      (s.logAccess .unsupported .read pcieHost (s.windowAddr o) none).emit (.readData pcieHost (2 ^ 40 + o)
        (wordsOf (n + 1) (List.replicate n 0xFF)) 0) := by
  rw [bar4Read, h]

theorem bar4Write_unsupported {o : Nat} {data : List Byte} (h : s.windowCode o true = .unsupported) :
    s.bar4Write o data =
      (s.modBridge fun b => { b with prefetched := b.prefetched.filter (·.win != o / 2 ^ 30 % 16) }).logAccess
        .unsupported .posted pcieHost (s.windowAddr o) none := by
  rw [bar4Write, h]

/-! ### Command ports (R261) -/

/-- A write of CP_CTRL sets LEN, and with GO starts the port. -/
theorem wrBridge_cpCtrl (a : Agent) {p : Nat} (hp : p < 4) (v : Word) :
    wrBridge a Pg.ports s (R.CP_CTRL_LEN p).off v =
      if bitOf v.toNat 8 then (s.put Pg.ports (R.CP_CTRL_LEN p) v.toNat).cpGo a p
      else s.put Pg.ports (R.CP_CTRL_LEN p) v.toNat := by
  have hoff : (R.CP_CTRL_LEN p).off = 0x04C + 0x20 * p := rfl
  have hport : (0x04C + 0x20 * p - 0x040) / 0x20 = p := by omega
  rw [wrBridge, if_neg (fun h => absurd h.1 (by decide)), hoff, if_pos ⟨rfl, by omega, by omega, by omega⟩]
  simp only [hport]

/-- Only the bits of a field's width are written to it. -/
theorem put_mod (p : Nat) (f : Fld) (v : Nat) : s.put p f (v % 2 ^ f.w) = s.put p f v := by
  rw [put, put, bitsPut, bitsPut, Nat.mod_mod]

/-- CP_GO writes LEN as it stands and starts the command port. -/
theorem poke_cpGo (a : Agent) (p : Fin 4) (hok : s.writeCode a Pg.ports (R.CP_CTRL_LEN p).off = .ok)
    (hshut : s.pageShut Pg.ports = false) :
    s.poke a Pg.ports (R.CP_CTRL_LEN p).off (word (s.get Pg.ports (R.CP_CTRL_LEN p) + 2 ^ 8)) (pageWrite a Pg.ports) =
      (s.put Pg.ports (R.CP_CTRL_LEN p) (s.get Pg.ports (R.CP_CTRL_LEN p))).cpGo a p := by
  have hlen : s.get Pg.ports (R.CP_CTRL_LEN p) < 2 ^ 5 := bitsOf_lt _ 0 5
  have hword : (word (s.get Pg.ports (R.CP_CTRL_LEN p) + 2 ^ 8)).toNat = s.get Pg.ports (R.CP_CTRL_LEN p) + 2 ^ 8 := by
    rw [word, BitVec.toNat_ofNat]
    omega
  have hgo : bitOf (s.get Pg.ports (R.CP_CTRL_LEN p) + 2 ^ 8) 8 = true := by
    rw [bitOf, Nat.add_comm, Nat.testBit_two_pow_add_eq, Nat.testBit_lt_two_pow (by omega), Bool.not_false]
  have hput : s.put Pg.ports (R.CP_CTRL_LEN p) (s.get Pg.ports (R.CP_CTRL_LEN p) + 2 ^ 8) =
      s.put Pg.ports (R.CP_CTRL_LEN p) (s.get Pg.ports (R.CP_CTRL_LEN p)) := by
    rw [← s.put_mod _ _ (_ + 2 ^ 8), ← s.put_mod _ _ (s.get _ _)]
    congr 1
    show (_ + 2 ^ 8) % 2 ^ 5 = _ % 2 ^ 5
    omega
  have hblock : ∀ off v, blockWrite a Pg.ports s off v = wrBridge a Pg.ports s off v := fun _ _ => rfl
  rw [s.poke_ok' a Pg.ports _ _ _ (by decide) rfl hok,
    s.pageWrite_block a _ (by show 0x28 ≤ 0x04C + 0x20 * p.val; omega) hshut, hblock,
    s.wrBridge_cpCtrl a p.isLt, hword, hgo, if_pos rfl, hput]

/-- A port reads BUSY as before a write of its LEN. -/
theorem on_busy_putLen {p : Nat} (hp : p < 4) (v : Nat) :
    (s.put Pg.ports (R.CP_CTRL_LEN p) v).on Pg.ports (R.CP_CTRL_BUSY p) = s.on Pg.ports (R.CP_CTRL_BUSY p) := by
  have hoff : 0x04C + 0x20 * p < 0x1000000 := by omega
  rw [on, s.get_put_ne Pg.ports Pg.ports (R.CP_CTRL_LEN p) (R.CP_CTRL_BUSY p) v hoff hoff (by decide : 9 + 1 ≤ 32)
    (.inr (.inr (.inr (by decide : 0 + 5 ≤ 9)))), on]

/-- GO of a busy port is refused. -/
theorem cpGo_busy (a : Agent) {p : Nat} (h : s.on Pg.ports (R.CP_CTRL_BUSY p) = true) :
    s.cpGo a p = (s.setF Pg.ports (R.CP_CTRL_CP_REFUSED p)).event Pg.ports E.P07A_CP_REFUSED := by
  rw [cpGo, if_pos h]

end Sys2Proof.Machine.State
end

section
/-! SUPPORT. The owner token and its forced reclaim (R44 to R49): what a claim, a release and each command of the reclaim
do. -/

namespace Sys2Proof.Machine.State

open Sys2Proof (Word Agent)

variable (s : State) (a : Agent)

/-! ### Claim and release -/

/-- Clearing the grant slots leaves the other pages alone. -/
theorem get_clearSlots {q : Nat} (f : Fld) (l : List Nat) (hl : ∀ n ∈ l, n < 16) (hq : q ≠ Pg.grants)
    (hf : f.off < 0x1000000) :
    (l.foldl (fun t n => t.wr Pg.grants (0x040 + 4 * n) 0xFFFF) s).get q f = s.get q f := by
  induction l generalizing s with
  | nil => rfl
  | cons n l ih =>
    have hn := hl n List.mem_cons_self
    rw [List.foldl_cons, ih _ fun m hm => hl m (List.mem_cons_of_mem n hm), get,
      s.rd_wr_ne Pg.grants q _ f.off _ (by omega) hf (.inl hq), get]

/-- Access that is closed stays closed. -/
theorem closeAccess_closed (h : s.get Pg.security R.SEC_STATUS_ACCESS = 0) : s.closeAccess = s := if_pos h

/-- With access closed, a change of owner writes the holder and the next GEN and clears the grant slots (R46, R49). -/
theorem ownerTo_closed (x : Option Agent) (h : s.get Pg.security R.SEC_STATUS_ACCESS = 0) :
    s.ownerTo x =
      (List.range 16).foldl (fun t n => t.wr Pg.grants (0x040 + 4 * n) 0xFFFF)
        (((s.putB Pg.identity R.OWNER_STATUS_HELD x.isSome).put Pg.identity R.OWNER_STATUS_OWNER_ID
          (x.getD 0xFFFF).toNat).put Pg.identity R.OWNER_STATUS_GEN ((s.get Pg.identity R.OWNER_STATUS_GEN + 1) % 256)) := by
  refine closeAccess_closed _ ?_
  have hput : ∀ (t : State) (f : Fld) (v : Nat), f.off < 0x1000000 →
      (t.put Pg.identity f v).get Pg.security R.SEC_STATUS_ACCESS = t.get Pg.security R.SEC_STATUS_ACCESS :=
    fun t f v hf => t.get_put_ne Pg.identity Pg.security f R.SEC_STATUS_ACCESS v hf (by decide) (by decide)
      (.inl (by decide))
  rw [get_clearSlots _ _ _ (fun n hn => List.mem_range.mp hn) (by decide) (by decide), hput _ _ _ (by decide),
    hput _ _ _ (by decide), putB, hput _ _ _ (by decide), h]

/-- A claim of a free token by an agent that may hold it is no refused one. -/
theorem tokenRefused_claim_free (h1 : s.held = false) (h2 : agentKind a ≠ 3) :
    s.tokenRefused a Pg.identity R.OWNER_CLAIM.off 0xC1A1 = false := by
  simp [tokenRefused, h1, h2, R.OWNER_CLAIM, R.OWNER_RELEASE]

/-- A claim of a held token, or by an agent of KIND 0b11, is refused (R44, R46). -/
theorem tokenRefused_claim_held (h : s.held = true ∨ agentKind a = 3) :
    s.tokenRefused a Pg.identity R.OWNER_CLAIM.off 0xC1A1 = true := by
  simp [tokenRefused, h]

/-- A release by the owner is no refused one. -/
theorem tokenRefused_release_owner (h : s.isOwner a = true) :
    s.tokenRefused a Pg.identity R.OWNER_RELEASE.off 0xE1E = false := by
  simp [tokenRefused, h, R.OWNER_CLAIM, R.OWNER_RELEASE]

/-- Another word than the claim's key claims nothing. -/
theorem tokenRefused_claim_ne {v : Word} (h : v ≠ 0xC1A1) :
    s.tokenRefused a Pg.identity R.OWNER_CLAIM.off v = false := by
  have hkey : (v == 0xC1A1) = false := beq_false_of_ne h
  simp only [tokenRefused, hkey, Bool.and_false, Bool.false_and, Bool.false_or]
  rfl

/-- A refused claim or release is logged, and has no other effect. -/
theorem poke_tokenRefused {p off : Nat} {v : Word} (eff : State → Nat → Word → State)
    (h : s.tokenRefused a p off v = true) :
    s.poke a p off v eff = s.logAccess .notOwner .posted a (s.ownAddr 0 (p * 0x1000 + off)) (some p) := by
  simp [poke, guardedWrite, h]

theorem wrIdentity_claim (v : Word) :
    wrIdentity a Pg.identity s R.OWNER_CLAIM.off v = if v = 0xC1A1 then s.ownerTo (some a) else s := rfl

theorem wrIdentity_release (v : Word) :
    wrIdentity a Pg.identity s R.OWNER_RELEASE.off v = if v = 0xE1E then s.ownerTo none else s := rfl

theorem wrIdentity_reclaim (v : Word) :
    wrIdentity a Pg.identity s R.RECLAIM_CTRL.off v = s.reclaimCmd a v.toNat := rfl

/-! ### Forced reclaim (R48) -/

/-- A command of RECLAIM_CTRL that passes the check is one of the reclaim. -/
theorem poke_reclaim (v : Word) (h : s.writeCode a Pg.identity R.RECLAIM_CTRL.off = .ok) :
    s.poke a Pg.identity R.RECLAIM_CTRL.off v (wrIdentity a Pg.identity) = s.reclaimCmd a v.toNat := by
  have htoken : s.tokenRefused a Pg.identity R.RECLAIM_CTRL.off v = false :=
    s.tokenRefused_off_ne a v (by decide) (by decide)
  rw [s.poke_ok a _ _ v _ htoken (by decide) h, wrIdentity_reclaim]

theorem reclaimCmd_nonceNew (hbusy : s.on Pg.identity R.RECLAIM_CTRL_BUSY = false) (hrandom : s.sec.badRandom = false) :
    s.reclaimCmd a 1 =
      { (((s.setF Pg.identity R.RECLAIM_CTRL_NONCE_NEW).setF Pg.identity R.RECLAIM_CTRL_BUSY).clrF Pg.identity
          R.RECLAIM_CTRL_DONE).clrF Pg.identity R.RECLAIM_CTRL_FAIL with
        reclaim := { s.reclaim with making := some a, valid := false } } := by
  simp [reclaimCmd, hbusy, hrandom, show bitOf 1 0 = true from rfl]

/-- A field write and a change of the reclaim's own data change different parts of the state. -/
theorem put_withReclaim (x : Reclaim) (p : Nat) (f : Fld) (v : Nat) :
    ({ s with reclaim := x } : State).put p f v = { s.put p f v with reclaim := x } := rfl

/-- GO uses the nonce up: it starts the check where the nonce is valid and of the agent, and ends in FAIL otherwise. -/
theorem reclaimCmd_go (hbusy : s.on Pg.identity R.RECLAIM_CTRL_BUSY = false) :
    s.reclaimCmd a 2 =
      if s.reclaim.valid && s.reclaim.by_ == a then
        { (((s.setF Pg.identity R.RECLAIM_CTRL_GO).setF Pg.identity R.RECLAIM_CTRL_BUSY).clrF Pg.identity
            R.RECLAIM_CTRL_DONE).clrF Pg.identity R.RECLAIM_CTRL_FAIL with
          reclaim := { s.reclaim with valid := false, checking := some a } }
      else { s with reclaim := { s.reclaim with valid := false } }.reclaimEnds false := by
  have h0 : bitOf 2 0 = false := rfl
  have h1 : bitOf 2 1 = true := rfl
  simp only [reclaimCmd, hbusy, h0, h1, Bool.false_eq_true, if_false, if_true, setF, clrF, put_withReclaim]

theorem reclaimReady_making {b : Agent} (h : s.reclaim.making = some b) :
    s.reclaimReady =
      { ((s.newNonce Pg.identity 0x800).clrF Pg.identity R.RECLAIM_CTRL_NONCE_NEW).clrF Pg.identity R.RECLAIM_CTRL_BUSY with
        reclaim := { making := none, valid := true, by_ := b, checking := none } } := by
  unfold reclaimReady
  rw [h]

/-- No agent of KIND 0b11 takes the token, whatever it signed. -/
theorem reclaimChecked_barred {b : Agent} (h : s.reclaim.checking = some b) (hkind : agentKind b = 3) :
    s.reclaimChecked = { s with reclaim := { s.reclaim with checking := none } }.reclaimEnds false := by
  simp [reclaimChecked, h, hkind]

/-- A signature that holds gives the token to its agent. -/
theorem reclaimChecked_holds {b : Agent} (h : s.reclaim.checking = some b) (hkind : agentKind b ≠ 3)
    (hsig : s.responseHolds 1 (s.rdWindow Pg.identity 0x800 8) s.sec.sigReclaim = true) (howner : s.isOwner b = false) :
    s.reclaimChecked = ({ s with reclaim := { s.reclaim with checking := none } }.reclaimEnds true).ownerTo (some b) := by
  have hpass :
      (decide (agentKind b ≠ 3) && s.responseHolds 1 (s.rdWindow Pg.identity 0x800 8) s.sec.sigReclaim) = true := by
    rw [hsig, Bool.and_true, decide_eq_true hkind]
  unfold reclaimChecked
  rw [h]
  dsimp only
  rw [if_pos hpass, howner, Bool.not_false, when_true]

end Sys2Proof.Machine.State
end

section
/-! The settling of the statements on pages, registers, the PCIe host's requests and the owner token. -/

namespace Sys2Proof.Machine

/-- Settles O6: the write is one word whose bits follow their access codes (`storeWrite_inPlace`), and neither the journal
nor a digest writes a Kept word. -/
theorem registerWriteBits : Obligations.RegisterWriteBits := by
  unfold Obligations.RegisterWriteBits
  intro s p off v d _ _ hd hloc hrwe h1 h2
  obtain ⟨new, hw, hbits⟩ := s.storeWrite_inPlace v hd hloc hrwe h1 h2
  have hrd : (s.storeWrite p off v).rd p off = new := by rw [hw, s.rd_wrKept_same]
  exact ⟨fun i hi => by rw [hrd]; exact hbits i hi, fun hkept => by rw [hrd, hw, s.wrKept_notKept new hkept]⟩

/-- Settles O7: each of the commands is a guarded read of a register whose row has RCL or RPOP bits
(`guardedRead_sensitive`). -/
theorem sensitiveReads : Obligations.SensitiveReads := by
  unfold Obligations.SensitiveReads
  intro s a p w d
  refine ⟨fun hfree => ⟨s.isOwner_of_free a hfree, s.granted_of_free a _ hfree⟩, fun howner => ⟨?_, ?_, ?_, ?_⟩⟩
  · intro hp hd hs hgrant
    exact finishAll_of_eq (s.guardedRead_sensitive a _ hp hd hs howner hgrant)
  · intro hgrant
    exact finishAll_of_eq (s.guardedRead_sensitive a State.aflPop (by decide) rfl (.inr (by decide)) howner hgrant)
  · intro hgrant
    exact ⟨finishAll_of_eq (s.guardedRead_sensitive a State.felPop (by decide) rfl (.inr (by decide)) howner hgrant),
      finishAll_of_eq (s.guardedRead_sensitive a State.orlPop (by decide) rfl (.inr (by decide)) howner hgrant)⟩
  · intro hgrant
    exact finishAll_of_eq (s.guardedRead_sensitive a State.chgPop (by decide) rfl (.inr (by decide)) howner hgrant)

/-- Settles O8: a refused access by the room in the log (`afl_logAccess_room`, `afl_logAccess_full`), the pop by its two cases,
of an empty log and of one with an oldest entry. -/
theorem accessFaultLog : Obligations.AccessFaultLog := by
  unfold Obligations.AccessFaultLog
  intro s a c kind addr page
  refine ⟨fun hroom => ?_, fun hfull => ?_, fun hok => ⟨fun hnil => ?_, fun e l hcons => ?_⟩⟩
  · rw [s.afl_logAccess_room a c kind addr page hroom]
    cases kind <;> rfl
  · exact s.afl_logAccess_full a c kind addr page hfull
  · refine finishAll_of_eq ?_
    rw [s.guardedRead_ok a _ _ _ hok, s.aflPop_nil hnil]
  · refine finishAll_of_eq ?_
    rw [s.guardedRead_ok a _ _ _ hok, s.aflPop_cons hcons]

/-- Settles O11: each command is a guarded access whose check passes, and has the effect of its register's page. -/
theorem registerRows : Obligations.RegisterRows := by
  unfold Obligations.RegisterRows
  intro s a p w v n off
  refine ⟨?_, ?_, ?_, ?_, ?_⟩
  · intro htoken hstaging hok
    have hwrite : ∀ kind, s.regWriteBe a kind n off (15 : BitVec 4).toNat v = (State.pageWrite a n s off v, .ok) :=
      fun kind => s.regWriteBe_ok a htoken hstaging hok
    exact ⟨finishAll_of_eq (by rw [hwrite]; rfl), finishAll_of_eq (by rw [hwrite]; rfl)⟩
  · intro hok hshut
    exact finishAll_of_eq (s.poke_evtForce a v hok hshut)
  · intro hok hpop
    exact ⟨finishAll_of_eq (s.guardedRead_pageRead a hok hpop), finishAll_of_eq (s.guardedRead_pageRead a hok hpop)⟩
  · intro c hc htoken hstaging hok
    refine finishAll_of_eq ?_
    rw [hc]
    exact s.poke_ok a c.1 c.2.off _ _ htoken hstaging hok
  · intro hn hok hshut
    have hc : clearBit p.toNat = some (Pg.core, ⟨0x044, 0, 1⟩) := by rw [show p.toNat = Pg.core from hn]; rfl
    refine finishAll_of_eq ?_
    rw [hc]
    exact (s.poke_ok' a Pg.core 0x044 _ _ (by decide) (by decide) hok).trans
      (s.pageWrite_cntClear a (s.bitOf_withField_same Pg.core ⟨0x044, 0, 1⟩ 1 rfl (by decide)) hshut)

/-- Settles O35: a request of the PCIe host is first measured against R393 (`hostFits_bar0`, `hostFits_bar4`) and then does
what its BAR does with it; CP_GO is a write of CP_CTRL (`poke_cpGo`). -/
theorem hostRequests : Obligations.HostRequests := by
  unfold Obligations.HostRequests
  intro s a off len data p o addr
  refine ⟨fun hmay hspace hd3 => ⟨fun halign hend => ⟨fun hok => ?_, fun hlen => ?_⟩, fun halign => ?_, ?_, ?_⟩,
    fun hok hshut => ⟨fun hbusy => ?_, fun hidle => ?_⟩⟩
  · exact finishAll_of_eq (s.memRead_bar0 hmay (s.hostFits_bar0 true hspace hd3 halign hend) hok)
  · exact finishAll_of_eq (congrArg State.flushWork
      (s.memWrite_bar0 hmay (s.hostFits_bar0 false hspace hd3 halign hend) hlen))
  · exact finishAll_of_eq (s.memRead_unfit hmay (s.hostFits_bar0_unaligned _ true halign))
  · intro h1 h2 hend
    have hread := s.memRead_bar4 hmay (s.hostFits_bar4 true hspace hd3 h1 h2 hend)
    exact ⟨fun _ => finishAll_of_eq hread, fun hbridge hen =>
      finishAll_of_eq (hread.trans (s.bar4Read_unsupported (s.windowCode_disabled false hbridge hen)))⟩
  · intro h1 h2 hend
    have hwrite := s.memWrite_bar4 hmay (s.hostFits_bar4 false hspace hd3 h1 h2 hend) h1
    exact ⟨fun _ => finishAll_of_eq hwrite, fun hbridge hen =>
      finishAll_of_eq (hwrite.trans (s.bar4Write_unsupported (s.windowCode_disabled true hbridge hen)))⟩
  · refine finishAll_of_eq (congrArg State.flushWork ((s.poke_cpGo a p hok hshut).trans (State.cpGo_busy _ a ?_)))
    rw [s.on_busy_putLen p.isLt, hbusy]
  · exact finishAll_of_eq (congrArg State.flushWork (s.poke_cpGo a p hok hshut))

/-- Settles O55: a claim and a release change the owner (`ownerTo_closed`), and each command of the reclaim does what its
lemma above says. A change of owner that finds access open, and
closes it as well, is outside the statement. -/
theorem ownerToken : Obligations.OwnerToken := by
  unfold Obligations.OwnerToken
  intro s a b v p owned ends
  refine ⟨fun hclosed => ⟨fun hok hfree hkind => ?_, fun hok howner => ?_⟩, fun hheld => ?_, fun hok hv => ?_,
    fun hok hbusy => ⟨fun hrandom => ?_, fun hvalid hby => ?_, fun hinvalid => ?_⟩, fun hmaking => ?_, rfl,
    fun hcheck => ⟨fun hkind => ?_, fun hkind hsig howner => ?_⟩⟩
  · refine finishAll_of_eq ((s.poke_ok a _ _ _ _ (s.tokenRefused_claim_free a hfree hkind) (by decide) hok).trans ?_)
    rw [s.wrIdentity_claim, if_pos rfl]
    exact s.ownerTo_closed (some a) hclosed
  · refine finishAll_of_eq ((s.poke_ok a _ _ _ _ (s.tokenRefused_release_owner a howner) (by decide) hok).trans ?_)
    rw [s.wrIdentity_release, if_pos rfl]
    exact s.ownerTo_closed none hclosed
  · exact finishAll_of_eq (s.poke_tokenRefused a _ (s.tokenRefused_claim_held a hheld))
  · refine finishAll_of_eq ((s.poke_ok a _ _ _ _ (s.tokenRefused_claim_ne a hv) (by decide) hok).trans ?_)
    rw [s.wrIdentity_claim, if_neg hv]
  · exact finishAll_of_eq ((s.poke_reclaim a 1 hok).trans (s.reclaimCmd_nonceNew a hbusy hrandom))
  · refine finishAll_of_eq ((s.poke_reclaim a 2 hok).trans ((s.reclaimCmd_go a hbusy).trans (if_pos ?_)))
    simp [hvalid, hby]
  · refine finishAll_of_eq ((s.poke_reclaim a 2 hok).trans ((s.reclaimCmd_go a hbusy).trans (if_neg ?_)))
    rcases hinvalid with h | h <;> simp [h]
  · exact finishAll_of_eq (s.reclaimReady_making hmaking)
  · exact finishAll_of_eq (s.reclaimChecked_barred hcheck hkind)
  · exact finishAll_of_eq (s.reclaimChecked_holds hcheck hkind hsig howner)

end Sys2Proof.Machine
end

section
/-! SUPPORT. A clear of counters (R81, R119, R202): every word of a page after it is the word before it without the bits that
the register table of the page marks as counts. -/

namespace Sys2Proof.Machine

/-- A row that is marked as a count covers the bit of the register at an offset of a page. -/
def countsBit (p off b : Nat) : Bool :=
  (blockRegs p).any fun d => (List.range d.count).any fun i => d.off + d.stride * i == off && bitOf d.cnt b

/-- Each step of a fold clears a bit when `g` says so: after the fold the bit is as before unless `g` held at some step. -/
theorem foldl_clears {α β : Type} (bit : β → Bool) (g : α → Bool) (step : β → α → β)
    (hstep : ∀ t x, bit (step t x) = (bit t && !g x)) (l : List α) (t : β) :
    bit (l.foldl step t) = (bit t && !l.any g) := by
  induction l generalizing t with
  | nil => simp
  | cons x l ih => rw [List.foldl_cons, ih, hstep, List.any_cons, Bool.not_or, Bool.and_assoc]

/-- The registers of a table lie within a page. -/
def rowsInPage (l : List RegDesc) : Bool := l.all fun d => d.off + d.stride * d.count ≤ 0x1000

theorem rowsInPage_ite {c : Prop} {_ : Decidable c} {l m : List RegDesc} (hl : rowsInPage l = true)
    (hm : rowsInPage m = true) : rowsInPage (if c then l else m) = true := by
  split <;> assumption

theorem blockRegs_inPage (p : Nat) : rowsInPage (blockRegs p) = true := by
  unfold blockRegs
  repeat refine rowsInPage_ite rfl ?_
  rfl

/-- A register of a row of a page's table lies within the page. -/
theorem rowOff_inPage {p i : Nat} {d : RegDesc} (hd : d ∈ blockRegs p) (hi : i < d.count) :
    d.off + d.stride * i ≤ 0x1000 := by
  have hall := List.all_eq_true.mp (blockRegs_inPage p) d hd
  have hmul : d.stride * i ≤ d.stride * d.count := Nat.mul_le_mul_left _ hi.le
  have hend := of_decide_eq_true hall
  omega

namespace State

/-- The clear of one register of a row. -/
def clearCount (p : Nat) (d : RegDesc) (u : State) (i : Nat) : State :=
  u.wr p (d.off + d.stride * i) (u.rd p (d.off + d.stride * i) &&& ~~~(BitVec.ofNat 32 d.cnt))

/-- The clear of the registers of a row. -/
def clearRow (p : Nat) (t : State) (d : RegDesc) : State :=
  if d.cnt = 0 then t else (List.range d.count).foldl (clearCount p d) t

variable (s : State)

theorem cntClear_eq (p : Nat) : s.cntClear p = (blockRegs p).foldl (clearRow p) s := rfl

/-! ### The bits -/

theorem bitOf_rd_clearCount (p : Nat) (d : RegDesc) (i off b : Nat) :
    bitOf ((clearCount p d s i).rd p off).toNat b =
      (bitOf (s.rd p off).toNat b && !(d.off + d.stride * i == off && bitOf d.cnt b)) := by
  have hkey : regKey p off = regKey p (d.off + d.stride * i) ↔ d.off + d.stride * i = off := by
    unfold regKey; omega
  rw [clearCount, rd_wr_key]
  by_cases h : d.off + d.stride * i = off
  · rw [if_pos (hkey.mpr h), h]
    simp only [bitOf, BitVec.testBit_toNat, BitVec.getLsbD_and, BitVec.getLsbD_not, BitVec.getLsbD_ofNat, beq_self_eq_true,
      Bool.true_and]
    by_cases hb : b < 32
    · simp [hb]
    · simp [BitVec.getLsbD_of_ge _ b (Nat.le_of_not_lt hb)]
  · simp [hkey, h]

theorem bitOf_rd_clearRow (p : Nat) (d : RegDesc) (off b : Nat) :
    bitOf ((clearRow p s d).rd p off).toNat b =
      (bitOf (s.rd p off).toNat b &&
        !(List.range d.count).any fun i => d.off + d.stride * i == off && bitOf d.cnt b) := by
  unfold clearRow
  split
  case isTrue h => simp [h, bitOf]
  case isFalse =>
    exact foldl_clears (fun t => bitOf (t.rd p off).toNat b) _ _ (fun t i => t.bitOf_rd_clearCount p d i off b) _ s

/-- A bit of a page after a clear of its counters. -/
theorem bitOf_rd_cntClear (p off b : Nat) :
    bitOf ((s.cntClear p).rd p off).toNat b = (bitOf (s.rd p off).toNat b && !countsBit p off b) :=
  foldl_clears (fun t => bitOf (t.rd p off).toNat b) _ _ (fun t d => t.bitOf_rd_clearRow p d off b) _ s

/-! ### The frame -/

/-- `t` differs from `s` in the registers of one page at most. -/
def SameBut (p : Nat) (s t : State) : Prop :=
  (∀ k, k / 0x1000000 ≠ p → t.regs.get factoryWord k = s.regs.get factoryWord k) ∧ t = { s with regs := t.regs }

theorem SameBut.refl (p : Nat) : SameBut p s s := ⟨fun _ _ => rfl, rfl⟩

theorem SameBut.wr {p o : Nat} {t : State} (h : SameBut p s t) (v : Word) (ho : o < 0x1000000) :
    SameBut p s (t.wr p o v) := by
  obtain ⟨hregs, ht⟩ := h
  refine ⟨fun k hk => (t.regs_wr_ne p o v ?_).trans (hregs k hk), ?_⟩
  · rintro rfl
    exact hk (by unfold regKey; omega)
  · rw [wr_eq, ht]

/-- A clear of counters changes registers of its page, and nothing else. -/
theorem sameBut_cntClear (p : Nat) : SameBut p s (s.cntClear p) := by
  rw [cntClear_eq]
  refine List.foldlRecOn (motive := SameBut p s) _ _ (.refl s p) fun t ht d hd => ?_
  unfold clearRow
  split
  · exact ht
  · refine List.foldlRecOn (motive := SameBut p s) _ _ ht fun u hu i hi => hu.wr s _ ?_
    exact (rowOff_inPage hd (List.mem_range.mp hi)).trans_lt (by decide)

end State

end Sys2Proof.Machine
end

section
/-! The settling of the statement on a clear of counters. -/

namespace Sys2Proof.Machine

/-- Settles O12: a bit after the clear is the bit before it unless a row counts in it (`bitOf_rd_cntClear`), and only the
page's registers are written (`sameBut_cntClear`). -/
theorem counterClearBits : Obligations.CounterClearBits := by
  unfold Obligations.CounterClearBits
  intro s p d i hd hi off t
  obtain ⟨hpages, hrest⟩ := s.sameBut_cntClear p
  refine ⟨fun b hb => ?_, fun off' b _ hfree => ?_, hpages, hrest⟩
  · have hcounts : countsBit p off b = true :=
      List.any_eq_true.mpr ⟨d, hd, List.any_eq_true.mpr ⟨i, List.mem_range.mpr hi, by simp [off, hb]⟩⟩
    rw [s.bitOf_rd_cntClear, hcounts, Bool.not_true, Bool.and_false]
  · have hcounts : countsBit p off' b = false := by
      refine List.any_eq_false.mpr fun e he => Bool.not_eq_true _ ▸ List.any_eq_false.mpr fun j hj => ?_
      intro h
      obtain ⟨hoff, hb⟩ := Bool.and_eq_true_iff.mp h
      rw [hfree e he j (List.mem_range.mp hj) (beq_iff_eq.mp hoff)] at hb
      exact Bool.false_ne_true hb
    rw [s.bitOf_rd_cntClear, hcounts, Bool.not_false, Bool.and_true]

end Sys2Proof.Machine
end

section
/-! SUPPORT. The receiver state of a lane (R67): what entering a state writes in LANE_STATUS, and what it leaves alone. -/

namespace Sys2Proof.Machine

/-- Two fields of a page have no bit in common. -/
def Fld.apart (f g : Fld) : Bool :=
  f.off < 0x1000000 && g.off < 0x1000000 && g.lo + g.w ≤ 32 &&
    (g.off != f.off || g.lo + g.w ≤ f.lo || f.lo + f.w ≤ g.lo)

namespace State

open Sys2Proof (Word LaneId)

variable (s : State)

/-! ### Fields that lie apart -/

theorem get_put_apart (p : Nat) {f g : Fld} (v : Nat) (h : f.apart g = true) : (s.put p f v).get p g = s.get p g := by
  simp only [Fld.apart, Bool.and_eq_true, Bool.or_eq_true, decide_eq_true_eq, bne_iff_ne] at h
  obtain ⟨⟨⟨hf, hg⟩, hlo⟩, h⟩ := h
  exact s.get_put_ne p p f g v hf hg hlo (.inr (or_assoc.mp h))

theorem get_putB_apart (p : Nat) {f g : Fld} (b : Bool) (h : f.apart g = true) :
    (s.putB p f b).get p g = s.get p g := s.get_put_apart p _ h

theorem on_put_apart (p : Nat) {f g : Fld} (v : Nat) (h : f.apart g = true) : (s.put p f v).on p g = s.on p g := by
  rw [on, s.get_put_apart p v h, on]

theorem on_putB_apart (p : Nat) {f g : Fld} (b : Bool) (h : f.apart g = true) : (s.putB p f b).on p g = s.on p g :=
  s.on_put_apart p _ h

/-! ### The lanes beside their pages -/

theorem lane_modLane_same {l : Nat} (hl : l < 22) (f : Lane → Lane) : (s.modLane l f).lane l = f (s.lane l) := by
  simp [lane, modLane, Vector.getD, hl]

theorem lane_modLane_ne {l m : Nat} (f : Lane → Lane) (h : m ≠ l) : (s.modLane l f).lane m = s.lane m := by
  simp [lane, modLane, Vector.getD, Array.getElem?_setIfInBounds_ne h.symm]

theorem get_modLane (l q : Nat) (g : Fld) (f : Lane → Lane) : (s.modLane l f).get q g = s.get q g := rfl

theorem on_modLane (l q : Nat) (g : Fld) (f : Lane → Lane) : (s.modLane l f).on q g = s.on q g := rfl

/-! ### Entering a state -/

/-- Entering a state writes the lane's LANE_STATUS and no other register. -/
theorem regs_laneTo_ne (l st : Nat) {k : Nat} (h : k ≠ regKey (Pg.lane l) R.LANE_STATUS.off) :
    (s.laneTo l st).regs.get factoryWord k = s.regs.get factoryWord k := by
  rw [laneTo, modLane_regs, putB, regs_put_ne _ _ R.LANE_STATUS_RX_IDLE _ h, putB,
    regs_put_ne _ _ R.LANE_STATUS_DESKEWED _ h, putB, regs_put_ne _ _ R.LANE_STATUS_BLOCK_LOCK _ h, putB,
    regs_put_ne _ _ R.LANE_STATUS_CDR_LOCK _ h, regs_put_ne _ _ R.LANE_STATUS_STATE _ h]

theorem get_laneTo_ne {l q : Nat} {f : Fld} (st : Nat) (hf : f.off < 0x1000000)
    (h : q ≠ Pg.lane l ∨ f.off ≠ R.LANE_STATUS.off) : (s.laneTo l st).get q f = s.get q f := by
  rw [get, rd, s.regs_laneTo_ne l st (regKey_ne hf (by decide) h)]
  rfl

/-- The fields of LANE_STATUS that follow the state. -/
def stateFields : List Fld :=
  [R.LANE_STATUS_STATE, R.LANE_STATUS_CDR_LOCK, R.LANE_STATUS_BLOCK_LOCK, R.LANE_STATUS_DESKEWED, R.LANE_STATUS_RX_IDLE]

/-- A field apart from those of the state keeps its value. -/
theorem get_laneTo_apart {l st : Nat} {f : Fld} (h : ∀ g ∈ stateFields, g.apart f = true) :
    (s.laneTo l st).get (Pg.lane l) f = s.get (Pg.lane l) f := by
  rw [laneTo, get_modLane, get_putB_apart _ _ _ (h R.LANE_STATUS_RX_IDLE (by decide)),
    get_putB_apart _ _ _ (h R.LANE_STATUS_DESKEWED (by decide)),
    get_putB_apart _ _ _ (h R.LANE_STATUS_BLOCK_LOCK (by decide)),
    get_putB_apart _ _ _ (h R.LANE_STATUS_CDR_LOCK (by decide)), get_put_apart _ _ _ (h R.LANE_STATUS_STATE (by decide))]

theorem on_laneTo_apart {l st : Nat} {f : Fld} (h : ∀ g ∈ stateFields, g.apart f = true) :
    (s.laneTo l st).on (Pg.lane l) f = s.on (Pg.lane l) f := by
  rw [on, s.get_laneTo_apart h, on]

theorem laneSt_laneTo_same (l : Nat) {st : Nat} (h : st < 16) : (s.laneTo l st).laneSt l = st := by
  have hput : (s.put (Pg.lane l) R.LANE_STATUS_STATE st).get (Pg.lane l) R.LANE_STATUS_STATE = st :=
    (s.get_put_same _ _ _ (by decide)).trans (Nat.mod_eq_of_lt h)
  rw [laneSt, laneTo, get_modLane]
  simp (disch := decide) only [get_putB_apart, hput]

/-- The receiver state of another lane stands in another page. -/
theorem laneSt_laneTo_ne {l m : Nat} (st : Nat) (h : m ≠ l) : (s.laneTo l st).laneSt m = s.laneSt m :=
  s.get_laneTo_ne st (by decide) (.inl (by unfold Pg.lane; omega))

/-- The lock bits of LANE_STATUS in a state (R67). -/
theorem on_laneTo_lockBits (l st : Nat) :
    (s.laneTo l st).on (Pg.lane l) R.LANE_STATUS_CDR_LOCK = (decide (3 ≤ st) && decide (st ≤ 5)) ∧
    (s.laneTo l st).on (Pg.lane l) R.LANE_STATUS_BLOCK_LOCK = (st == 4 || st == 5) ∧
    (s.laneTo l st).on (Pg.lane l) R.LANE_STATUS_DESKEWED = (st == 5) ∧
    (s.laneTo l st).on (Pg.lane l) R.LANE_STATUS_RX_IDLE = (st == 6) := by
  unfold laneTo
  simp (disch := decide) only [on_modLane, on_putB_apart, on_putB_same, and_self]

theorem lane_laneTo_ne {l m : Nat} (st : Nat) (h : m ≠ l) : (s.laneTo l st).lane m = s.lane m :=
  lane_modLane_ne _ _ h

/-! ### Leaving a state -/

/-- A lane in UP that leaves it reports LANE_DOWN (R84). -/
theorem laneDown_up {l : Nat} (h : s.laneSt l = 5) : s.laneDown l = s.event (Pg.lane l) E.LANE_LANE_DOWN :=
  s.when_of_true _ (beq_iff_eq.mpr h)

/-- A lane that is not in UP has nothing to report. -/
theorem laneDown_notUp {l : Nat} (h : s.laneSt l ≠ 5) : s.laneDown l = s := by
  rw [laneDown, beq_false_of_ne h, when_false]

theorem laneTraining_iff {l : Nat} : s.laneTraining l = true ↔ s.laneSt l = 2 ∨ s.laneSt l = 3 ∨ s.laneSt l = 4 := by
  simp only [laneTraining, Bool.and_eq_true, decide_eq_true_eq]
  omega

end State

end Sys2Proof.Machine
end

section
/-! The settling of the statements on the receiver's states and transitions. -/

namespace Sys2Proof.Machine

/-- Settles O13: the five fields that follow the state read as R67 says (`laneSt_laneTo_same`, `on_laneTo_lockBits`), and
every field apart from them, every other register and every other lane is as before. -/
theorem laneStateRegister : Obligations.LaneStateRegister := by
  unfold Obligations.LaneStateRegister
  intro s l st t
  obtain ⟨hcdr, hblock, hdeskewed, hidle⟩ := s.on_laneTo_lockBits l st
  refine ⟨s.laneSt_laneTo_same l (by omega), hcdr.trans (Bool.decide_and _ _).symm, hblock.trans ?_, hdeskewed, hidle,
    fun f hoff hlo hbeside => s.get_laneTo_apart fun g hg => ?_, fun k hk => s.regs_laneTo_ne l st hk,
    fun m hm => s.lane_laneTo_ne st (Fin.val_ne_of_ne hm), rfl⟩
  · rw [Bool.decide_or]; rfl
  · have hstate : ∀ g ∈ State.stateFields, g.off = R.LANE_STATUS.off := by decide
    have hside := hbeside g hg
    simp only [Fld.apart, hoff, hstate g hg, hlo, bne_self_eq_false, Bool.false_or, decide_true, Bool.and_true,
      Bool.and_eq_true, Bool.or_eq_true, decide_eq_true_eq]
    exact ⟨⟨by decide, by decide⟩, hside⟩

/-- The end of a lane's meaning from the state it gives. -/
theorem finish_of_eq {s t : State} (h : s = t) : finish s = .next t.settle := by rw [h]; rfl

/-- Settles O14: each command tests the state of the lane, and in the state of R67 takes the transition. The end of UP by
squelch reports LANE_DOWN (`laneDown_up`). -/
theorem laneReceiverTransitions : Obligations.LaneReceiverTransitions := by
  unfold Obligations.LaneReceiverTransitions
  intro s l good bad p
  refine ⟨?_, ?_, ?_, ?_, ?_, ?_, ?_, ?_, ?_⟩
  · intro hst
    exact finish_of_eq (if_pos hst)
  · intro hst
    exact finish_of_eq (if_pos hst)
  · intro hst hauto hgood
    exact finish_of_eq ((if_pos hst).trans
      (State.when_of_true _ _ (Bool.and_eq_true_iff.mpr ⟨hauto, decide_eq_true hgood⟩)))
  · intro hst
    exact finish_of_eq (if_pos hst)
  · intro hst hidle
    exact finish_of_eq ((if_pos hst).trans (if_pos hidle))
  · intro hst hidle
    refine finish_of_eq ((if_pos hst).trans ((if_neg (Bool.eq_false_iff.mp hidle)).trans ?_))
    rw [s.laneDown_up hst]
  · intro hst
    have htraining := s.laneTraining_iff.mpr hst
    exact ⟨finish_of_eq (if_pos htraining), finish_of_eq (if_pos htraining)⟩
  · intro hst
    exact ⟨finish_of_eq (if_pos hst), finish_of_eq (if_pos hst)⟩
  · intro hst
    exact finish_of_eq (if_pos hst)

end Sys2Proof.Machine
end

section
/-! SUPPORT. The commands to a lane page (R67 to R83): the word that a command of one field writes, and what a write of
LANE_CMD, EQ_BOUNDS, PRBS_CTRL and EYE_CTRL does. -/

namespace Sys2Proof.Machine.State

open Sys2Proof (Word Agent LaneId)

variable (s : State)

/-! ### A lane page -/

theorem isEngine_lane (l : LaneId) : isEngine (Pg.lane l) = false := by
  have hlt : ¬ 0x100 ≤ Pg.lane l := by unfold Pg.lane; omega
  simp [isEngine, hlt]

theorem blockRegs_lane (l : LaneId) : blockRegs (Pg.lane l) = regsLane :=
  if_pos (by unfold Pg.lane; omega)

/-- A lane page is no page of a table or of another block. -/
theorem lane_ne_of_lt (l : LaneId) {p : Nat} (h : p < 0x040 ∨ 0x055 < p) : Pg.lane l ≠ p := by
  unfold Pg.lane; omega

theorem descOf_lane (l : LaneId) {off : Nat} (hoff : 0x28 ≤ off) :
    s.descOf (Pg.lane l) off = findDesc regsLane off := by
  rw [s.descOf_block _ off (isEngine_lane l) (Nat.not_lt.mpr hoff), blockRegs_lane]

/-- The registers of a lane page stand in place: it has no windows. -/
theorem locate_lane (l : LaneId) (off : Nat) : s.locate (Pg.lane l) off = (Pg.lane l, off) := by
  have hne : ∀ p, p < 0x040 ∨ 0x055 < p → Pg.lane l ≠ p := fun p => lane_ne_of_lt l
  simp [locate, isEngine_lane, hne Pg.qprof (by decide), hne Pg.interrupts (by decide), hne Pg.kinds (by decide),
    hne Pg.digest (by decide), hne Pg.directory (by decide)]

/-- Whether a register of a lane page is Kept stands in its table. -/
theorem keptKey_lane (l : LaneId) {off : Nat} (h1 : 0x28 ≤ off) (h2 : off < 0x1000000) :
    keptKey (regKey (Pg.lane l) off) = (findDesc regsLane off).any (·.kept) := by
  have hpage : regKey (Pg.lane l) off / 0x1000000 = Pg.lane l := by unfold regKey; omega
  have hoff : regKey (Pg.lane l) off % 0x1000000 = off := by unfold regKey; omega
  have hlt : Pg.lane l < 0x200 := by unfold Pg.lane; omega
  rw [keptKey, hpage, hoff, descAt, if_pos hlt, if_neg (Nat.not_lt.mpr h1), blockRegs_lane]
  cases findDesc regsLane off <;> rfl

/-- A command to a lane page that passes the check has the effect of a write of its register. -/
theorem poke_lane_ok {a : Agent} {l : LaneId} {off : Nat} (v : Word) (h : s.writeCode a (Pg.lane l) off = .ok) :
    s.poke a (Pg.lane l) off v (wrLane l) = wrLane l s off v := by
  have hne : ∀ p, p < 0x040 ∨ 0x055 < p → Pg.lane l ≠ p := fun p => lane_ne_of_lt l
  refine s.poke_ok' a _ off v _ (hne Pg.identity (by decide)) ?_ h
  simp [stagingBit, hne Pg.sched (by decide), hne Pg.epoch (by decide)]

theorem laneCmd_ok {a : Agent} {l : LaneId} {f : Fld} {off : Nat} (x : Nat) (hoff : f.off = off)
    (h : s.writeCode a (Pg.lane l) off = .ok) :
    s.laneCmd a l f x = wrLane l s off (s.withField (Pg.lane l) f x) := by
  subst hoff
  exact s.poke_lane_ok _ h

/-! ### The word of a command -/

/-- A field of one bit is 1 when its bit is. -/
theorem on_eq_bitOf (p : Nat) {f : Fld} (hw : f.w = 1) : s.on p f = bitOf (s.rd p f.off).toNat f.lo := by
  rw [on, get, bitsOf, hw, bitOf, Nat.testBit_eq_decide_div_mod_eq]
  rfl

/-- The bits of the word that a command of one bit writes to a lane page: its own bit carries the command, the writable bits
beside it their values. -/
theorem bitOf_laneWord (l : LaneId) {f : Fld} {d : RegDesc} (x : Nat) {i : Nat} (hw : f.w = 1) (hoff : 0x28 ≤ f.off)
    (hd : findDesc regsLane f.off = some d) (hi : i < 32) :
    bitOf (s.withField (Pg.lane l) f x).toNat i =
      if i = f.lo then bitOf x 0 else bitOf (s.rd (Pg.lane l) f.off).toNat i && bitOf (d.rw ||| d.rwk) i := by
  have hiff : (f.lo ≤ i ∧ i < f.lo + f.w) ↔ i = f.lo := by omega
  rw [bitOf, s.testBit_withField _ f x i hi ((s.descOf_lane l hoff).trans hd)]
  simp only [hiff]
  split
  case isTrue h => rw [h, Nat.sub_self, bitOf]
  case isFalse => rfl

/-! ### LANE_CMD (R67, R70, R75, R77) -/

/-- TEST_MODE written as `b`. -/
def cmdTest (s : State) (l : Nat) (b : Bool) : State :=
  let p := Pg.lane l
  if b && !s.on p R.LANE_CMD_TEST_MODE then
    if s.sideEnabled (laneLink l) then s.event p E.LANE_TEST_REFUSED
    else (s.setF p R.LANE_CMD_TEST_MODE).when (s.laneSt l == 0) fun t => t.laneTo l 8
  else if !b && s.on p R.LANE_CMD_TEST_MODE then
    ((s.clrF p R.LANE_CMD_TEST_MODE).when (s.laneSt l == 8) fun t => t.laneTo l 0).laneStart l
  else s

/-- IDLE_REQ written as `b`. -/
def cmdIdle (s : State) (l : Nat) (b : Bool) : State :=
  let p := Pg.lane l
  if b && !s.on p R.LANE_CMD_IDLE_REQ then (s.setF p R.LANE_CMD_IDLE_REQ).laneTx l 0
  else if !b && s.on p R.LANE_CMD_IDLE_REQ then (s.clrF p R.LANE_CMD_IDLE_REQ).laneTx l 2
  else s

/-- The owner searches the alignment: BIT_SLIP and LOCK_HERE act (R70). -/
def searching (s : State) (l : Nat) : Bool := s.laneSt l == 3 && !s.on (Pg.lane l) R.LANE_CFG_AUTO_ALIGN

/-- The four commands of LANE_CMD, each where its bit is written 1. -/
def cmdPulses (s : State) (l : Nat) (slip lock retrain clear : Bool) : State :=
  (((s.when (slip && s.searching l) fun t =>
    (t.put (Pg.lane l) R.LANE_STATUS_SLIP_POS ((t.get (Pg.lane l) R.LANE_STATUS_SLIP_POS + 1) % 66)).wr (Pg.lane l)
      R.ALIGN_STAT.off 0).when (lock && s.searching l) fun t => t.laneTo l 4).when retrain fun t => t.laneRetrain l).when
        clear fun t => t.laneCntClear l

theorem wrLaneCmd_eq (l v : Nat) :
    s.wrLaneCmd l v =
      ((s.cmdTest l (bitOf v 0)).cmdIdle l (bitOf v 1)).cmdPulses l (bitOf v 2) (bitOf v 3) (bitOf v 4) (bitOf v 5) := rfl

/-- A level of LANE_CMD written as it stands does nothing. -/
theorem cmdTest_same (l : Nat) : s.cmdTest l (s.on (Pg.lane l) R.LANE_CMD_TEST_MODE) = s := by simp [cmdTest]

theorem cmdIdle_same (l : Nat) : s.cmdIdle l (s.on (Pg.lane l) R.LANE_CMD_IDLE_REQ) = s := by simp [cmdIdle]

theorem cmdPulses_none (l : Nat) : s.cmdPulses l false false false false = s := by
  rw [cmdPulses, Bool.false_and, when_false, when_false, when_false, when_false]

theorem cmdPulses_slip {l : Nat} (h : s.searching l = true) :
    s.cmdPulses l true false false false =
      (s.put (Pg.lane l) R.LANE_STATUS_SLIP_POS ((s.get (Pg.lane l) R.LANE_STATUS_SLIP_POS + 1) % 66)).wr (Pg.lane l)
        R.ALIGN_STAT.off 0 := by
  rw [cmdPulses, h, Bool.and_self, Bool.false_and, when_true, when_false, when_false, when_false]

theorem cmdPulses_lock {l : Nat} (h : s.searching l = true) : s.cmdPulses l false true false false = s.laneTo l 4 := by
  rw [cmdPulses, h, Bool.and_self, Bool.false_and, when_false, when_true, when_false, when_false]

theorem cmdPulses_retrain (l : Nat) : s.cmdPulses l false false true false = s.laneRetrain l := by
  rw [cmdPulses, Bool.false_and, when_false, when_false, when_true, when_false]

/-- The bits of a one-bit command of LANE_CMD: the levels of TEST_MODE and IDLE_REQ stay unless they are commanded, and no
other command goes with it. -/
theorem bitOf_laneCmdWord (l : LaneId) {f : Fld} (x : Nat) {i : Nat} (hoff : f.off = R.LANE_CMD.off) (hw : f.w = 1)
    (hi : i < 32) :
    bitOf (s.withField (Pg.lane l) f x).toNat i =
      if i = f.lo then bitOf x 0 else bitOf (s.rd (Pg.lane l) R.LANE_CMD.off).toNat i && decide (i < 2) := by
  have hrw : bitOf (0x3 ||| 0) i = decide (i < 2) := Nat.testBit_two_pow_sub_one 2 i
  rw [← hrw, ← hoff]
  exact s.bitOf_laneWord l (d := { off := 0x044, rw := 0x3, wo := 0x3C }) x hw (by rw [hoff]; decide)
    (by rw [hoff]; rfl) hi

/-- A write of LANE_CMD by a command of one bit: the levels first, then the commands. -/
theorem laneCmd_eq {a : Agent} {l : LaneId} {f : Fld} (x : Nat) (hoff : f.off = R.LANE_CMD.off) (hw : f.w = 1)
    (h : s.writeCode a (Pg.lane l) R.LANE_CMD.off = .ok) :
    s.laneCmd a l f x =
      ((s.cmdTest l (if 0 = f.lo then bitOf x 0 else s.on (Pg.lane l) R.LANE_CMD_TEST_MODE)).cmdIdle l
        (if 1 = f.lo then bitOf x 0 else s.on (Pg.lane l) R.LANE_CMD_IDLE_REQ)).cmdPulses l
          (decide (2 = f.lo) && bitOf x 0) (decide (3 = f.lo) && bitOf x 0) (decide (4 = f.lo) && bitOf x 0)
          (decide (5 = f.lo) && bitOf x 0) := by
  have hbit := fun i (hi : i < 32) => s.bitOf_laneCmdWord l x hoff hw hi
  have hwr : wrLane l s R.LANE_CMD.off (s.withField (Pg.lane l) f x) =
      s.wrLaneCmd l (s.withField (Pg.lane l) f x).toNat := rfl
  have hpulse : ∀ i, 2 ≤ i → i < 6 →
      bitOf (s.withField (Pg.lane l) f x).toNat i = (decide (i = f.lo) && bitOf x 0) := fun i h2 h6 => by
    rw [hbit i (by omega), decide_eq_false (by omega : ¬ i < 2)]
    by_cases hlo : i = f.lo <;> simp [hlo]
  rw [s.laneCmd_ok x hoff h, hwr, wrLaneCmd_eq, hpulse 2 (by decide) (by decide), hpulse 3 (by decide) (by decide),
    hpulse 4 (by decide) (by decide), hpulse 5 (by decide) (by decide), hbit 0 (by decide), hbit 1 (by decide),
    s.on_eq_bitOf _ (f := R.LANE_CMD_TEST_MODE) rfl, s.on_eq_bitOf _ (f := R.LANE_CMD_IDLE_REQ) rfl]
  simp only [decide_true, Nat.zero_lt_two, Nat.one_lt_two, Bool.and_true, R.LANE_CMD, R.LANE_CMD_TEST_MODE,
    R.LANE_CMD_IDLE_REQ]

/-- A command bit of LANE_CMD leaves its levels as they are. -/
theorem laneCmd_pulse {a : Agent} {l : LaneId} {f : Fld} (hoff : f.off = R.LANE_CMD.off) (hw : f.w = 1) (hlo : 2 ≤ f.lo)
    (h : s.writeCode a (Pg.lane l) R.LANE_CMD.off = .ok) :
    s.laneCmd a l f 1 =
      s.cmdPulses l (decide (2 = f.lo)) (decide (3 = f.lo)) (decide (4 = f.lo)) (decide (5 = f.lo)) := by
  have hone : bitOf 1 0 = true := rfl
  rw [s.laneCmd_eq 1 hoff hw h, if_neg (by omega), if_neg (by omega), cmdTest_same, cmdIdle_same]
  simp only [hone, Bool.and_true]

/-- A write of IDLE_REQ, which leaves TEST_MODE as it is. -/
theorem laneCmd_idleReq {a : Agent} {l : LaneId} (x : Nat) (h : s.writeCode a (Pg.lane l) R.LANE_CMD.off = .ok) :
    s.laneCmd a l R.LANE_CMD_IDLE_REQ x = s.cmdIdle l (bitOf x 0) := by
  rw [s.laneCmd_eq (f := R.LANE_CMD_IDLE_REQ) x rfl rfl h]
  simp [R.LANE_CMD_IDLE_REQ, cmdTest_same, cmdPulses_none]

/-- A write of TEST_MODE, which leaves IDLE_REQ as it is. -/
theorem laneCmd_testMode {a : Agent} {l : LaneId} (x : Nat) (h : s.writeCode a (Pg.lane l) R.LANE_CMD.off = .ok)
    (hidle : (s.cmdTest l (bitOf x 0)).on (Pg.lane l) R.LANE_CMD_IDLE_REQ = s.on (Pg.lane l) R.LANE_CMD_IDLE_REQ) :
    s.laneCmd a l R.LANE_CMD_TEST_MODE x = s.cmdTest l (bitOf x 0) := by
  rw [s.laneCmd_eq (f := R.LANE_CMD_TEST_MODE) x rfl rfl h, ← hidle]
  simp [R.LANE_CMD_TEST_MODE, cmdIdle_same, cmdPulses_none]

theorem laneCmd_lockHere {a : Agent} {l : LaneId} (h : s.writeCode a (Pg.lane l) R.LANE_CMD.off = .ok)
    (hsearch : s.searching l = true) : s.laneCmd a l R.LANE_CMD_LOCK_HERE 1 = s.laneTo l 4 :=
  (s.laneCmd_pulse (f := R.LANE_CMD_LOCK_HERE) rfl rfl (by decide) h).trans (s.cmdPulses_lock hsearch)

theorem laneCmd_bitSlip {a : Agent} {l : LaneId} (h : s.writeCode a (Pg.lane l) R.LANE_CMD.off = .ok)
    (hsearch : s.searching l = true) :
    s.laneCmd a l R.LANE_CMD_BIT_SLIP 1 =
      (s.put (Pg.lane l) R.LANE_STATUS_SLIP_POS ((s.get (Pg.lane l) R.LANE_STATUS_SLIP_POS + 1) % 66)).wr (Pg.lane l)
        R.ALIGN_STAT.off 0 :=
  (s.laneCmd_pulse (f := R.LANE_CMD_BIT_SLIP) rfl rfl (by decide) h).trans (s.cmdPulses_slip hsearch)

theorem laneCmd_retrain {a : Agent} {l : LaneId} (h : s.writeCode a (Pg.lane l) R.LANE_CMD.off = .ok) :
    s.laneCmd a l R.LANE_CMD_RETRAIN 1 = s.laneRetrain l :=
  (s.laneCmd_pulse (f := R.LANE_CMD_RETRAIN) rfl rfl (by decide) h).trans (s.cmdPulses_retrain l)

theorem cmdIdle_set {l : Nat} (h : s.on (Pg.lane l) R.LANE_CMD_IDLE_REQ = false) :
    s.cmdIdle l true = (s.setF (Pg.lane l) R.LANE_CMD_IDLE_REQ).laneTx l 0 := by simp [cmdIdle, h]

theorem cmdIdle_clear {l : Nat} (h : s.on (Pg.lane l) R.LANE_CMD_IDLE_REQ = true) :
    s.cmdIdle l false = (s.clrF (Pg.lane l) R.LANE_CMD_IDLE_REQ).laneTx l 2 := by simp [cmdIdle, h]

/-- TEST_MODE is refused while the side is enabled (R77). -/
theorem cmdTest_set_enabled {l : Nat} (hside : s.sideEnabled (laneLink l) = true)
    (h : s.on (Pg.lane l) R.LANE_CMD_TEST_MODE = false) :
    s.cmdTest l true = s.event (Pg.lane l) E.LANE_TEST_REFUSED := by simp [cmdTest, h, hside]

/-- A lane in DISABLED whose side is disabled enters TEST (R67). -/
theorem cmdTest_set_disabled {l : Nat} (hst : s.laneSt l = 0) (hside : s.sideEnabled (laneLink l) = false)
    (h : s.on (Pg.lane l) R.LANE_CMD_TEST_MODE = false) :
    s.cmdTest l true = (s.setF (Pg.lane l) R.LANE_CMD_TEST_MODE).laneTo l 8 := by simp [cmdTest, h, hside, hst]

/-- A lane of a side that is disabled does not start. -/
theorem laneStart_disabled {l : Nat} (hside : s.sideEnabled (laneLink l) = false) : s.laneStart l = s := by
  simp [laneStart, hside]

/-- The enable of a side stands in the side's page, which no change of a lane page reaches. -/
theorem sideEnabled_lanePage (l : LaneId) (k : Nat) (f : Fld) (v st : Nat) (hf : f.off < 0x1000000) :
    ((s.put (Pg.lane l) f v).laneTo l st).sideEnabled k = s.sideEnabled k := by
  have hne : Pg.link k ≠ Pg.lane l := by unfold Pg.link Pg.lane; omega
  rw [sideEnabled, on, get_laneTo_ne _ st (by decide) (.inl hne),
    s.get_put_ne _ _ f _ v hf (by decide) (by decide) (.inl hne)]
  rfl

/-- A lane in TEST whose side is disabled returns to DISABLED and stays there (R67). -/
theorem cmdTest_clear_disabled {l : LaneId} (hst : s.laneSt l = 8) (hside : s.sideEnabled (laneLink l) = false)
    (h : s.on (Pg.lane l) R.LANE_CMD_TEST_MODE = true) :
    s.cmdTest l false = (s.clrF (Pg.lane l) R.LANE_CMD_TEST_MODE).laneTo l 0 := by
  have hstay : ((s.clrF (Pg.lane l) R.LANE_CMD_TEST_MODE).laneTo l 0).laneStart l =
      (s.clrF (Pg.lane l) R.LANE_CMD_TEST_MODE).laneTo l 0 :=
    laneStart_disabled _ ((s.sideEnabled_lanePage l _ R.LANE_CMD_TEST_MODE 0 0 (by decide)).trans hside)
  simp [cmdTest, h, hst, hstay]

/-- A lane in training drops what it retained and starts from CDR_ACQUIRE (R67). -/
theorem laneRetrain_notUp {l : Nat} (h0 : s.laneSt l ≠ 0) (h8 : s.laneSt l ≠ 8) (h5 : s.laneSt l ≠ 5) :
    s.laneRetrain l = (s.laneRetain l false).laneTo l 2 := by
  rw [laneRetrain, if_neg (by omega), s.laneDown_notUp h5]

/-- From UP it reports LANE_DOWN as well (R84). -/
theorem laneRetrain_up {l : Nat} (h : s.laneSt l = 5) :
    s.laneRetrain l = ((s.event (Pg.lane l) E.LANE_LANE_DOWN).laneRetain l false).laneTo l 2 := by
  rw [laneRetrain, if_neg (by omega), s.laneDown_up h]

/-! ### EQ_BOUNDS (R73) -/

/-- A write of an active word leaves every other Kept word alone. -/
theorem rd_wrKept_ne (p off : Nat) (v : Word) {q r : Nat} (hkept : keptKey (regKey q r) = true)
    (hne : regKey q r ≠ regKey p off) : (s.wrKept p off v).rd q r = s.rd q r := by
  have hwr : (s.wr p off v).rd q r = s.rd q r := s.regs_wr_ne p off v hne
  unfold wrKept
  dsimp only
  split
  · exact (regs_digestStale_kept _ _ _ _ _ _ hkept).trans ((regs_journal_kept _ _ _ hkept).trans hwr)
  · exact hwr

/-- A write of a register of a lane page that stages nothing is a write of one word, whose bits follow their access codes
(R27). -/
theorem storeWrite_lane (l : LaneId) {off : Nat} (v : Word) {d : RegDesc} (hoff : 0x28 ≤ off)
    (hd : findDesc regsLane off = some d) (hrwe : d.rwe = 0) :
    ∃ new, s.storeWrite (Pg.lane l) off v = s.wrKept (Pg.lane l) off new ∧ ∀ i < 32, bitOf new.toNat i =
      (if bitOf d.w1c i && bitOf v.toNat i then false
       else if bitOf d.w1s i && bitOf v.toNat i then true
       else if bitOf d.rw i || (bitOf d.rwk i && s.unlocked) then bitOf v.toNat i
       else bitOf (s.rd (Pg.lane l) off).toNat i) :=
  s.storeWrite_inPlace v ((s.descOf_lane l hoff).trans hd) (s.locate_lane l off) hrwe (by omega) (by omega)

/-- A write of the bounds leaves LANE_CFG alone. -/
theorem on_storeWrite_bounds (l : LaneId) (v : Word) :
    (s.storeWrite (Pg.lane l) R.EQ_BOUNDS.off v).on (Pg.lane l) R.LANE_CFG_EQ_ADAPT =
      s.on (Pg.lane l) R.LANE_CFG_EQ_ADAPT := by
  obtain ⟨new, hnew, -⟩ := s.storeWrite_lane l v (off := R.EQ_BOUNDS.off) (by decide) rfl rfl
  have hkept : keptKey (regKey (Pg.lane l) R.LANE_CFG_EQ_ADAPT.off) = true :=
    (keptKey_lane l (by decide) (by decide)).trans (by decide)
  rw [hnew, on, get, s.rd_wrKept_ne _ _ _ hkept (regKey_ne (by decide) (by decide) (.inr (by decide))), on, get]

/-- Bounds in order are stored; without adaptation they move nothing. -/
theorem wrLane_bounds (l : LaneId) {v : Word} (hctle : bitsOf v.toNat 0 5 ≤ bitsOf v.toNat 8 5)
    (hvga : bitsOf v.toNat 16 4 ≤ bitsOf v.toNat 20 4) (hadapt : s.on (Pg.lane l) R.LANE_CFG_EQ_ADAPT = false) :
    wrLane l s R.EQ_BOUNDS.off v = s.storeWrite (Pg.lane l) R.EQ_BOUNDS.off v := by
  have hstay : (s.storeWrite (Pg.lane l) R.EQ_BOUNDS.off v).on (Pg.lane l) R.LANE_CFG_EQ_ADAPT = false :=
    (s.on_storeWrite_bounds l v).trans hadapt
  have hwr : wrLane l s R.EQ_BOUNDS.off v = s.wrBounds l R.EQ_BOUNDS.off v := rfl
  rw [hwr, wrBounds, if_neg (by omega), laneToBounds, hstay]
  rfl

/-- A lower bound above its upper one is refused (R73). -/
theorem wrLane_bounds_refused (l : LaneId) {v : Word} (hctle : bitsOf v.toNat 8 5 < bitsOf v.toNat 0 5) :
    wrLane l s R.EQ_BOUNDS.off v = s.event (Pg.lane l) E.LANE_BOUNDS_REFUSED := if_pos ⟨rfl, .inl hctle⟩

end Sys2Proof.Machine.State
end

section
/-! The settling of the statement on the owner's commands to a lane. -/

namespace Sys2Proof.Machine

/-- Settles O15: a command of LANE_CMD is one bit of its word and leaves the others as they are (`laneCmd_pulse`,
`laneCmd_testMode`, `laneCmd_idleReq`); EQ_BOUNDS is stored where its bounds are in order. -/
theorem laneCommands : Obligations.LaneCommands := by
  unfold Obligations.LaneCommands
  intro s a l v p
  refine ⟨fun hok => ⟨?_, ?_, ?_, ?_, ?_, ?_, ?_, ?_⟩, fun hok => ⟨?_, ?_⟩⟩
  · intro hst hauto
    have hsearch : s.searching l = true := by simp [State.searching, hst, p, hauto]
    constructor
    · exact finish_of_eq (s.laneCmd_lockHere hok hsearch)
    · exact finish_of_eq (s.laneCmd_bitSlip hok hsearch)
  · intro hst
    exact finish_of_eq ((s.laneCmd_retrain hok).trans (s.laneRetrain_notUp (by omega) (by omega) (by omega)))
  · intro hst
    exact finish_of_eq ((s.laneCmd_retrain hok).trans (s.laneRetrain_up hst))
  · intro hst hside htest
    have hset := s.cmdTest_set_disabled hst hside htest
    refine finish_of_eq ((s.laneCmd_testMode 1 hok ?_).trans hset)
    refine (congrArg (·.on p R.LANE_CMD_IDLE_REQ) hset).trans ?_
    exact (State.on_laneTo_apart _ (by decide)).trans (s.on_put_apart _ _ (by decide))
  · intro hside htest
    have hset := s.cmdTest_set_enabled hside htest
    refine finish_of_eq ((s.laneCmd_testMode 1 hok ?_).trans hset)
    exact (congrArg (·.on p R.LANE_CMD_IDLE_REQ) hset).trans (s.on_put_apart _ _ (by decide))
  · intro hst hside htest
    have hclear := s.cmdTest_clear_disabled hst hside htest
    refine finish_of_eq ((s.laneCmd_testMode 0 hok ?_).trans hclear)
    refine (congrArg (·.on p R.LANE_CMD_IDLE_REQ) hclear).trans ?_
    exact (State.on_laneTo_apart _ (by decide)).trans (s.on_put_apart _ _ (by decide))
  · intro hidle
    exact finish_of_eq ((s.laneCmd_idleReq 1 hok).trans (s.cmdIdle_set hidle))
  · intro hidle
    exact finish_of_eq ((s.laneCmd_idleReq 0 hok).trans (s.cmdIdle_clear hidle))
  · intro hctle hvga hadapt
    exact finish_of_eq ((s.poke_lane_ok v hok).trans (s.wrLane_bounds l hctle hvga hadapt))
  · intro hctle
    exact finish_of_eq ((s.poke_lane_ok v hok).trans (s.wrLane_bounds_refused l hctle))

end Sys2Proof.Machine
end

section
/-! SUPPORT. What a lane finds (R64 to R67, R75 to R83): a foreign marker, the end of a fast exit, its test pattern and its
eye. -/

namespace Sys2Proof.Machine.State

open Sys2Proof (Word Agent LaneId)

variable (s : State)

/-! ### Counting in a lane page -/

/-- Counting leaves a field of another register alone, save the page's events. -/
theorem get_countN_ne (p : Nat) (f : Fld) (n : Nat) {g : Fld} (hf : f.off < 0x1000000) (hg : g.off < 0x1000000)
    (h : g.off ≠ f.off) (hev : g.off ≠ 0x010) : (s.countN p f n).get p g = s.get p g := by
  rw [get, rd, s.regs_countN_ne p f n (regKey_ne hg hf (.inr h)) (regKey_ne hg (by decide) (.inr hev))]
  rfl

/-- A counter reads as the sum, or as all ones where it saturates (R81). -/
theorem get_countN_same (p : Nat) {f : Fld} (n : Nat) (hf : f.off < 0x1000000) (hlo : f.lo + f.w ≤ 32)
    (hev : f.off ≠ 0x010) : (s.countN p f n).get p f = satAdd f.w (s.get p f) n := by
  have hput : (s.put p f (satAdd f.w (s.get p f) n)).get p f = satAdd f.w (s.get p f) n := by
    refine (s.get_put_same p f _ hlo).trans (Nat.mod_eq_of_lt ?_)
    exact (Nat.min_le_right _ _).trans_lt (Nat.sub_lt (Nat.two_pow_pos _) Nat.one_pos)
  unfold countN
  dsimp only
  split
  · split
    · exact (get_put_ne _ p p ⟨0x010, _, 1⟩ f 1 (by decide : 0x010 < _) hf hlo (.inr (.inl hev))).trans hput
    · exact hput
  · exact hput

/-- An event sets its bit. -/
theorem bitOf_event_same (p : Nat) {n : Nat} (h : n < 32) : bitOf ((s.event p n).rd p 0x010).toNat n = true := by
  have hrd : (s.event p n).rd p 0x010 = BitVec.ofNat 32 (bitsPut (s.rd p 0x010).toNat n 1 1) := s.rd_put_same p _ 1
  rw [hrd, bitOf, BitVec.toNat_ofNat, Nat.testBit_mod_two_pow, testBit_bitsPut]
  simp [h]

/-! ### Markers (R64, R65) -/

/-- The headers of a report are counted in ALIGN_STAT and CNT_SH_ERR. -/
theorem on_laneHeaders_apart (l good bad : Nat) {g : Fld} (hgood : R.ALIGN_STAT_SH_GOOD.apart g = true)
    (hbad : R.ALIGN_STAT_SH_BAD.apart g = true) (hg : g.off < 0x1000000) (herr : g.off ≠ R.CNT_SH_ERR.off)
    (hev : g.off ≠ 0x010) : (s.laneHeaders l good bad).on (Pg.lane l) g = s.on (Pg.lane l) g := by
  have hcount : ∀ t : State, (t.laneCountN l R.CNT_SH_ERR bad).get (Pg.lane l) g = t.get (Pg.lane l) g := fun t => by
    unfold laneCountN
    split
    · rfl
    · exact t.get_countN_ne _ _ _ (by decide) hg herr hev
  unfold laneHeaders
  dsimp only
  split
  · rw [on, hcount, get_put_apart _ _ _ hbad, get_put_apart _ _ _ hgood, on]
  · rw [on, get_put_apart _ _ _ hbad, get_put_apart _ _ _ hgood, on]

theorem rxInverted_laneHeaders (l good bad : Nat) : (s.laneHeaders l good bad).rxInverted l = s.rxInverted l := by
  simp (disch := decide) only [rxInverted, on_laneHeaders_apart]

/-- A true marker from another ORIGIN than the one expected: the partner is recorded, the mismatch reported (R65). -/
theorem laneMarker_mismatch {l raw : Nat} (bip arrival : Nat) (hinv : s.rxInverted l = false) (hstart : raw % 256 = 0xA5)
    (hcheck : bitsOf raw 32 32 = notW 32 raw) (horigin : bitsOf raw 8 8 / 32 ≠ expectedOrigin l) :
    s.laneMarker l raw bip arrival =
      ((((((((s.lanePolarity l raw).put (Pg.lane l) R.PARTNER_BYTE (bitsOf raw 8 8)).setF (Pg.lane l) R.PARTNER_VALID).setF
        (Pg.lane l) R.PARTNER_MISMATCH).put (Pg.lane l) R.LANE_STATUS_RX_LOGICAL (bitsOf raw 8 8)).laneCountN l R.CNT_BIP_ERR
        ((List.range 8).filter fun i => bitOf (bitsOf raw 16 8) i != bitOf bip i).length).event (Pg.lane l)
        E.LANE_CABLE_MISMATCH).raise (Pg.lane l) K.CABLE_MISMATCH (bitsOf raw 8 8 / 32)).modLane l fun x =>
        { x with missed := 0, mark := none } := by
  have hbad : (bitsOf raw 8 8 / 32 != expectedOrigin l) = true := bne_iff_ne.mpr horigin
  unfold laneMarker
  rw [hinv, if_neg Bool.false_ne_true]
  dsimp only
  rw [if_pos ⟨hstart, hcheck⟩, hbad, if_pos rfl]
  rfl

/-! ### The end of a fast exit (R67, R75, R76) -/

/-- The delay by which the deskew holds back a lane that enters UP. -/
def joinBlocks (hi : Nat) (t : State) (l : Nat) : Nat :=
  match (t.lane l).mark with
  | some m => hi - m.2
  | none => t.get (Pg.lane l) R.LANE_STATUS_DESKEW_BLOCKS

/-- A lane enters UP with its side, unless it is there. -/
def joinLane (hi : Nat) (t : State) (l : Nat) : State :=
  let p := Pg.lane l
  let st := t.laneSt l
  if st = 5 then t
  else
    let d := joinBlocks hi t l
    let u := (t.when (st == 7) fun u => u.countN p R.CNT_IDLE_EXIT 1).laneTo l 5
    ((u.put p R.LANE_STATUS_DESKEW_BLOCKS d).laneRetain l false).event p E.LANE_LANE_UP

/-- A side whose lanes are ready and have no marker between them enters UP. -/
theorem laneJoin_noMarks {k : Nat} (hready : (linkLanes k).all s.laneReady = true) (hmarks : s.deskewMarks k = [])
    (hany : ((linkLanes k).any fun l => s.laneSt l != 5) = true) :
    s.laneJoin k = (linkLanes k).foldl (joinLane 0) s := by
  unfold laneJoin
  rw [hmarks]
  dsimp only
  rw [if_pos ⟨hready, by decide, hany⟩, if_neg (by decide)]
  rfl

theorem joinLane_up {l : Nat} (hi : Nat) (h : s.laneSt l = 5) : joinLane hi s l = s := if_pos h

/-- A lane that completes its fast exit, with DESKEW_BLOCKS at `d`. -/
def fastExitUp (s : State) (l d : Nat) : State :=
  ((((s.countN (Pg.lane l) R.CNT_IDLE_EXIT 1).laneTo l 5).put (Pg.lane l) R.LANE_STATUS_DESKEW_BLOCKS d).laneRetain l
    false).event (Pg.lane l) E.LANE_LANE_UP

theorem joinLane_fastExit {l : Nat} (hi : Nat) (h : s.laneSt l = 7) :
    joinLane hi s l = s.fastExitUp l (joinBlocks hi s l) := by
  rw [joinLane, h, if_neg (by decide), beq_self_eq_true, when_true, fastExitUp]

theorem foldl_joinLane_up (hi : Nat) {ls : List Nat} (h : ∀ m ∈ ls, s.laneSt m = 5) : ls.foldl (joinLane hi) s = s := by
  induction ls with
  | nil => rfl
  | cons m ls ih =>
    rw [List.foldl_cons, s.joinLane_up hi (h m List.mem_cons_self)]
    exact ih fun n hn => h n (List.mem_cons_of_mem m hn)

/-- Where one lane of a side is not in UP, the side's entry is that of the lane. -/
theorem foldl_joinLane_last {hi l : Nat} {ls : List Nat} (hl : l ∈ ls) (hothers : ∀ m ∈ ls, m ≠ l → s.laneSt m = 5)
    (hup : ∀ m ∈ ls, (joinLane hi s l).laneSt m = 5) : ls.foldl (joinLane hi) s = joinLane hi s l := by
  induction ls with
  | nil => exact absurd hl List.not_mem_nil
  | cons m ls ih =>
    rw [List.foldl_cons]
    by_cases hm : m = l
    · subst hm
      exact foldl_joinLane_up _ hi fun n hn => hup n (List.mem_cons_of_mem m hn)
    · rw [s.joinLane_up hi (hothers m List.mem_cons_self hm)]
      exact ih ((List.mem_cons.mp hl).resolve_left (Ne.symm hm)) (fun n hn => hothers n (List.mem_cons_of_mem m hn))
        fun n hn => hup n (List.mem_cons_of_mem m hn)

theorem get_laneRetain_apart (l : Nat) (b : Bool) {g : Fld} (h : R.LANE_STATUS_FAST_EXIT_ELIGIBLE.apart g = true) :
    (s.laneRetain l b).get (Pg.lane l) g = s.get (Pg.lane l) g := get_putB_apart _ _ b h

theorem laneSt_fastExitUp_same (l d : Nat) : (s.fastExitUp l d).laneSt l = 5 := by
  unfold fastExitUp event laneSt
  rw [get_put_apart _ _ _ (by decide), get_laneRetain_apart _ _ _ (by decide), get_put_apart _ _ _ (by decide)]
  exact laneSt_laneTo_same _ l (by decide)

/-- The other lanes stand in other pages. -/
theorem laneSt_fastExitUp_ne {l m : Nat} (d : Nat) (h : m ≠ l) : (s.fastExitUp l d).laneSt m = s.laneSt m := by
  have hpage : Pg.lane m ≠ Pg.lane l := by unfold Pg.lane; omega
  have hput : ∀ (t : State) (f : Fld) (v : Nat), f.off < 0x1000000 →
      (t.put (Pg.lane l) f v).laneSt m = t.laneSt m := fun t f v hf =>
    t.get_put_ne _ _ f _ v hf (by decide) (by decide) (.inl hpage)
  have hretain : ∀ t : State, (t.laneRetain l false).laneSt m = t.laneSt m := fun t =>
    hput _ R.LANE_STATUS_FAST_EXIT_ELIGIBLE _ (by decide)
  have hcount : (s.countN (Pg.lane l) R.CNT_IDLE_EXIT 1).laneSt m = s.laneSt m := by
    rw [laneSt, get, s.rd_countN_page_ne _ _ (by decide) (by decide) hpage]
    rfl
  unfold fastExitUp event
  rw [hput _ _ _ (by decide : 0x010 < _), hretain, hput _ _ _ (by decide), laneSt_laneTo_ne _ _ h, hcount]

theorem on_eligible_fastExitUp (l d : Nat) :
    (s.fastExitUp l d).on (Pg.lane l) R.LANE_STATUS_FAST_EXIT_ELIGIBLE = false := by
  unfold fastExitUp event
  rw [on_put_apart _ _ _ (by decide), laneRetain, on_putB_same _ _ _ _ (by decide) rfl]

theorem get_idleExit_fastExitUp (l d : Nat) :
    (s.fastExitUp l d).get (Pg.lane l) R.CNT_IDLE_EXIT =
      satAdd R.CNT_IDLE_EXIT.w (s.get (Pg.lane l) R.CNT_IDLE_EXIT) 1 := by
  unfold fastExitUp event
  rw [get_put_apart _ _ _ (by decide), get_laneRetain_apart _ _ _ (by decide), get_put_apart _ _ _ (by decide),
    get_laneTo_apart _ (by decide), s.get_countN_same _ _ (by decide) (by decide) (by decide)]

theorem mem_linkLanes : ∀ l : LaneId, l.val ∈ linkLanes (laneLink l) := by decide

theorem lt_of_mem_linkLanes : ∀ l : LaneId, ∀ m ∈ linkLanes (laneLink l), m < 22 := by decide

/-- The last lane of its side to complete the fast exit enters UP, and the others are there. -/
theorem laneJoin_fastExit (l : LaneId) (hst : s.laneSt l = 7) (hok : (s.lane l).fastOk = true)
    (hothers : ∀ m ∈ linkLanes (laneLink l), m ≠ l.val → s.laneSt m = 5 ∧ (s.lane m).mark = none) :
    ∃ d, s.laneJoin (laneLink l) = s.fastExitUp l d ∧
      ∀ m ∈ linkLanes (laneLink l), (s.fastExitUp l d).laneSt m = 5 := by
  obtain ⟨d, hd⟩ : ∃ d, joinLane 0 s l = s.fastExitUp l d := ⟨_, s.joinLane_fastExit 0 hst⟩
  have hup : ∀ m ∈ linkLanes (laneLink l), (s.fastExitUp l d).laneSt m = 5 := fun m hm => by
    by_cases h : m = l.val
    · rw [h, s.laneSt_fastExitUp_same]
    · rw [s.laneSt_fastExitUp_ne d h, (hothers m hm h).1]
  have hready : (linkLanes (laneLink l)).all s.laneReady = true := List.all_eq_true.mpr fun m hm => by
    by_cases h : m = l.val
    · simp [laneReady, h, hst, hok]
    · simp [laneReady, (hothers m hm h).1]
  have hmarks : s.deskewMarks (laneLink l) = [] := List.filterMap_eq_nil_iff.mpr fun m hm => by
    by_cases h : m = l.val
    · simp [h, hst]
    · simp [(hothers m hm h).2]
  have hany : ((linkLanes (laneLink l)).any fun m => s.laneSt m != 5) = true :=
    List.any_eq_true.mpr ⟨l, mem_linkLanes l, by simp [hst]⟩
  refine ⟨d, ?_, hup⟩
  rw [s.laneJoin_noMarks hready hmarks hany,
    s.foldl_joinLane_last (mem_linkLanes l) (fun m hm h => (hothers m hm h).1) (by rwa [hd]), hd]

/-- Settling writes no register of a lane page. -/
theorem settleKey_lane {m off : Nat} (hm : m < 22) (hoff : off < 0x1000000) :
    settleKey (regKey (Pg.lane m) off) = false := by
  have hne : ∀ p o, p < 0x040 ∨ 0x055 < p → o < 0x1000000 → regKey (Pg.lane m) off ≠ regKey p o := fun p o hp ho =>
    regKey_ne hoff ho (.inl (by unfold Pg.lane; omega))
  simp [settleKey, hne, Pg.interrupts, Pg.intTime, Pg.liveHigh, R.INT_STATUS]

/-! ### The register of a command -/

/-- A register of a lane page that is neither Kept nor staged is written alone. -/
theorem storeWrite_lane_alone (l : LaneId) {off : Nat} (v : Word) {d : RegDesc} (h1 : 0x28 ≤ off) (h2 : off < 0x1000000)
    (hd : findDesc regsLane off = some d) (hrwe : d.rwe = 0) (hkept : d.kept = false) :
    ∃ new, s.storeWrite (Pg.lane l) off v = s.wr (Pg.lane l) off new ∧ ∀ i < 32, bitOf new.toNat i =
      (if bitOf d.w1c i && bitOf v.toNat i then false
       else if bitOf d.w1s i && bitOf v.toNat i then true
       else if bitOf d.rw i || (bitOf d.rwk i && s.unlocked) then bitOf v.toNat i
       else bitOf (s.rd (Pg.lane l) off).toNat i) := by
  obtain ⟨new, hnew, hbits⟩ := s.storeWrite_lane l v h1 hd hrwe
  have hkey : keptKey (regKey (Pg.lane l) off) = false := (keptKey_lane l h1 h2).trans (by rw [hd]; exact hkept)
  exact ⟨new, hnew.trans (s.wrKept_notKept new hkey), hbits⟩

/-- A command of one bit leaves the other bits of its register as they are, save those that a written 1 sets or clears. -/
theorem on_storeWrite_beside (l : LaneId) {f g : Fld} {d : RegDesc} (x : Nat) (h1 : 0x28 ≤ f.off) (h2 : f.off < 0x1000000)
    (hw : f.w = 1) (hd : findDesc regsLane f.off = some d) (hrwe : d.rwe = 0) (hkept : d.kept = false) (hrwk : d.rwk = 0)
    (hgoff : g.off = f.off) (hgw : g.w = 1) (hglo : g.lo < 32) (hne : g.lo ≠ f.lo) (hw1c : bitOf d.w1c g.lo = false)
    (hw1s : bitOf d.w1s g.lo = false) :
    (s.storeWrite (Pg.lane l) f.off (s.withField (Pg.lane l) f x)).on (Pg.lane l) g = s.on (Pg.lane l) g := by
  obtain ⟨new, hnew, hbits⟩ := s.storeWrite_lane_alone l (s.withField (Pg.lane l) f x) h1 h2 hd hrwe hkept
  have hword := s.bitOf_laneWord l x hw h1 hd hglo
  have hold : bitOf new.toNat g.lo = bitOf (s.rd (Pg.lane l) f.off).toNat g.lo := by
    rw [if_neg hne, hrwk, Nat.or_zero] at hword
    rw [hbits g.lo hglo, hw1c, hw1s, hword, hrwk]
    cases hrw : bitOf d.rw g.lo <;> simp [bitOf]
  rw [on_eq_bitOf _ _ hgw, on_eq_bitOf _ _ hgw, hgoff, hnew, rd_wr_same, hold]

/-- A write of such a register leaves the lane in its state. -/
theorem laneSt_storeWrite (l : LaneId) {off : Nat} (v : Word) {d : RegDesc} (h1 : 0x28 ≤ off) (h2 : off < 0x1000000)
    (hd : findDesc regsLane off = some d) (hrwe : d.rwe = 0) (hkept : d.kept = false) (hne : R.LANE_STATUS.off ≠ off) :
    (s.storeWrite (Pg.lane l) off v).laneSt l = s.laneSt l := by
  obtain ⟨new, hnew, -⟩ := s.storeWrite_lane_alone l v h1 h2 hd hrwe hkept
  rw [hnew, laneSt, get, s.rd_wr_ne (Pg.lane l) _ _ R.LANE_STATUS_STATE.off _ h2 (by decide) (.inr hne)]
  rfl

/-! ### The test pattern (R78 to R80) -/

theorem prbsCount_eq (l bits errs : Nat) : ∃ x, s.prbsCount l bits errs = { s with lanes := x } := by
  unfold prbsCount
  split
  · exact ⟨_, rfl⟩
  · exact ⟨s.lanes, rfl⟩

theorem writeCode_prbsCount (l bits errs : Nat) (a : Agent) (p off : Nat) :
    (s.prbsCount l bits errs).writeCode a p off = s.writeCode a p off := by
  obtain ⟨x, hx⟩ := s.prbsCount_eq l bits errs
  rw [hx]
  rfl

theorem withField_prbsCount (l bits errs p : Nat) (f : Fld) (v : Nat) :
    (s.prbsCount l bits errs).withField p f v = s.withField p f v := by
  obtain ⟨x, hx⟩ := s.prbsCount_eq l bits errs
  rw [hx]
  rfl

/-- The three commands of PRBS_CTRL, each where its bit is written 1. -/
def prbsPulses (s : State) (l : Nat) (inject snap clear : Bool) : State :=
  let p := Pg.lane l
  ((s.when (inject && s.laneSt l == 8 && s.on p R.PRBS_CTRL_GEN_EN) fun t => t.laneTx l 3).when snap fun t =>
    ((t.wr p R.PRBS_BITS_LO.off (BitVec.ofNat 32 (t.lane l).prbsBits)).wr p R.PRBS_BITS_HI.off
      (BitVec.ofNat 32 ((t.lane l).prbsBits / 2 ^ 32))).wr p R.PRBS_ERR.off (BitVec.ofNat 32 (t.lane l).prbsErrs)).when
    clear fun t => (t.modLane l fun x => { x with prbsBits := 0, prbsErrs := 0 }).clrF p R.PRBS_STAT_PRBS_LOCK_LOST

theorem wrPrbs_eq (l v : Nat) :
    s.wrPrbs l v =
      (s.storeWrite (Pg.lane l) R.PRBS_CTRL.off (BitVec.ofNat 32 v)).prbsPulses l (bitOf v 11) (bitOf v 12) (bitOf v 13) :=
  rfl

/-- The word of a one-bit command of PRBS_CTRL commands nothing else. -/
theorem bitOf_prbsWord (l : LaneId) {f : Fld} {i : Nat} (hoff : f.off = R.PRBS_CTRL.off) (hw : f.w = 1) (h11 : 11 ≤ i)
    (hi : i < 32) : bitOf (s.withField (Pg.lane l) f 1).toNat i = decide (i = f.lo) := by
  have hbit := s.bitOf_laneWord l (d := { off := 0x090, rw := 0x7FF, wo := 0x3800 }) (f := f) 1 hw
    (by rw [hoff]; decide) (by rw [hoff]; rfl) hi
  have hrw : bitOf (0x7FF ||| 0) i = false := by
    refine (Nat.testBit_two_pow_sub_one 11 i).trans (decide_eq_false (Nat.not_lt.mpr h11))
  rw [hbit, hrw, Bool.and_false]
  by_cases h : i = f.lo
  · rw [if_pos h, decide_eq_true h]; rfl
  · rw [if_neg h, decide_eq_false h]

/-- A command of PRBS_CTRL stores its word and does its one command. -/
theorem laneCmd_prbs {a : Agent} {l : LaneId} {f : Fld} (hoff : f.off = R.PRBS_CTRL.off) (hw : f.w = 1)
    (h : s.writeCode a (Pg.lane l) R.PRBS_CTRL.off = .ok) :
    s.laneCmd a l f 1 =
      (s.storeWrite (Pg.lane l) R.PRBS_CTRL.off (s.withField (Pg.lane l) f 1)).prbsPulses l (decide (11 = f.lo))
        (decide (12 = f.lo)) (decide (13 = f.lo)) := by
  have hbit := fun i (h11 : 11 ≤ i) (hi : i < 32) => s.bitOf_prbsWord l hoff hw h11 hi
  have hwr : wrLane l s R.PRBS_CTRL.off (s.withField (Pg.lane l) f 1) =
      s.wrPrbs l (s.withField (Pg.lane l) f 1).toNat := rfl
  rw [s.laneCmd_ok 1 hoff h, hwr, wrPrbs_eq, BitVec.ofNat_toNat, BitVec.setWidth_eq, hbit 11 (by decide) (by decide),
    hbit 12 (by decide) (by decide), hbit 13 (by decide) (by decide)]

theorem prbsPulses_snap (l : Nat) :
    s.prbsPulses l false true false =
      ((s.wr (Pg.lane l) R.PRBS_BITS_LO.off (BitVec.ofNat 32 (s.lane l).prbsBits)).wr (Pg.lane l) R.PRBS_BITS_HI.off
        (BitVec.ofNat 32 ((s.lane l).prbsBits / 2 ^ 32))).wr (Pg.lane l) R.PRBS_ERR.off
        (BitVec.ofNat 32 (s.lane l).prbsErrs) := by
  rw [prbsPulses, Bool.false_and, Bool.false_and, when_false, when_true, when_false]

theorem prbsPulses_clear (l : Nat) :
    s.prbsPulses l false false true =
      (s.modLane l fun x => { x with prbsBits := 0, prbsErrs := 0 }).clrF (Pg.lane l) R.PRBS_STAT_PRBS_LOCK_LOST := by
  rw [prbsPulses, Bool.false_and, Bool.false_and, when_false, when_false, when_true]

theorem prbsPulses_inject {l : Nat} (hst : s.laneSt l = 8) (hgen : s.on (Pg.lane l) R.PRBS_CTRL_GEN_EN = true) :
    s.prbsPulses l true false false = s.laneTx l 3 := by
  rw [prbsPulses, hst, hgen, Bool.true_and, beq_self_eq_true, Bool.and_self, when_true, when_false, when_false]

/-- The command SNAP of PRBS_CTRL stores the live counts (R79). -/
theorem laneCmd_snap {a : Agent} {l : LaneId} (h : s.writeCode a (Pg.lane l) R.PRBS_CTRL.off = .ok) :
    s.laneCmd a l R.PRBS_CTRL_SNAP 1 =
      (((s.storeWrite (Pg.lane l) R.PRBS_CTRL.off (s.withField (Pg.lane l) R.PRBS_CTRL_SNAP 1)).wr (Pg.lane l)
        R.PRBS_BITS_LO.off (BitVec.ofNat 32 (s.lane l).prbsBits)).wr (Pg.lane l) R.PRBS_BITS_HI.off
        (BitVec.ofNat 32 ((s.lane l).prbsBits / 2 ^ 32))).wr (Pg.lane l) R.PRBS_ERR.off
        (BitVec.ofNat 32 (s.lane l).prbsErrs) := by
  obtain ⟨new, hnew, -⟩ := s.storeWrite_lane_alone l (off := R.PRBS_CTRL.off)
    (s.withField (Pg.lane l) R.PRBS_CTRL_SNAP 1) (by decide) (by decide) rfl rfl rfl
  have hlane : (s.wr (Pg.lane l) R.PRBS_CTRL.off new).lane l = s.lane l := rfl
  refine (s.laneCmd_prbs (f := R.PRBS_CTRL_SNAP) rfl rfl h).trans ((prbsPulses_snap _ l).trans ?_)
  rw [hnew, hlane]

/-- The command INJ_ONE of PRBS_CTRL injects while the generator runs in TEST (R80). -/
theorem laneCmd_injOne {a : Agent} {l : LaneId} (hst : s.laneSt l = 8)
    (hgen : s.on (Pg.lane l) R.PRBS_CTRL_GEN_EN = true) (h : s.writeCode a (Pg.lane l) R.PRBS_CTRL.off = .ok) :
    s.laneCmd a l R.PRBS_CTRL_INJ_ONE 1 =
      (s.storeWrite (Pg.lane l) R.PRBS_CTRL.off (s.withField (Pg.lane l) R.PRBS_CTRL_INJ_ONE 1)).laneTx l 3 := by
  have hst' := s.laneSt_storeWrite l (off := R.PRBS_CTRL.off) (s.withField (Pg.lane l) R.PRBS_CTRL_INJ_ONE 1)
    (by decide) (by decide) rfl rfl rfl (by decide)
  have hgen' := s.on_storeWrite_beside l (f := R.PRBS_CTRL_INJ_ONE) (g := R.PRBS_CTRL_GEN_EN) 1
    (by decide) (by decide) rfl rfl rfl rfl rfl rfl rfl (by decide) (by decide) rfl rfl
  exact (s.laneCmd_prbs (f := R.PRBS_CTRL_INJ_ONE) rfl rfl h).trans
    (prbsPulses_inject _ (hst'.trans hst) (hgen'.trans hgen))

/-! ### The eye (R82, R83) -/

/-- A field written over a command's word is the command with that value. -/
theorem withField_overwrite (p : Nat) (f : Fld) (x y : Nat) :
    BitVec.ofNat 32 (bitsPut (s.withField p f x).toNat f.lo f.w y) = s.withField p f y := by
  refine BitVec.eq_of_getLsbD_eq fun i hi => ?_
  simp only [withField, BitVec.getLsbD_ofNat, BitVec.toNat_ofNat, testBit_bitsPut, Nat.testBit_mod_two_pow, hi,
    decide_true, Bool.true_and]
  split <;> rfl

/-- The command GO of EYE_CTRL on a lane whose sampler is held and idle starts a point. -/
theorem laneCmd_eyeGo {a : Agent} {l : LaneId} (hhold : s.on (Pg.lane l) R.EYE_CTRL_HOLD = true)
    (hbusy : s.on (Pg.lane l) R.EYE_CTRL_BUSY = false) (h : s.writeCode a (Pg.lane l) R.EYE_CTRL.off = .ok) :
    s.laneCmd a l R.EYE_CTRL_GO 1 =
      (((s.storeWrite (Pg.lane l) R.EYE_CTRL.off (s.withField (Pg.lane l) R.EYE_CTRL_GO 0)).setF (Pg.lane l)
        R.EYE_CTRL_GO).setF (Pg.lane l) R.EYE_CTRL_BUSY).clrF (Pg.lane l) R.EYE_CTRL_DONE := by
  have hgo : bitOf (s.withField (Pg.lane l) R.EYE_CTRL_GO 1).toNat 1 = true :=
    s.bitOf_withField_same (Pg.lane l) R.EYE_CTRL_GO 1 rfl (by decide)
  have hhold' : (s.storeWrite (Pg.lane l) R.EYE_CTRL.off (s.withField (Pg.lane l) R.EYE_CTRL_GO 0)).on (Pg.lane l)
      R.EYE_CTRL_HOLD = true := (s.on_storeWrite_beside l (f := R.EYE_CTRL_GO) (g := R.EYE_CTRL_HOLD) 0
    (by decide) (by decide) rfl rfl rfl rfl rfl rfl rfl (by decide) (by decide) rfl rfl).trans hhold
  have hbusy' : (s.storeWrite (Pg.lane l) R.EYE_CTRL.off (s.withField (Pg.lane l) R.EYE_CTRL_GO 0)).on (Pg.lane l)
      R.EYE_CTRL_BUSY = false := (s.on_storeWrite_beside l (f := R.EYE_CTRL_GO) (g := R.EYE_CTRL_BUSY) 0
    (by decide) (by decide) rfl rfl rfl rfl rfl rfl rfl (by decide) (by decide) rfl rfl).trans hbusy
  have hwr : wrLane l s R.EYE_CTRL.off (s.withField (Pg.lane l) R.EYE_CTRL_GO 1) =
      s.wrEye l (s.withField (Pg.lane l) R.EYE_CTRL_GO 1).toNat := rfl
  have hword : BitVec.ofNat 32 (bitsPut (s.withField (Pg.lane l) R.EYE_CTRL_GO 1).toNat 1 1 0) =
      s.withField (Pg.lane l) R.EYE_CTRL_GO 0 := s.withField_overwrite (Pg.lane l) R.EYE_CTRL_GO 1 0
  rw [s.laneCmd_ok (f := R.EYE_CTRL_GO) (off := R.EYE_CTRL.off) 1 rfl h, hwr, wrEye, hgo, hword, hhold', hbusy',
    if_neg (by decide), if_pos (by decide)]

end Sys2Proof.Machine.State
end

section
/-! The settling of the statement on what a lane finds. -/

namespace Sys2Proof.Machine

open Sys2Proof (LaneId)

/-- The end of a fast exit of the last lane of a side (R67, R75, R76). -/
theorem fastExitComplete_last (s : State) (l : LaneId) (hst : s.laneSt l = 7)
    (hothers : ∀ m ∈ linkLanes (laneLink l), m ≠ l.val → s.laneSt m = 5 ∧ (s.lane m).mark = none) :
    ∃ t, execFastExitComplete l s = .next t ∧ (∀ m ∈ linkLanes (laneLink l), t.laneSt m = 5) ∧
      t.on (Pg.lane l) R.LANE_STATUS_FAST_EXIT_ELIGIBLE = false ∧
      bitOf (t.rd (Pg.lane l) 0x010).toNat E.LANE_LANE_UP = true ∧
      t.get (Pg.lane l) R.CNT_IDLE_EXIT = satAdd R.CNT_IDLE_EXIT.w (s.get (Pg.lane l) R.CNT_IDLE_EXIT) 1 := by
  let u : State := s.modLane l fun x => { x with fastOk := true }
  have hok : (u.lane l).fastOk = true := by rw [s.lane_modLane_same l.isLt]
  have hu : ∀ m ∈ linkLanes (laneLink l), m ≠ l.val → u.laneSt m = 5 ∧ (u.lane m).mark = none := fun m hm h => by
    rw [s.lane_modLane_ne _ h]
    exact hothers m hm h
  obtain ⟨d, hjoin, hup⟩ := u.laneJoin_fastExit l hst hok hu
  have hkey : ∀ off, off < 0x1000000 → settleKey (regKey (Pg.lane l) off) = false := fun off =>
    State.settleKey_lane l.isLt
  refine ⟨(u.fastExitUp l d).settle, finish_of_eq ((if_pos hst).trans hjoin), fun m hm => ?_, ?_, ?_, ?_⟩
  · exact (State.get_settle _ _ _ (State.settleKey_lane (State.lt_of_mem_linkLanes l m hm) (by decide))).trans (hup m hm)
  · rw [State.on, State.get_settle _ _ _ (hkey _ (by decide))]
    exact u.on_eligible_fastExitUp l d
  · rw [State.rd_settle _ _ _ (hkey _ (by decide))]
    exact State.bitOf_event_same _ _ (by decide)
  · rw [State.get_settle _ _ _ (hkey _ (by decide)), u.get_idleExit_fastExitUp]
    rfl

/-- Settles O16: the foreign marker (`laneMarker_mismatch`), the fast exit (`fastExitComplete_last`), the commands of
PRBS_CTRL (`laneCmd_prbs`, `laneCmd_injOne`) and of the eye (`laneCmd_eyeGo`); the reports of the checker and of the eye act
in the state that they test. -/
theorem laneFindings : Obligations.LaneFindings := by
  unfold Obligations.LaneFindings
  intro s a l block bip arrival good bad bits errs count p b1 u wrong w n
  refine ⟨?_, ?_, ?_, ?_, ?_, ?_, ?_, ?_⟩
  · intro hst hauto hinv hstart hcheck horigin
    have hrx : (s.laneHeaders l good.toNat bad.toNat).rxInverted l = false := by
      rw [s.rxInverted_laneHeaders, State.rxInverted, hauto, hinv]
      rfl
    exact finish_of_eq ((if_pos (.inl hst)).trans (State.laneMarker_mismatch _ _ _ hrx hstart hcheck horigin))
  · intro hst hothers
    exact fastExitComplete_last s l hst hothers
  · intro hst hchk
    exact finish_of_eq (if_pos ⟨hst, hchk⟩)
  · intro hst hlocked
    exact finish_of_eq (if_pos ⟨hst, hlocked⟩)
  · intro _ _ hok
    have hokn : n.writeCode a p R.PRBS_CTRL.off = .ok := (s.writeCode_prbsCount l _ _ a p _).trans hok
    have hword : n.withField p R.PRBS_CTRL_SNAP 1 = w R.PRBS_CTRL_SNAP := s.withField_prbsCount l _ _ p _ 1
    constructor
    · refine finish_of_eq ((n.laneCmd_snap hokn).trans ?_)
      rw [hword]
    · exact finish_of_eq ((s.laneCmd_prbs (f := R.PRBS_CTRL_CLEAR) rfl rfl hok).trans (State.prbsPulses_clear _ l))
  · intro hst hgen hok
    exact finish_of_eq (s.laneCmd_injOne hst hgen hok)
  · intro hhold hbusy hok
    exact finish_of_eq (s.laneCmd_eyeGo hhold hbusy hok)
  · intro hst hbusy hral
    exact finish_of_eq ((if_pos ⟨hbusy, hst⟩).trans (if_neg (Bool.eq_false_iff.mp hral)))

end Sys2Proof.Machine
end

section
/-! SUPPORT. Byte strings (R91, R101) and the check codes of headers and control symbols (R90, R93): their lengths, their
ranges, and what reading back gives. -/

namespace Sys2Proof.Machine

open Sys2Proof (Byte)

/-! ### Little-endian numbers -/

@[simp] theorem length_leBytes (n x : Nat) : (leBytes n x).length = n := by
  induction n generalizing x with
  | zero => rfl
  | succ n ih => rw [leBytes, List.length_cons, ih]

/-- Reading back `n` bytes of a number gives it modulo 256 to the `n`. -/
theorem leNat_leBytes (n x : Nat) : leNat (leBytes n x) = x % 256 ^ n := by
  induction n generalizing x with
  | zero => rw [leBytes, leNat, Nat.pow_zero, Nat.mod_one]
  | succ n ih =>
    rw [leBytes, leNat, ih, BitVec.toNat_ofNat, Nat.pow_succ' (m := 256)]
    exact Nat.mod_mul.symm

theorem leNat_leBytes_of_lt {n x : Nat} (h : x < 256 ^ n) : leNat (leBytes n x) = x :=
  (leNat_leBytes n x).trans (Nat.mod_eq_of_lt h)

/-! ### Parts of a byte string -/

@[simp] theorem length_bytesAt (bs : List Byte) (i n : Nat) : (bytesAt bs i n).length = n := by
  simp only [bytesAt, List.length_append, List.length_replicate, List.length_take]
  omega

/-- The bytes of a part are those that stand between what comes before it and what comes after it. -/
theorem bytesAt_middle (xs ys zs : List Byte) : bytesAt (xs ++ (ys ++ zs)) xs.length ys.length = ys := by
  rw [bytesAt, List.drop_left, List.take_left, Nat.sub_self, List.replicate_zero, List.append_nil]

theorem bytesAt_prefix (ys zs : List Byte) : bytesAt (ys ++ zs) 0 ys.length = ys := bytesAt_middle [] ys zs

/-- More bytes than there are: the rest is padding. -/
theorem bytesAt_padded {bs : List Byte} {n : Nat} (h : bs.length ≤ n) :
    bytesAt bs 0 n = bs ++ List.replicate (n - bs.length) 0 := by
  rw [bytesAt, List.drop_zero, List.take_of_length_le h]

/-! ### CRCs (R90, R93) -/

/-- A CRC whose polynomial and initial value fit its width stays within it. -/
theorem crcMsb_lt {w poly init : Nat} (hpoly : poly < 2 ^ w) (hinit : init < 2 ^ w) (bs : List Byte) :
    crcMsb w poly init bs < 2 ^ w := by
  have hbit : ∀ c b, crcBitMsb w poly c b < 2 ^ w := fun c b => by
    have hshift : c * 2 % 2 ^ w < 2 ^ w := Nat.mod_lt _ (Nat.two_pow_pos w)
    unfold crcBitMsb
    dsimp only
    split
    · exact Nat.xor_lt_two_pow hshift hpoly
    · exact hshift
  refine List.foldlRecOn (motive := (· < 2 ^ w)) _ _ hinit fun c hc b _ => ?_
  exact List.foldlRecOn (motive := (· < 2 ^ w)) _ _ hc fun d _ x _ => hbit d x

theorem symbolCrc_lt (kind fields : Nat) : symbolCrc kind fields < 256 := crcMsb_lt (w := 8) (by decide) (by decide) _

/-- The check of a control symbol of which the fields and the last byte are known. -/
theorem symbolFields_eq {kind fields crc : Nat} (hfields : fields < 2 ^ 48) (hcrc : crc < 256) :
    symbolFields kind (BitVec.ofNat 56 (fields + crc * 2 ^ 48)) =
      if crc = symbolCrc kind fields then some fields else none := by
  have hbytes : (BitVec.ofNat 56 (fields + crc * 2 ^ 48)).toNat = fields + crc * 2 ^ 48 := by
    rw [BitVec.toNat_ofNat]
    omega
  have hlow : (fields + crc * 2 ^ 48) % 2 ^ 48 = fields := by omega
  have hhigh : (fields + crc * 2 ^ 48) / 2 ^ 48 = crc := by omega
  rw [symbolFields, hbytes, hlow, hhigh]

end Sys2Proof.Machine
end

section
/-! SUPPORT. The header of a frame (R92 to R94): what its bytes read as. -/

namespace Sys2Proof.Machine

/-- Two bytes of a number, read as the check of a header reads them. -/
theorem halfWord_eq (x : Nat) :
    (BitVec.ofNat 8 x).toNat + 256 * (BitVec.ofNat 8 (x / 256)).toNat = x % 65536 := by
  rw [BitVec.toNat_ofNat, BitVec.toNat_ofNat]
  omega

/-- The bits of a byte of flags that lie between a number above and a number below. -/
theorem bitOf_flag (hi lo i : Nat) (b : Bool) (h : lo < 2 ^ i) : bitOf (hi * 2 ^ (i + 1) + b2n b * 2 ^ i + lo) i = b := by
  have hdiv : (hi * 2 ^ (i + 1) + b2n b * 2 ^ i + lo) / 2 ^ i = 2 * hi + b2n b := by
    rw [show hi * 2 ^ (i + 1) + b2n b * 2 ^ i + lo = lo + 2 ^ i * (2 * hi + b2n b) by ring,
      Nat.add_mul_div_left _ _ (Nat.two_pow_pos i), Nat.div_eq_of_lt h, Nat.zero_add]
  rw [bitOf, Nat.testBit_eq_decide_div_mod_eq, hdiv, Nat.mul_add_mod]
  cases b <;> rfl

theorem b2n_le (b : Bool) : b2n b ≤ 1 := by cases b <;> decide

namespace Frame

variable (f : Frame)

/-- The HCRC of a frame. -/
def hcrc (f : Frame) : Nat := crcMsb 16 0x1021 0xFFFF f.head22

theorem hcrc_lt : f.hcrc < 65536 := crcMsb_lt (w := 16) (by decide) (by decide) _

theorem header_eq : f.header = f.head22 ++ leBytes 2 f.hcrc := rfl

theorem length_header : f.header.length = 24 := rfl

/-- A header is covered by its HCRC. -/
theorem bytesAt_header_head22 : bytesAt f.header 0 22 = f.head22 := bytesAt_prefix f.head22 (leBytes 2 f.hcrc)

/-- TS stands in bytes 16 to 19. -/
theorem bytesAt_header_ts : bytesAt f.header 16 4 = leBytes 4 f.ts :=
  bytesAt_middle (f.head22.take 16) (leBytes 4 f.ts) (leBytes 2 f.aux ++ leBytes 2 f.hcrc)

/-- The byte of the class, the priority, CM, WRAPPED and RING. -/
def classByte (f : Frame) : Nat := f.cls * 64 + f.prio * 8 + b2n f.cm * 4 + b2n f.wrapped * 2 + f.ring

/-- The fields of the class byte read as they were written. -/
theorem classByte_fields (hcls : f.cls < 3) (hprio : f.prio < 8) (hring : f.ring < 2) :
    f.classByte < 256 ∧ f.classByte / 64 = f.cls ∧ bitsOf f.classByte 3 3 = f.prio ∧ bitOf f.classByte 2 = f.cm ∧
      bitOf f.classByte 1 = f.wrapped ∧ f.classByte % 2 = f.ring := by
  have hcm := b2n_le f.cm
  have hwrapped := b2n_le f.wrapped
  have hcmBit := bitOf_flag (f.cls * 8 + f.prio) (b2n f.wrapped * 2 + f.ring) 2 f.cm (by omega)
  have hwrappedBit := bitOf_flag (f.cls * 16 + f.prio * 2 + b2n f.cm) f.ring 1 f.wrapped (by omega)
  have hcmByte : (f.cls * 8 + f.prio) * 2 ^ (2 + 1) + b2n f.cm * 2 ^ 2 + (b2n f.wrapped * 2 + f.ring) = f.classByte := by
    unfold classByte; omega
  have hwrappedByte : (f.cls * 16 + f.prio * 2 + b2n f.cm) * 2 ^ (1 + 1) + b2n f.wrapped * 2 ^ 1 + f.ring = f.classByte := by
    unfold classByte; omega
  rw [hcmByte] at hcmBit
  rw [hwrappedByte] at hwrappedBit
  refine ⟨?_, ?_, ?_, hcmBit, hwrappedBit, ?_⟩ <;> unfold classByte
  · omega
  · omega
  · rw [bitsOf]; omega
  · omega

/-- A byte of a hub number and the flag below it. -/
theorem hubByte_fields {hub : Nat} (b : Bool) (h : hub < 4) :
    hub * 64 + b2n b * 32 < 256 ∧ (hub * 64 + b2n b * 32) / 64 = hub ∧ bitOf (hub * 64 + b2n b * 32) 5 = b := by
  have hb := b2n_le b
  exact ⟨by omega, by omega, bitOf_flag hub 0 5 b (by decide)⟩

/-- A frame with a payload of up to 256 bytes has 1 to 9 flits. -/
theorem flits_le (h : f.payload.length ≤ 256) : f.flits ≤ 9 := by
  unfold flits plen
  omega

end Frame

/-- The fields of a frame lie in the ranges of R92. -/
structure Frame.InRange (f : Frame) : Prop where
  cls : f.cls < 3
  prio : f.prio < 8
  ring : f.ring < 2
  ftype : f.ftype < 256
  dstNode : f.dstNode < 256
  dstHub : f.dstHub < 4
  srcNode : f.srcNode < 256
  srcHub : f.srcHub < 4
  hops : f.hops < 1024
  seq : f.seq < 65536
  tag : f.tag < 65536
  ts : f.ts < 2 ^ 32
  aux : f.aux < 65536
  plen : f.plen ≤ 256

namespace Frame.InRange

variable {f : Frame}

/-- The single bytes of a header. -/
theorem header_bytes (h : f.InRange) :
    (f.header.getD 1 0).toNat = 0x10 + f.flits ∧ (f.header.getD 2 0).toNat = f.classByte ∧
      (f.header.getD 3 0).toNat = f.ftype ∧ (f.header.getD 4 0).toNat = f.dstNode ∧
      (f.header.getD 5 0).toNat = f.dstHub * 64 + b2n f.mcast * 32 ∧ (f.header.getD 6 0).toNat = f.srcNode ∧
      (f.header.getD 7 0).toNat = f.srcHub * 64 + b2n f.resent * 32 := by
  have hbyte : ∀ {x : Nat}, x < 256 → (BitVec.ofNat 8 x).toNat = x := fun hx => Nat.mod_eq_of_lt hx
  have hflits := f.flits_le h.plen
  obtain ⟨hclass, -⟩ := f.classByte_fields h.cls h.prio h.ring
  obtain ⟨hdst, -⟩ := Frame.hubByte_fields f.mcast h.dstHub
  obtain ⟨hsrc, -⟩ := Frame.hubByte_fields f.resent h.srcHub
  exact ⟨hbyte (by omega), hbyte hclass, hbyte h.ftype, hbyte h.dstNode, hbyte hdst, hbyte h.srcNode, hbyte hsrc⟩

/-- The fields of two bytes of a header. -/
theorem header_halfWords (h : f.InRange) :
    (f.header.getD 8 0).toNat + 256 * (f.header.getD 9 0).toNat = f.hops ∧
      (f.header.getD 10 0).toNat + 256 * (f.header.getD 11 0).toNat = f.plen ∧
      (f.header.getD 12 0).toNat + 256 * (f.header.getD 13 0).toNat = f.seq ∧
      (f.header.getD 14 0).toNat + 256 * (f.header.getD 15 0).toNat = f.tag ∧
      (f.header.getD 20 0).toNat + 256 * (f.header.getD 21 0).toNat = f.aux ∧
      (f.header.getD 22 0).toNat + 256 * (f.header.getD 23 0).toNat = f.hcrc := by
  have hhalf : ∀ {x : Nat}, x < 65536 →
      (BitVec.ofNat 8 x).toNat + 256 * (BitVec.ofNat 8 (x / 256)).toNat = x := fun {x} hx =>
    (halfWord_eq x).trans (Nat.mod_eq_of_lt hx)
  have hhops : f.hops % 1024 = f.hops := Nat.mod_eq_of_lt h.hops
  exact ⟨(hhalf (x := f.hops % 1024) (by omega)).trans hhops, hhalf (h.plen.trans_lt (by decide)), hhalf h.seq, hhalf h.tag,
    hhalf h.aux, hhalf f.hcrc_lt⟩

/-- The format of a header is that of R94: the type of a header flit, and as many flits as its PLEN takes. -/
theorem header_format (h : f.InRange) :
    ¬ ((f.header.getD 0 0).toNat ≠ 0x3C ∨ (0x10 + f.flits) / 16 ≠ 1 ∨ f.cls = 3 ∨ 256 < f.plen ∨
      (0x10 + f.flits) % 16 ≠ 1 + (f.plen + 31) / 32) := by
  have hsync : (f.header.getD 0 0).toNat = 0x3C := rfl
  have hcount : f.flits = 1 + (f.plen + 31) / 32 := rfl
  have hcls := h.cls
  have hplen := h.plen
  omega

/-- A good header is one whose HCRC and format hold; its fields are read from their places (R94). -/
theorem checkHeader_header (h : f.InRange) : checkHeader f.header = .good { f with payload := [] } f.plen := by
  obtain ⟨b1, b2, b3, b4, b5, b6, b7⟩ := h.header_bytes
  obtain ⟨h8, h10, h12, h14, h20, h22⟩ := h.header_halfWords
  obtain ⟨-, hcls, hprio, hcm, hwrapped, hring⟩ := f.classByte_fields h.cls h.prio h.ring
  obtain ⟨-, hdstHub, hmcast⟩ := Frame.hubByte_fields f.mcast h.dstHub
  obtain ⟨-, hsrcHub, hresent⟩ := Frame.hubByte_fields f.resent h.srcHub
  have hhops : f.hops % 1024 = f.hops := Nat.mod_eq_of_lt h.hops
  have hplen : f.plen % 512 = f.plen := Nat.mod_eq_of_lt (h.plen.trans_lt (by decide))
  have hts : leNat (leBytes 4 f.ts) = f.ts := leNat_leBytes_of_lt (n := 4) h.ts
  unfold checkHeader
  simp only [b1, b2, b3, b4, b5, b6, b7, h8, h10, h12, h14, h20, h22, hcls, hprio, hcm, hwrapped, hring, hdstHub, hmcast,
    hsrcHub, hresent, hhops, hplen, f.bytesAt_header_head22, f.bytesAt_header_ts, hts]
  exact (if_neg (not_not_intro rfl)).trans (if_neg h.header_format)

end Frame.InRange

end Sys2Proof.Machine
end

section
/-! SUPPORT. The records of a signal bundle (R101): where the parts of a record stand, and that a parse takes one record. -/

namespace Sys2Proof.Machine

open Sys2Proof (Byte)

namespace SigRec

variable (r : SigRec)

/-- The first word of a record: IDENT, the length less 1, VALID. -/
def word0 (r : SigRec) : Nat := r.ident % 2 ^ 24 + (r.value.length - 1) % 32 * 2 ^ 24 + b2n r.valid * 2 ^ 29

/-- A record, and what its parts are. -/
theorem bytes_eq :
    r.bytes = leBytes 4 r.word0 ++ leBytes 4 r.version ++ leBytes 8 r.ts ++
      bytesAt r.value 0 ((r.value.length + 3) / 4 * 4) := rfl

theorem length_bytes : r.bytes.length = 16 + (r.value.length + 3) / 4 * 4 := by
  simp only [bytes_eq, List.length_append, length_leBytes, length_bytesAt]

theorem bytes_ne_nil : r.bytes ≠ [] := by
  rw [← List.length_pos_iff, length_bytes]
  omega

/-- The fields of the first word read as they were written. -/
theorem word0_fields (hident : r.ident < 2 ^ 24) (h1 : 1 ≤ r.value.length) (h32 : r.value.length ≤ 32) :
    r.word0 < 256 ^ 4 ∧ r.word0 % 2 ^ 24 = r.ident ∧ bitsOf r.word0 24 5 + 1 = r.value.length ∧ bitOf r.word0 29 = r.valid := by
  have hvalid := b2n_le r.valid
  refine ⟨?_, ?_, ?_, ?_⟩
  · unfold word0; omega
  · unfold word0; omega
  · unfold word0 bitsOf; omega
  · have hword : 0 * 2 ^ (29 + 1) + b2n r.valid * 2 ^ 29 + (r.ident % 2 ^ 24 + (r.value.length - 1) % 32 * 2 ^ 24) =
        r.word0 := by
      unfold word0; omega
    rw [← hword]
    exact bitOf_flag 0 _ 29 r.valid (by omega)

/-- The parts of a record at the head of a payload. -/
theorem bytes_parts (rest : List Byte) :
    (r.bytes ++ rest).take 4 = leBytes 4 r.word0 ∧ bytesAt (r.bytes ++ rest) 4 4 = leBytes 4 r.version ∧
      bytesAt (r.bytes ++ rest) 8 8 = leBytes 8 r.ts ∧ bytesAt (r.bytes ++ rest) 16 r.value.length = r.value := by
  have hpad : bytesAt r.value 0 ((r.value.length + 3) / 4 * 4) =
      r.value ++ List.replicate ((r.value.length + 3) / 4 * 4 - r.value.length) 0 := bytesAt_padded (by omega)
  rw [bytes_eq, hpad]
  refine ⟨?_, ?_, ?_, ?_⟩
  · simp only [List.append_assoc]
    exact List.take_left' (length_leBytes 4 _)
  · simp only [List.append_assoc]
    exact bytesAt_middle (leBytes 4 r.word0) (leBytes 4 r.version) _
  · rw [List.append_assoc, List.append_assoc]
    exact bytesAt_middle (leBytes 4 r.word0 ++ leBytes 4 r.version) (leBytes 8 r.ts) _
  · rw [List.append_assoc _ _ rest, List.append_assoc r.value]
    exact bytesAt_middle (leBytes 4 r.word0 ++ leBytes 4 r.version ++ leBytes 8 r.ts) r.value _

end SigRec

/-- A payload that is not empty begins with a record. -/
theorem parseBundle_succ (n : Nat) {bs : List Byte} (h : bs ≠ []) :
    parseBundle (n + 1) bs =
      if bs.length < 16 + (bitsOf (leNat (bs.take 4)) 24 5 + 1 + 3) / 4 * 4 then none
      else (parseBundle n (bs.drop (16 + (bitsOf (leNat (bs.take 4)) 24 5 + 1 + 3) / 4 * 4))).map fun rest =>
        { ident := leNat (bs.take 4) % 2 ^ 24, valid := bitOf (leNat (bs.take 4)) 29, version := leNat (bytesAt bs 4 4),
          ts := leNat (bytesAt bs 8 8), value := bytesAt bs 16 (bitsOf (leNat (bs.take 4)) 24 5 + 1) } :: rest := by
  cases bs with
  | nil => exact absurd rfl h
  | cons b bs =>
    rw [parseBundle]
    · split
      · rfl
      · cases parseBundle n _ <;> rfl
    · exact h

/-- A parse takes the record that was written first, and goes on with what follows it. -/
theorem parseBundle_record (n : Nat) {r : SigRec} (rest : List Byte) (hident : r.ident < 2 ^ 24)
    (hversion : r.version < 2 ^ 32) (hts : r.ts < 2 ^ 64) (h1 : 1 ≤ r.value.length) (h32 : r.value.length ≤ 32) :
    parseBundle (n + 1) (r.bytes ++ rest) = (parseBundle n rest).map (r :: ·) := by
  obtain ⟨hword, hidentW, hlenW, hvalidW⟩ := r.word0_fields hident h1 h32
  obtain ⟨hhead, hversionB, htsB, hvalueB⟩ := r.bytes_parts rest
  have hfit : ¬ (r.bytes ++ rest).length < r.bytes.length := by rw [List.length_append]; omega
  rw [parseBundle_succ n (List.append_ne_nil_of_left_ne_nil r.bytes_ne_nil rest), hhead, leNat_leBytes_of_lt hword, hlenW,
    hidentW, hvalidW, hversionB, htsB, hvalueB, leNat_leBytes_of_lt hversion, leNat_leBytes_of_lt hts, ← r.length_bytes,
    if_neg hfit, List.drop_left]

end Sys2Proof.Machine
end

section
/-! The settling of the statements on headers, bundles and control symbols as byte strings. -/

namespace Sys2Proof.Machine

/-- Settles O17: the HCRC covers the bytes that it was made of, and every field is read from where it was written
(`Frame.InRange.checkHeader_header`). -/
theorem headerRoundTrip : Obligations.HeaderRoundTrip := by
  unfold Obligations.HeaderRoundTrip
  intro f hcls hprio hring hftype hdstNode hdstHub hsrcNode hsrcHub hhops hseq htag hts haux hlen
  have hrange : f.InRange :=
    ⟨hcls, hprio, hring, hftype, hdstNode, hdstHub, hsrcNode, hsrcHub, hhops, hseq, htag, hts, haux, hlen⟩
  exact ⟨f.length_header, hrange.checkHeader_header⟩

/-- Settles O18, by induction on the records: a parse takes the first of them and goes on with the others
(`parseBundle_record`). -/
theorem bundleRoundTrip : Obligations.BundleRoundTrip := by
  unfold Obligations.BundleRoundTrip
  intro n rs hn hrs
  induction rs generalizing n with
  | nil => cases n <;> rfl
  | cons r rs ih =>
    obtain ⟨m, rfl⟩ : ∃ m, n = m + 1 := ⟨n - 1, by rw [List.length_cons] at hn; omega⟩
    obtain ⟨hident, hversion, hts, h1, h32⟩ := hrs r List.mem_cons_self
    have hrest := ih m (Nat.le_of_succ_le_succ hn) fun x hx => hrs x (List.mem_cons_of_mem r hx)
    rw [List.flatMap_cons, parseBundle_record m _ hident hversion hts h1 h32, hrest, Option.map_some]

/-- Settles O19: the fields and the check byte of a symbol are read from where they were written (`symbolFields_eq`), and the
check compares the byte with the CRC-8 of the fields. -/
theorem symbolCheck : Obligations.SymbolCheck := by
  unfold Obligations.SymbolCheck
  intro kind fields crc hfields hcrc
  have hcheck := symbolFields_eq (kind := kind) hfields hcrc
  exact ⟨symbolCrc_lt kind fields, fun h => hcheck.trans (if_pos h), fun h => hcheck.trans (if_neg h)⟩

end Sys2Proof.Machine
end

section
/-! SUPPORT. The control symbols that a link receives (R90, R105 to R118): what each does in the states in which it acts. -/

namespace Sys2Proof.Machine.State

variable (s : State)

/-! ### A link that listens -/

/-- A command acts on a link whose domain is on. -/
theorem onLink_of_on {k : Nat} (f : State → State) (hon : s.pageOn (Pg.link k) = true) : s.onLink k f = f s := if_pos hon

/-- From INIT on a link listens. -/
theorem listens {k : Nat} (hon : s.pageOn (Pg.link k) = true) (hst : 2 ≤ s.linkSt k) :
    ¬ ((!s.pageOn (Pg.link k)) = true ∨ s.linkSt k < 2) := by
  rintro (hoff | hlt)
  · rw [hon] at hoff
    exact absurd hoff (by decide)
  · exact absurd hst (Nat.not_le.mpr hlt)

/-- A symbol whose CRC-8 holds acts with its fields. -/
theorem symbolIn_good {k kind x : Nat} {b : BitVec 56} (f : State → Nat → State) (hon : s.pageOn (Pg.link k) = true)
    (hst : 2 ≤ s.linkSt k) (hcheck : symbolFields kind b = some x) : s.symbolIn k kind b f = f s x := by
  rw [symbolIn, if_neg (s.listens hon hst), hcheck]

/-- One whose CRC-8 does not hold is counted, and that is all (R90). -/
theorem symbolIn_bad {k kind : Nat} {b : BitVec 56} (f : State → Nat → State) (hon : s.pageOn (Pg.link k) = true)
    (hst : 2 ≤ s.linkSt k) (hcheck : symbolFields kind b = none) :
    s.symbolIn k kind b f = s.count (Pg.link k) R.CNT_CTL_ERR := by
  rw [symbolIn, if_neg (s.listens hon hst), hcheck]

/-! ### Retry (R108, R110) -/

/-- An ACK within the replay buffer frees the flits up to its number. -/
theorem ackIn_known {k seq : Nat} (h1 : 1 ≤ (seq + 65537 - (s.link k).base) % 65536)
    (h2 : (seq + 65537 - (s.link k).base) % 65536 ≤ (s.link k).replay.length) (hretry : s.retryOn k = true) :
    s.ackIn k seq =
      (s.modLink k fun l =>
        { l with base := (l.base + (seq + 65537 - (s.link k).base) % 65536) % 65536
                 replay := l.replay.drop ((seq + 65537 - (s.link k).base) % 65536), tries := 0 }).clrF (Pg.link k)
        R.LINK_STATUS_REPLAY_STALL := if_pos ⟨h1, h2, hretry⟩

/-- The REPLAY that a NAK asked for ends the wait. -/
theorem replayIn_awaited {k seq : Nat} (hretry : s.retryOn k = true) (hnak : (s.link k).nak = some seq) :
    s.replayIn k seq = s.modLink k fun l => { l with nak := none, rxNum := seq } := by
  simp only [replayIn, hretry, hnak, true_or, if_true, Bool.not_true, Bool.false_eq_true, if_false]

/-! ### INIT (R105, R126) -/

/-- A ring side accepts any partner; it answers INIT with INIT_ACK and counts identical ones. -/
theorem initIn_side {k : Nat} (f : Nat) (hst : s.linkSt k = 2) (hk : k < 4) :
    s.initIn k f =
      ((s.modLink k fun l =>
        { l with initRun := if l.initLast = some (f % 2 ^ 40) then l.initRun + 1 else 1
                 initLast := some (f % 2 ^ 40) }).sym k 0x69 (ackPart (f % 2 ^ 40))).tryActive k := by
  have hport : ¬ 4 ≤ k := Nat.not_le.mpr hk
  have hpeer : s.peerWrong k (f % 2 ^ 40) = false := by simp only [peerWrong, hport, decide_false, Bool.false_and]
  simp only [initIn, hst, hpeer, hport, decide_false, when_false, ne_eq, not_true_eq_false, Bool.false_eq_true, if_false]

/-! ### Low-power idle (R117) -/

/-- LP_ENTER that answers this end's own enters low-power idle. -/
theorem lpEnterIn_asked {k : Nat} (hst : s.linkSt k = 3) (hasked : (s.link k).lpAsked = true) :
    s.lpEnterIn k = s.enterLp k := by
  rw [lpEnterIn, if_neg (not_not_intro hst), if_pos hasked]

/-- A request without a reason to deny it is answered and followed. -/
theorem lpEnterIn_agreed {k : Nat} (hst : s.linkSt k = 3) (hasked : (s.link k).lpAsked = false)
    (hmay : s.lpDenial k = 0) : s.lpEnterIn k = (s.sym k 0x96 0).enterLp k := by
  rw [lpEnterIn, if_neg (not_not_intro hst), if_neg (Bool.eq_false_iff.mp hasked), if_pos hmay]

/-- A request that is denied is answered with the reason. -/
theorem lpEnterIn_denied {k : Nat} (hst : s.linkSt k = 3) (hasked : (s.link k).lpAsked = false)
    (hdeny : s.lpDenial k ≠ 0) : s.lpEnterIn k = s.sym k 0xB4 (s.lpDenial k) := by
  rw [lpEnterIn, if_neg (not_not_intro hst), if_neg (Bool.eq_false_iff.mp hasked), if_neg hdeny]

end Sys2Proof.Machine.State
end

section
/-! The settling of the statement on the control symbols that a link receives. -/

namespace Sys2Proof.Machine

/-- Settles O20: a symbol on a link that listens is one whose CRC-8 holds (`symbolIn_good`), which does what its kind does in
the state of the link, or one that is counted (`symbolIn_bad`). -/
theorem linkSymbols : Obligations.LinkSymbols := by
  unfold Obligations.LinkSymbols
  intro s k b f rtt p l hon
  refine ⟨fun hst => ⟨?_, ?_, ?_, ?_, ?_, ?_⟩, fun hst hretry => ⟨?_, ?_⟩, fun hst hsym => ?_,
    fun hst hsym => ⟨?_, ?_, ?_⟩, fun hst => ⟨?_, ?_, ?_⟩⟩
  · intro hsym
    exact finishAll_of_eq (s.symbolIn_good _ hon hst hsym)
  · intro hsym
    exact finishAll_of_eq (s.symbolIn_bad _ hon hst hsym)
  · intro hsym
    exact finishAll_of_eq (s.symbolIn_good _ hon hst hsym)
  · intro hsym
    exact finishAll_of_eq (s.symbolIn_good _ hon hst hsym)
  · intro hsym
    exact finishAll_of_eq (s.symbolIn_good _ hon hst hsym)
  · intro hsym n h1 h2 hretry
    exact finishAll_of_eq ((s.symbolIn_good _ hon hst hsym).trans (s.ackIn_known h1 h2 hretry))
  · intro hsym
    exact finishAll_of_eq ((s.symbolIn_good _ hon (by omega) hsym).trans (if_pos ⟨hst, hretry⟩))
  · intro n hsym hnak hn
    subst hn
    exact finishAll_of_eq ((s.symbolIn_good _ hon (by omega) hsym).trans
      ((if_pos hst).trans (s.replayIn_awaited hretry hnak)))
  · exact finishAll_of_eq ((s.symbolIn_good _ hon (by omega) hsym).trans (if_pos hst))
  · intro hasked
    exact finishAll_of_eq ((s.symbolIn_good _ hon (by omega) hsym).trans (s.lpEnterIn_asked hst hasked))
  · intro hasked hmay
    exact finishAll_of_eq ((s.symbolIn_good _ hon (by omega) hsym).trans (s.lpEnterIn_agreed hst hasked hmay))
  · intro hasked hdeny
    exact finishAll_of_eq ((s.symbolIn_good _ hon (by omega) hsym).trans (s.lpEnterIn_denied hst hasked hdeny))
  · intro hk hsym
    exact finishAll_of_eq ((s.symbolIn_good _ hon (by omega) hsym).trans (s.initIn_side f hst hk))
  · intro hsym hack
    exact finishAll_of_eq ((s.symbolIn_good _ hon (by omega) hsym).trans (if_pos ⟨hst, hack⟩))
  · intro hsym _
    exact finishAll_of_eq ((s.symbolIn_good _ hon (by omega) hsym).trans (if_pos hst))

end Sys2Proof.Machine
end

section
/-! SUPPORT. The life of a link (R94, R103 to R118): headers that arrive, and the writes of LINK_CTRL and of ENABLE. -/

namespace Sys2Proof.Machine.State

open Sys2Proof (Word Byte Agent LinkId)

variable (s : State)

/-! ### Header flits (R94, R103) -/

/-- The number of a header flit before which `since` flits of the open frame came. -/
def headerNum (s : State) (k since : Nat) : Nat := ((s.link k).rxNum + since) % 65536

/-- The link layer after such a header flit has been numbered. -/
def headerNumbered (s : State) (k since : Nat) : State :=
  s.modLink k fun l =>
    { l with rxNum := (s.headerNum k since + 1) % 65536, opened := l.opened.map fun o => { o with got := o.got + since } }

/-- A link in ACTIVE that waits for no REPLAY takes data flits. -/
theorem takesFlits {k : Nat} (hst : s.linkSt k = 3) (hnak : (s.link k).nak = none) :
    ¬ (s.linkSt k ≠ 3 ∨ (s.link k).nak.isSome = true) := by
  rw [hst, hnak]
  decide

/-- A header whose HCRC fails is counted, and what follows is asked for again. -/
theorem headerIn_badCrc {k : Nat} {bytes : List Byte} (since unsent : Nat) (hst : s.linkSt k = 3)
    (hnak : (s.link k).nak = none) (hcheck : checkHeader bytes = .badCrc) :
    s.headerIn k bytes since unsent =
      ((s.headerNumbered k since).count (Pg.link k) R.CNT_HDR_ERR).rxFail k 1 (s.headerNum k since) := by
  rw [headerIn, if_neg (s.takesFlits hst hnak), hcheck]
  rfl

/-- A good header opens its frame: at a stitch port, with none open, and new. -/
theorem headerIn_opens {k : Nat} {bytes : List Byte} {f : Frame} {n : Nat} (since unsent : Nat) (hst : s.linkSt k = 3)
    (hnak : (s.link k).nak = none) (hcheck : checkHeader bytes = .good f n) (hk : 4 ≤ k)
    (hopen : (s.link k).opened = none) (hdup : (s.link k).delivered.contains (s.headerNum k since) = false)
    (hnew : received (s.link k) (s.headerNum k since) = false)
    (hpass : ((s.headerNumbered k since).passage k { f with payload := List.replicate n 0 }).expired = false) :
    s.headerIn k bytes since unsent =
      (s.headerNumbered k since).modLink k fun l =>
        { l with suspended := l.opened
                 opened := some { frame := { f with payload := List.replicate n 0 }, num := s.headerNum k since, cut := none
                                  skip := false } } := by
  unfold headerNumbered headerNum at *
  rw [headerIn, if_neg (s.takesFlits hst hnak), hcheck]
  simp only [hopen, hdup, hnew, hpass, hk, or_true, if_true, Bool.or_self, Bool.not_false, Bool.and_false, when_false,
    Bool.false_eq_true, if_false]

/-! ### The pages of the links -/

theorem isEngine_link : ∀ k : LinkId, isEngine (Pg.link k) = false := by decide

theorem findDesc_linkCtrl : ∀ k : LinkId,
    findDesc (blockRegs (Pg.link k)) R.LINK_CTRL.off = some { off := 0x044, rw := 0x1, wo := 0x6 } := by decide

/-- A command to a link page that passes the check has the effect of a write of its register. -/
theorem poke_link_ok {a : Agent} {k : LinkId} {off : Nat} (v : Word) (h : s.writeCode a (Pg.link k) off = .ok) :
    s.poke a (Pg.link k) off v (wrLink k) = wrLink k s off v := by
  have hne : ∀ q, q < 0x058 ∨ 0x05E < q → Pg.link k ≠ q := fun q hq => by unfold Pg.link; omega
  refine s.poke_ok' a _ off v _ (hne Pg.identity (by decide)) ?_ h
  simp [stagingBit, hne Pg.sched (by decide), hne Pg.epoch (by decide)]

/-! ### LINK_CTRL (R105, R117) -/

/-- The word of a one-bit command of LINK_CTRL: LP_REQ stays unless it is commanded, and no other command goes with it. -/
theorem bitOf_linkCtrlWord (k : LinkId) {f : Fld} (x : Nat) {i : Nat} (hoff : f.off = R.LINK_CTRL.off) (hw : f.w = 1)
    (hi : i < 32) :
    bitOf (s.withField (Pg.link k) f x).toNat i =
      if i = f.lo then bitOf x 0 else bitOf (s.rd (Pg.link k) R.LINK_CTRL.off).toNat i && decide (i < 1) := by
  have hdesc : s.descOf (Pg.link k) f.off = some { off := 0x044, rw := 0x1, wo := 0x6 } := by
    rw [hoff, s.descOf_block _ _ (isEngine_link k) (by decide), findDesc_linkCtrl k]
  have hrw : (0x1 ||| 0).testBit i = decide (i < 1) := Nat.testBit_two_pow_sub_one 1 i
  have hiff : (f.lo ≤ i ∧ i < f.lo + f.w) ↔ i = f.lo := by omega
  rw [bitOf, s.testBit_withField _ f x i hi hdesc, hrw, hoff]
  simp only [hiff]
  split
  case isTrue h => rw [h, Nat.sub_self, bitOf]
  case isFalse => rfl

/-- Setting LP_REQ leaves the state of the link as it is. -/
theorem linkSt_touch_putLpReq (k j : Nat) (b : Bool) :
    ((s.touch j).putB (Pg.link k) R.LINK_CTRL_LP_REQ b).linkSt k = s.linkSt k :=
  (s.touch j).get_putB_apart (Pg.link k) (g := R.LINK_STATUS_STATE) b (by decide)

/-- LP_REQ set on a link in ACTIVE asks the partner for low-power idle (R117). -/
theorem wrLink_lpReq {k : Nat} {v : Word} (h0 : bitOf v.toNat 0 = true) (h1 : bitOf v.toNat 1 = false)
    (h2 : bitOf v.toNat 2 = false) (hst : s.linkSt k = 3) (hwas : s.on (Pg.link k) R.LINK_CTRL_LP_REQ = false) :
    wrLink k s R.LINK_CTRL.off v =
      (((s.touch (32 + k)).setF (Pg.link k) R.LINK_CTRL_LP_REQ).sym k 0x96 0).modLink k fun l =>
        { l with lpAsked := true } := by
  have hset : ∀ t : State, t.putB (Pg.link k) R.LINK_CTRL_LP_REQ true = t.setF (Pg.link k) R.LINK_CTRL_LP_REQ :=
    fun _ => rfl
  have hst' := (s.linkSt_touch_putLpReq k (32 + k) true).trans hst
  have hoff : R.LINK_CTRL.off ≠ R.PAGE_CTRL.off := by decide
  rw [hset] at hst'
  simp only [wrLink, if_neg hoff, h0, h1, h2, hwas, hset, when_false, Bool.false_and, Bool.not_false, and_self, if_true, askLp,
    hst']

/-- LINK_RESET takes a link that is enabled DOWN with cause 6, and leaves LP_REQ as it is (R105). -/
theorem wrLink_reset {k : Nat} {v : Word} (h0 : bitOf v.toNat 0 = s.on (Pg.link k) R.LINK_CTRL_LP_REQ)
    (h1 : bitOf v.toNat 1 = true) (h2 : bitOf v.toNat 2 = false) (hst : s.linkSt k ≠ 0) :
    wrLink k s R.LINK_CTRL.off v =
      ((s.touch (32 + k)).putB (Pg.link k) R.LINK_CTRL_LP_REQ (s.on (Pg.link k) R.LINK_CTRL_LP_REQ)).linkDown k 6 := by
  have hst' : (((s.touch (32 + k)).putB (Pg.link k) R.LINK_CTRL_LP_REQ
      (s.on (Pg.link k) R.LINK_CTRL_LP_REQ)).linkSt k != 0) = true := by
    rw [s.linkSt_touch_putLpReq]
    exact bne_iff_ne.mpr hst
  have hoff : R.LINK_CTRL.off ≠ R.PAGE_CTRL.off := by decide
  have hset : ∀ b : Bool, ¬ (b = true ∧ (!b) = true) := by decide
  have hclear : ∀ (b : Bool) (q : Prop), ¬ ((!b) = true ∧ b = true ∧ q) := fun b q h => by
    obtain ⟨hnot, hb, -⟩ := h
    exact hset b ⟨hb, hnot⟩
  simp only [wrLink, if_neg hoff, if_true, h0, h1, h2, when_false, hst', Bool.and_self, when_true, if_neg (hset _),
    if_neg (hclear _ _)]

/-! ### ENABLE (R57, R60, R105) -/

/-- What a write of ENABLE as `b` does to a link. -/
def enableWritten (s : State) (k : Nat) (b : Bool) : State :=
  (s.when (!s.on (Pg.link k) R.PAGE_CTRL_ENABLE && b) fun t => t.linkEnable k).when
    (s.on (Pg.link k) R.PAGE_CTRL_ENABLE && !b) fun t => t.linkDisable k

/-- A write of PAGE_CTRL writes ENABLE, which BLOCK_STOP holds at 0, and stores ENABLE as the link has left it. -/
theorem wrLink_pageCtrl (k : Nat) (v : Word) :
    wrLink k s R.PAGE_CTRL.off v =
      (s.enableWritten k (bitOf v.toNat 0 && !s.blockStopped (Pg.link k))).storeWrite (Pg.link k) R.PAGE_CTRL.off
        (BitVec.ofNat 32 (bitsPut v.toNat 0 1 ((s.enableWritten k (bitOf v.toNat 0 && !s.blockStopped (Pg.link k))).get
          (Pg.link k) R.PAGE_CTRL_ENABLE))) := by
  rw [wrLink, if_pos rfl]
  rfl

theorem enableWritten_set {k : Nat} (hwas : s.on (Pg.link k) R.PAGE_CTRL_ENABLE = false) :
    s.enableWritten k true = s.linkEnable k := by
  rw [enableWritten, hwas, Bool.not_false, Bool.and_self, when_true, Bool.false_and, when_false]

theorem enableWritten_clear {k : Nat} (hwas : s.on (Pg.link k) R.PAGE_CTRL_ENABLE = true) :
    s.enableWritten k false = s.linkDisable k := by
  rw [enableWritten, hwas, Bool.and_false, when_false, Bool.not_false, Bool.and_self, when_true]

/-- Where rates and lane map allow it, the lanes start. -/
theorem linkEnable_allowed {k : Nat} (hrates : s.ratesDiffer k = false) (hmap : s.mapInvalid k = false) :
    s.linkEnable k =
      (linkLanes k).foldl (fun t l => t.laneStart l)
        ((((s.enableCheck k).1.putKept (Pg.link k) R.PAGE_CTRL_ENABLE 1).setLinkSt k 1).expectHub k) := by
  have hstands : (s.enableCheck k).2 = true := by
    simp only [enableCheck, hrates, hmap, Bool.or_self, Bool.false_eq_true, if_false]
  rw [linkEnable, if_pos hstands]

/-- A link whose lanes are not up holds no frames: its lanes stop. -/
theorem linkDisable_lanes {k : Nat} (hst : s.linkSt k = 1) :
    s.linkDisable k =
      (linkLanes k).foldl (fun t l => t.laneStop l) ((s.putKept (Pg.link k) R.PAGE_CTRL_ENABLE 0).setLinkSt k 0) := by
  rw [linkDisable, hst]
  rfl

end Sys2Proof.Machine.State
end

section
/-! SUPPORT. STATUS in low-power idle (R118): what a link sends, and what clearing IDLE_REQ on its lanes leaves alone. -/

namespace Sys2Proof.Machine.State

open Sys2Proof (LinkId)

variable (s : State)

/-- The fields of the STATUS that a link sends in low-power idle: its lanes are up, retry runs, LP_REQ. -/
def idleStatus (s : State) (k : Nat) : Nat :=
  b2n ((linkLanes k).all fun l => s.laneSt l == 5) + s.get (Pg.link k) R.LINK_STATUS_RETRY_ACTIVE * 2
    + s.get (Pg.link k) R.LINK_CTRL_LP_REQ * 4

/-- The hub leaves electrical idle and sends the STATUS as it stood before. -/
theorem exec_lpStatusInterval {k : LinkId} (hon : s.pageOn (Pg.link k) = true) (hst : s.linkSt k = 4) :
    exec (.lpStatusInterval k) s = .next ((s.idleReq k false).sym k 0x55 (s.idleStatus k)).flushSinks.settle :=
  finishAll_of_eq ((s.onLink_of_on _ hon).trans (if_pos hst))

/-- Settling sends nothing. -/
theorem out_settle : s.settle.out = s.out := by
  obtain ⟨-, r, v, n, h⟩ := settleSame_settle s
  rw [h]

/-! ### IDLE_REQ cleared on lanes whose LANE_CMD holds its levels only -/

/-- LANE_CMD of a lane holds TEST_MODE and IDLE_REQ, and none of the command bits above them. -/
def LevelsOnly (s : State) (l : Nat) : Prop := (s.rd (Pg.lane l) R.LANE_CMD.off).toNat < 2 ^ 2

/-- LANE_CMD written with IDLE_REQ 0 and as it stands beside it does nothing but clear IDLE_REQ. -/
theorem wrLaneCmd_idleClear {l : Nat} (h : s.LevelsOnly l) :
    s.wrLaneCmd l (bitsPut (s.rd (Pg.lane l) R.LANE_CMD.off).toNat 1 1 (b2n false)) = s.cmdIdle l false := by
  have htest : bitOf (bitsPut (s.rd (Pg.lane l) R.LANE_CMD.off).toNat 1 1 (b2n false)) 0 =
      s.on (Pg.lane l) R.LANE_CMD_TEST_MODE := by
    rw [s.on_eq_bitOf (Pg.lane l) (f := R.LANE_CMD_TEST_MODE) rfl, bitOf, testBit_bitsPut, if_neg (by omega)]
    rfl
  have hidle : bitOf (bitsPut (s.rd (Pg.lane l) R.LANE_CMD.off).toNat 1 1 (b2n false)) 1 = false := by
    rw [bitOf, testBit_bitsPut, if_pos (by omega)]
    rfl
  have hpulse : ∀ i, 2 ≤ i →
      bitOf (bitsPut (s.rd (Pg.lane l) R.LANE_CMD.off).toNat 1 1 (b2n false)) i = false := fun i hi => by
    rw [bitOf, testBit_bitsPut, if_neg (by omega)]
    exact Nat.testBit_lt_two_pow (h.trans_le (Nat.pow_le_pow_right (by decide) hi))
  rw [wrLaneCmd_eq, htest, hidle, hpulse 2 (by decide), hpulse 3 (by decide), hpulse 4 (by decide), hpulse 5 (by decide),
    cmdTest_same, cmdPulses_none]

/-- Clearing IDLE_REQ writes LANE_CMD of its lane and no other register. -/
theorem rd_cmdIdle_clear_ne {l q r : Nat} (hr : r < 0x1000000) (h : q ≠ Pg.lane l ∨ r ≠ R.LANE_CMD.off) :
    (s.cmdIdle l false).rd q r = s.rd q r := by
  simp only [cmdIdle, Bool.false_and, Bool.false_eq_true, if_false, Bool.not_false, Bool.true_and]
  split
  · exact s.rd_put_ne _ _ _ R.LANE_CMD_IDLE_REQ 0 (by decide) hr h
  · rfl

/-- Clearing IDLE_REQ on lanes writes their LANE_CMD and no other register. -/
theorem rd_idleClear_ne {ls : List Nat} (hls : ls.Nodup) (hlevels : ∀ l ∈ ls, s.LevelsOnly l) {q r : Nat}
    (hr : r < 0x1000000) (h : (∀ l ∈ ls, q ≠ Pg.lane l) ∨ r ≠ R.LANE_CMD.off) :
    (ls.foldl (fun t l => t.wrLaneCmd l (bitsPut (t.rd (Pg.lane l) R.LANE_CMD.off).toNat 1 1 (b2n false))) s).rd q r =
      s.rd q r := by
  induction ls generalizing s with
  | nil => rfl
  | cons l ls ih =>
    obtain ⟨hnot, hrest⟩ := List.nodup_cons.mp hls
    have hhead : q ≠ Pg.lane l ∨ r ≠ R.LANE_CMD.off := h.imp_left fun hq => hq l List.mem_cons_self
    have htail : (∀ m ∈ ls, q ≠ Pg.lane m) ∨ r ≠ R.LANE_CMD.off :=
      h.imp_left fun hq m hm => hq m (List.mem_cons_of_mem l hm)
    have hkeep : ∀ m ∈ ls, (s.cmdIdle l false).LevelsOnly m := fun m hm => by
      have hne : Pg.lane m ≠ Pg.lane l := fun e => hnot (by rwa [← Nat.add_left_cancel e])
      rw [LevelsOnly, s.rd_cmdIdle_clear_ne (by decide) (.inl hne)]
      exact hlevels m (List.mem_cons_of_mem l hm)
    rw [List.foldl_cons, s.wrLaneCmd_idleClear (hlevels l List.mem_cons_self), ih _ hrest hkeep htail,
      s.rd_cmdIdle_clear_ne hr hhead]

theorem nodup_linkLanes : ∀ k : LinkId, (linkLanes k).Nodup := by decide

theorem linkPage_ne_lanePage : ∀ k : LinkId, ∀ l ∈ linkLanes k, Pg.link k ≠ Pg.lane l := by decide

/-- Where LANE_CMD of every lane of a link holds its levels only, clearing IDLE_REQ leaves the STATUS as it is. -/
theorem idleStatus_idleReq {k : LinkId} (h : ∀ l ∈ linkLanes k, s.LevelsOnly l) :
    (s.idleReq k false).idleStatus k = s.idleStatus k := by
  have hlane : ∀ l, (s.idleReq k false).laneSt l = s.laneSt l := fun l => by
    rw [laneSt, get, idleReq, s.rd_idleClear_ne (nodup_linkLanes k) h (by decide) (.inr (by decide)), laneSt, get]
  have hlink : ∀ f : Fld, f.off < 0x1000000 →
      (s.idleReq k false).get (Pg.link k) f = s.get (Pg.link k) f := fun f hf => by
    rw [get, idleReq, s.rd_idleClear_ne (nodup_linkLanes k) h hf (.inl (linkPage_ne_lanePage k)), get]
  simp only [idleStatus, hlane, hlink R.LINK_STATUS_RETRY_ACTIVE (by decide), hlink R.LINK_CTRL_LP_REQ (by decide)]

/-! ### A lane whose LANE_CMD holds a command bit -/

/-- Link 4 in LP_IDLE with both lanes in UP, and bit 4 of LANE_CMD, RETRAIN, standing at 1 in the first of them. RETRAIN is
a command bit, which reads 0: a statement for every state covers this one, though the hub is not meant to be in it. -/
def retrainStands : State :=
  ((((State.reset.wr Pg.power R.PD_ON.off 0x7FFFF).put (Pg.link 4) R.LINK_STATUS_STATE 4).put (Pg.lane 16)
    R.LANE_STATUS_STATE 5).put (Pg.lane 17) R.LANE_STATUS_STATE 5).wr (Pg.lane 16) R.LANE_CMD.off 0x10

/-- The conditions of LP_STATUS_INTERVAL hold in it. -/
theorem retrainStands_idle : retrainStands.pageOn (Pg.link 4) = true ∧ retrainStands.linkSt 4 = 4 := by decide +kernel

/-- The word that clears IDLE_REQ retrains the first lane, which is no longer in UP. -/
theorem idleStatus_retrainStands :
    retrainStands.idleStatus 4 = 1 ∧ (retrainStands.idleReq 4 false).idleStatus 4 = 0 := by decide +kernel

theorem quiet_idleReq_retrainStands : (retrainStands.idleReq 4 false).Quiet := by
  have hengs : (retrainStands.idleReq 4 false).engs = [] := by decide +kernel
  refine ⟨by decide +kernel, fun x hx => ?_⟩
  rw [hengs] at hx
  exact absurd hx List.not_mem_nil

end Sys2Proof.Machine.State
end

section
/-! The settling of the statement on what the timers, the lanes and the owner do to a link, and what stands of it. -/

namespace Sys2Proof.Machine

open Sys2Proof (Agent Byte LinkId)

/-- The statement takes the STATUS of low-power idle from the state after IDLE_REQ has been cleared: where no sink waits,
that must be the STATUS of before. -/
theorem idleStatus_eq_of_linkLife (h : Obligations.LinkLife) {s : State} {k : LinkId}
    (hon : s.pageOn (Pg.link k) = true) (hst : s.linkSt k = 4) (hquiet : (s.idleReq k false).Quiet) :
    s.idleStatus k = (s.idleReq k false).idleStatus k := by
  obtain ⟨hlink, -⟩ := h s 0 k [] 0 0
  obtain ⟨-, -, -, -, hstatus, -⟩ := hlink hon
  have hboth : ((s.idleReq k false).sym k 0x55 (s.idleStatus k)).flushSinks.settle =
      ((s.idleReq k false).sym k 0x55 ((s.idleReq k false).idleStatus k)).flushSinks.settle :=
    Host.Outcome.next.inj ((s.exec_lpStatusInterval hon hst).symm.trans (hstatus hst))
  have hsent : ∀ x, ((s.idleReq k false).sym k 0x55 x).flushSinks.settle.out =
      .symbol k 0x55 x :: (s.idleReq k false).out := fun x => by
    have hquiet' : ((s.idleReq k false).sym k 0x55 x).Quiet := hquiet
    rw [State.end_quiet _ hquiet', State.out_settle]
    rfl
  have hout := congrArg State.out hboth
  rw [hsent, hsent] at hout
  exact (Output.symbol.inj (List.cons.inj hout).1).2.2

/-- Refutes O21 by its clause of R118: in `State.retrainStands` LP_STATUS_INTERVAL sends that the lanes are up, and by the
statement it sends that they are not, because clearing IDLE_REQ writes LANE_CMD as it stands, with RETRAIN. Where LANE_CMD
holds its levels only the clause holds (`exec_lpStatusInterval_levelsOnly`); what O21 says of headers, LINK_CTRL and ENABLE
holds in every state (the theorems after this one). -/
theorem not_linkLife : ¬ Obligations.LinkLife := by
  intro h
  obtain ⟨hon, hst⟩ := State.retrainStands_idle
  obtain ⟨hbefore, hafter⟩ := State.idleStatus_retrainStands
  have heq := idleStatus_eq_of_linkLife h (k := 4) hon hst State.quiet_idleReq_retrainStands
  exact absurd (hbefore.symm.trans (heq.trans hafter)) (by decide)

variable (s : State) (a : Agent) (k : LinkId)

/-- The clause that O21 has for LP_STATUS_INTERVAL, where LANE_CMD holds its levels only. -/
theorem exec_lpStatusInterval_levelsOnly (hon : s.pageOn (Pg.link k) = true) (hst : s.linkSt k = 4)
    (h : ∀ l ∈ linkLanes k, s.LevelsOnly l) :
    exec (.lpStatusInterval k) s =
      .next ((s.idleReq k false).sym k 0x55 ((s.idleReq k false).idleStatus k)).flushSinks.settle := by
  rw [s.idleStatus_idleReq h]
  exact s.exec_lpStatusInterval hon hst

/-- FRAME_HEADER whose HCRC fails (R94). -/
theorem exec_frameHeader_badCrc {bytes : List Byte} (since unsent : BitVec 4) (hon : s.pageOn (Pg.link k) = true)
    (hst : s.linkSt k = 3) (hnak : (s.link k).nak = none) (hcheck : checkHeader bytes = .badCrc) :
    exec (.frameHeader k bytes since unsent) s =
      .next (((s.headerNumbered k since.toNat).count (Pg.link k) R.CNT_HDR_ERR).rxFail k 1
        (s.headerNum k since.toNat)).flushSinks.settle :=
  finishAll_of_eq ((s.onLink_of_on _ hon).trans (s.headerIn_badCrc _ _ hst hnak hcheck))

/-- FRAME_HEADER of a frame that opens at a stitch port (R103). -/
theorem exec_frameHeader_opens {bytes : List Byte} {f : Frame} {n : Nat} (since unsent : BitVec 4)
    (hon : s.pageOn (Pg.link k) = true) (hst : s.linkSt k = 3) (hnak : (s.link k).nak = none)
    (hcheck : checkHeader bytes = .good f n) (hk : 4 ≤ k.val) (hopen : (s.link k).opened = none)
    (hdup : (s.link k).delivered.contains (s.headerNum k since.toNat) = false)
    (hnew : State.received (s.link k) (s.headerNum k since.toNat) = false)
    (hpass : ((s.headerNumbered k since.toNat).passage k { f with payload := List.replicate n 0 }).expired = false) :
    exec (.frameHeader k bytes since unsent) s =
      .next ((s.headerNumbered k since.toNat).modLink k fun l =>
        { l with suspended := l.opened
                 opened := some { frame := { f with payload := List.replicate n 0 }, num := s.headerNum k since.toNat
                                  cut := none, skip := false } }).flushSinks.settle :=
  finishAll_of_eq ((s.onLink_of_on _ hon).trans (s.headerIn_opens _ _ hst hnak hcheck hk hopen hdup hnew hpass))

/-- LP_REQ_WRITE that sets LP_REQ on a link in ACTIVE (R117). -/
theorem exec_lpReqWrite_set (hok : s.writeCode a (Pg.link k) R.LINK_CTRL.off = .ok) (hst : s.linkSt k = 3)
    (hwas : s.on (Pg.link k) R.LINK_CTRL_LP_REQ = false) :
    exec (.lpReqWrite a k true) s =
      .next ((((s.touch (32 + k.val)).setF (Pg.link k) R.LINK_CTRL_LP_REQ).sym k 0x96 0).modLink k fun l =>
        { l with lpAsked := true }).flushSinks.settle := by
  have hbit := fun i (hi : i < 32) => s.bitOf_linkCtrlWord k (f := R.LINK_CTRL_LP_REQ) (b2n true) rfl rfl hi
  exact finishAll_of_eq ((s.poke_link_ok _ hok).trans
    (s.wrLink_lpReq (hbit 0 (by decide)) ((hbit 1 (by decide)).trans (Bool.and_false _))
      ((hbit 2 (by decide)).trans (Bool.and_false _)) hst hwas))

/-- LINK_RESET of a link that is enabled (R105). -/
theorem exec_linkReset_enabled (hok : s.writeCode a (Pg.link k) R.LINK_CTRL.off = .ok) (hst : s.linkSt k ≠ 0) :
    exec (.linkReset a k) s =
      .next (((s.touch (32 + k.val)).putB (Pg.link k) R.LINK_CTRL_LP_REQ
        (s.on (Pg.link k) R.LINK_CTRL_LP_REQ)).linkDown k 6).flushSinks.settle := by
  have hbit := fun i (hi : i < 32) => s.bitOf_linkCtrlWord k (f := R.LINK_CTRL_LINK_RESET) 1 rfl rfl hi
  have hkeep : bitOf (s.withField (Pg.link k) R.LINK_CTRL_LINK_RESET 1).toNat 0 = s.on (Pg.link k) R.LINK_CTRL_LP_REQ :=
    (hbit 0 (by decide)).trans
      ((Bool.and_true _).trans (s.on_eq_bitOf (Pg.link k) (f := R.LINK_CTRL_LP_REQ) rfl).symm)
  exact finishAll_of_eq ((s.poke_link_ok _ hok).trans
    (s.wrLink_reset hkeep (hbit 1 (by decide)) ((hbit 2 (by decide)).trans (Bool.and_false _)) hst))

/-- LINK_ENABLE that no check refuses (R57, R60, R105). -/
theorem exec_linkEnable_allowed (hok : s.writeCode a (Pg.link k) R.PAGE_CTRL.off = .ok)
    (hwas : s.on (Pg.link k) R.PAGE_CTRL_ENABLE = false) (hfree : s.blockStopped (Pg.link k) = false)
    (hrates : s.ratesDiffer k = false) (hmap : s.mapInvalid k = false) :
    let t := (linkLanes k).foldl (fun t l => t.laneStart l)
      ((((s.enableCheck k).1.putKept (Pg.link k) R.PAGE_CTRL_ENABLE 1).setLinkSt k 1).expectHub k)
    exec (.linkEnable a k) s =
      .next (t.storeWrite (Pg.link k) R.PAGE_CTRL.off (BitVec.ofNat 32 (bitsPut
        (s.withField (Pg.link k) R.PAGE_CTRL_ENABLE 1).toNat 0 1
        (t.get (Pg.link k) R.PAGE_CTRL_ENABLE)))).flushSinks.settle := by
  have hv : bitOf (s.withField (Pg.link k) R.PAGE_CTRL_ENABLE 1).toNat 0 = true :=
    s.bitOf_withField_same (Pg.link k) R.PAGE_CTRL_ENABLE 1 rfl (by decide)
  refine finishAll_of_eq ((s.poke_link_ok _ hok).trans ((s.wrLink_pageCtrl k _).trans ?_))
  rw [hv, hfree, Bool.not_false, Bool.and_self, s.enableWritten_set hwas, s.linkEnable_allowed hrates hmap]

/-- LINK_DISABLE of a link that waits for its lanes (R105). -/
theorem exec_linkDisable_lanes (hok : s.writeCode a (Pg.link k) R.PAGE_CTRL.off = .ok)
    (hwas : s.on (Pg.link k) R.PAGE_CTRL_ENABLE = true) (hst : s.linkSt k = 1) :
    let t := (linkLanes k).foldl (fun t l => t.laneStop l)
      ((s.putKept (Pg.link k) R.PAGE_CTRL_ENABLE 0).setLinkSt k 0)
    exec (.linkDisable a k) s =
      .next (t.storeWrite (Pg.link k) R.PAGE_CTRL.off (BitVec.ofNat 32 (bitsPut
        (s.withField (Pg.link k) R.PAGE_CTRL_ENABLE 0).toNat 0 1
        (t.get (Pg.link k) R.PAGE_CTRL_ENABLE)))).flushSinks.settle := by
  have hv : bitOf (s.withField (Pg.link k) R.PAGE_CTRL_ENABLE 0).toNat 0 = false :=
    s.bitOf_withField_same (Pg.link k) R.PAGE_CTRL_ENABLE 0 rfl (by decide)
  refine finishAll_of_eq ((s.poke_link_ok _ hok).trans ((s.wrLink_pageCtrl k _).trans ?_))
  rw [hv, Bool.false_and, s.enableWritten_clear hwas, s.linkDisable_lanes hst]

end Sys2Proof.Machine
end

section
/-! SUPPORT. Frames that end at a link and leave by it (R99, R109, R183), and the Gleaner's check of a cell (R197). -/

namespace Sys2Proof.Machine.State

open Sys2Proof (Byte)

variable (s : State)

/-! ### The last flit of a frame (R99, R109) -/

/-- The link layer after the last `n` flits of the open frame: the frame it suspended is open again. -/
def lastFlitsNumbered (s : State) (k n : Nat) : State :=
  (s.modLink k fun l => { l with rxNum := (l.rxNum + n) % 65536 }).modLink k fun l =>
    { l with opened := l.suspended, suspended := none }

/-- A good frame is acknowledged and goes on. -/
theorem lastFlit_good {k n : Nat} {area tail : List Byte} {badSync : Bool} {o : RxOpen}
    (deliver : State → Frame → Option Nat → State) (hst : s.linkSt k = 3) (hnak : (s.link k).nak = none)
    (hopen : (s.link k).opened = some o) (hskip : o.skip = false)
    (hjudge : judge o.frame (o.got + n) area tail badSync = .good) :
    s.lastFlit k n area tail badSync deliver =
      ((s.lastFlitsNumbered k n).acknowledge k o.num).goodFrame k { o.frame with payload := area.take o.frame.plen } o.cut
        area deliver := by
  rw [lastFlit, if_neg (s.takesFlits hst hnak)]
  simp only [hopen, hskip, hjudge, Bool.false_eq_true, if_false]
  rfl

/-- A stomped frame of which nothing has been forwarded is counted and acknowledged. -/
theorem lastFlit_stomped {k n : Nat} {area tail : List Byte} {badSync : Bool} {o : RxOpen}
    (deliver : State → Frame → Option Nat → State) (hst : s.linkSt k = 3) (hnak : (s.link k).nak = none)
    (hopen : (s.link k).opened = some o) (hskip : o.skip = false)
    (hjudge : judge o.frame (o.got + n) area tail badSync = .stomped) (hcut : o.cut = none) :
    s.lastFlit k n area tail badSync deliver =
      ((s.lastFlitsNumbered k n).count (Pg.link k) R.CNT_STOMP_RX).acknowledge k o.num := by
  rw [lastFlit, if_neg (s.takesFlits hst hnak)]
  simp only [hopen, hskip, hjudge, hcut, Bool.false_eq_true, if_false]
  rfl

/-! ### Egress at a side or stitch port (R102, R108, R183) -/

/-- A side that sends nothing else transmits the frame that R183 selects, where its replay buffer has room. -/
theorem sideSelect_free {k : Nat} {q : Queued} (hactive : s.linkActive k = true)
    (hstall : s.on (Pg.link k) R.LINK_STATUS_REPLAY_STALL = false) (hcut : (s.link k).txCut = [])
    (hselect : s.selectAt k false = some q) (hroom : s.replayRoom k q.frame = true) :
    s.sideSelect k 0 none = (s.unqueue q).transmit k q.frame 0 := by
  have hidle : ¬ (0 < 0 ∨ (s.link k).txCut ≠ []) := by simp [hcut]
  have hurgent : (s.link k).txCut.any (·.urgent) = false := by rw [hcut]; rfl
  have hcuts : ((s.link k).txCut != []) = false := by rw [hcut]; rfl
  simp only [sideSelect, decide_eq_false hidle, hactive, hstall, hurgent, hcuts, hselect, hroom, cellsChecked, Bool.not_true,
    Bool.or_self, Bool.false_and, Bool.false_eq_true, if_false, if_true, when_false]

/-- A point below 7 that no back-pressure unit holds is a side or stitch port. -/
theorem egressSelect_side {k unsent : Nat} (ecc : Option (BitVec 17 × Bool)) (residence : Nat)
    (hon : s.domainOn 4 = true) (hfree : s.chaffHolds k = false) (hk : k < 7) :
    s.egressSelect k unsent ecc residence = s.sideSelect k unsent ecc := by
  have hgoes : ¬ ((!s.domainOn 4 || s.chaffHolds k) = true) := by rw [hon, hfree]; decide
  rw [egressSelect, if_neg hgoes, if_pos hk]

/-! ### The Gleaner (R197) -/

/-- Before the last cell, a check goes on to the next. -/
theorem gleanStep_next (finding : Sys2Proof.CellFinding) (hgranary : s.granaryOn = true)
    (hready : s.ready Pg.gleaner = true) (hen : s.on Pg.gleaner R.GLEAN_CFG_EN = true) (hlt : s.core.gleanCell < 131071) :
    s.gleanStep finding =
      (s.cellChecked s.core.gleanCell finding).modCore fun c => { c with gleanCell := s.core.gleanCell + 1 } := by
  have hruns : ¬ ((!(s.granaryOn && s.ready Pg.gleaner && s.on Pg.gleaner R.GLEAN_CFG_EN)) = true) := by
    rw [hgranary, hready, hen]
    decide
  rw [gleanStep, if_neg hruns]
  exact if_pos hlt

/-- An orphaned cell is left alone until it has been one for AUDIT_MS. -/
theorem cellChecked_orphan_young {cell : Nat} {x : Nat × Nat}
    (hfind : s.core.orphans.find? (·.1 == cell) = some x) (hyoung : s.ns < x.2 + 1000000 * s.auditMs) :
    s.cellChecked cell .orphaned = s := by
  rw [cellChecked, hfind]
  exact if_neg (Nat.not_le.mpr hyoung)

/-! ### The data ring (R159) -/

/-- The master of a hub that has failed over orders the configured ring again once it has at most one break. -/
theorem ringAlive_failBack (hon : s.domainOn 4 = true) (hmaster : s.isMaster = true) (hover : s.ring.failedOver = true)
    (hbreaks : s.breakCount (s.get Pg.redun R.REDUN_CFG_DATA_RING) ≤ 1) :
    s.ringAlive failBack = s.orderDataRing (s.get Pg.redun R.REDUN_CFG_DATA_RING) :=
  (if_pos hon).trans (if_pos ⟨hmaster, hover, hbreaks⟩)

end Sys2Proof.Machine.State
end

section
/-! The settling of the statement on frames, engines that go down and up, the Gleaner and the data ring. -/

namespace Sys2Proof.Machine

/-- Settles O36: the last flit of a frame by what its judgement says (`lastFlit_good`, `lastFlit_stomped`), egress at a free
side (`sideSelect_free`), the engines and the data ring by the conditions that they test, the Gleaner's check of a cell before
the last (`gleanStep_next`). The acknowledgement of a stomped frame is log entry 38, and FRAME_END and EGRESS_SELECT as rows of
their own are log entry 25: they are the model's choice. -/
theorem framesAndCells : Obligations.FramesAndCells := by
  unfold Obligations.FramesAndCells
  intro s k n area tail at_ res o point q e l t f
  refine ⟨fun hon hst hnak hopen hskip => ⟨fun hjudge => ?_, fun hjudge hcut => ?_⟩, ?_, fun hup hdown => ?_,
    fun hup hdown => ?_, fun hgranary hready hen hlt => ⟨?_, fun x hfind hyoung => ?_⟩, fun hon hmaster hover hbreaks => ?_⟩
  · exact finishAll_of_eq ((s.onLink_of_on _ hon).trans (s.lastFlit_good _ hst hnak hopen hskip hjudge))
  · exact finishAll_of_eq ((s.onLink_of_on _ hon).trans (s.lastFlit_stomped _ hst hnak hopen hskip hjudge hcut))
  · intro hon hfree hside hactive hstall hcut hselect hroom
    exact finishAll_of_eq ((s.egressSelect_side none _ hon hfree hside).trans
      (s.sideSelect_free hactive hstall hcut hselect hroom))
  · exact finishAll_of_eq (if_pos (Bool.and_eq_true_iff.mpr ⟨hup, hdown⟩))
  · exact finishAll_of_eq (if_pos (by rw [hup, hdown]; rfl))
  · exact finishAll_of_eq (s.gleanStep_next .inOrder hgranary hready hen hlt)
  · refine finishAll_of_eq ((s.gleanStep_next .orphaned hgranary hready hen hlt).trans ?_)
    rw [s.cellChecked_orphan_young hfind hyoung]
  · exact finishAll_of_eq (s.ringAlive_failBack hon hmaster hover hbreaks)

end Sys2Proof.Machine
end

section
/-! SUPPORT. Credentials (R129, R132): the order of the election, and the payload of a CLAIM. -/

namespace Sys2Proof.Machine.Cred

/-! ### The order (R132) -/

/-- The node number that the election compares: 255 for a hub without one. -/
def nodeRank (c : Cred) : Nat := if c.nodeValid then c.node else 255

/-- What the election compares, in its order: the higher priority, the lower node number, the lower hub, the lower UID. The
smaller is the better. -/
def rank (c : Cred) : ℕᵒᵈ ×ₗ ℕ ×ₗ ℕ ×ₗ ℕ :=
  toLex (OrderDual.toDual c.prio, toLex (c.nodeRank, toLex (c.hub, c.uid)))

variable {a b c : Cred}

/-- The ranks of two credentials are compared field by field. -/
theorem rank_lt_iff :
    a.rank < b.rank ↔
      (if a.prio ≠ b.prio then decide (b.prio < a.prio)
       else if a.nodeRank ≠ b.nodeRank then decide (a.nodeRank < b.nodeRank)
       else if a.hub ≠ b.hub then decide (a.hub < b.hub)
       else decide (a.uid < b.uid)) = true := by
  simp only [rank, Prod.Lex.toLex_lt_toLex, OrderDual.toDual_lt_toDual, OrderDual.toDual_inj]
  by_cases hprio : a.prio = b.prio
  · by_cases hnode : a.nodeRank = b.nodeRank
    · by_cases hhub : a.hub = b.hub <;> simp [hprio, hnode, hhub]
    · simp [hprio, hnode]
  · simp [hprio]

/-- A candidate is better than whoever is no candidate, and than a candidate of a higher rank. -/
theorem better_iff : a.better b = true ↔ a.cand = true ∧ (b.cand = true → a.rank < b.rank) := by
  rw [rank_lt_iff, better, Bool.and_eq_true, Bool.or_eq_true, Bool.not_eq_true', Bool.eq_false_iff, ← imp_iff_not_or]
  exact Iff.rfl

/-- Among candidates the ranks decide. -/
theorem better_eq_decide (ha : a.cand = true) (hb : b.cand = true) : a.better b = decide (a.rank < b.rank) := by
  rw [Bool.eq_iff_iff, better_iff, decide_eq_true_iff]
  exact ⟨fun ⟨_, h⟩ => h hb, fun h => ⟨ha, fun _ => h⟩⟩

theorem better_irrefl (a : Cred) : a.better a = false :=
  Bool.eq_false_iff.mpr fun h => by
    obtain ⟨hcand, hlt⟩ := better_iff.mp h
    exact lt_irrefl _ (hlt hcand)

theorem better_trans (hab : a.better b = true) (hbc : b.better c = true) : a.better c = true := by
  obtain ⟨ha, hab⟩ := better_iff.mp hab
  obtain ⟨hb, hbc⟩ := better_iff.mp hbc
  exact better_iff.mpr ⟨ha, fun hc => (hab hb).trans (hbc hc)⟩

theorem rank_ne_of_uid (h : a.uid ≠ b.uid) : a.rank ≠ b.rank := fun e =>
  h (congrArg (fun r => (ofLex (ofLex (ofLex r).2).2).2) e)

/-- Of two candidates with different UIDs one is better than the other. -/
theorem better_eq_not (ha : a.cand = true) (hb : b.cand = true) (huid : a.uid ≠ b.uid) :
    a.better b = !(b.better a) := by
  rw [better_eq_decide ha hb, better_eq_decide hb ha, ← decide_not, decide_eq_decide, not_lt]
  exact ⟨le_of_lt, fun h => lt_of_le_of_ne h (rank_ne_of_uid huid)⟩

theorem better_of_not_cand (b : Cred) (h : a.cand = false) : a.better b = false := by
  rw [better, h, Bool.false_and]

/-! ### The payload of a CLAIM (R129) -/

theorem length_bytes (c : Cred) (term : Nat) : (c.bytes term).length = 16 := rfl

/-- The flags beside the hub number read as they were written. -/
theorem flags_fields {hub : Nat} (valid cand : Bool) (hhub : hub < 4) :
    hub + b2n valid * 4 + b2n cand * 8 < 256 ∧ (hub + b2n valid * 4 + b2n cand * 8) % 4 = hub ∧
      bitOf (hub + b2n valid * 4 + b2n cand * 8) 2 = valid ∧ bitOf (hub + b2n valid * 4 + b2n cand * 8) 3 = cand := by
  have hvalid := b2n_le valid
  have hcand := b2n_le cand
  have hbit2 := bitOf_flag (b2n cand) hub 2 valid (by omega)
  have hbit3 := bitOf_flag 0 (hub + b2n valid * 4) 3 cand (by omega)
  have hbyte2 : b2n cand * 2 ^ (2 + 1) + b2n valid * 2 ^ 2 + hub = hub + b2n valid * 4 + b2n cand * 8 := by omega
  have hbyte3 : 0 * 2 ^ (3 + 1) + b2n cand * 2 ^ 3 + (hub + b2n valid * 4) = hub + b2n valid * 4 + b2n cand * 8 := by omega
  rw [hbyte2] at hbit2
  rw [hbyte3] at hbit3
  exact ⟨by omega, by omega, hbit2, hbit3⟩

theorem bytesAt_bytes_uid (c : Cred) (term : Nat) : bytesAt (c.bytes term) 4 8 = leBytes 8 c.uid := rfl

theorem bytesAt_bytes_term (c : Cred) (term : Nat) : bytesAt (c.bytes term) 12 4 = leBytes 4 term := rfl

/-- A credential whose fields fit is read as it was written. -/
theorem credOf_bytes (term : Nat) (hprio : c.prio < 16) (hnode : c.node < 256) (hhub : c.hub < 4)
    (huid : c.uid < 2 ^ 64) : credOf (c.bytes term) = c := by
  obtain ⟨hflags, hhubField, hvalid, hcand⟩ := flags_fields c.nodeValid c.cand hhub
  have hbyte : ∀ {x : Nat}, x < 256 → (BitVec.ofNat 8 x).toNat = x := fun hx => Nat.mod_eq_of_lt hx
  have hprioMod : c.prio % 16 = c.prio := Nat.mod_eq_of_lt hprio
  have h0 : ((c.bytes term).getD 0 0).toNat = c.prio := (hbyte (x := c.prio % 16) (by omega)).trans hprioMod
  have h1 : ((c.bytes term).getD 1 0).toNat = c.node := hbyte hnode
  have h2 : ((c.bytes term).getD 2 0).toNat = c.hub + b2n c.nodeValid * 4 + b2n c.cand * 8 := by
    show (BitVec.ofNat 8 (c.hub % 4 + b2n c.nodeValid * 4 + b2n c.cand * 8)).toNat = _
    rw [Nat.mod_eq_of_lt hhub]
    exact hbyte hflags
  have huidField : leNat (leBytes 8 c.uid) = c.uid := leNat_leBytes_of_lt (n := 8) huid
  simp only [credOf, h0, h1, h2, hprioMod, hhubField, hvalid, hcand, bytesAt_bytes_uid, huidField]

end Sys2Proof.Machine.Cred
end

section
/-! The settling of the statements on credentials. -/

namespace Sys2Proof.Machine

/-- Settles O23: among candidates the order is that of their ranks, which is linear (`Cred.better_iff`), and candidates of
different UIDs differ in rank. -/
theorem credentialOrder : Obligations.CredentialOrder := by
  unfold Obligations.CredentialOrder
  intro a b c
  exact ⟨a.better_irrefl, Cred.better_trans, Cred.better_eq_not, Cred.better_of_not_cand b⟩

/-- Settles O24: every field of a CLAIM is read from where it was written (`Cred.credOf_bytes`). -/
theorem claimRoundTrip : Obligations.ClaimRoundTrip := by
  unfold Obligations.ClaimRoundTrip
  intro c term hprio hnode hhub huid hterm
  refine ⟨Cred.credOf_bytes term hprio hnode hhub huid, ?_, congrArg some (c.length_bytes term).symm⟩
  rw [c.bytesAt_bytes_term]
  exact leNat_leBytes_of_lt (n := 4) hterm

end Sys2Proof.Machine
end

section
/-! SUPPORT. Ring control (R129 to R137, R155 to R165): what a ring management message, a timer and a write to a page of ring
control do in the states in which they act. -/

namespace Sys2Proof.Machine.State

open Sys2Proof (Word Byte)

variable (s : State)

/-! ### What acts -/

/-- A message of the length of its code acts while CORE is on. -/
theorem mgmtIn_of_length {code n : Nat} {p : List Byte} (k : Nat) (hon : s.domainOn 4 = true)
    (hcode : mgmtLen code = some n) (hlen : p.length = n) : s.mgmtIn k code p = s.mgmtMessage code p := by
  have hruns : ¬ ((!s.domainOn 4) = true) := by rw [hon]; decide
  rw [mgmtIn, if_neg hruns, if_pos (by rw [hcode, hlen])]

theorem ringAlive_of_on (f : State → State) (hon : s.domainOn 4 = true) : s.ringAlive f = f s := if_pos hon

/-! ### Discovery (R131 to R137) -/

/-- A CLAIM in DISCOVER is recorded, and its credential kept where it is the better one. -/
theorem claimIn_discover {best : Cred} (p : List Byte) (hst : s.ringState = 1) (hbest : s.ring.best = some best) :
    s.claimIn p =
      let t := (s.seeTerm (leNat (bytesAt p 12 4))).modRing fun r =>
        { r with claims := r.claims.filter (·.uid != (credOf p).uid) ++ [credOf p] }
      if (credOf p).better best then t.modRing fun r => { r with best := some (credOf p) } else t := by
  rw [claimIn, if_pos hst, hbest]

/-- The settle timer of a hub that is not the best, with no RING_INFO in hand: it waits for the tokens. -/
theorem settleExpired_other {best : Cred} (hbest : s.ring.best = some best) (huid : best.uid ≠ s.uid)
    (hearly : s.ring.early = none) :
    s.settleExpired =
      ((s.count Pg.master R.CNT_DISC_ELECTIONS).put Pg.master R.CLAIMANTS s.ring.claims.length).put Pg.master
        R.RING_STATUS_STATE 2 := by
  have hmine : ¬ ((best.uid == s.uid && best.cand) = true) := by rw [beq_false_of_ne huid, Bool.false_and]; decide
  simp only [settleExpired, hbest, if_neg hmine, hearly]
  rfl

/-- The count of a token is left, and the token goes on ahead with the next. -/
theorem positionIn_ahead {p : List Byte} {dir ring : Nat} {t : State} (hdir : (p.getD 2 0).toNat % 2 = dir)
    (hring : bitsOf (p.getD 2 0).toNat 1 1 = ring) (huid : leNat (bytesAt p 8 8) ≠ s.uid)
    (hdead : bitOf (p.getD 2 0).toNat 2 = false)
    (ht : (s.seeTerm (leNat (bytesAt p 4 4))).modRing (fun r =>
      { r with counts := r.counts.filter (fun c => !(c.1 == ring && c.2.1 == dir)) ++
          [(ring, dir, leNat (bytesAt p 0 2))] }) = t)
    (hahead : t.linkActive (sideOf ring dir) = true) :
    s.positionIn p =
      t.mgmtOut (sideOf ring dir) 0x02 (tokenBytes (leNat (bytesAt p 0 2) + 1) dir ring 0 (leNat (bytesAt p 4 4))
        (leNat (bytesAt p 8 8))) := by
  subst hdir hring ht
  simp only [positionIn, if_neg huid, hdead, Bool.false_eq_true, if_false]
  exact if_pos hahead

/-- The token timer in POSITION starts the discovery again. -/
theorem tokenExpired_position (hst : s.ringState = 2) :
    s.tokenExpired = (s.event Pg.master E.P060_DISCOVERY_RESTART).discover s.ring.keepPos := if_pos hst

/-- In ANNOUNCE it ends the wait for the other hubs. -/
theorem tokenExpired_announce (hst : s.ringState = 3) : s.tokenExpired = s.enterRun := by
  rw [tokenExpired, if_neg (by omega), if_pos hst]

/-- RING_INFO in DISCOVER waits for the settle timer. -/
theorem infoIn_discover (p : List Byte) (hst : s.ringState = 1) :
    s.infoIn p = (s.seeTerm (leNat (bytesAt p 4 4))).modRing fun r => { r with early := some p } := if_pos hst

/-- Before the state ANNOUNCE, the announcement of a hub without a node number is recorded, and that is all. -/
theorem announceIn_early {p : List Byte} (hst : s.ringState < 3) (hvalid : bitOf (p.getD 3 0).toNat 2 = false) :
    s.announceIn p =
      (s.modRing fun r =>
        { r with anns := r.anns.filter (·.uid != leNat (bytesAt p 4 8)) ++
            [{ uid := leNat (bytesAt p 4 8), pos := leNat (bytesAt p 0 2) % 1024, node := (p.getD 2 0).toNat
               hub := (p.getD 3 0).toNat % 4, valid := false }] }).seeTerm (leNat (bytesAt p 12 4)) := by
  have hannounce : ¬ s.ringState = 3 := by omega
  have hrun : ¬ 4 ≤ s.ringState := by omega
  simp only [announceIn, hvalid, when_false, if_neg hannounce, if_neg hrun]
  rfl

/-- ASSIGN_NODE gives its number to the lead hub that it names, where it has none. -/
theorem assignNode_taken {p : List Byte} (huid : leNat (bytesAt p 4 8) = s.uid) (hlead : s.hubPos = 0)
    (hnone : s.nodeValid = false) (hnum : (p.getD 2 0).toNat ≠ 255) :
    s.mgmtMessage 0x0A p = s.takeNode (p.getD 2 0).toNat :=
  if_pos ⟨huid, hlead, by rw [hnone]; rfl, hnum⟩

/-- A hub in RUN that misses the beacons starts a discovery with positions kept; the master does not. -/
theorem beaconLost_running (hst : 4 ≤ s.ringState) (hmaster : s.isMaster = false) :
    s.beaconLost =
      (((s.count Pg.master R.CNT_MGMT_BEACON).event Pg.master E.P060_BEACON_LOST).raise Pg.master K.BEACON_LOST
        0).discover true :=
  if_pos ⟨hst, by rw [hmaster]; rfl⟩

/-- REDISCOVER of a running ring. -/
theorem wrRing_rediscover (hst : 4 ≤ s.ringState) : wrRing Pg.master s R.RING_CMD.off 1 = s.discover false := by
  have hclear : bitOf (1 : Word).toNat 1 = false := by decide
  have hcmd : bitOf (1 : Word).toNat 0 = true := by decide
  simp only [wrRing, and_self, if_true, hclear, hcmd, when_false, Bool.true_and]
  exact s.when_of_true _ (decide_eq_true hst)

end Sys2Proof.Machine.State
end

section
/-! The settling of the statement on discovery. -/

namespace Sys2Proof.Machine

/-- Settles O25: a message of the right length acts by its code while CORE is on (`mgmtIn_of_length`), a timer while CORE is
on (`ringAlive_of_on`), and each meaning is said above for the state of the ring in which it acts. That a hub which takes
its number in RUN floods its ANNOUNCE both ways is log entry 39, the model's choice. -/
theorem ringDiscovery : Obligations.RingDiscovery := by
  unfold Obligations.RingDiscovery
  intro s a k b m h hon
  refine ⟨?_, ?_, ?_, ?_, ?_, ?_, ?_, ?_, ?_, ?_, ?_⟩
  · intro best hb hst hbest
    exact finishAll_of_eq ((s.mgmtIn_of_length k hon rfl hb).trans (s.claimIn_discover b hst hbest))
  · intro hst
    exact finishAll_of_eq ((s.ringAlive_of_on _ hon).trans (if_pos hst))
  · intro best hst hbest huid hearly
    exact finishAll_of_eq ((s.ringAlive_of_on _ hon).trans
      ((if_pos hst).trans (s.settleExpired_other hbest huid hearly)))
  · intro hb huid hdead dir ring t hahead
    exact finishAll_of_eq ((s.mgmtIn_of_length k hon rfl hb).trans
      (s.positionIn_ahead rfl rfl huid hdead rfl hahead))
  · intro hst
    exact finishAll_of_eq ((s.ringAlive_of_on _ hon).trans (s.tokenExpired_position hst))
  · intro hst
    exact finishAll_of_eq ((s.ringAlive_of_on _ hon).trans (s.tokenExpired_announce hst))
  · intro hb hst
    exact finishAll_of_eq ((s.mgmtIn_of_length k hon rfl hb).trans (s.infoIn_discover b hst))
  · intro hb hst hvalid
    exact finishAll_of_eq ((s.mgmtIn_of_length k hon rfl hb).trans (s.announceIn_early hst hvalid))
  · intro hb huid hlead hnone hnum
    exact finishAll_of_eq ((s.mgmtIn_of_length k hon rfl hb).trans (s.assignNode_taken huid hlead hnone hnum))
  · intro hst hmaster
    exact finishAll_of_eq ((s.ringAlive_of_on _ hon).trans (s.beaconLost_running hst hmaster))
  · intro hst hok
    exact finishAll_of_eq ((s.poke_ok' a _ _ 1 _ (by decide) (by decide) hok).trans (s.wrRing_rediscover hst))

end Sys2Proof.Machine
end

section
/-! SUPPORT. A running ring (R137, R151 to R165): beacons, breaks, the data ring, fences, wraps and routes. -/

namespace Sys2Proof.Machine.State

open Sys2Proof (Word Byte)

variable (s : State)

/-! ### Beacons (R137) -/

/-- What a beacon of this hub carries (R129). -/
def beaconBytes (s : State) : List Byte :=
  s.infoBytes s.ringSize (s.get Pg.master R.RING_STATUS_DISC_RING) (s.get Pg.master R.RING_STATUS_OPEN)
    (s.get Pg.master R.RING_STATUS_SEGMENTED) (s.rd Pg.master R.MASTER_TERM.off).toNat (s.rd Pg.master R.LOOP_NS.off).toNat
    s.uid ++ [BitVec.ofNat 8 (s.get Pg.redun R.REDUN_STATUS_BREAKS_A),
      BitVec.ofNat 8 (s.get Pg.redun R.REDUN_STATUS_BREAKS_B), BitVec.ofNat 8 s.dataRing, 0] ++
    leBytes 2 (s.get Pg.sched R.SCHED_CFG_BASE_CYCLE_US) ++ [0, 0] ++ leBytes 8 s.cycleOrigin

theorem length_beaconBytes : s.beaconBytes.length = 36 := rfl

/-- The master of a running ring floods its beacon. -/
theorem beaconOut_master (hmaster : s.isMaster = true) (hst : 4 ≤ s.ringState) :
    s.beaconOut = s.flood 0x05 s.beaconBytes := if_pos ⟨hmaster, hst⟩

/-- A beacon of the master named here that gives the cycle held here changes what is known of both and nothing else. -/
theorem beaconIn_named {p : List Byte} (huid : leNat (bytesAt p 12 8) = s.masterUid)
    (hbase : leNat (bytesAt p 24 2) = s.get Pg.sched R.SCHED_CFG_BASE_CYCLE_US)
    (horigin : leNat (bytesAt p 28 8) = s.cycleOrigin) :
    s.beaconIn p = (s.seeTerm (leNat (bytesAt p 4 4))).modRing fun r => { r with mismatch := false } := by
  simp only [beaconIn, huid, hbase, horigin, bne_self_eq_false, Bool.or_self, when_false, or_true, if_true]

/-! ### Breaks and the data ring (R155, R158, R159) -/

/-- WRAP_NOTICE reports the break after X. What the break does stands behind an equation, so that nothing evaluates it where
the code of the message is matched. -/
theorem mgmtMessage_wrapNotice {p : List Byte} {t : State}
    (h : s.breakIn ((p.getD 0 0).toNat % 2) (leNat (bytesAt p 2 2) % 1024) (leNat (bytesAt p 4 2) % 1024) = t) :
    s.mgmtMessage 0x06 p = t := by
  unfold mgmtMessage
  dsimp only
  rewrite [h]
  rfl

/-- A break that is new here is recorded. -/
theorem breakIn_new {ring x : Nat} (y : Nat) (hnew : (s.ring.breaks.any fun b => b.ring == ring && b.x == x) = false) :
    s.breakIn ring x y =
      (s.modRing fun r =>
        { r with breaks := r.breaks ++ [{ ring := ring, x := x, y := y, xDown := true
                                          yDown := true }] }).refreshRoutes.failover := by
  simp only [breakIn, modRing, hnew, Bool.false_eq_true, if_false]

/-- A break that is not steered heals away, where this hub is not its end. -/
theorem healIn_unsteered {ring x : Nat}
    (hsteered : (s.ring.breaks.any fun b => b.ring == ring && b.x == x && b.steered) = false)
    (hend : s.ringPos ≠ s.downstream ring x) :
    s.healIn ring x =
      (s.modRing fun r => { r with breaks := r.breaks.filter fun b => !(b.ring == ring && b.x == x) }).refreshRoutes := by
  simp only [healIn, hsteered, beq_false_of_ne hend, when_false, Bool.false_and, Bool.false_eq_true, if_false]

theorem switchDataRing_same {ring : Nat} (h : ring = s.dataRing) : s.switchDataRing ring = s := if_pos h

/-- Where no route has a destination on the ring, a switch of the data ring fences nothing. -/
theorem switchDataRing_other {ring : Nat} (h : ring ≠ s.dataRing) (hdests : s.ringDests = []) :
    s.switchDataRing ring =
      (((s.modRing fun r =>
        { r with failedOver := ring != s.get Pg.redun R.REDUN_CFG_DATA_RING
                 breaks := r.breaks.map fun b => { b with steered := false } }).put Pg.redun
        R.REDUN_STATUS_DATA_RING_ACTIVE ring).event Pg.redun E.P062_FAILOVER).refreshRoutes := by
  rw [switchDataRing, if_neg h, hdests]
  rfl

/-! ### Fences and wraps (R157, R158) -/

/-- The fence of a destination releases its frames by the routes, in order. -/
theorem fenceRelease_dst {key : Nat} {x : Fence} (hkey : key < 1024)
    (hfind : s.ring.fences.find? (·.key == key) = some x) :
    s.fenceRelease key =
      let u := x.frames.foldl (fun t q => (t.unicastOut q.frame).1)
        (s.modRing fun r => { r with fences := r.fences.filter (·.key != key) })
      u.putB Pg.redun R.REDUN_STATUS_FENCE_ACTIVE (!u.ring.fences.isEmpty) := by
  simp only [fenceRelease, hfind, if_pos hkey]

/-- The hold of a restored link ends at the hub that wraps: it tells the ring. -/
theorem unwrapStart_restored {k : Nat} (hwrap : s.ring.wrapping.contains k = true) (hactive : s.linkActive k = true)
    (hfirst : s.ring.unwrapping.contains k = false) :
    s.unwrapStart k =
      ((s.flood 0x07 ([BitVec.ofNat 8 (k / 2), 0] ++ leBytes 2 s.ringPos ++ leBytes 2
        (s.downstream (k / 2) s.ringPos))).modRing fun r => { r with unwrapping := k :: r.unwrapping }).healIn (k / 2)
        s.ringPos :=
  if_pos ⟨hwrap, hactive, by rw [hfirst]; rfl⟩

/-! ### ROUTE_STEER (R165) -/

/-- A STEER by the owner acts unless PATH steers. -/
theorem wrRing_steer {v : Word} (hgo : bitOf v.toNat 31 = true) :
    wrRing Pg.routes s R.ROUTE_STEER.off v =
      if s.policyAct 1 then s.event Pg.routes E.P063_STEER_REFUSED
      else (s.steer (v.toNat % 1024) (bitsOf v.toNat 12 1) true).refreshRoutes := by
  rw [wrRing, if_neg (by decide), if_neg (by decide), if_neg (by decide), if_neg (by decide), if_pos (by decide), if_pos hgo]

end Sys2Proof.Machine.State
end

section
/-! The settling of the statement on a running ring. -/

namespace Sys2Proof.Machine

/-- Settles O26: messages, timers and the write of ROUTE_STEER, each by the lemma above for what it finds. That beacons and
notices are flooded both ways in RUN is log entry 39, the model's choice. -/
theorem ringRunning : Obligations.RingRunning := by
  unfold Obligations.RingRunning
  intro s a k b v key m d h ring hon
  refine ⟨?_, ?_, ?_, ?_, ?_, ?_, ?_, ?_, ?_, ?_, fun hok hgo => ⟨?_, ?_⟩⟩
  · intro hmaster hst p
    exact ⟨s.length_beaconBytes, finishAll_of_eq ((s.ringAlive_of_on _ hon).trans (s.beaconOut_master hmaster hst))⟩
  · intro hb huid hbase horigin
    exact finishAll_of_eq ((s.mgmtIn_of_length k hon rfl hb).trans (s.beaconIn_named huid hbase horigin))
  · intro hb hnew
    exact finishAll_of_eq ((s.mgmtIn_of_length k hon rfl hb).trans
      (s.mgmtMessage_wrapNotice (s.breakIn_new _ hnew)))
  · intro hb hsteered hend
    exact finishAll_of_eq ((s.mgmtIn_of_length k hon rfl hb).trans (s.healIn_unsteered hsteered hend))
  · intro hb
    exact finishAll_of_eq (s.mgmtIn_of_length k hon rfl hb)
  · intro hb hring
    exact finishAll_of_eq ((s.mgmtIn_of_length k hon rfl hb).trans (State.switchDataRing_same _ hring))
  · intro hb hring hdests
    exact finishAll_of_eq ((s.mgmtIn_of_length k hon rfl hb).trans (State.switchDataRing_other _ hring hdests))
  · intro x hkey hfind
    exact finishAll_of_eq ((s.ringAlive_of_on _ hon).trans (s.fenceRelease_dst hkey hfind))
  · intro hwrap hactive hfirst
    exact finishAll_of_eq ((s.ringAlive_of_on _ hon).trans (s.unwrapStart_restored hwrap hactive hfirst))
  · intro hunwrap
    exact finishAll_of_eq ((s.ringAlive_of_on _ hon).trans (if_pos hunwrap))
  · intro hpath
    exact finishAll_of_eq ((s.poke_ok' a _ _ v _ (by decide) (by decide) hok).trans
      ((s.wrRing_steer hgo).trans (if_neg (Bool.eq_false_iff.mp hpath))))
  · intro hpath
    exact finishAll_of_eq ((s.poke_ok' a _ _ v _ (by decide) (by decide) hok).trans
      ((s.wrRing_steer hgo).trans (if_pos hpath)))

end Sys2Proof.Machine
end

section
/-! SUPPORT. The tables of ring control (R143 to R149): the words of a schedule entry, and when an entry fires. -/

namespace Sys2Proof.Machine.State

open Sys2Proof (Word Agent)

variable (s : State)

/-! ### SCHED_CMD (R143, R144) -/

/-- While staging is open, a write of SCHED_CMD that passes the check commands the schedule. -/
theorem poke_schedCmd {a : Agent} (v : Word) (hok : s.writeCode a Pg.sched R.SCHED_CMD.off = .ok)
    (hopen : s.stagingClosed = false) :
    s.poke a Pg.sched R.SCHED_CMD.off v (wrRing Pg.sched) = s.schedCmd v.toNat := by
  have htoken : s.tokenRefused a Pg.sched R.SCHED_CMD.off v = false := s.tokenRefused_ne a _ _ v (by decide)
  have hstaging : stagingBit Pg.sched R.SCHED_CMD.off = some 1 := by decide
  simp only [poke, guardedWrite, guardedAt, htoken, hstaging, hopen, hok, Bool.and_false, Bool.false_and,
    Bool.false_eq_true, if_false]
  rfl

/-- STORE of an entry that breaks no condition of R144 stages its four words. -/
theorem schedCmd_store
    (hgood : schedBad (s.get Pg.sched (R.SCHED_W 0)) (s.get Pg.sched (R.SCHED_W 1)) (s.get Pg.sched (R.SCHED_W 2))
      s.stagedCycle = false) :
    s.schedCmd 2 =
      [0, 1, 2, 3].foldl (fun t n => t.stage Pg.schedTable (16 * (s.get Pg.sched R.SCHED_IDX % 4096) + 4 * n)
        (BitVec.ofNat 32 (s.get Pg.sched (R.SCHED_W n)))) s := if_neg (Bool.eq_false_iff.mp hgood)

/-- STORE of one that does raises SCHED_INVALID. -/
theorem schedCmd_store_invalid
    (hbad : schedBad (s.get Pg.sched (R.SCHED_W 0)) (s.get Pg.sched (R.SCHED_W 1)) (s.get Pg.sched (R.SCHED_W 2))
      s.stagedCycle = true) :
    s.schedCmd 2 = s.event Pg.sched E.P061_SCHED_INVALID := if_pos hbad

/-- LOAD shows the active words of the entry, unless VIEW_STAGED asks for the staged ones. -/
theorem schedCmd_load (hactive : s.on Pg.sched R.PAGE_CTRL_VIEW_STAGED = false) :
    s.schedCmd 1 =
      [0, 1, 2, 3].foldl (fun t n => t.wr Pg.sched (R.SCHED_W n).off
        (BitVec.ofNat 32 (s.schedW (s.get Pg.sched R.SCHED_IDX % 4096) n))) s := by
  have hclear : bitOf 1 2 = false := by decide
  have hstore : bitOf 1 1 = false := by decide
  have hload : bitOf 1 0 = true := by decide
  simp only [schedCmd, hclear, hstore, hload, when_false, when_true, hactive, Bool.false_eq_true, if_false]

/-! ### Firing (R145, R147, R624) -/

/-- An entry may fire in a cycle: the schedule runs, the entry is valid and breaks no condition of R144, the cycle is its
own, and it has not fired in it. -/
structure MayFire (s : State) (i cycle : Nat) : Prop where
  on : s.domainOn 4 = true
  enabled : s.on Pg.sched R.SCHED_CFG_SCHED_EN = true
  valid : bitOf (s.schedW i 0) 31 = true
  good : schedBad (s.schedW i 0) (s.schedW i 1) (s.schedW i 2) s.baseCycle = false
  phase : cycle % 2 ^ bitsOf (s.schedW i 0) 24 4 = s.schedW i 1 % 1024
  first : (s.ring.fired.any fun e => e.1 == i && decide (cycle ≤ e.2)) = false

variable {s} {i cycle : Nat}

/-- Without a valid time a firing is counted as skipped. -/
theorem MayFire.schedFire_skipped (h : s.MayFire i cycle) (late : Nat) (htime : s.timeValid = false) :
    s.schedFire i cycle false late =
      (s.count Pg.sched R.CNT_SCHED_SKIP_TIME_INVALID).event Pg.sched E.P061_SCHED_SKIP := by
  obtain ⟨hon, hen, hvalid, hgood, hphase, hfirst⟩ := h
  simp only [schedFire, hon, hen, hvalid, hgood, hphase, hfirst, htime, Bool.not_true, Bool.not_false, Bool.false_eq_true,
    ne_eq, not_true_eq_false, or_self, if_false, if_true]
  rfl

/-- With one, an entry that is sent is recorded as fired and its bundle assembled. -/
theorem MayFire.schedFire_sent (h : s.MayFire i cycle) (late : Nat) (htime : s.timeValid = true)
    (hsend : bitsOf (s.schedW i 1) 10 2 = 1) :
    s.schedFire i cycle false late =
      (s.modRing fun r => { r with fired := r.fired.filter (·.1 != i) ++ [(i, cycle)] }).schedBundle i late := by
  obtain ⟨hon, hen, hvalid, hgood, hphase, hfirst⟩ := h
  simp only [schedFire, hon, hen, hvalid, hgood, hphase, hfirst, htime, hsend, Bool.not_true, Bool.false_eq_true, ne_eq,
    not_true_eq_false, or_self, if_false, Nat.one_ne_zero]

end Sys2Proof.Machine.State
end

section
/-! The settling of the statement on the tables of ring control. -/

namespace Sys2Proof.Machine

/-- Settles O27: the filters forget what they held, SCHED_CMD acts while staging is open (`poke_schedCmd`), and an entry that
may fire does what the time and its mode say (`MayFire`). -/
theorem ringTables : Obligations.RingTables := by
  unfold Obligations.RingTables
  intro s a node hub cls seq i cycle late p key w j
  refine ⟨?_, rfl, fun hok hopen => ⟨?_, ?_, ?_⟩, fun hon hen hvalid hgood hphase hfirst => ?_⟩
  · intro hwaits
    exact finishAll_of_eq (if_pos hwaits)
  · intro hgood
    exact finishAll_of_eq ((s.poke_schedCmd 2 hok hopen).trans (s.schedCmd_store hgood))
  · intro hbad
    exact finishAll_of_eq ((s.poke_schedCmd 2 hok hopen).trans (s.schedCmd_store_invalid hbad))
  · intro hactive
    exact finishAll_of_eq ((s.poke_schedCmd 1 hok hopen).trans (s.schedCmd_load hactive))
  · have hmay : s.MayFire i cycle.toNat := ⟨hon, hen, hvalid, hgood, hphase, hfirst⟩
    exact ⟨fun htime => finishAll_of_eq (hmay.schedFire_skipped late.toNat htime),
      fun htime hsend => finishAll_of_eq (hmay.schedFire_sent late.toNat htime hsend)⟩

end Sys2Proof.Machine
end

section
/-! SUPPORT. The state after reset (R401, R405, R464): what an empty store reads as, and that no ball, vector or
notification has a source then. -/

namespace Sys2Proof.Machine.State

/-! ### Registers -/

/-- Out of reset every register reads as its Factory value (R464). -/
theorem rd_reset (p off : Nat) : State.reset.rd p off = factoryWord (regKey p off) := rfl

theorem laneSt_reset : ∀ l : LaneId, State.reset.get (Pg.lane l) R.LANE_STATUS_STATE = 0 := by decide

theorem linkSt_reset : ∀ k : LinkId, State.reset.linkSt k = 0 := by decide

/-- The coalescing of a vector waits for nothing out of reset: COAL_US is 0 (R401). -/
theorem coalUs_reset : ∀ v : Fin 64, (State.reset.rd Pg.coalTable (4 * v)).toNat % 2 ^ 16 = 0 := by decide

/-- The owner token is free out of reset. -/
theorem held_reset : State.reset.held = false := by decide

/-- Every port engine is down out of reset (R185). -/
theorem engUp_reset {e : Nat} (h : e < 128) : State.reset.engUp e = false := by
  have hdown : State.reset.core.downEngines.contains e = true := List.contains_iff_mem.mpr (List.mem_range.mpr h)
  rw [engUp, hdown, Bool.not_true]

/-! ### Sources and balls (R400, R405) -/

/-- Out of reset a route word sends its source to an MSI-X vector alone (R400). -/
theorem routeWord_reset : ∀ n : Fin 128, State.reset.routeWord n = 0x40 + n / 2 := by decide

/-- So no source is sent to a ball or to the USB management function. -/
theorem sentTo_reset {b n : Nat} (hb : 7 ≤ b) (hn : n < 128) : State.reset.sentTo b n = false := by
  have hword : State.reset.routeWord n < 2 ^ b := by
    have hroute : State.reset.routeWord n = 0x40 + n / 2 := routeWord_reset ⟨n, hn⟩
    have hpow : 2 ^ 7 ≤ 2 ^ b := Nat.pow_le_pow_right (by decide) hb
    omega
  rw [sentTo, bitOf, Nat.testBit_lt_two_pow hword, Bool.false_and]

theorem nintLow_reset (b : Nat) : State.reset.nintLow b = false :=
  List.any_eq_false.mpr fun n hn => by simp [sentTo_reset (Nat.le_add_right 7 b) (List.mem_range.mp hn)]

/-- Out of reset every vector is in IDLE. -/
theorem vec_reset (v : Nat) : State.reset.vec v = {} := by
  show (Array.replicate 64 ({} : Vec)).getD v {} = {}
  rw [Array.getD]
  split
  · exact Array.getElem_replicate ..
  · rfl

/-- The state after reset is settled (R401, R405, R425). -/
theorem settled_reset : State.reset.Settled := by
  have hballs : ∀ b < 2, State.reset.on Pg.interrupts ⟨R.INT_STATUS.off, b, 1⟩ = false := by decide
  refine ⟨fun b hb => (hballs b hb).trans (nintLow_reset b).symm, fun v _ hpending => ?_, fun hpending => ?_⟩
  · rw [vec_reset] at hpending
    exact absurd hpending (by decide)
  · exact absurd hpending (by decide)

end Sys2Proof.Machine.State
end

section
/-! The settling of the statement on the state after reset. -/

namespace Sys2Proof.Machine

/-- Settles O4: every register reads as Factory (`rd_reset`), so the fields named are those of the tables, the token is free
(`held_reset`) and with it no agent owner or granted, and the state is settled (`settled_reset`). -/
theorem resetState : Obligations.ResetState := by
  unfold Obligations.ResetState
  refine ⟨State.rd_reset, wf_reset, State.laneSt_reset, State.linkSt_reset, by decide, by decide, by decide, by decide,
    by decide, by decide, by decide, State.coalUs_reset, State.held_reset,
    fun a => State.isOwner_of_free _ a State.held_reset, fun a p => State.granted_of_free _ a p State.held_reset,
    rfl, rfl, rfl, fun _ => State.engUp_reset, fun _ => rfl, State.settled_reset⟩

end Sys2Proof.Machine
end

section
/-! SUPPORT. The commands of the switch core (R180 to R203): the bounds that a write must keep, the capture of mirror records,
and the Gleaner's check. -/

namespace Sys2Proof.Machine.State

open Sys2Proof (Word Agent)

variable (s : State)

/-! ### The pages of the switch core -/

/-- A command to a page of the switch core that passes the check has the effect of a write of its register. -/
theorem poke_core_ok {a : Agent} {p off : Nat} (v : Word) (hfirst : 0x068 ≤ p) (h : s.writeCode a p off = .ok) :
    s.poke a p off v (wrCore p) = wrCore p s off v := by
  have hsched : p ≠ Pg.sched := fun e => absurd (e ▸ hfirst) (by decide)
  have hepoch : p ≠ Pg.epoch := fun e => absurd (e ▸ hfirst) (by decide)
  have hidentity : p ≠ Pg.identity := fun e => absurd (e ▸ hfirst) (by decide)
  refine s.poke_ok' a p off v _ hidentity ?_ h
  simp [stagingBit, hsched, hepoch]

theorem wrCore_qprof (off : Nat) (v : Word) : wrCore Pg.qprof s off v = s.wrQprof off v := rfl

theorem wrCore_granary (off : Nat) (v : Word) : wrCore Pg.granary s off v = s.wrGranary off v := rfl

theorem wrCore_gleaner (off : Nat) (v : Word) : wrCore Pg.gleaner s off v = s.wrGleaner off v := rfl

theorem wrCore_mirror (off : Nat) (v : Word) : wrCore Pg.mirror s off v = s.wrMirror off v := rfl

/-! ### The reserve (R180) -/

/-- RESERVE_URGENT is written while both reserves fit in half of the cells. -/
theorem wrCore_reserveUrgent {v : Word} (h : v.toNat % 2 ^ 17 + s.get Pg.granary R.RESERVE_COMPL ≤ 65536) :
    wrCore Pg.granary s R.RESERVE_URGENT.off v = s.storeWrite Pg.granary R.RESERVE_URGENT.off v := by
  have hcompl : R.RESERVE_URGENT.off ≠ R.RESERVE_COMPL.off := by decide
  have hclear : R.RESERVE_URGENT.off ≠ 0x05C := by decide
  rw [wrCore_granary, wrGranary, if_neg (fun hover => Nat.not_lt.mpr h hover.2), if_neg (fun hover => hcompl hover.1),
    if_neg hclear]

theorem wrCore_reserveUrgent_refused {v : Word} (h : 65536 < v.toNat % 2 ^ 17 + s.get Pg.granary R.RESERVE_COMPL) :
    wrCore Pg.granary s R.RESERVE_URGENT.off v = s.event Pg.granary E.P06B_RESERVE_REFUSED := by
  rw [wrCore_granary, wrGranary, if_pos ⟨rfl, h⟩]

/-! ### The bounds of a profile (R182) -/

/-- A write of CM_MIN compares it with CM_MAX of its profile. -/
theorem wrCore_cmMin (p : Fin 16) (v : Word) :
    wrCore Pg.qprof s (R.CM_MIN p).off v =
      if s.get Pg.qprof (R.CM_MAX p) < v.toNat % 2 ^ 17 then s.event Pg.qprof E.P069_PROFILE_REFUSED
      else (s.storeWrite Pg.qprof (R.CM_MIN p).off v).threshToBounds p := by
  have hoff : (R.CM_MIN p).off = 0x808 + 0x10 * p := rfl
  have hwindow : 0x800 ≤ (R.CM_MIN p).off ∧ (R.CM_MIN p).off < 0x900 := by omega
  have hprofile : ((R.CM_MIN p).off - 0x800) / 16 = p := by omega
  have hfield : (R.CM_MIN p).off % 16 = 8 := by omega
  rw [wrCore_qprof]
  simp only [wrQprof, hwindow, hprofile, hfield, and_self, if_true, OfNat.ofNat_ne_zero, if_false]

/-- Outside act mode of policy CM the bounds do not move CM_THRESH. -/
theorem threshToBounds_idle (p : Nat) (h : s.policyAct 2 = false) : s.threshToBounds p = s := by
  simp [threshToBounds, h]

theorem wrCore_cmMin_ordered {p : Fin 16} {v : Word} (h : v.toNat % 2 ^ 17 ≤ s.get Pg.qprof (R.CM_MAX p))
    (hidle : (s.storeWrite Pg.qprof (R.CM_MIN p).off v).policyAct 2 = false) :
    wrCore Pg.qprof s (R.CM_MIN p).off v = s.storeWrite Pg.qprof (R.CM_MIN p).off v := by
  rw [wrCore_cmMin, if_neg (Nat.not_lt.mpr h), threshToBounds_idle _ _ hidle]

theorem wrCore_cmMin_refused {p : Fin 16} {v : Word} (h : s.get Pg.qprof (R.CM_MAX p) < v.toNat % 2 ^ 17) :
    wrCore Pg.qprof s (R.CM_MIN p).off v = s.event Pg.qprof E.P069_PROFILE_REFUSED := by
  rw [wrCore_cmMin, if_pos h]

/-! ### The capture of mirror records (R196) -/

theorem capRead_none (h : s.capHead = none) : s.capRead = (s, 0) := by rw [capRead, h]

/-- A word that is not the last of the record moves CAP_DATA on. -/
theorem capRead_next {q : Queued} (hq : s.capHead = some q) (h : s.core.capRead + 1 < (q.frame.plen + 3) / 4) :
    s.capRead =
      (s.modCore fun c => { c with capRead := c.capRead + 1 },
        BitVec.ofNat 32 (leNat (bytesAt q.frame.payload (4 * s.core.capRead) 4))) := by
  simp only [capRead, hq, if_neg (Nat.not_le.mpr h)]

/-- The last word frees the record; where no other waits, nothing is reported. -/
theorem capRead_last {q : Queued} (hq : s.capHead = some q) (h : (q.frame.plen + 3) / 4 = s.core.capRead + 1)
    (hrest : ((s.unqueue q).modCore fun c => { c with capRead := 0 }).capHead = none) :
    s.capRead =
      ((s.unqueue q).modCore fun c => { c with capRead := 0 },
        BitVec.ofNat 32 (leNat (bytesAt q.frame.payload (4 * s.core.capRead) 4))) := by
  simp only [capRead, hq, if_pos h.le, hrest, Option.isSome_none, when_false]

/-- The word of a command to a register that holds commands only carries no other command. -/
theorem bitOf_withField_beside {p i : Nat} {f : Fld} (x : Nat) {d : RegDesc} (hd : s.descOf p f.off = some d)
    (hrw : d.rw ||| d.rwk = 0) (hi : i < 32) (hbeside : ¬ (f.lo ≤ i ∧ i < f.lo + f.w)) :
    bitOf (s.withField p f x).toNat i = false := by
  rw [bitOf, s.testBit_withField p f x i hi hd, if_neg hbeside, hrw, Nat.zero_testBit, Bool.and_false]

/-- CAP_FLUSH frees the records and clears no counter. -/
theorem wrCore_capFlush :
    wrCore Pg.mirror s R.MIRROR_CMD_CAP_FLUSH.off (s.withField Pg.mirror R.MIRROR_CMD_CAP_FLUSH 1) =
      s.modCore fun c => { c with queued := c.queued.filter (·.point != 9), capRead := 0 } := by
  have hdesc : s.descOf Pg.mirror R.MIRROR_CMD_CAP_FLUSH.off = some { off := 0x0D4, wo := 0x3 } := by
    rw [s.descOf_block _ _ (by decide) (by decide)]
    decide
  have hclear : bitOf (s.withField Pg.mirror R.MIRROR_CMD_CAP_FLUSH 1).toNat 0 = false :=
    s.bitOf_withField_beside 1 hdesc (by decide) (by decide) (by decide)
  have hflush : bitOf (s.withField Pg.mirror R.MIRROR_CMD_CAP_FLUSH 1).toNat 1 = true :=
    s.bitOf_withField_same Pg.mirror R.MIRROR_CMD_CAP_FLUSH 1 rfl (by decide)
  have hoff : R.MIRROR_CMD_CAP_FLUSH.off = 0x0D4 := rfl
  rw [wrCore_mirror]
  simp only [wrMirror, if_pos hoff, hclear, hflush, when_false, when_true]

/-! ### The Gleaner (R200, R201) -/

/-- The check of the discarded cells has ended, whatever it found. -/
def verifyDone (s : State) : State :=
  ((s.modCore fun c => { c with verify := 0 }).clrF Pg.gleaner R.GLEAN_STATUS_VERIFY_BUSY).event Pg.gleaner
    E.P06C_VERIFY_DONE

theorem execGleanerVerify_pass (hbusy : s.on Pg.gleaner R.GLEAN_STATUS_VERIFY_BUSY = true) :
    execGleanerVerify true s = finish (s.verifyDone.count Pg.gleaner R.CNT_VERIFY_PASS) := by
  rw [execGleanerVerify, if_pos hbusy, if_pos rfl, verifyDone]

theorem execGleanerVerify_fail (hbusy : s.on Pg.gleaner R.GLEAN_STATUS_VERIFY_BUSY = true) :
    execGleanerVerify false s =
      finish (((s.verifyDone.count Pg.gleaner R.CNT_VERIFY_FAIL).event Pg.gleaner E.P06C_FREE_LIST_ERR).raise Pg.gleaner
        K.FREE_LIST_ERR (s.verifyDone.get Pg.gleaner R.GLEAN_STATUS_CELL)) := by
  rw [execGleanerVerify, if_pos hbusy, if_neg Bool.false_ne_true, verifyDone, eventFault]

/-- GLEAN_BOUNDS in order is written; where policy GLEAN does not act, AUDIT_MS stays. -/
theorem wrCore_gleanBounds {v : Word} (hidle : s.policyAct 6 = false) (h : bitsOf v.toNat 0 10 ≤ bitsOf v.toNat 16 10) :
    wrCore Pg.gleaner s R.GLEAN_BOUNDS.off v = s.storeWrite Pg.gleaner R.GLEAN_BOUNDS.off v := by
  have hcfg : R.GLEAN_BOUNDS.off ≠ R.GLEAN_CFG.off := by decide
  rw [wrCore_gleaner]
  simp only [wrGleaner, if_neg hcfg, if_neg (Nat.not_lt.mpr h), hidle, Bool.false_eq_true, if_false, if_true]

theorem wrCore_gleanBounds_refused {v : Word} (h : bitsOf v.toNat 16 10 < bitsOf v.toNat 0 10) :
    wrCore Pg.gleaner s R.GLEAN_BOUNDS.off v = s.event Pg.gleaner E.P06C_BOUNDS_REFUSED := by
  have hcfg : R.GLEAN_BOUNDS.off ≠ R.GLEAN_CFG.off := by decide
  rw [wrCore_gleaner]
  simp only [wrGleaner, if_neg hcfg, if_pos h, if_true]

end Sys2Proof.Machine.State
end

section
/-! The settling of the statement on the switch core's own commands. -/

namespace Sys2Proof.Machine

/-- Settles O22: a write that passes the check compares its value with the other bound (`wrCore_reserveUrgent`,
`wrCore_cmMin`, `wrCore_gleanBounds`), a read of CAP_DATA takes the word of the presented record (`capRead_next`,
`capRead_last`), CAP_FLUSH carries no counter clear (`wrCore_capFlush`), and the end of a window or of the Gleaner's check
acts where one is open (`execGleanerVerify_pass`, `execGleanerVerify_fail`). -/
theorem switchCoreCommands : Obligations.SwitchCoreCommands := by
  unfold Obligations.SwitchCoreCommands
  intro s a v p e g
  refine ⟨fun hok => ⟨fun hfits => ?_, fun hover => ?_⟩,
    fun _ hok => ⟨fun hordered hidle => ?_, fun hover => ?_⟩,
    fun hholding => finish_of_eq (if_pos hholding),
    fun hok => ⟨fun hnone => ?_, fun q hq hnext => ?_, fun q hq hlast hrest => ?_⟩,
    fun hok => ?_,
    fun hbusy => ⟨s.execGleanerVerify_pass hbusy, s.execGleanerVerify_fail hbusy⟩,
    fun hidle hok => ⟨fun hordered => ?_, fun hover => ?_⟩⟩
  · exact finish_of_eq ((s.poke_core_ok v (by decide) hok).trans (s.wrCore_reserveUrgent hfits))
  · exact finish_of_eq ((s.poke_core_ok v (by decide) hok).trans (s.wrCore_reserveUrgent_refused hover))
  · exact finish_of_eq ((s.poke_core_ok v (by decide) hok).trans (s.wrCore_cmMin_ordered hordered hidle))
  · exact finish_of_eq ((s.poke_core_ok v (by decide) hok).trans (s.wrCore_cmMin_refused hover))
  · exact finish_of_eq (by rw [s.guardedRead_ok a _ _ _ hok, s.capRead_none hnone])
  · exact finish_of_eq (by rw [s.guardedRead_ok a _ _ _ hok, s.capRead_next hq hnext])
  · exact finish_of_eq (by rw [s.guardedRead_ok a _ _ _ hok, s.capRead_last hq hlast hrest])
  · exact finish_of_eq ((s.poke_core_ok _ (by decide) hok).trans s.wrCore_capFlush)
  · exact finish_of_eq ((s.poke_core_ok v (by decide) hok).trans (s.wrCore_gleanBounds hidle hordered))
  · exact finish_of_eq ((s.poke_core_ok v (by decide) hok).trans (s.wrCore_gleanBounds_refused hover))

end Sys2Proof.Machine
end

section
/-! SUPPORT. What settling keeps of the words and states that it may write: INT_STATUS from bit 2 on, every vector that is
not in PENDING, and a notification that is not in PENDING (R401, R405, R425). -/

namespace Sys2Proof.Machine.State

open Sys2Proof (Word)

/-- `t` has the bits of INT_STATUS beside those of the nINT balls, and what is not in PENDING, from `s`. -/
structure SettleKeeps (s t : State) : Prop where
  status : ∀ i, 2 ≤ i → i < 32 →
    bitOf (t.rd Pg.interrupts R.INT_STATUS.off).toNat i = bitOf (s.rd Pg.interrupts R.INT_STATUS.off).toNat i
  vec : ∀ j, (s.vec j).st ≠ 1 → t.vec j = s.vec j
  note : s.usb.note.st ≠ 1 → t.usb.note = s.usb.note

theorem SettleKeeps.refl (s : State) : SettleKeeps s s := ⟨fun _ _ _ => rfl, fun _ _ => rfl, fun _ => rfl⟩

theorem SettleKeeps.trans {s t u : State} (hst : SettleKeeps s t) (htu : SettleKeeps t u) : SettleKeeps s u where
  status i hlo hhi := (htu.status i hlo hhi).trans (hst.status i hlo hhi)
  vec j hj := by
    have hvec := hst.vec j hj
    exact (htu.vec j (by rwa [hvec])).trans hvec
  note hn := by
    have hnote := hst.note hn
    exact (htu.note (by rwa [hnote])).trans hnote

variable (s : State)

/-! ### The writes of settling -/

/-- A write of a register other than INT_STATUS. -/
theorem settleKeeps_wr {p o : Nat} (v : Word) (h : regKey Pg.interrupts R.INT_STATUS.off ≠ regKey p o) :
    SettleKeeps s (s.wr p o v) where
  status i _ _ := by rw [rd_wr_key, if_neg h]
  vec _ _ := rfl
  note _ := rfl

/-- A write of the bit of a nINT ball leaves the bits from 2 on. -/
theorem settleKeeps_putNint {b : Nat} (hb : b < 2) (low : Bool) :
    SettleKeeps s (s.putB Pg.interrupts ⟨R.INT_STATUS.off, b, 1⟩ low) where
  status i hlo hhi := by
    have hbeside : ¬(b ≤ i ∧ i < b + 1) := by omega
    rw [putB, s.rd_put_same Pg.interrupts ⟨R.INT_STATUS.off, b, 1⟩, BitVec.toNat_ofNat, bitOf, Nat.testBit_mod_two_pow,
      testBit_bitsPut, if_neg hbeside, decide_eq_true hhi, Bool.true_and, bitOf]
  vec _ _ := rfl
  note _ := rfl

theorem vec_setVec_ne {v j : Nat} (x : Vec) (h : j ≠ v) : (s.setVec v x).vec j = s.vec j := by
  simp [vec, setVec, Vector.getD, Array.getElem?_setIfInBounds_ne h.symm]

/-- A vector in PENDING may be replaced. -/
theorem settleKeeps_setVec {v : Nat} (x : Vec) (h : (s.vec v).st = 1) : SettleKeeps s (s.setVec v x) where
  status _ _ _ := rfl
  vec _ hj := s.vec_setVec_ne x fun e => hj (e ▸ h)
  note _ := rfl

/-! ### The parts of settling -/

theorem settleKeeps_vecDrop (v : Nat) : SettleKeeps s (s.vecDrop v) := by
  unfold vecDrop
  split
  case isTrue h =>
    have hpba : regKey Pg.interrupts R.INT_STATUS.off ≠ regKey Pg.interrupts (0xC00 + 4 * (v / 32)) := by
      have hoff : R.INT_STATUS.off = 0x064 := rfl
      unfold regKey
      omega
    exact (s.settleKeeps_setVec {} h.1).trans (settleKeeps_wr _ _ hpba)
  case isFalse => exact .refl s

theorem settleKeeps_noteDrop : SettleKeeps s s.noteDrop := by
  unfold noteDrop
  split
  case isTrue h => exact ⟨fun _ _ _ => rfl, fun _ _ => rfl, fun hn => absurd h.1 hn⟩
  case isFalse => exact .refl s

theorem settleKeeps_driveNint {b : Nat} (hb : b < 2) : SettleKeeps s (s.driveNint b) := by
  unfold driveNint
  dsimp only
  have hput := s.settleKeeps_putNint hb (s.nintLow b)
  split
  · have hlow : regKey Pg.interrupts R.INT_STATUS.off ≠ regKey Pg.intTime (0x040 + 8 * b) :=
      regKey_ne (by decide) (by omega) (.inl (by decide))
    have hhigh : regKey Pg.interrupts R.INT_STATUS.off ≠ regKey (Pg.liveHigh Pg.intTime) (0x044 + 8 * b) :=
      regKey_ne (by decide) (by omega) (.inl (by decide))
    exact hput.trans ((settleKeeps_wr _ _ hlow).trans (settleKeeps_wr _ _ hhigh))
  · exact hput

/-- What settling keeps, once for all. -/
theorem settleKeeps_settle : SettleKeeps s s.settle := by
  have hvecs : SettleKeeps s ((List.range 64).foldl vecDrop s) :=
    List.foldlRecOn (motive := SettleKeeps s) _ _ (.refl s) fun t ht v _ => ht.trans (t.settleKeeps_vecDrop v)
  exact ((hvecs.trans (settleKeeps_noteDrop _)).trans (settleKeeps_driveNint _ (by decide))).trans
    (settleKeeps_driveNint _ (by decide))

end Sys2Proof.Machine.State
end

section
/-! The settling of the statement on the end of a step. -/

namespace Sys2Proof.Machine

/-- Settles O3: where nothing waits the end of a step is settling (`end_quiet`), which writes the named words and no others
(`settleSame_settle`) and of these only the bits of the nINT balls and what is in PENDING (`settleKeeps_settle`). That all
of this ends with the command is the model's choice (log entries 7 and 61). -/
theorem stepEndFrame : Obligations.StepEndFrame := by
  unfold Obligations.StepEndFrame
  intro t hquiet
  rw [t.end_quiet hquiet]
  obtain ⟨hregs, r, v, n, heq⟩ := t.settleSame_settle
  have hkeeps := t.settleKeeps_settle
  refine ⟨r, v, n, heq, fun k hk => ?_, hkeeps.status, hkeeps.vec, fun hn => ?_⟩
  · rw [← hregs k hk, heq]
  · rw [← hkeeps.note hn, heq]

end Sys2Proof.Machine
end

section
/-! SUPPORT. The signal plane: what a directory write, an update by the host or another source, an express bundle and the
commands of the mirror do under the condition they test (R206 to R240). -/

namespace Sys2Proof.Machine

open Sys2Proof (Word Byte Agent AccessKind)

/-! ### The words of a directory entry (R206) -/

/-- The bits of words 1 to 3 of an entry that are not reserved (R206). -/
def dirMask (w : Fin 3) : Word := if w = 0 then 0x7FFFF7FF else if w = 1 then 0xFFFFFFFF else 0x7

/-- To take a bit's weight away where it is set is to clear the bit. -/
theorem sub_bit_eq_bitsPut (x i : Nat) : x - b2n (bitOf x i) * 2 ^ i = bitsPut x i 1 0 := by
  have hlow : x % 2 ^ (i + 1) = x % 2 ^ i + b2n (bitOf x i) * 2 ^ i := by
    rw [Nat.pow_succ, Nat.mod_mul, bitOf, Nat.testBit_eq_decide_div_mod_eq, b2n]
    rcases Nat.mod_two_eq_zero_or_one (x / 2 ^ i) with hbit | hbit <;> simp [hbit]
  have hparts := Nat.div_add_mod' x (2 ^ (i + 1))
  rw [bitsPut, Nat.zero_mod, Nat.zero_mul]
  omega

/-- Bits 11 and 31 of W1 are reserved. -/
theorem ofNat_sub_reserved (v : Word) :
    BitVec.ofNat 32 (v.toNat - b2n (bitOf v.toNat 11) * 2 ^ 11 - b2n (bitOf v.toNat 31) * 2 ^ 31) = v &&& 0x7FFFF7FF := by
  have hmask : ∀ j < 32, (0x7FFFF7FF : Word).getLsbD j = !(j == 11 || j == 31) := by decide
  have htop : bitOf v.toNat 31 = bitOf (bitsPut v.toNat 11 1 0) 31 := by
    rw [bitOf, bitOf, testBit_bitsPut, if_neg (by decide)]
  rw [sub_bit_eq_bitsPut, htop, sub_bit_eq_bitsPut]
  refine BitVec.eq_of_getLsbD_eq fun j hj => ?_
  rw [BitVec.getLsbD_ofNat, testBit_bitsPut, testBit_bitsPut, BitVec.getLsbD_and, hmask j hj]
  by_cases h11 : j = 11
  · simp [h11]
  · by_cases h31 : j = 31
    · simp [h31]
    · have hbeside11 : ¬(11 ≤ j ∧ j < 11 + 1) := by omega
      have hbeside31 : ¬(31 ≤ j ∧ j < 31 + 1) := by omega
      rw [if_neg hbeside31, if_neg hbeside11, BitVec.testBit_toNat, beq_false_of_ne h11, beq_false_of_ne h31,
        decide_eq_true hj, Bool.and_comm]
      rfl

/-- W3 has three bits. -/
theorem ofNat_mod_eight (v : Word) : BitVec.ofNat 32 (v.toNat % 8) = v &&& 0x7 := by
  apply BitVec.eq_of_toNat_eq
  rw [BitVec.toNat_ofNat, BitVec.toNat_and, Nat.mod_eq_of_lt (by omega)]
  exact (Nat.and_two_pow_sub_one_eq_mod v.toNat 3).symm

/-- What a write keeps of its word. -/
theorem ofNat_dirKept (w : Fin 3) (v : Word) :
    BitVec.ofNat 32 (if (w : Nat) + 1 = 1 then v.toNat - b2n (bitOf v.toNat 11) * 2 ^ 11 - b2n (bitOf v.toNat 31) * 2 ^ 31
      else if (w : Nat) + 1 = 3 then v.toNat % 8 else v.toNat) = v &&& dirMask w := by
  match w with
  | 0 => rw [if_pos (by decide), ofNat_sub_reserved, dirMask, if_pos rfl]
  | 1 =>
    have hall : (0xFFFFFFFF : Word) = BitVec.allOnes 32 := rfl
    rw [if_neg (by decide), if_neg (by decide), dirMask, if_neg (by decide), if_pos rfl, hall, BitVec.and_allOnes,
      BitVec.ofNat_toNat, BitVec.setWidth_eq]
  | 2 => rw [if_neg (by decide), if_pos (by decide), ofNat_mod_eight, dirMask, if_neg (by decide), if_neg (by decide)]

namespace State

variable (s : State)

/-! ### The directory (R206, R209) -/

/-- A write with an address of its own that passes the check has its effect, and nothing else. -/
theorem guardedAt_ok {a : Agent} {kind : AccessKind} {p off : Nat} (addr : Nat) (f : State → State)
    (h : s.writeCode a p off = .ok) : s.guardedAt a kind p off addr f = (f s, .ok) := by
  rw [guardedAt, h]

theorem dirWrite_w0_ok {i : Nat} {v : Word} (h : s.dirReason i v.toNat = 0) :
    s.dirWrite i 0 v = (s.stage Pg.dirTable (16 * i) v).wr Pg.directory R.DIR_STATUS.off 0 := by
  simp [dirWrite, h]

theorem dirWrite_w0_refused {i : Nat} {v : Word} (h : s.dirReason i v.toNat ≠ 0) :
    s.dirWrite i 0 v = s.dirRefuse i (s.dirReason i v.toNat) := by
  simp [dirWrite, h]

theorem dirWrite_w123_ok {i : Nat} (w : Fin 3) (v : Word) (h : dRole (s.dirS i 0) = 0) :
    s.dirWrite i (w + 1) v =
      (s.stage Pg.dirTable (16 * i + 4 * (w + 1)) (v &&& dirMask w)).wr Pg.directory R.DIR_STATUS.off 0 := by
  have hreason : (if (w : Nat) + 1 = 0 then s.dirReason i v.toNat else if dRole (s.dirS i 0) = 0 then 0 else 7) = 0 := by
    simp [h]
  rw [← ofNat_dirKept]
  exact if_pos hreason

theorem dirWrite_w123_refused {i : Nat} (w : Fin 3) (v : Word) (h : dRole (s.dirS i 0) ≠ 0) :
    s.dirWrite i (w + 1) v = s.dirRefuse i 7 := by
  simp [dirWrite, h]

/-! ### Publishing by the host (R217) -/

theorem hostPublish_taken {a : Agent} {kind : AccessKind} {off j : Nat} {data : List Byte} (hon : s.domainOn 4 = true)
    (howner : s.isOwner a = true) (hentry : s.hostEntry off data.length = some j) (hok : s.mirrorCode = .ok) :
    (s.hostPublish a kind off data).1 = (s.count Pg.publish R.CNT_HOST_WRITES).sourceUpdate j data true s.stamp := by
  simp [hostPublish, hon, howner, hentry, hok]

theorem hostPublish_refused {a : Agent} {kind : AccessKind} {off : Nat} {data : List Byte} (hon : s.domainOn 4 = true)
    (hentry : s.hostEntry off data.length = none) :
    (s.hostPublish a kind off data).1 =
      ((s.count Pg.publish R.CNT_HOST_REFUSED).event Pg.publish E.P071_HOST_WRITE_REFUSED).logAccess .unsupported kind a
        (s.ownAddr 1 off) (some Pg.sigMirror) := by
  simp [hostPublish, hon, hentry]

/-! ### Publishing by events (R212 to R214) -/

/-- What an update makes of a mirror entry (R212). -/
def updated (i : Nat) (value : List Byte) (valid : Bool) (ts : Nat) (m : Mir) : Mir :=
  { m with value := bytesAt value 0 (s.lenOf i), version := nextVersion m.version, ts := ts, srcValid := valid, got := true
           resync := false }

/-- An entry joins the pending list of its event class (R213). -/
def joinPending (g : Sig) (c i : Nat) : Sig :=
  if c = 1 then { g with pendX := if g.pendX.contains i then g.pendX else g.pendX ++ [i] }
  else if c = 2 then { g with pendB := if g.pendB.contains i then g.pendB else g.pendB ++ [i] }
  else g

/-- An update of an entry that is not pending supersedes nothing. -/
theorem sourceUpdate_notPending {i : Nat} (value : List Byte) (valid : Bool) (ts : Nat) (hpub : s.publishes i = true)
    (hon : s.domainOn 4 = true) (hpend : s.isPending i = false) :
    s.sourceUpdate i value valid ts =
      (s.mirChange i true (s.updated i value valid ts)).modSig fun g => joinPending g (s.eventClass i) i := by
  rw [sourceUpdate, if_pos ⟨hpub, hon⟩, hpend, when_false]
  rfl

/-- The entries that an express bundle takes (R214). -/
def expressFit (prio : Nat) : List Nat :=
  s.fitting 256 (s.sig.pendX.filter fun j => !s.sig.gap.contains j && s.eventClass j == 1 && s.dirW j 3 % 8 == prio)

/-- Entries leave the pending list for an express bundle: those with a gap wait for its end, and records and the frame are
counted (R213, R214). -/
def expressTaken (l : List Nat) : State :=
  ((s.modSig fun g =>
      { g with pendX := g.pendX.filter (fun j => !l.contains j)
               gap := g.gap ++ l.filter fun j => bitsOf (s.dirW j 2) 16 16 != 0 }).countN
    Pg.publish R.CNT_EVENT_RECORDS l.length).count Pg.publish R.CNT_EVENT_FRAMES_EXPRESS

/-- The frame of a bundle waits until it has left the core. -/
def bundleWaits (cls prio : Nat) (r : State × Bool) : State :=
  r.1.when r.2 fun u => u.modSig fun g => { g with waiting := g.waiting ++ [(cls, prio)] }

/-- On a ring of several hubs an express bundle with a record in it is sent, unless one of its priority waits. -/
theorem assemble_express {prio : Nat} (hnode : s.nodeValid = true) (hon : s.domainOn 4 = true) (hring : 2 ≤ s.ringSize)
    (hfit : s.expressFit prio ≠ []) (hwait : s.sig.waiting.contains (1, prio) = false) :
    s.assemble 1 prio =
      bundleWaits 1 prio ((s.expressTaken (s.expressFit prio)).sendOwn (s.bundle 1 prio (s.expressFit prio))) := by
  have hnone : ¬(s.sig.waiting.contains (1, prio) = true ∨ s.expressFit prio = [] ∨ (!s.nodeValid) = true ∨
      (!s.domainOn 4) = true) := by
    rw [hwait, hnode, hon]
    simp [hfit]
  have hseveral : ¬s.ringSize ≤ 1 := by omega
  exact (if_neg hnone).trans (if_neg hseveral)

/-! ### The mirror (R222, R224, R228, R238) -/

theorem chgPop_nil (h : s.sig.chg = []) : s.chgPop = (s, 0) := by
  rw [chgPop, h]

theorem chgPop_cons {i : Nat} {l : List Nat} (h : s.sig.chg = i :: l) :
    s.chgPop = (s.modSig fun g => { g with chg := l }, BitVec.ofNat 32 (2 ^ 31 + i)) := by
  rw [chgPop, h]

/-- A write of SIGMIR_CMD that passes the check carries out its command bits. -/
theorem poke_sigmirCmd {a : Agent} (v : Word) (h : s.writeCode a Pg.sigMirror R.SIGMIR_CMD.off = .ok) :
    s.poke a Pg.sigMirror R.SIGMIR_CMD.off v (wrSignal Pg.sigMirror) = s.mirrorCmd v.toNat := by
  rw [s.poke_ok' a Pg.sigMirror R.SIGMIR_CMD.off v _ (by decide) (by decide) h, wrSignal, if_neg (by decide),
    if_pos ⟨rfl, rfl⟩]

theorem mirrorRead_ok {a : Agent} {off len : Nat} (h : s.mirrorCode = .ok) :
    s.mirrorRead a off len = (s, (List.range len).map fun n => s.mirrorByte (off + n), .ok) := by
  rw [mirrorRead, h]

end State

end Sys2Proof.Machine
end

section
/-! The settling of the statements on the signal plane. -/

namespace Sys2Proof.Machine

/-- Settles O28: a directory write that passes the check stages its word or is refused by its reason (`dirWrite_w0_ok` and
the lemmas beside it), and a request of the host is an update or is refused (`hostPublish_taken`, `hostPublish_refused`). -/
theorem directoryAndHostPublish : Obligations.DirectoryAndHostPublish := by
  unfold Obligations.DirectoryAndHostPublish
  intro s a i w v off data p refused
  refine ⟨fun hok => ⟨fun hfree => ?_, fun hreason => ?_, fun hused => ?_, fun hunused => ?_⟩,
    fun j hon howner hentry hmirror => finishAll_of_eq (s.hostPublish_taken hon howner hentry hmirror),
    fun hon hentry => finishAll_of_eq (s.hostPublish_refused hon hentry)⟩
  · exact finishAll_of_eq (by rw [s.guardedAt_ok _ _ hok, s.dirWrite_w0_ok hfree])
  · exact finishAll_of_eq (by rw [s.guardedAt_ok _ _ hok, s.dirWrite_w0_refused hreason]; rfl)
  · exact finishAll_of_eq (by rw [s.guardedAt_ok _ _ hok, s.dirWrite_w123_refused w v hused]; rfl)
  · exact finishAll_of_eq (by rw [s.guardedAt_ok _ _ hok, s.dirWrite_w123_ok w v hunused]; rfl)

/-- Settles O29: an update of an entry that is not pending changes the mirror and joins the list of its class
(`sourceUpdate_notPending`), and an express bundle is sent where nothing stands against it (`assemble_express`). That a
valid node number is needed for it is the model's choice (log entry 39). -/
theorem eventPublishing : Obligations.EventPublishing := by
  unfold Obligations.EventPublishing
  intro s i value valid ts prio
  refine ⟨fun hpub hon hpend => ?_, rfl, fun hnode hon hring hfit hwait =>
    finishAll_of_eq (s.assemble_express hnode hon hring hfit hwait)⟩
  have hupdate := s.sourceUpdate_notPending value valid ts.toNat hpub hon hpend
  exact ⟨fun hclass => finishAll_of_eq (by rw [hupdate, hclass]; rfl),
    fun hclass => finishAll_of_eq (by rw [hupdate, hclass]; rfl),
    fun hclass => finishAll_of_eq (by rw [hupdate, hclass]; rfl)⟩

/-- Settles O31: a pop takes the oldest index (`chgPop_nil`, `chgPop_cons`), a command of SIGMIR_CMD is a bit of its word
(`poke_sigmirCmd`), and a read that meets no cause of refusal answers the bytes (`mirrorRead_ok`). -/
theorem mirrorAccess : Obligations.MirrorAccess := by
  unfold Obligations.MirrorAccess
  intro s a off len p
  refine ⟨fun hok => ⟨fun hnil => ?_, fun i l hcons => ?_⟩, fun hok => ⟨?_, ?_⟩, fun hok => ?_⟩
  · exact finishAll_of_eq (by rw [s.guardedRead_ok a _ _ _ hok, s.chgPop_nil hnil])
  · exact finishAll_of_eq (by rw [s.guardedRead_ok a _ _ _ hok, s.chgPop_cons hcons])
  · exact finishAll_of_eq (s.poke_sigmirCmd 1 hok)
  · exact finishAll_of_eq (s.poke_sigmirCmd 2 hok)
  · exact finishAll_of_eq (by rw [s.mirrorRead_ok hok]; rfl)

end Sys2Proof.Machine
end

section
/-! SUPPORT. The logs and the command record of the bridge (R253, R263, R266), and what the hub does as the target of a
request of another hub (R243, R245). -/

namespace Sys2Proof.Machine.State

open Sys2Proof (Word Byte Agent Code)

variable (s : State)

/-! ### Logs and records -/

theorem felPop_nil (h : s.bridge.far = []) : s.felPop = (s, 0) := by rw [felPop, h]

theorem felPop_cons {x : FarError} {l : List FarError} (h : s.bridge.far = x :: l) :
    s.felPop =
      ((((s.modBridge fun b => { b with far := l }).wr Pg.logs R.FEL_ADDR_LO.off (BitVec.ofNat 32 x.addr)).wr Pg.logs
        R.FEL_ADDR_HI.off (BitVec.ofNat 32 (x.addr / 2 ^ 32 % 2 ^ 16))).wr Pg.logs R.FEL_TIME.off (BitVec.ofNat 32 x.time),
        BitVec.ofNat 32 (2 ^ 31 + x.outcome % 16 * 2 ^ 24 + b2n x.isLocal * 2 ^ 20 + x.agent % 2 ^ 16)) := by
  rw [felPop, h]

theorem orlPop_nil (h : s.bridge.orphans = []) : s.orlPop = (s, 0) := by rw [orlPop, h]

/-- A popped orphaned read leaves its log, and its address and time stand in their registers. -/
def orphanTaken (x : Orphan) (l : List Orphan) : State :=
  (((s.modBridge fun b => { b with orphans := l }).wr Pg.logs R.ORL_ADDR_LO.off (BitVec.ofNat 32 x.addr)).wr Pg.logs
    R.ORL_ADDR_HI.off (BitVec.ofNat 32 (x.addr / 2 ^ 32 % 2 ^ 16))).wr Pg.logs R.ORL_TIME.off (BitVec.ofNat 32 x.time)

theorem orlPop_cons {x : Orphan} {l : List Orphan} (h : s.bridge.orphans = x :: l) :
    s.orlPop =
      ((List.range 60).foldl (fun u i => u.wr Pg.logs (R.ORL_DATA i).off
        (BitVec.ofNat 32 (leNat (bytesAt x.data (4 * i) 4)))) (s.orphanTaken x l),
        BitVec.ofNat 32 (2 ^ 31 + x.data.length % 256 * 2 ^ 16 + x.agent % 2 ^ 16)) := by
  rw [orlPop, h]
  rfl

/-- CLEAR_ALL empties the command record (R263). -/
theorem poke_crCmd {a : Agent} (h : s.writeCode a Pg.record R.CR_CMD.off = .ok) :
    s.poke a Pg.record R.CR_CMD.off 1 (wrBridge a Pg.record) = s.modBridge fun b => { b with cmds := [] } := by
  rw [s.poke_ok' a Pg.record R.CR_CMD.off 1 _ (by decide) (by decide) h, wrBridge, if_neg (by decide), if_neg (by decide),
    if_pos ⟨rfl, rfl⟩]
  exact s.when_of_true _ (by decide)

theorem farError_room (outcome : Nat) (isLocal : Bool) (agent addr : Nat) (h : s.bridge.far.length < 64) :
    s.farError outcome isLocal agent addr =
      (s.modBridge fun b => { b with far := b.far ++
        [{ outcome := outcome, isLocal := isLocal, agent := agent, addr := addr, time := s.uptime }] }).event Pg.logs
          E.P07B_FAR_ERROR := if_pos h

theorem farError_full (outcome : Nat) (isLocal : Bool) (agent addr : Nat) (h : 64 ≤ s.bridge.far.length) :
    s.farError outcome isLocal agent addr = s.logLost R.FEL_LOST := if_neg (Nat.not_lt.mpr h)

/-! ### Requests of other hubs -/

/-- Requests of other hubs are counted as they arrive (R265). -/
def requestCounted : State := s.count Pg.bridge R.CNT_REQ_REQUESTS_16

/-- A request that R245 lets the target accept, and no broadcast, is served. -/
theorem remote_served {x : Access} (hcore : s.domainOn 4 = true) (hen : s.on Pg.bridge R.BRIDGE_CFG_TARGET_EN = true)
    (hagent : agentFits x.src x.agent = true) (h1 : 1 ≤ x.words) (h60 : x.words ≤ 60) (hcast : x.mcast = false) :
    s.remote x = s.requestCounted.serve x := by
  have hwords : ¬(x.words = 0 ∨ 60 < x.words) := by omega
  simp [remote, hcore, hen, hagent, hwords, hcast, requestCounted]

/-- With TARGET_EN at 0 a request is logged and answered as ISLAND_REFUSED, whatever it asks for. -/
theorem remote_targetOff (x : Access) (hcore : s.domainOn 4 = true)
    (hen : s.on Pg.bridge R.BRIDGE_CFG_TARGET_EN = false) :
    s.remote x =
      (s.requestCounted.logAccess .islandRefused x.kind (agentOf x.agent) x.first (accessPage x.base)).answer x
        { outcome := 6, at_ := x.base } := by
  simp [remote, hcore, hen, refuseAll, requestCounted, Code.num]

/-- A read or a non-posted write of another hub is answered by a completion. -/
theorem answer_completion {x : Access} (d : Done) (hown : x.own = none) (hposted : x.posted = false) :
    s.answer x d =
      s.completeTo { src := x.src, prio := x.prio, tag := x.tag } (addrRegion d.at_) (addrOff d.at_) d.outcome 0 d.data := by
  simp [answer, hown, hposted]

/-- A posted write of another hub that fails is answered by a far error, unless it was a broadcast (R253). -/
theorem answer_farError {x : Access} {d : Done} (hown : x.own = none) (hposted : x.posted = true)
    (hcast : x.mcast = false) (hfail : d.outcome ≠ 0) :
    s.answer x d = s.farErrorTo x.src (addrRegion d.at_) (addrOff d.at_) x.agent d.outcome := by
  simp [answer, hown, hposted, hcast, hfail]

end Sys2Proof.Machine.State
end

section
/-! The settling of the statements on the bridge. -/

namespace Sys2Proof.Machine

/-- Settles O33: a pop takes the oldest entry (`felPop_cons`, `orlPop_cons`), CLEAR_ALL is a write of CR_CMD (`poke_crCmd`),
and a far error enters the log by its room (`farError_room`, `farError_full`). -/
theorem bridgeLogs : Obligations.BridgeLogs := by
  unfold Obligations.BridgeLogs
  intro s a src aux b p
  refine ⟨fun hok => ⟨fun hnil => ?_, fun x l hcons => ?_⟩, fun hok => ⟨fun hnil => ?_, fun x l hcons => ?_⟩,
    fun hok => finishAll_of_eq (s.poke_crCmd hok), fun hcore => ⟨fun hroom => ?_, fun hfull => ?_⟩⟩
  · exact finishAll_of_eq (by rw [s.guardedRead_ok a _ _ _ hok, s.felPop_nil hnil])
  · exact finishAll_of_eq (by rw [s.guardedRead_ok a _ _ _ hok, s.felPop_cons hcons])
  · exact finishAll_of_eq (by rw [s.guardedRead_ok a _ _ _ hok, s.orlPop_nil hnil])
  · exact finishAll_of_eq (by rw [s.guardedRead_ok a _ _ _ hok, s.orlPop_cons hcons]; rfl)
  · exact finishAll_of_eq (by rw [if_pos hcore, State.farErrorIn, s.farError_room _ _ _ _ hroom])
  · exact finishAll_of_eq (by rw [if_pos hcore, State.farErrorIn, s.farError_full _ _ _ _ hfull]; rfl)

/-- Settles O34: a request is served (`remote_served`), or refused by TARGET_EN (`remote_targetOff`) and then answered by its
kind (`answer_completion`, `answer_farError`). -/
theorem remoteRequests : Obligations.RemoteRequests := by
  unfold Obligations.RemoteRequests
  intro s src prio tag aux b t rd wp wn fits logged asker hcore
  have served : ∀ x, s.on Pg.bridge R.BRIDGE_CFG_TARGET_EN = true → fits x → x.mcast = false →
      (s.remote x).flushWork = (t.serve x).flushWork := fun x hen ⟨hagent, h1, h60⟩ hcast => by
    rw [s.remote_served hcore hen hagent h1 h60 hcast]; rfl
  have refused : ∀ x, s.on Pg.bridge R.BRIDGE_CFG_TARGET_EN = false →
      s.remote x = (logged x).answer x { outcome := 6, at_ := x.base } := fun x hen => s.remote_targetOff x hcore hen
  refine ⟨fun hen => ⟨fun hfit => finishAll_of_eq (served rd hen hfit rfl),
      fun hfit => finishAll_of_eq (served wp hen hfit rfl), fun hfit => finishAll_of_eq (served wn hen hfit rfl)⟩,
    fun hen => ⟨?_, ?_, ?_⟩⟩
  · exact finishAll_of_eq (congrArg State.flushWork ((refused rd hen).trans ((logged rd).answer_completion _ rfl rfl)))
  · exact finishAll_of_eq (congrArg State.flushWork ((refused wn hen).trans ((logged wn).answer_completion _ rfl rfl)))
  · exact finishAll_of_eq (congrArg State.flushWork ((refused wp hen).trans
      ((logged wp).answer_farError rfl rfl rfl (show 6 ≠ 0 by decide))))

end Sys2Proof.Machine
end

section
/-! SUPPORT. The data of an engine beside its page: what a change of it gives, and what a count in the engine's page leaves
alone. -/

namespace Sys2Proof.Machine

/-! ### Sparse tables -/

section Tables

variable {α : Type} {d : α} {k : Nat}

theorem tabGet_tabInsert_same (v : α) (l : List (Nat × α)) : tabGet d k (tabInsert k v l) = v := by
  induction l with
  | nil => simp [tabInsert, tabGet]
  | cons x t ih =>
    obtain ⟨j, w⟩ := x
    by_cases h : j < k
    · simp [tabInsert, h, tabGet, h.ne, ih]
    · simp [tabInsert, h, tabGet]

theorem tabGet_removed (l : List (Nat × α)) : tabGet d k (l.filter fun e => e.1 != k) = d := by
  induction l with
  | nil => rfl
  | cons x t ih =>
    obtain ⟨j, w⟩ := x
    by_cases h : j = k
    · simpa [h] using ih
    · simpa [h, tabGet] using ih

theorem filter_tabInsert (v : α) (l : List (Nat × α)) :
    ((tabInsert k v l).filter fun e => e.1 != k) = l.filter fun e => e.1 != k := by
  induction l with
  | nil => simp [tabInsert]
  | cons x t ih =>
    obtain ⟨j, w⟩ := x
    by_cases h : j < k
    · simp [tabInsert, h, h.ne, ih]
    · simp [tabInsert, h]

variable [DecidableEq α]

/-- The entry of a key reads as what was written to it. -/
theorem tabGet_tabSet_same (v : α) (l : List (Nat × α)) : tabGet d k (tabSet d k v l) = v := by
  unfold tabSet
  dsimp only
  split
  case isTrue h => rw [tabGet_removed, h]
  case isFalse => exact tabGet_tabInsert_same v _

/-- The last write of an entry stands. -/
theorem tabSet_tabSet_same (v w : α) (l : List (Nat × α)) : tabSet d k w (tabSet d k v l) = tabSet d k w l := by
  have hremoved : ((tabSet d k v l).filter fun e => e.1 != k) = l.filter fun e => e.1 != k := by
    unfold tabSet
    dsimp only
    split
    · simp
    · simp [filter_tabInsert]
  simp only [tabSet] at hremoved ⊢
  rw [hremoved]

end Tables

namespace State

open Sys2Proof (Word Agent EngineId)

variable (s : State) (e : Nat)

/-! ### Engines -/

@[simp] theorem eng_modEng_same (f : Eng → Eng) : (s.modEng e f).eng e = f (s.eng e) := tabGet_tabSet_same _ _

/-- Two changes of an engine's data are one. -/
theorem modEng_modEng (f g : Eng → Eng) : (s.modEng e f).modEng e g = s.modEng e fun x => g (f x) := by
  rw [modEng, eng_modEng_same, modEng, modEng]
  simp only [tabSet_tabSet_same]

theorem modEng_congr {f g : Eng → Eng} (h : f (s.eng e) = g (s.eng e)) : s.modEng e f = s.modEng e g := by
  rw [modEng, h, modEng]

/-- Counting in a page of an engine changes nothing but the register store. -/
theorem engCountN_eq (p : Nat) (f : Fld) (n : Nat) : ∃ r, s.engCountN e p f n = { s with regs := r } := by
  unfold engCountN
  dsimp only
  rcases when_cases _ _ _ with h | h <;> rw [h] <;> exact ⟨_, rfl⟩

theorem eng_engCountN (j p : Nat) (f : Fld) (n : Nat) : (s.engCountN e p f n).eng j = s.eng j := by
  obtain ⟨r, h⟩ := s.engCountN_eq e p f n
  rw [h]
  rfl

/-- Of the registers of its page an engine's count writes the counter's and the events'. -/
theorem get_engCount_ne {f g : Fld} (hf : f.off < 0x1000000) (hg : g.off < 0x1000000) (h : g.off ≠ f.off)
    (hev : g.off ≠ 0x010) : (s.engCount e f).get (Pg.engine e) g = s.get (Pg.engine e) g := by
  have hput : ∀ v, (s.put (Pg.engine e) f v).rd (Pg.engine e) g.off = s.rd (Pg.engine e) g.off :=
    fun v => s.rd_put_ne _ _ _ f v hf hg (.inr h)
  unfold engCount engCountN
  dsimp only
  rcases when_cases _ _ _ with hw | hw <;> rw [hw, get]
  · rw [event, rd_put_ne _ _ _ _ _ _ (by decide : 0x010 < _) hg (.inr hev), hput, get]
  · rw [hput, get]

theorem on_engCount_ne {f g : Fld} (hf : f.off < 0x1000000) (hg : g.off < 0x1000000) (h : g.off ≠ f.off)
    (hev : g.off ≠ 0x010) : (s.engCount e f).on (Pg.engine e) g = s.on (Pg.engine e) g := by
  rw [on, s.get_engCount_ne e hf hg h hev, on]

/-! ### Commands to the pages of banks and engines -/

/-- A command to a page of a bank or of an engine that passes the check has its effect. -/
theorem poke_ports_ok {a : Agent} {p off : Nat} (v : Word) (eff : State → Nat → Word → State) (hfirst : 0x080 ≤ p)
    (h : s.writeCode a p off = .ok) : s.poke a p off v eff = eff s off v := by
  have hsched : p ≠ Pg.sched := fun e => absurd (e ▸ hfirst) (by decide)
  have hepoch : p ≠ Pg.epoch := fun e => absurd (e ▸ hfirst) (by decide)
  have hidentity : p ≠ Pg.identity := fun e => absurd (e ▸ hfirst) (by decide)
  refine s.poke_ok' a p off v _ hidentity ?_ h
  simp [stagingBit, hsched, hepoch]

theorem blockRegs_engine (e : EngineId) : blockRegs (Pg.engine e) = regsEng := by
  revert e
  decide

/-- A command of one bit of ENG_CMD writes its bit alone: the register holds nothing. -/
theorem withField_engCmd (e : EngineId) {f : Fld} (x : Nat) (hoff : f.off = R.ENG_CMD.off) :
    s.withField (Pg.engine e) f x = BitVec.ofNat 32 (bitsPut 0 f.lo f.w x) := by
  have hrow : s.descOf (Pg.engine e) f.off = some { off := 0x058, wo := 0x1F } := by
    have hmode : ¬(isEngine (Pg.engine e) = true ∧ isModeOff f.off = true) := fun h => by
      rw [hoff] at h
      exact absurd h.2 (by decide)
    rw [descOf, if_neg hmode, hoff, if_neg (by decide), blockRegs_engine]
    decide
  rw [withField, hrow]
  exact congrArg (fun n => BitVec.ofNat 32 (bitsPut n f.lo f.w x)) (Nat.and_zero _)

end State

end Sys2Proof.Machine
end

section
/-! SUPPORT. Banks and their cells (R269, R272 to R274), the work of a controller engine (R280, R281, R302, R303), and what an
engine receives and stages (R264, R282 to R284). -/

namespace Sys2Proof.Machine.State

open Sys2Proof (Word Byte Agent EngineId)

variable (s : State)

/-! ### Banks and cells -/

/-- VDDIO follows the selected voltage: VIO_OK is set. -/
theorem vioCheck_ok (b : Nat) {meas : Nat} (hmeas : meas < 4) (hon : meas ≠ 0)
    (hsel : s.get (Pg.bank b) R.BANK_CFG_VIO_SEL = meas) :
    (s.put (Pg.bank b) R.BANK_STATUS_VIO_MEAS meas).vioCheck b =
      (s.put (Pg.bank b) R.BANK_STATUS_VIO_MEAS meas).setF (Pg.bank b) R.BANK_STATUS_VIO_OK := by
  have hread : (s.put (Pg.bank b) R.BANK_STATUS_VIO_MEAS meas).get (Pg.bank b) R.BANK_STATUS_VIO_MEAS = meas :=
    (s.get_put_same _ _ meas (by decide)).trans (Nat.mod_eq_of_lt hmeas)
  have hkeep : (s.put (Pg.bank b) R.BANK_STATUS_VIO_MEAS meas).get (Pg.bank b) R.BANK_CFG_VIO_SEL = meas :=
    (s.get_put_apart _ meas (by decide)).trans hsel
  simp [vioCheck, hread, hkeep, hon, setF, putB, b2n]

/-- It does not, and did not before: VIO_OK is clear and the mismatch is reported, and no engine loses its supply anew. -/
theorem vioCheck_stillBad (b : Nat) {meas : Nat} (hmeas : meas < 4)
    (hsel : s.get (Pg.bank b) R.BANK_CFG_VIO_SEL ≠ meas) (hwas : s.on (Pg.bank b) R.BANK_STATUS_VIO_OK = false) :
    (s.put (Pg.bank b) R.BANK_STATUS_VIO_MEAS meas).vioCheck b =
      ((s.put (Pg.bank b) R.BANK_STATUS_VIO_MEAS meas).clrF (Pg.bank b) R.BANK_STATUS_VIO_OK).event (Pg.bank b)
        E.BANK_VIO_MISMATCH := by
  have hread : (s.put (Pg.bank b) R.BANK_STATUS_VIO_MEAS meas).get (Pg.bank b) R.BANK_STATUS_VIO_MEAS = meas :=
    (s.get_put_same _ _ meas (by decide)).trans (Nat.mod_eq_of_lt hmeas)
  have hkeep : (s.put (Pg.bank b) R.BANK_STATUS_VIO_MEAS meas).get (Pg.bank b) R.BANK_CFG_VIO_SEL ≠ meas := by
    rwa [s.get_put_apart _ meas (by decide)]
  have hbefore : (s.put (Pg.bank b) R.BANK_STATUS_VIO_MEAS meas).on (Pg.bank b) R.BANK_STATUS_VIO_OK = false :=
    (s.on_put_apart _ meas (by decide)).trans hwas
  simp [vioCheck, hread, hkeep, hbefore, clrF, putB, b2n]

/-- A write of CELL_CFG in the page of the cell's bank is a write of the cell. -/
theorem wrBank_cell (c : Nat) (v : Word) : wrBank (c / 40) s (0x800 + 4 * (c % 40)) v = s.cellWrite c v := by
  have hcell : 40 * (c / 40) + (0x800 + 4 * (c % 40) - 0x800) / 4 = c := by omega
  rw [wrBank, if_pos (by omega), hcell]

/-- An OWNER that R273 does not allow refuses the write whole. -/
theorem cellWrite_refused {c : Nat} {v : Word} (h : ownerAllowed c v.toNat = false) :
    s.cellWrite c v =
      (s.wr (Pg.bank (c / 40)) R.CELL_REFUSE.off (BitVec.ofNat 32 (2 ^ 31 + c % 40))).event (Pg.bank (c / 40))
        E.BANK_CELL_REFUSED := by
  simp [cellWrite, h]

/-- An allowed write that touches no enabled engine, neither before nor after, is applied. -/
theorem cellWrite_applied {c : Nat} {v : Word} (h : ownerAllowed c v.toNat = true)
    (hfree : ∀ x ∈ [s.cellWord c, v.toNat], ∀ y ∈ cellUse c x, s.engOn y.1 = false) :
    s.cellWrite c v = s.storeWrite (Pg.bank (c / 40)) (0x800 + 4 * (c % 40)) v := by
  have hidle : ∀ x ∈ [s.cellWord c, v.toNat], ∀ e f, cellUse c x = some (e, f) → s.engOn e = false :=
    fun x hx e f huse => hfree x hx (e, f) huse
  refine if_neg fun hrefused => ?_
  simp only [h, Bool.not_true, Bool.false_or, Bool.and_eq_true, Bool.or_eq_true] at hrefused
  rcases hrefused.2 with hbusy | hbusy <;>
  · split at hbusy
    next e f huse => exact absurd hbusy (by simp [hidle _ (by simp) e f huse])
    next => cases hbusy

/-! ### The work of a controller engine -/

/-- The poll slots that fall due at the next tick of an engine (R281). -/
def dueNext (e : Nat) : List Nat :=
  (List.range 32).filter fun n =>
    (s.pubEntry e n).isSome && s.slotW e n 2 % 256 != 0 && ((s.eng e).ticks + 1) % (s.slotW e n 2 % 256) == 0

/-- A poll tick at which no slot is late adds the slots that fall due. -/
theorem pollTick_inTime {e : Nat} (hup : s.engUp e = true) (hpoll : s.pollUs e ≠ 0)
    (htime : ∀ n ∈ s.dueNext e, n ∉ (s.eng e).due) :
    s.pollTick e = s.modEng e fun g => { g with ticks := g.ticks + 1, due := g.due ++ s.dueNext e } := by
  have hlate : ((s.dueNext e).filter fun n => (s.eng e).due.contains n) = [] := by
    simpa [List.filter_eq_nil_iff] using htime
  have hnew : ((s.dueNext e).filter fun n => !(s.eng e).due.contains n) = s.dueNext e := by
    simpa [List.filter_eq_self] using htime
  unfold pollTick
  rw [if_neg (by simp [hup, hpoll])]
  dsimp only
  rw [← dueNext, hlate]
  exact (when_false _ _).trans (s.modEng_congr e (by rw [hnew]))

/-- A controller engine that is up and has no work stands at a boundary (R280). -/
structure AtBoundary (e : Nat) : Prop where
  up : s.engUp e = true
  mode : s.engMode e = 1 ∨ s.engMode e = 2 ∨ s.engMode e = 4
  free : (s.eng e).work = none

section Boundary

variable {s} {e : Nat}

theorem AtBoundary.begins (h : s.AtBoundary e) :
    ¬((!s.engUp e) = true ∨ (s.eng e).work.isSome = true ∨ (!([1, 2, 4].contains (s.engMode e))) = true) := by
  simp [h.up, h.free, h.mode]

/-- A break that is asked for comes first. -/
theorem AtBoundary.boundary_break (h : s.AtBoundary e) (hbreak : (s.eng e).breakAsked = true) :
    s.boundary e = s.modEng e fun g => { g with work := some .sendBreak, breakAsked := false } := by
  simp only [boundary, if_neg h.begins, hbreak, if_true, modEng_modEng]

/-- The first due poll slot whose entry stands is next. -/
theorem AtBoundary.boundary_poll {n : Nat} (h : s.AtBoundary e) (hbreak : (s.eng e).breakAsked = false)
    (halert : (s.eng e).alertAsked = false)
    (hdue : ((List.range 32).find? fun n => (s.eng e).due.contains n && (s.pubEntry e n).isSome) = some n) :
    s.boundary e = s.modEng e fun g => { g with work := some (.poll n), due := g.due.filter (· != n) } := by
  simp only [boundary, if_neg h.begins, hbreak, halert, hdue, Bool.false_eq_true, if_false, modEng_modEng]

/-- With no slot due and no value to send, the downstream queue is served. -/
theorem AtBoundary.boundary_device (h : s.AtBoundary e) (hbreak : (s.eng e).breakAsked = false)
    (halert : (s.eng e).alertAsked = false) (hdue : (s.eng e).due = []) (hvalue : ∀ n < 32, s.subValue e n = none)
    (hdown : (s.eng e).down ≠ []) :
    s.boundary e = s.modEng e fun g => { g with work := some .device } := by
  have hpoll : ((List.range 32).find? fun n => (s.eng e).due.contains n && (s.pubEntry e n).isSome) = none := by
    simp [hdue]
  have hsub : ((List.range 32).find? fun n => (s.subValue e n).isSome) = none := by
    simpa using hvalue
  simp only [boundary, if_neg h.begins, hbreak, halert, hpoll, hsub, List.isEmpty_iff, hdown, Bool.false_eq_true, if_false]

end Boundary

/-- A unit of a downstream write in SPI mode goes out whole, and the units after it stay at the head of the queue (R303). -/
theorem devTransaction_spiWrite {e losses : Nat} {r : Sys2Proof.BusResult} {data : List Byte} {x : DevReq} {l : List DevReq}
    {u : Nat × List Byte} {m : List (Nat × List Byte)} (hwork : (s.eng e).work = some .device)
    (hdown : (s.eng e).down = x :: l) (htodo : x.todo = u :: m) (hmore : m ≠ []) (hwrite : x.write = true)
    (hmode : s.engMode e = 2) (hbig : s.on (Pg.engine e) (R.DEV_PROF_A_BIG_ENDIAN (devProf u.1)) = false) :
    s.devTransaction e losses r data =
      (s.spiOut e (bitsOf u.1 24 2) (BitVec.ofNat 8 (s.get (Pg.engine e) (R.DEV_PROF_B_WRITE_CMD (devProf u.1))) ::
        beBytes (s.get (Pg.engine e) (R.DEV_PROF_A_REG_BYTES (devProf u.1)))
          (u.1 % 65536 / 2 ^ s.get (Pg.engine e) (R.DEV_PROF_A_ADDR_SHIFT (devProf u.1))) ++ u.2)).modEng e fun g =>
        { g with down := { x with todo := m } :: l } := by
  have hspi : ∀ cs d, ((s.spiOut e cs d).eng e).down = x :: l := fun cs d => by
    simp [spiOut, workDone, engCount, modeCount, eng_engCountN, ← hdown]
    rfl
  simp [devTransaction, hwork, hdown, htodo, hmode, hbig, hwrite, devUnitDone, hspi, hmore]

/-! ### The receive buffer and the staging area -/

theorem rxLevel_engCount (e : Nat) (f : Fld) : (s.engCount e f).rxLevel e = s.rxLevel e := by
  rw [rxLevel, engCount, eng_engCountN, rxLevel]

/-- The record of a message that no binding claims (R282). -/
def unclaimedRecord (e flags rkind at_ : Nat) (data : List Byte) : List Byte :=
  rawBytes (flags % 128 + b2n (s.engTsBad e) * 128) rkind (s.engStamp e at_) (data.take 240)

/-- A record that is not forwarded is for the receive buffer. -/
theorem rawRecord_kept {e : Nat} (flags rkind at_ : Nat) (data : List Byte)
    (hen : s.on (Pg.engine e) R.ENG_CFG_RAW_RX_EN = true) (hfwd : s.on (Pg.engine e) R.ENG_CFG_RAW_FWD = false) :
    s.rawRecord e flags rkind at_ data = s.rxPut e (s.unclaimedRecord e flags rkind at_ data) := by
  simp [rawRecord, hen, hfwd, unclaimedRecord]

/-- A record that fits behind another is kept without a report. -/
theorem rxPut_behind {e : Nat} {r : List Byte} (hfit : s.rxLevel e + r.length ≤ 2048) (hrx : (s.eng e).rx ≠ []) :
    s.rxPut e r = s.modEng e fun g => { g with rx := g.rx ++ [r] } := by
  rw [rxPut, if_pos hfit, List.isEmpty_eq_false_iff.mpr hrx, when_false]

/-- A record that does not fit is discarded whole, counted and reported. -/
theorem rxPut_full {e : Nat} {r : List Byte} (h : 2048 < s.rxLevel e + r.length) :
    s.rxPut e r = (s.engCount e R.ENG_CNT_DROP_RX_DROP).event (Pg.engine e) E.ENG_RX_DROP := if_neg (Nat.not_le.mpr h)

theorem rxRead_empty {e : Nat} (h : (s.eng e).rx = []) : s.rxRead e = (s, 0) := by rw [rxRead, h]

/-- The next word of the presented record, `n` words of it having been read. -/
def rxWord (r : List Byte) (n : Nat) : Word := BitVec.ofNat 32 (leNat (bytesAt r (4 * n) 4))

theorem rxRead_word {e : Nat} {r : List Byte} {l : List (List Byte)} (h : (s.eng e).rx = r :: l)
    (hmore : 4 * ((s.eng e).rxRead + 1) < r.length) :
    s.rxRead e =
      (s.modEng e fun g => { g with rxRead := (s.eng e).rxRead + 1 }, rxWord r (s.eng e).rxRead) := by
  have hlast : ¬(r.length + 3) / 4 ≤ (s.eng e).rxRead + 1 := by omega
  simp only [rxRead, h, hlast, if_false, rxWord]

/-- The last word of the only record empties the buffer. -/
theorem rxRead_last {e : Nat} {r : List Byte} (h : (s.eng e).rx = [r])
    (hlast : r.length ≤ 4 * ((s.eng e).rxRead + 1)) :
    s.rxRead e = (s.modEng e fun g => { g with rx := [], rxRead := 0 }, rxWord r (s.eng e).rxRead) := by
  have hend : (r.length + 3) / 4 ≤ (s.eng e).rxRead + 1 := by omega
  simp only [rxRead, h, hend, if_true, rxWord]
  rfl

/-- A command bit of ENG_CMD is carried out alone. -/
theorem engPoke_engCmd {a : Agent} {e : EngineId} {f : Fld} (hoff : f.off = R.ENG_CMD.off)
    (h : s.writeCode a (Pg.engine e) R.ENG_CMD.off = .ok) :
    s.engPoke a e f = s.engCommand e (BitVec.ofNat 32 (bitsPut 0 f.lo f.w 1)).toNat none := by
  rw [engPoke, s.withField_engCmd e 1 hoff, hoff, s.poke_ports_ok _ _ (by unfold Pg.engine; omega) h]
  rfl

theorem engCommand_rxFlush (e : Nat) : s.engCommand e 2 none = s.modEng e fun g => { g with rx := [], rxRead := 0 } := rfl

theorem engCommand_stageClear (e : Nat) : s.engCommand e 4 none = s.modEng e fun g => { g with stage := [] } := rfl

theorem wrEngine_txData (e : Nat) (v : Word) : wrEngine e s R.TX_DATA.off v = s.txData e v := rfl

/-- The word of TX_COMMIT holds LEN and RKIND. -/
theorem wrEngine_txCommit (e : Nat) (len rkind : Byte) :
    wrEngine e s R.TX_COMMIT.off (BitVec.ofNat 32 (len.toNat + rkind.toNat * 256)) = s.txCommit e len.toNat rkind.toNat := by
  have hword : (BitVec.ofNat 32 (len.toNat + rkind.toNat * 256)).toNat = len.toNat + rkind.toNat * 256 := by
    rw [BitVec.toNat_ofNat]; omega
  have hlen : (len.toNat + rkind.toNat * 256) % 256 = len.toNat := by omega
  have hkind : bitsOf (len.toNat + rkind.toNat * 256) 8 8 = rkind.toNat := by
    rw [bitsOf]; omega
  show s.txCommit e ((BitVec.ofNat 32 (len.toNat + rkind.toNat * 256)).toNat % 256)
    (bitsOf (BitVec.ofNat 32 (len.toNat + rkind.toNat * 256)).toNat 8 8) = _
  rw [hword, hlen, hkind]

/-! ### Raw frames and kept answers -/

/-- The engine begins the raw record that R183 gives it next, where the record is one of its mode and it has no work. -/
theorem rawTakeAll_begins {e : Nat} {x : Queued} (hup : s.engUp e = true) (hnext : s.takeNext e = some x)
    (hstale : s.stale x = false) (hsend : bitOf x.frame.aux 7 = false) (hmode : s.engMode e ≠ 6)
    (hform : s.rawSends e x.frame.payload = true) (hfree : (s.eng e).work = none) :
    s.rawTakeAll e =
      (s.engTake x).modEng e fun g => { g with work := some (.raw (rawKind x.frame.payload) (rawData x.frame.payload)) } := by
  simp [rawTakeAll, hup, rawTake, hnext, hstale, hsend, hmode, hform, rawFree, hfree]

/-- A kept answer that nobody has read, when it is the only one, becomes an orphaned read (R264). -/
theorem dropAnswers_only {e : Nat} {x : Answer} (h : s.bridge.answers = [x]) (he : x.engine = e) (hok : x.outcome = 0) :
    s.dropAnswers e (fun _ => true) =
      (s.modBridge fun y => { y with answers := [] }).orphan (0xC000 + s.node * 4 + s.hubPos) x.addr x.data := by
  have hgone : (s.bridge.answers.filter fun a => a.engine == e && true) = [x] := by simp [h, he]
  have hleft : (s.modBridge fun y => { y with answers := y.answers.filter fun a => !(a.engine == e && true) }) =
      s.modBridge fun y => { y with answers := [] } := by
    simp [modBridge, h, he]
  have hnode : ∀ f, (s.modBridge f).node = s.node := fun _ => rfl
  have hpos : ∀ f, (s.modBridge f).hubPos = s.hubPos := fun _ => rfl
  calc s.dropAnswers e (fun _ => true)
    _ = [x].foldl (fun t a => t.when (a.outcome == 0) fun t => t.orphan (0xC000 + t.node * 4 + t.hubPos) a.addr a.data)
        (s.modBridge fun y => { y with answers := [] }) := by rw [← hgone, ← hleft]; rfl
    _ = (s.modBridge fun y => { y with answers := [] }).orphan (0xC000 + s.node * 4 + s.hubPos) x.addr x.data := by
        rw [List.foldl_cons, List.foldl_nil, hok, ← hnode, ← hpos]
        exact when_true _ _

end Sys2Proof.Machine.State
end

section
/-! The settling of the statement on what banks and engines hold. -/

namespace Sys2Proof.Machine

/-- Settles O37: each command where it acts, by the lemma above for what it finds. At a boundary the break comes before the
polls and these before the downstream queue (`AtBoundary.boundary_break` and the lemmas beside it); that the break and the
read of the Alert Response Address come before the polls is the model's choice (log entry 48), as R280 does not name them. -/
theorem engineStores : Obligations.EngineStores := by
  unfold Obligations.EngineStores
  intro s a b c e v meas flags rkind len losses res at_ data p q cp
  have hbank : 0x080 ≤ cp := Nat.le_add_right _ _
  have hengine : 0x080 ≤ p := Nat.le_trans (by decide) (Nat.le_add_right 0x100 _)
  refine ⟨fun hon => ⟨⟨fun hmeas hsel => ?_, fun hsel hwas => ?_⟩, ?_, fun hlock => ?_⟩,
    fun hok => ⟨fun hbad => ?_, fun hgood hfree => ?_⟩,
    fun hup => ⟨fun hpoll htime => finishAll_of_eq (s.pollTick_inTime hup hpoll htime), fun hmode hfree => ?_,
      fun x hnext hstale hsend hmode hform hfree =>
        finishAll_of_eq (s.rawTakeAll_begins hup hnext hstale hsend hmode hform hfree),
      fun hlow hhigh hen hfwd => ?_⟩,
    fun hok => ⟨fun hnil => ?_, fun r l hcons => ⟨fun hmore => ?_, fun hlast hl => ?_⟩⟩,
    fun hok => ⟨finishAll_of_eq ((s.engPoke_engCmd (f := R.ENG_CMD_RX_FLUSH) rfl hok).trans (s.engCommand_rxFlush e)),
      finishAll_of_eq ((s.engPoke_engCmd (f := R.ENG_CMD_TX_STAGE_CLEAR) rfl hok).trans
        (s.engCommand_stageClear e))⟩,
    fun hok => ⟨fun hroom => ?_, fun hfull => ?_⟩, fun hok => ⟨fun hshort => ?_, fun hlong => ?_⟩,
    fun x hcore hone he hx => ?_,
    fun x l u m hwork hdown htodo hmore hwrite hmode hbig =>
      finishAll_of_eq (s.devTransaction_spiWrite hwork hdown htodo hmore hwrite hmode hbig)⟩
  -- VIO_CHANGE, CLK80_LOCK, CLK80_UNLOCK
  · exact finishAll_of_eq (by rw [if_pos hon, s.vioCheck_ok b meas.isLt hmeas hsel])
  · exact finishAll_of_eq (by rw [if_pos hon, s.vioCheck_stillBad b meas.isLt hsel hwas])
  · exact finishAll_of_eq (if_pos hon)
  · exact finishAll_of_eq (if_pos (Bool.and_eq_true_iff.mpr ⟨hon, hlock⟩))
  -- CELL_CFG_WRITE
  · exact finishAll_of_eq (by rw [s.poke_ports_ok v _ hbank hok, s.wrBank_cell, s.cellWrite_refused hbad])
  · exact finishAll_of_eq (by rw [s.poke_ports_ok v _ hbank hok, s.wrBank_cell, s.cellWrite_applied hgood hfree])
  -- CONTROLLER_BOUNDARY
  · have hbound : s.AtBoundary e := ⟨hup, hmode, hfree⟩
    exact ⟨fun hbreak => finishAll_of_eq (hbound.boundary_break hbreak), fun hbreak halert =>
      ⟨fun n hdue => finishAll_of_eq (hbound.boundary_poll hbreak halert hdue),
        fun hdue hvalue hdown => finishAll_of_eq (hbound.boundary_device hbreak halert hdue hvalue hdown)⟩⟩
  -- RAW_RECORD
  · have hrecord : (if s.engUp e && (1 ≤ s.engMode e && s.engMode e ≤ 6) then
          (s.engCount e R.CNT_RX_MSG).rawRecord e flags.toNat rkind.toNat at_.toNat data else s) =
        (s.engCount e R.CNT_RX_MSG).rxPut e
          ((s.engCount e R.CNT_RX_MSG).unclaimedRecord e flags.toNat rkind.toNat at_.toNat data) := by
      rw [if_pos (by simp [hup, hlow, hhigh])]
      exact State.rawRecord_kept _ _ _ _ _
        ((s.on_engCount_ne e (by decide) (by decide) (by decide) (by decide)).trans hen)
        ((s.on_engCount_ne e (by decide) (by decide) (by decide) (by decide)).trans hfwd)
    have hlevel : (s.engCount e R.CNT_RX_MSG).rxLevel e = s.rxLevel e := s.rxLevel_engCount e _
    have heng : (s.engCount e R.CNT_RX_MSG).eng e = s.eng e := s.eng_engCountN e e _ _ 1
    exact ⟨fun hfit hrx => finishAll_of_eq (hrecord.trans (State.rxPut_behind _ (by rw [hlevel]; exact hfit)
        (by rw [heng]; exact hrx))),
      fun hover => finishAll_of_eq (hrecord.trans (State.rxPut_full _ (by rw [hlevel]; exact hover)))⟩
  -- RX_DATA_READ
  · exact finishAll_of_eq (by rw [s.guardedRead_ok a _ _ _ hok, s.rxRead_empty hnil])
  · exact finishAll_of_eq (by rw [s.guardedRead_ok a _ _ _ hok, s.rxRead_word hcons hmore]; rfl)
  · subst hl
    exact finishAll_of_eq (by rw [s.guardedRead_ok a _ _ _ hok, s.rxRead_last hcons hlast]; rfl)
  -- TX_DATA, TX_COMMIT
  · exact finishAll_of_eq (by
      rw [s.poke_ports_ok v _ hengine hok, s.wrEngine_txData, State.txData, if_neg (Nat.not_le.mpr hroom)])
  · exact finishAll_of_eq (by
      rw [s.poke_ports_ok v _ hengine hok, s.wrEngine_txData, State.txData, if_pos hfull]; rfl)
  · exact finishAll_of_eq (by
      rw [s.poke_ports_ok _ _ hengine hok, s.wrEngine_txCommit, State.txCommit, if_pos hshort]; rfl)
  · exact finishAll_of_eq (by
      rw [s.poke_ports_ok _ _ hengine hok, s.wrEngine_txCommit, State.txCommit, if_neg (Nat.not_lt.mpr hlong)])
  -- KEPT_ANSWER_EXPIRY
  · exact finishAll_of_eq ((if_pos hcore).trans (s.dropAnswers_only hone he hx))

end Sys2Proof.Machine
end

section
/-! SUPPORT. Ralusk's state and policies (R514 to R534), and the answers that requests of this hub wait for (R250, R251,
R546). -/

namespace Sys2Proof.Machine.State

open Sys2Proof (Word Byte Agent LaneId LinkId)

variable (s : State)

/-! ### State and modes (R514 to R516, R533) -/

theorem ral_journal (k : Nat) (v : Word) : (s.journal k v).ral = s.ral := by
  obtain ⟨r, x, y, h⟩ := s.journal_eq k v
  rw [h]

theorem ral_digestStale (p off : Nat) (old new : Word) (active : Bool) :
    (s.digestStale p off old new active).ral = s.ral := by
  unfold digestStale
  split
  · rfl
  · cases active <;> rfl

/-- A write of an active word writes the word, and journals it where it is Kept and changes. -/
theorem wrKept_cases (p off : Nat) (v : Word) :
    s.wrKept p off v = s.wr p off v ∨
      s.wrKept p off v = ((s.wr p off v).journal (regKey p off) v).digestStale p off (s.rd p off) v true := by
  unfold wrKept
  dsimp only
  split
  · exact .inr rfl
  · exact .inl rfl

theorem ral_wrKept (p off : Nat) (v : Word) : (s.wrKept p off v).ral = s.ral := by
  rcases s.wrKept_cases p off v with h | h <;> rw [h]
  · exact s.wr_ral p off v
  · rw [ral_digestStale, ral_journal, wr_ral]

theorem ral_stage (p off : Nat) (v : Word) : (s.stage p off v).ral = s.ral := by
  rw [stage, ral_digestStale, wrStaged_ral]

/-- A write of a register leaves Ralusk's own data alone. -/
theorem ral_storeWrite (p off : Nat) (v : Word) : (s.storeWrite p off v).ral = s.ral := by
  unfold storeWrite
  split
  · rfl
  · dsimp only
    split
    · exact s.ral_wrKept _ _ _
    · exact (ral_stage _ _ _ _).trans (s.ral_wrKept _ _ _)

/-- A write of POLICY_MODE is stored, and the active policies follow. -/
theorem poke_policyMode {a : Agent} (v : Word) (h : s.writeCode a Pg.ralusk R.POLICY_MODE.off = .ok) :
    s.poke a Pg.ralusk R.POLICY_MODE.off v (wrRalusk Pg.ralusk) =
      (s.storeWrite Pg.ralusk R.POLICY_MODE.off v).ralSync := by
  rw [s.poke_ok' a Pg.ralusk R.POLICY_MODE.off v _ (by decide) (by decide) h, wrRalusk, if_neg (by decide),
    if_pos ⟨rfl, rfl⟩]

/-- A write of HALT alone is stored, and the state follows, while no restart limit holds Ralusk. -/
theorem poke_halt {a : Agent} (b : Bool) (h : s.writeCode a Pg.ralusk R.RALUSK_CTRL.off = .ok)
    (hlimit : s.ral.limit = false) :
    s.poke a Pg.ralusk R.RALUSK_CTRL.off (BitVec.ofNat 32 (b2n b)) (wrRalusk Pg.ralusk) =
      (s.storeWrite Pg.ralusk R.RALUSK_CTRL.off (BitVec.ofNat 32 (b2n b))).ralSync := by
  have hclear : bitOf (BitVec.ofNat 32 (b2n b)).toNat 1 = false := by cases b <;> decide
  have hfree : (s.storeWrite Pg.ralusk R.RALUSK_CTRL.off (BitVec.ofNat 32 (b2n b))).ral.limit = false := by
    rw [ral_storeWrite, hlimit]
  rw [s.poke_ok' a Pg.ralusk R.RALUSK_CTRL.off _ _ (by decide) (by decide) h, wrRalusk, if_pos ⟨rfl, rfl⟩]
  simp only [hclear, when_false, hfree, Bool.false_eq_true, if_false]

theorem ralOn_on (f : State → State) (h : s.domainOn 0 = true) : s.ralOn f = f s := if_pos h

/-! ### Decisions (R514, R517) -/

/-- A policy in act mode decides. -/
theorem policyDecides_of_act {p : Nat} (h : s.policyAct p = true) : s.policyDecides p = true := by
  rw [policyDecides, h, Bool.true_or]

/-- A decision in act mode, within the policy's write set, is written and logged as WRITTEN. -/
theorem decideTo_written {policy page off : Nat} (inst before after : Nat) (write : State → State)
    (hact : s.policyAct policy = true) (hscope : policyScope policy page off = true) :
    s.decideTo policy inst page off before after write =
      (write s).logDecision policy 1 inst page off before after := by
  rw [decideTo, if_pos hact, if_pos hscope]
  rfl

/-! ### EQ, PATH, CM, POWER, CANPAIR -/

/-- CTLE at its lower bound, which the code above betters by the hysteresis, goes up by one; VGA has the next period. -/
theorem eqPeriod_ctleUp {l : LaneId} (below : Nat) {here above : Nat} (hact : s.policyAct 0 = true)
    (hon : s.pageOn (Pg.lane l) = true) (hadapt : s.on (Pg.lane l) R.LANE_CFG_EQ_ADAPT = true)
    (hhold : s.on (Pg.lane l) R.EYE_CTRL_HOLD = false) (hst : s.laneSt l = 5) (hctle : l.val ∉ s.ral.eqVga)
    (hmin : s.get (Pg.lane l) R.RX_EQ_CTLE ≤ s.get (Pg.lane l) R.EQ_BOUNDS_CTLE_MIN)
    (hmax : s.get (Pg.lane l) R.RX_EQ_CTLE < s.get (Pg.lane l) R.EQ_BOUNDS_CTLE_MAX) (hless : above < here)
    (hhyst : 100 * above ≤ (100 - clamp 1 100 (s.get Pg.ralusk R.EQ_CFG_EQ_HYST)) * here) :
    s.eqPeriod l below here above =
      (((s.modRal fun r => { r with eqVga := r.eqVga ++ [l.val] }).putAdapt (Pg.lane l) R.RX_EQ_CTLE
        (s.get (Pg.lane l) R.RX_EQ_CTLE + 1)).laneKeepEq l).logDecision 0 1 l (Pg.lane l) R.RX_EQ.off
          (s.get (Pg.lane l) R.RX_EQ_CTLE) (s.get (Pg.lane l) R.RX_EQ_CTLE + 1) := by
  have hlane : isLane (Pg.lane l) = true := by
    have hrange : 0x040 ≤ Pg.lane l ∧ Pg.lane l ≤ 0x055 := by unfold Pg.lane; omega
    simp [isLane, hrange]
  have hscope : policyScope 0 (Pg.lane l) R.RX_EQ.off = true := by simp [policyScope, hlane]
  have hacts : (s.modRal fun r => { r with eqVga := r.eqVga ++ [l.val] }).policyAct 0 = true := hact
  rw [eqPeriod, if_neg (by simp [hon, s.policyDecides_of_act hact, hadapt, hhold, hst])]
  simp only [List.contains_eq_mem, hctle, Nat.not_lt.mpr hmin, hmax, hless, hhyst, decide_true, decide_false, Bool.false_and,
    Bool.and_self, Bool.false_eq_true, and_self, if_true, if_false, Nat.succ_ne_self]
  exact decideTo_written _ _ _ _ _ hacts hscope

/-- The master steers a break that stands, the only one, when its hold time has passed. -/
theorem pathHold_steers {ring x : Nat} {e : Break} (hcore : s.domainOn 4 = true) (hmaster : s.isMaster = true)
    (hact : s.policyAct 1 = true) (hbreak : s.ring.breaks = [e]) (hring : e.ring = ring) (hx : e.x = x)
    (hdown : e.xDown = true) (hsteer : e.steered = false) :
    s.pathHold ring x = (s.orderSteer ring x true).logDecision 1 1 0 0 0 0 1 := by
  rw [pathHold, if_pos (by simp [hcore, hmaster, hbreak, hring, hx, hdown, hsteer, s.policyDecides_of_act hact])]
  exact s.decideTo_written _ _ _ _ hact rfl

/-- CM evaluates every profile at the end of a period; with the queues empty none is busy in the next. -/
theorem cmPeriod_idle (hcore : s.domainOn 4 = true) (hdecides : s.policyDecides 2 = true) (hqueue : s.core.queued = []) :
    s.cmPeriod =
      ((List.range 16).foldl cmProfile s).modRal fun r => { r with cmDrops := [], cmMarks := [], cmBusy := [] } := by
  simp [cmPeriod, hcore, hdecides, hqueue]

/-- POWER requests an idle domain off that no agent holds on and no vote covers. -/
theorem shedDomain_written {d : Nat} (hact : s.policyAct 3 = true) (hon : s.domainOn d = true)
    (hreq : bitOf (s.rd Pg.power R.PD_REQ.off).toNat d = true) (hidle : s.shedIdle d = true)
    (hlock : bitOf (s.rd Pg.power R.PD_LOCK.off).toNat d = false) (hfree : s.overridden d = false)
    (hopen : s.stagingClosed = false) :
    s.shedDomain d =
      (s.putKept Pg.power ⟨R.PD_REQ.off, d, 1⟩ 0).logDecision 3 1 d Pg.power R.PD_REQ.off
        (s.rd Pg.power R.PD_REQ.off).toNat (bitsPut (s.rd Pg.power R.PD_REQ.off).toNat d 1 0) := by
  rw [shedDomain, if_pos (by simp [s.policyDecides_of_act hact, hon, hreq, hidle, hlock, hfree, hopen])]
  exact s.decideTo_written _ _ _ _ hact (by decide)

/-- POWER asks for low-power idle on a quiet ring side that allows it. -/
theorem lpIdle_written (k : Fin 4) (hact : s.policyAct 3 = true) (hlink : s.linkActive k = true)
    (hallow : s.on (Pg.link k) R.LINK_CFG_LP_ALLOWED = true) (hreq : s.on (Pg.link k) R.LINK_CTRL_LP_REQ = false)
    (hfree : s.overridden (32 + k) = false) :
    s.lpIdle k =
      ((wrLink k s R.LINK_CTRL.off 1).modRal fun r => { r with touched := s.ral.touched }).logDecision 3 1 k (Pg.link k)
        R.LINK_CTRL.off 0 1 := by
  have hscope : ∀ k : Fin 4, policyScope 3 (Pg.link k) R.LINK_CTRL.off = true := by decide
  rw [lpIdle, if_pos (by simp [s.policyDecides_of_act hact, hlink, hallow, hreq, hfree])]
  exact s.decideTo_written _ _ _ _ hact (hscope k)

/-- CANPAIR swaps a pair whose active engine has the excess of errors, to a standby engine that is up and error active. -/
theorem canPairHold_swaps (c : Fin 64) (hon : s.pageOn (Pg.engine (2 * c)) = true) (hact : s.policyAct 7 = true)
    (hen : bitOf (s.rd Pg.ralusk (0x078 + 4 * (c / 32))).toNat (c % 32) = true) (hmode : s.engMode (2 * c) = 6)
    (hpair : s.canPaired (2 * c) = true) (hrole : s.canRole (2 * c) = 1)
    (hexcess : s.get (Pg.mode (2 * c + 1) 6) R.CAN_ERR_TEC + s.get Pg.ralusk R.CAN_POL_CAN_SWAP_DELTA <
      s.get (Pg.mode (2 * c) 6) R.CAN_ERR_TEC)
    (hst : s.get (Pg.mode (2 * c + 1) 6) R.CAN_STATUS_STATE = 0) (hlast : look c s.ral.swapped = 0)
    (hfree : s.overridden (64 + c) = false) (hup : s.engUp (2 * c + 1) = true) :
    s.canPairHold c =
      ((s.pairSwap (2 * c)).modRal fun r => { r with swapped := file c (s.ns + 1) r.swapped }).logDecision 7 1 c
        (Pg.engine (2 * c)) R.CAN_CMD.off 0 1 := by
  have hpartner : partner (2 * c) = 2 * c + 1 := if_pos (by omega)
  have hscope : ∀ c : Fin 64, policyScope 7 (Pg.engine (2 * c)) R.CAN_CMD.off = true := by decide
  have hdecides := s.policyDecides_of_act hact
  simp only [canPairHold, hrole, if_true, hpartner]
  rw [if_pos (by simp [hdecides, hon, hen, hmode, hpair, hexcess, hst, hlast, hfree]), if_neg (by simp [hup])]
  exact s.decideTo_written _ _ _ _ hact (hscope c)

/-! ### THERMAL and SERVO -/

/-- What the sensors show leaves the modes and the state of Ralusk alone. -/
theorem policyAct_sensed (j p : Nat) : (s.sensed j).policyAct p = s.policyAct p := by
  have hpower : (s.sensed j).rd Pg.power R.PD_ON.off = s.rd Pg.power R.PD_ON.off :=
    s.rd_put_ne _ _ _ ⟨R.JUNCTION_T.off, 0, 14⟩ _ (by decide : R.JUNCTION_T.off < _) (by decide) (.inl (by decide))
  have hmode : (s.sensed j).rd Pg.ralusk R.POLICY_MODE.off = s.rd Pg.ralusk R.POLICY_MODE.off :=
    s.rd_put_ne _ _ _ ⟨R.JUNCTION_T.off, 0, 14⟩ _ (by decide : R.JUNCTION_T.off < _) (by decide) (.inr (by decide))
  have hst : (s.sensed j).get Pg.ralusk R.RALUSK_STATUS_STATE = s.get Pg.ralusk R.RALUSK_STATUS_STATE :=
    s.get_put_apart _ _ (by decide)
  simp only [policyAct, domainOn, policyMode, raluskState, hpower, hmode, hst]

/-- THERMAL in act mode with no rate change in progress begins one. -/
theorem thermalAsk_first (k rate : Nat) (hact : s.policyAct 4 = true) (hjobs : s.ral.rateJobs = []) :
    s.thermalAsk k rate = s.modRal fun r => { r with rateJobs := [(k, rate, 0)] } := by
  simp [thermalAsk, hjobs, hact, modRal]

theorem thermalHigh_off {j : Nat} (h : (s.sensed j).thermRate = none) : s.thermalHigh j = s.sensed j := by
  simp only [thermalHigh, h]

theorem thermalLow_off {j : Nat} (h : (s.sensed j).thermRate = none) : s.thermalLow j = s.sensed j := by
  simp only [thermalLow, h]

/-- Above the step of THERM_RATE_C the only side at the full rate is asked to halve it. -/
theorem thermalHigh_one {j n e : Nat} (hrate : (s.sensed j).thermRate = some n)
    (hhigh : 2 * (n : Int) ≤ (s.sensed j).junction) (hact : s.policyAct 4 = true) (hjobs : s.ral.rateJobs = [])
    (hside : (List.range 7).filter (fun k => (s.sensed j).pageOn (Pg.link k) && (s.sensed j).sideEnabled k &&
      (s.sensed j).sideFast k) = [e]) :
    s.thermalHigh j = ((s.sensed j).modRal fun r => { r with rateJobs := [(e, 1, 0)] }).thermalGoesOn := by
  have hask := (s.sensed j).thermalAsk_first e 1 ((s.policyAct_sensed j 4).trans hact) hjobs
  simp only [thermalHigh, hrate, Int.not_lt.mpr hhigh, if_false, hside, List.foldl_cons, List.foldl_nil, hask]

/-- Below the hysteresis the only side that was slowed is asked to take its rate again. -/
theorem thermalLow_one {j n e : Nat} (hrate : (s.sensed j).thermRate = some n)
    (hlow : (s.sensed j).junction <
      2 * ((n : Int) - clamp 1 15 ((s.sensed j).get Pg.ralusk R.THERM_CFG_THERM_HYST)))
    (hact : s.policyAct 4 = true) (hjobs : s.ral.rateJobs = []) (hside : s.ral.lowered = [e]) :
    s.thermalLow j = ((s.sensed j).modRal fun r => { r with rateJobs := [(e, 0, 0)] }).thermalGoesOn := by
  have hask := (s.sensed j).thermalAsk_first e 0 ((s.policyAct_sensed j 4).trans hact) hjobs
  have hlowered : (s.sensed j).ral.lowered = [e] := hside
  simp only [thermalLow, hrate, Int.not_le.mpr hlow, if_false, hlowered, List.foldl_cons, List.foldl_nil, hask]

/-! ### Answers to requests of this hub -/

/-- A completion that carries a failure for no slot is late, and counted (R251). -/
theorem completionIn_late {src tag aux : Nat} {b : List Byte}
    (hslot : s.bridge.slots.find? (fun z => z.n == tag % 256 && z.gen == tag / 256 % 256) = none)
    (hfail : aux ≠ 0) : s.completionIn src tag aux b = s.count Pg.bridge R.CNT_LATE := by
  simp [completionIn, hslot, hfail]

/-- A completion of a write frees its slot and answers its source (R251). -/
theorem completionIn_write {src tag aux : Nat} {b : List Byte} {y : Slot}
    (hslot : s.bridge.slots.find? (fun z => z.n == tag % 256 && z.gen == tag / 256 % 256) = some y)
    (hgone : s.readGone y.req = false) (hwrite : y.req.write = true) (hbusy : aux ≠ 0xA) :
    s.completionIn src tag aux b =
      ((s.releaseSlot (tag % 256)).answerTo y.req (tag % 256) (tag / 256 % 256) aux (bitsOf (b.getD 5 0).toNat 0 4)
        []).takeSlot := by
  simp [completionIn, hslot, hgone, hwrite, beq_false_of_ne hbusy]

/-- The read of an engine whose discard timer runs out is counted, its slot is free and past, and the engine is answered
with DISCARDED (R250). -/
theorem discardSlot_engine {n : Nat} {y : Slot} (hslot : s.bridge.slots.find? (·.n == n) = some y)
    {e : Nat} (hsrc : y.req.src = .engine e) :
    s.discardSlot n =
      ((((s.count Pg.bridge R.CNT_DISCARDED).event Pg.bridge E.P078_DISCARDED).releaseSlot n).modBridge fun z =>
        { z with past := z.past.filter (·.1 != n) ++ [(n, y.gen, s.raAgent y.req, false)] }).answerTo y.req n y.gen 9 0
          [] := by
  simp only [discardSlot, hslot, hsrc]

/-- The result that software's request waits for ends it (R546). -/
theorem resultIn_software {m : EpochMsg} {t : Nat} (hby : m.by_ = s.selfIndex) (hwait : s.epoch.waiting = some t)
    (htag : m.tag = t) (hsoft : s.epoch.thermal = none) (hout : m.outcome = 0) :
    s.resultIn_ m = (s.modEpoch fun z => { z with waiting := none }).reqShow t 0 none := by
  subst htag
  rw [resultIn_, if_pos ⟨hby, hwait⟩, hout, reqDone, hwait, hsoft]
  rfl

end Sys2Proof.Machine.State
end

section
/-! The settling of the statement on Ralusk and on the answers it waits for. -/

namespace Sys2Proof.Machine

/-- Settles O54: Ralusk's state follows its registers (`poke_policyMode`, `poke_halt`), each policy in act mode writes and logs
what it decides (`decideTo_written` under the conditions of the policy), and an answer ends what waits for it. That EQ takes
CTLE and VGA in turn and logs changes only, what HALT does to a period, and the steps of a rate change are deduced by the
model (log entry 69). -/
theorem raluskPolicies : Obligations.RaluskPolicies := by
  unfold Obligations.RaluskPolicies
  intro s a v h l lo mid hi ring x src d k j c b slot tag aux y p ln
  refine ⟨fun hok => finishAll_of_eq (s.poke_policyMode v hok),
    fun hok hlimit => finishAll_of_eq (s.poke_halt h hok hlimit),
    fun hon => ⟨fun hst => finishAll_of_eq ((s.ralOn_on _ hon).trans (if_pos hst)), fun hrate => ⟨?_, ?_⟩,
      fun n e hrate hhigh hact hjobs hside => ?_, fun n e hrate hlow hact hjobs hside => ?_, fun hover => ?_⟩,
    fun hact hon hadapt hhold hst hctle hmin hmax hless hhyst =>
      finishAll_of_eq (s.eqPeriod_ctleUp lo.toNat hact hon hadapt hhold hst hctle hmin hmax hless hhyst),
    fun hcore => ⟨fun e hmaster hact hbreak hring hx hdown hsteer =>
        finishAll_of_eq (s.pathHold_steers hcore hmaster hact hbreak hring hx hdown hsteer),
      fun hdecides hqueue => finishAll_of_eq (s.cmPeriod_idle hcore hdecides hqueue),
      fun hslot _ hfail => ?_, fun hslot hgone hwrite hbusy => ?_⟩,
    fun hslot hsrc => finishAll_of_eq (congrArg State.thermalGoesOn (s.discardSlot_engine hslot hsrc)),
    fun hact => ⟨fun hon hreq hidle hlock hfree hopen =>
        finishAll_of_eq (s.shedDomain_written hact hon hreq hidle hlock hfree hopen),
      fun hlink hallow hreq hfree => finishAll_of_eq (s.lpIdle_written k hact hlink hallow hreq hfree)⟩,
    fun hdecides htime hhard hservo => finishAll_of_eq (if_pos (by simp [hdecides, htime, hhard, hservo])),
    fun hon hact hen hmode hpair hrole hexcess hst hlast hfree hup =>
      finishAll_of_eq (s.canPairHold_swaps c hon hact hen hmode hpair hrole hexcess hst hlast hfree hup),
    fun m t hready hmsg hmaster hby hwait htag hsoft hout => ?_⟩
  · exact finishAll_of_eq ((s.ralOn_on _ hon).trans (s.thermalHigh_off hrate))
  · exact finishAll_of_eq ((s.ralOn_on _ hon).trans (s.thermalLow_off hrate))
  · exact finishAll_of_eq ((s.ralOn_on _ hon).trans (s.thermalHigh_one hrate hhigh hact hjobs hside))
  · exact finishAll_of_eq ((s.ralOn_on _ hon).trans (s.thermalLow_one hrate hlow hact hjobs hside))
  · exact finishAll_of_eq ((s.ralOn_on _ hon).trans (State.when_of_true _ _ (decide_eq_true hover)))
  · exact finishAll_of_eq ((if_pos hcore).trans (congrArg State.thermalGoesOn (s.completionIn_late hslot hfail)))
  · exact finishAll_of_eq ((if_pos hcore).trans
      (congrArg State.thermalGoesOn (s.completionIn_write hslot hgone hwrite hbusy)))
  · refine finishAll_of_eq ?_
    rw [State.epochIn, State.epochOn, if_pos hready, hmsg]
    exact (if_pos hmaster).trans (congrArg State.thermalGoesOn (s.resultIn_software hby hwait htag hsoft hout))

end Sys2Proof.Machine
end

section
/-! SUPPORT. What the bindings of an engine are read from (R278, R279, R285), and that the counters of the engine and the
registers of its modes are not of it. -/

namespace Sys2Proof.Machine

theorem dirListed_erase {k : Nat} (m : Cells) (hk : k / 0x1000000 ≠ Pg.dirTable) :
    State.dirListed (m.erase k) = State.dirListed m := by
  induction m with
  | nil => rfl
  | cons c m ih =>
    obtain ⟨j, w⟩ := c
    by_cases h : j = k
    · simpa [Cells.erase, h, State.dirListed, hk] using ih
    · simp only [Cells.erase, if_neg h, State.dirListed, List.filterMap_cons] at ih ⊢
      rw [ih]

theorem dirListed_insert {k : Nat} (v : Sys2Proof.Word) (m : Cells) (hk : k / 0x1000000 ≠ Pg.dirTable) :
    State.dirListed (m.insert k v) = State.dirListed m := by
  induction m with
  | nil => simp [Cells.insert, State.dirListed, hk]
  | cons c m ih =>
    obtain ⟨j, w⟩ := c
    by_cases h : j < k
    · simp only [Cells.insert, if_pos h, State.dirListed, List.filterMap_cons] at ih ⊢
      rw [ih]
    · simp [Cells.insert, h, State.dirListed, hk]

/-- A register that is not of the directory does not change which entries the store lists. -/
theorem dirListed_set {k : Nat} (v : Sys2Proof.Word) (m : Cells) (hk : k / 0x1000000 ≠ Pg.dirTable) :
    State.dirListed (m.set factoryWord k v) = State.dirListed m := by
  unfold Cells.set
  split
  · exact dirListed_erase m hk
  · exact (dirListed_insert v _ hk).trans (dirListed_erase m hk)

namespace State

open Sys2Proof (Word Byte EngineId)

/-- The registers that the bindings of engine `e` and the timestamps of its samples are read from: the directory, the
domains that are on, and of the engine's page BIND_STATUS, TS_COMP and the slots. -/
def BindingReg (e p r : Nat) : Prop :=
  p = Pg.dirTable ∨ p = Pg.power ∨ p = Pg.engine e ∧ (r = R.BIND_STATUS.off ∨ r = R.TS_COMP.off ∨ 0x800 ≤ r)

/-- The bindings of engine `e` are in `t` as they are in `s`. -/
structure SameBindings (e : Nat) (s t : State) : Prop where
  rd : ∀ {p r}, BindingReg e p r → r < 0x1000000 → t.rd p r = s.rd p r
  listed : dirListed t.regs = dirListed s.regs

variable {s t u : State} {e : Nat}

/-! ### What stays the same -/

theorem dirIndex_lt {m : Cells} {i : Nat} (h : i ∈ dirListed m) : i < 0x100000 := by
  obtain ⟨c, -, hc⟩ := List.mem_filterMap.mp h
  split at hc
  · cases hc; omega
  · cases hc

namespace SameBindings

theorem refl (s : State) (e : Nat) : SameBindings e s s := ⟨fun _ _ => rfl, rfl⟩

/-- A change that writes no register keeps the bindings. -/
theorem of_regs (h : SameBindings e s t) (hregs : u.regs = t.regs) : SameBindings e s u :=
  ⟨fun hp hr => (congrArg (Cells.get factoryWord · _) hregs).trans (h.rd hp hr), (congrArg dirListed hregs).trans h.listed⟩

theorem slotOn (h : SameBindings e s t) (b : Nat) : t.slotOn e b = s.slotOn e b := by
  rw [State.slotOn, h.rd (.inr (.inr ⟨rfl, .inl rfl⟩)) (by decide), State.slotOn]

theorem slotW (h : SameBindings e s t) {b w : Nat} (hb : b < 32) (hw : w < 4) : t.slotW e b w = s.slotW e b w := by
  rw [State.slotW, h.rd (.inr (.inr ⟨rfl, .inr (.inr (by omega))⟩)) (by omega), State.slotW]

theorem dirW (h : SameBindings e s t) {i w : Nat} (hi : i < 0x100000) (hw : w < 4) : t.dirW i w = s.dirW i w := by
  rw [State.dirW, h.rd (.inl rfl) (by omega), State.dirW]

theorem engStamp (h : SameBindings e s t) (at_ : Nat) : t.engStamp e at_ = s.engStamp e at_ := by
  have hon : t.domainOn 1 = s.domainOn 1 := by
    rw [domainOn, h.rd (.inr (.inl rfl)) (by decide), domainOn]
  rw [State.engStamp, hon, h.rd (.inr (.inr ⟨rfl, .inr (.inl rfl)⟩)) (by decide), State.engStamp]

theorem dirUsed (h : SameBindings e s t) : t.dirUsed = s.dirUsed := by
  rw [State.dirUsed, h.listed]
  exact List.filter_congr fun i hi => by rw [h.dirW (dirIndex_lt hi) (by decide)]

theorem namedBy (h : SameBindings e s t) (b : Nat) : t.namedBy e b = s.namedBy e b := by
  rw [State.namedBy, h.dirUsed]
  refine List.filter_congr fun i hi => ?_
  have hi := dirIndex_lt (List.mem_filter.mp hi).1
  simp only [unitKind, unitOf, bindOf, h.dirW hi (by decide : 2 < 4)]

theorem pubEntry (h : SameBindings e s t) (b : Nat) : t.pubEntry e b = s.pubEntry e b := by
  have hpub : (s.namedBy e b).find? t.publishes = (s.namedBy e b).find? s.publishes :=
    List.find?_congr fun i hi => by
      have hi := dirIndex_lt (List.mem_filter.mp (List.mem_filter.mp hi).1).1
      rw [publishes, h.dirW hi (by decide), publishes]
  rw [State.pubEntry, h.slotOn, h.namedBy, hpub, State.pubEntry]

theorem lenOf (h : SameBindings e s t) {b i : Nat} (hi : s.pubEntry e b = some i) : t.lenOf i = s.lenOf i := by
  have hmem : i ∈ s.namedBy e b := by
    unfold State.pubEntry at hi
    split at hi
    · exact List.mem_of_find?_eq_some hi
    · cases hi
  rw [State.lenOf, h.dirW (dirIndex_lt (List.mem_filter.mp (List.mem_filter.mp hmem).1).1) (by decide), State.lenOf]

/-! ### What keeps them -/

/-- A write of a register that no binding is read from keeps the bindings. -/
theorem wr (h : SameBindings e s t) {p r : Nat} (v : Word) (hp : ¬BindingReg e p r) (hr : r < 0x1000000) :
    SameBindings e s (t.wr p r v) := by
  refine ⟨fun {q o} hq ho => (t.rd_wr_ne p q r o v hr ho ?_).trans (h.rd hq ho), (dirListed_set v _ ?_).trans h.listed⟩
  · by_cases hqp : q = p
    · exact .inr fun hor => hp (hqp ▸ hor ▸ hq)
    · exact .inl hqp
  · have hkey : regKey p r / 0x1000000 = p := by unfold regKey; omega
    exact fun hdir => hp (.inl (hkey.symm.trans hdir))

end SameBindings

/-- No binding is read from the counters, the status and the events of an engine. -/
theorem not_bindingReg_engine (e : EngineId) {r : Nat} (h : r < 0x800) (hstatus : r ≠ R.BIND_STATUS.off)
    (hcomp : r ≠ R.TS_COMP.off) : ¬BindingReg e (Pg.engine e) r := by
  rintro (hp | hp | ⟨-, hr | hr | hr⟩)
  · simp only [Pg.engine, Pg.dirTable] at hp; omega
  · simp only [Pg.engine, Pg.power] at hp; omega
  · exact hstatus hr
  · exact hcomp hr
  · omega

/-- Nor from the registers of its modes. -/
theorem not_bindingReg_mode (e : EngineId) (m r : Nat) : ¬BindingReg e (Pg.mode e m) r := by
  rintro (hp | hp | ⟨hp, -⟩) <;> simp only [Pg.mode, Pg.dirTable, Pg.power, Pg.engine] at hp <;> omega

namespace SameBindings

variable {e : EngineId}

theorem engEvent (h : SameBindings e s t) (n : Nat) : SameBindings e s (t.engEvent e n) :=
  h.wr _ (not_bindingReg_engine e (r := 0x010) (by decide) (by decide) (by decide)) (show 0x010 < 0x1000000 by decide)

theorem engCountN (h : SameBindings e s t) {p : Nat} {f : Fld} (n : Nat) (hp : ¬BindingReg e p f.off)
    (hf : f.off < 0x1000000) : SameBindings e s (t.engCountN e p f n) := by
  unfold State.engCountN
  dsimp only
  have hcounted : ∀ v, SameBindings e s (t.put p f v) := fun v => h.wr _ hp hf
  rcases when_cases _ _ _ with hw | hw <;> rw [hw]
  · exact (hcounted _).engEvent _
  · exact hcounted _

theorem engCount (h : SameBindings e s t) {f : Fld} (hf : f.off < 0x800) (hstatus : f.off ≠ R.BIND_STATUS.off)
    (hcomp : f.off ≠ R.TS_COMP.off) : SameBindings e s (t.engCount e f) :=
  h.engCountN 1 (not_bindingReg_engine e hf hstatus hcomp) (hf.trans (by decide))

theorem modeCountN (h : SameBindings e s t) (m : Nat) {f : Fld} (n : Nat) (hf : f.off < 0x1000000) :
    SameBindings e s (t.engCountN e (Pg.mode e m) f n) := h.engCountN n (not_bindingReg_mode e m _) hf

theorem putMode (h : SameBindings e s t) (m : Nat) {f : Fld} (v : Nat) (hf : f.off < 0x1000000) :
    SameBindings e s (t.put (Pg.mode e m) f v) := h.wr _ (not_bindingReg_mode e m _) hf

end SameBindings

/-! ### Samples -/

variable {s : State} {e : Nat}

/-- A sample of a slot whose entry publishes is a source update of the entry. -/
theorem engPublish_entry {b i : Nat} (value : List Byte) (ts : Nat) (h : s.pubEntry e b = some i) :
    s.engPublish e b value ts = s.sourceUpdate i value true ts := by
  rw [engPublish, h]

/-- A slot that is not active takes no sample. -/
theorem engPublish_slotOff {b : Nat} (value : List Byte) (ts : Nat) (h : s.slotOn e b = false) :
    s.engPublish e b value ts = s := by
  rw [engPublish, pubEntry, h]
  rfl

/-- What happens at an engine that is up in the mode. -/
theorem inMode_here {m : Nat} (f : State → State) (hup : s.engUp e = true) (hmode : s.engMode e = m) :
    s.inMode e m f = f s := if_pos (by simp [hup, hmode])

end State

end Sys2Proof.Machine
end

section
/-! SUPPORT. The serial ports (R286 to R298): what a received character, the end of a message, a transaction and a limit do
to the engine's data and to the wire. -/

namespace Sys2Proof.Machine.State

open Sys2Proof (Word Byte Agent EngineId)

/-! ### Reading back -/

/-- Counting in the page of a mode leaves the engine's data alone. -/
theorem eng_modeCount (s : State) (e j m : Nat) (f : Fld) : (s.modeCount e m f).eng j = s.eng j :=
  s.eng_engCountN e j _ f 1

/-- Counting in the engine's page leaves the registers of other pages alone. -/
theorem get_engCount_page (s : State) {e q : Nat} {f g : Fld} (hq : q ≠ Pg.engine e) (hf : f.off < 0x1000000)
    (hg : g.off < 0x1000000) : (s.engCount e f).get q g = s.get q g := by
  have hput : ∀ v, (s.put (Pg.engine e) f v).rd q g.off = s.rd q g.off := fun v => s.rd_put_ne _ _ _ f v hf hg (.inl hq)
  unfold engCount engCountN
  dsimp only
  rcases when_cases _ _ _ with hw | hw <;> rw [hw, get]
  · rw [event, rd_put_ne _ _ _ _ _ _ (by decide : 0x010 < _) hg (.inl hq), hput, get]
  · rw [hput, get]

theorem mode_ne_engine (e : EngineId) (m : Nat) : Pg.mode e m ≠ Pg.engine e := by
  unfold Pg.mode Pg.engine; omega

/-- So the registers of a mode read as before it. -/
theorem mget_engCount (s : State) (e : EngineId) (m : Nat) {f g : Fld} (hf : f.off < 0x1000000) (hg : g.off < 0x1000000) :
    (s.engCount e f).mget e m g = s.mget e m g :=
  s.get_engCount_page (mode_ne_engine e m) hf hg

theorem eng_stretchHit (s : State) (e j : Nat) : (s.stretchHit e).eng j = s.eng j := s.eng_modeCount e j 4 _

variable (s : State)

/-! ### UART (R287 to R290) -/

/-- A character that neither ends the message nor is filtered joins it. -/
theorem uartChar_joins {e ch at_ : Nat} (hbits : s.mget e 1 R.UART_CFG_DATA_BITS ≠ 9)
    (hraw : s.on (Pg.engine e) R.ENG_CFG_RAW_RX_EN = false) (hdelim : s.mon e 1 R.UART_FRAME_DELIM_EN = false)
    (hmsg : (s.eng e).msg ≠ []) (hroom : (s.eng e).msg.length + 1 < s.uartMax e) :
    s.uartChar e ch false false false at_ = s.modEng e fun g => { g with msg := g.msg ++ [BitVec.ofNat 8 ch] } := by
  have hnine : (s.mget e 1 R.UART_CFG_DATA_BITS == 9) = false := beq_eq_false_iff_ne.mpr hbits
  have hfirst : (s.eng e).msg.isEmpty = false := List.isEmpty_eq_false_iff.mpr hmsg
  have hfull : ∀ f, (s.modEng e f).uartFull e = false := fun f => by
    rw [uartFull, show (s.modEng e f).on (Pg.engine e) R.ENG_CFG_RAW_RX_EN = false from hraw, Bool.false_and, Bool.false_and]
  have hgoes : ∀ f, (s.modEng e f).mon e 1 R.UART_FRAME_DELIM_EN = false := fun _ => hdelim
  have hmax : ∀ f, (s.modEng e f).uartMax e = s.uartMax e := fun _ => rfl
  have haddressed : (s.modEng e fun g => { g with msg := g.msg ++ [BitVec.ofNat 8 ch], addressed := (s.eng e).addressed }) =
      s.modEng e fun g => { g with msg := g.msg ++ [BitVec.ofNat 8 ch] } := s.modEng_congr e rfl
  simp [uartChar, hnine, hfull, hfirst, modEng_modEng, hgoes, hmax, Nat.not_le.mpr hroom, b2n, haddressed]

/-- The end of a message that the engine sent itself is a raw record, whatever the slots (R288, R290). -/
theorem uartEnd_own {e : Nat} (hmsg : (s.eng e).msg ≠ []) (hown : (s.eng e).msgOwn = true) :
    s.uartEnd e 0 =
      ((s.engCount e R.CNT_RX_MSG).modEng e fun g =>
        { g with msg := [], msgFlags := 0, msgAt := none, msgOwn := false, lost := false }).rawRecord e
          (Nat.lor (s.eng e).msgFlags (if (s.eng e).lost then 8 else 0)) 0 ((s.eng e).msgAt.getD 0) (s.eng e).msg := by
  simp [uartEnd, hmsg, hown]

/-- Nothing ends where no message has begun. -/
theorem uartEnd_none {e : Nat} (flags : Nat) (hmsg : (s.eng e).msg = []) (hat : (s.eng e).msgAt = none) :
    s.uartEnd e flags = s := if_pos (by simp [hmsg, hat])

theorem uartBreak_idle {e : Nat} (hmsg : (s.eng e).msg = []) (hat : (s.eng e).msgAt = none) :
    s.uartBreak e = (s.modeCount e 1 R.UART_CNT2_BREAKS).event (Pg.engine e) E.ENG_BREAK_RX :=
  have heng : ((s.modeCount e 1 R.UART_CNT2_BREAKS).engEvent e E.ENG_BREAK_RX).eng e = s.eng e := s.eng_modeCount e e 1 _
  uartEnd_none _ 4 (by rw [heng, hmsg]) (by rw [heng, hat])

/-- A raw record leaves while CTS does not hold it back. -/
theorem uartSend_raw {e k : Nat} {d : List Byte} (hwork : (s.eng e).work = some (.raw k d))
    (hcts : s.mon e 1 R.UART_CFG_RTS_CTS = false ∨ (s.eng e).cts = true) :
    s.uartSend e = ((s.emit (.bytes (Pg.engine e) 0 d)).engCount e R.CNT_TX_MSG).workDone e := by
  have hgoes : (s.mon e 1 R.UART_CFG_RTS_CTS && !(s.eng e).cts) = false := by rcases hcts with h | h <;> simp [h]
  simp [uartSend, hwork, hgoes]

theorem engCommand_sendBreak (e : Nat) :
    s.engCommand e 16 none = s.inMode e 1 fun t => t.modEng e fun g => { g with breakAsked := true } := rfl

/-! ### SPI (R291 to R293) -/

section Ports

variable {s} {e : EngineId}

theorem SameBindings.spiOut {t : State} (h : SameBindings e s t) (cs : Nat) (d : List Byte) :
    SameBindings e s (t.spiOut e cs d) :=
  (((h.of_regs (u := t.emit (.bytes (Pg.engine e) (16 + cs) d)) rfl).modeCountN 2 1 (f := R.SPIC_CNT) (by decide)).engCount
    (f := R.CNT_TX_MSG) (by decide) (by decide) (by decide)).of_regs rfl

/-- A poll slot of a controller sends its command and takes its sample. -/
theorem spiTransaction_poll {b i : Nat} (data : List Byte) (at_ : Nat) (hwork : (s.eng e).work = some (.poll b))
    (hentry : s.pubEntry e b = some i) :
    s.spiTransaction e data at_ =
      (s.spiOut e (s.slotB e b % 4) (s.spiCommand e b true ++ List.replicate (s.lenOf i) 0)).sourceUpdate i
        (bytesAt data 0 (s.lenOf i)) true (s.engStamp e at_) := by
  have hsame := (SameBindings.refl s e).spiOut (s.slotB e b % 4) (s.spiCommand e b true ++ List.replicate (s.lenOf i) 0)
  simp only [spiTransaction, hwork, hentry]
  exact engPublish_entry _ _ ((hsame.pubEntry b).trans hentry)

theorem SameBindings.rxMsg {t : State} (h : SameBindings e s t) : SameBindings e s (t.engCount e R.CNT_RX_MSG) :=
  h.engCount (by decide) (by decide) (by decide)

theorem SameBindings.spiSlot {t : State} (h : SameBindings e s t) (cmd : Nat) : t.spiSlot e cmd = s.spiSlot e cmd :=
  List.find?_congr fun n hn => by rw [h.slotOn, h.slotW (List.mem_range.mp hn) (by decide)]

/-- The bytes behind the command byte of a publish slot are its sample. -/
theorem spiTarget_publish {cmd : Byte} {body : List Byte} {b i : Nat} (at_ : Nat) (hslot : s.spiSlot e cmd.toNat = some b)
    (hentry : s.pubEntry e b = some i) (hlen : body.length = s.lenOf i) :
    s.spiTarget e (cmd :: body) at_ =
      (s.engCount e R.CNT_RX_MSG).sourceUpdate i body true (s.engStamp e at_) := by
  have hsame := (SameBindings.refl s e).rxMsg
  have hentry' : (s.engCount e R.CNT_RX_MSG).pubEntry e b = some i := (hsame.pubEntry b).trans hentry
  simp only [spiTarget, hsame.spiSlot, hslot, hentry', hsame.lenOf hentry, hlen, if_true]
  rw [engPublish_entry _ _ hentry', hsame.engStamp]

/-- A command byte that no slot has is counted and answered with the filler. -/
theorem spiTarget_unmatched {cmd : Byte} (body : List Byte) (at_ : Nat) (hslot : s.spiSlot e cmd.toNat = none) :
    s.spiTarget e (cmd :: body) at_ =
      (((s.engCount e R.CNT_RX_MSG).modeCount e 3 R.SPIT_CNT_UNMATCHED).emit (.bytes (Pg.engine e) 4
        (List.replicate body.length (BitVec.ofNat 8 (s.mget e 3 R.SPIT_CFG_FILL))))).rawRecord e 0 0 at_ (cmd :: body) := by
  have hfill : (s.engCount e R.CNT_RX_MSG).mget e 3 R.SPIT_CFG_FILL = s.mget e 3 R.SPIT_CFG_FILL :=
    s.mget_engCount e 3 (by decide) (by decide)
  simp only [spiTarget, ((SameBindings.refl s e).rxMsg).spiSlot, hslot, hfill]

/-! ### I²C and SMBus (R294 to R298) -/

/-- What a finished transaction of a controller leaves: its bytes on the wire, its count, no work. -/
def i2cSent (e : Nat) (d : List Byte) (t : State) : State :=
  ((t.emit (.bytes (Pg.engine e) 3 d)).engCount e R.CNT_TX_MSG).workDone e

/-- Arbitrations lost within the limit are counted, and the transaction ends as it does on the bus. -/
theorem i2cEnd_ok {e losses : Nat} (h : losses ≤ s.mget e 4 R.I2C_CFG_ARB_RETRY) :
    s.i2cEnd e losses .ok = (s.engCountN e (Pg.mode e 4) R.I2C_CNT_ARBITRATION losses, true, 0) := by
  have hmin : Nat.min losses (s.mget e 4 R.I2C_CFG_ARB_RETRY + 1) = losses := Nat.min_eq_left (by omega)
  simp only [i2cEnd, hmin, Nat.not_lt.mpr h, if_false]

theorem i2cEnd_nak {e losses : Nat} (h : losses ≤ s.mget e 4 R.I2C_CFG_ARB_RETRY) :
    s.i2cEnd e losses .nak =
      ((s.engCountN e (Pg.mode e 4) R.I2C_CNT_ARBITRATION losses).protoErr e 4 R.I2C_CNT_NAKS, false, 1) := by
  have hmin : Nat.min losses (s.mget e 4 R.I2C_CFG_ARB_RETRY + 1) = losses := Nat.min_eq_left (by omega)
  simp only [i2cEnd, hmin, Nat.not_lt.mpr h, if_false]

theorem i2cTransaction_pollOk {b i losses : Nat} (data : List Byte) (at_ : Nat)
    (hwork : (s.eng e).work = some (.poll b)) (hentry : s.pubEntry e b = some i)
    (hlosses : losses ≤ s.mget e 4 R.I2C_CFG_ARB_RETRY) :
    s.i2cTransaction e losses .ok data at_ =
      (i2cSent e (s.i2cHead e b) (s.engCountN e (Pg.mode e 4) R.I2C_CNT_ARBITRATION losses)).sourceUpdate i
        (bytesAt data 0 (s.lenOf i)) true (s.engStamp e at_) := by
  have hsame : SameBindings e s (i2cSent e (s.i2cHead e b) (s.engCountN e (Pg.mode e 4) R.I2C_CNT_ARBITRATION losses)) :=
    (((((SameBindings.refl s e).modeCountN 4 losses (f := R.I2C_CNT_ARBITRATION) (by decide)).of_regs
      (u := (s.engCountN e (Pg.mode e 4) R.I2C_CNT_ARBITRATION losses).emit (.bytes (Pg.engine e) 3 (s.i2cHead e b)))
        rfl).engCount (f := R.CNT_TX_MSG) (by decide) (by decide) (by decide))).of_regs rfl
  simp only [i2cTransaction, hwork, hentry, i2cEnd_ok hlosses, if_true]
  exact engPublish_entry _ _ ((hsame.pubEntry b).trans hentry)

theorem i2cTransaction_pollNak {b i losses : Nat} (data : List Byte) (at_ : Nat)
    (hwork : (s.eng e).work = some (.poll b)) (hentry : s.pubEntry e b = some i)
    (hlosses : losses ≤ s.mget e 4 R.I2C_CFG_ARB_RETRY) :
    s.i2cTransaction e losses .nak data at_ =
      i2cSent e (s.i2cHead e b)
        ((s.engCountN e (Pg.mode e 4) R.I2C_CNT_ARBITRATION losses).protoErr e 4 R.I2C_CNT_NAKS) := by
  simp only [i2cTransaction, hwork, hentry, i2cEnd_nak hlosses, Bool.false_eq_true, if_false]
  rfl

theorem i2cGiveUp_poll {e b : Nat} (flags at_ : Nat) (hwork : (s.eng e).work = some (.poll b)) :
    s.i2cGiveUp e flags at_ = s.workDone e := by
  simp only [i2cGiveUp, hwork]

theorem stretchLimit_poll {e b : Nat} (at_ : Nat) (hwork : (s.eng e).work = some (.poll b)) :
    (if (s.eng e).work.isSome then (s.stretchHit e).i2cGiveUp e 4 at_ else s) = (s.stretchHit e).workDone e := by
  rw [if_pos (by rw [hwork]; rfl)]
  exact i2cGiveUp_poll 4 at_ (by rw [eng_stretchHit, hwork])

/-- BUS_RECOVER is a command bit of ENG_CMD, carried out alone. -/
theorem poke_busRecover (s : State) {a : Agent} (e : EngineId) (stuck : Bool)
    (h : s.writeCode a (Pg.engine e) R.ENG_CMD.off = .ok) :
    s.poke a (Pg.engine e) R.ENG_CMD.off (s.withField (Pg.engine e) R.ENG_CMD_BUS_RECOVER 1) (wrEngineWith e (some stuck)) =
      s.busRecover e stuck := by
  rw [s.withField_engCmd e (f := R.ENG_CMD_BUS_RECOVER) 1 rfl, s.poke_ports_ok _ _ (by unfold Pg.engine; omega) h]
  rfl

theorem busRecover_here {e : Nat} (stuck : Bool) (hup : s.engUp e = true) (hmode : s.engMode e = 4) :
    s.busRecover e stuck =
      if stuck then ((s.emit (.bytes (Pg.engine e) 7 [])).event (Pg.engine e) E.ENG_BUS_STUCK).raise (Pg.engine e) K.BUS_STUCK 0
      else s.emit (.bytes (Pg.engine e) 7 []) := by
  rw [busRecover, inMode_here _ hup hmode]
  rfl

/-- The slot that a write to a target's register has (R277). -/
def targetSlot (s : State) (e : Nat) (own : Bool) (reg : Nat) : Option Nat :=
  (List.range 32).find? fun n => s.slotOn e n && s.slotW e n 1 == b2n own +
    (if s.mon e 4 R.I2C_CFG_TGT_REG_BYTES then reg else reg % 256) * 256 && (s.pubEntry e n).isSome

/-- A write of a value to a publish slot is its sample. -/
theorem i2cTarget_publish {own : Bool} {reg b i : Nat} {data : List Byte} (pecOk : Bool) (at_ : Nat)
    (hown : own = false ∨ s.mon e 4 R.I2C_CFG_ADDR1_EN = true) (hslot : s.targetSlot e own reg = some b)
    (hentry : s.pubEntry e b = some i) (hsmbus : s.smbus e = false) (hlen : data.length = s.lenOf i) :
    s.i2cTarget e own reg true data pecOk at_ =
      (s.engCount e R.CNT_RX_MSG).sourceUpdate i data true (s.engStamp e at_) := by
  have hsame := (SameBindings.refl s e).rxMsg
  have hentry' : (s.engCount e R.CNT_RX_MSG).pubEntry e b = some i := (hsame.pubEntry b).trans hentry
  have haddr : (own && !s.mon e 4 R.I2C_CFG_ADDR1_EN) = false := by rcases hown with h | h <;> simp [h]
  have hsmbus' : (s.engCount e R.CNT_RX_MSG).smbus e = false := by
    rw [smbus, mon, on, get_engCount_page _ (mode_ne_engine e 4) (by decide) (by decide)]
    exact hsmbus
  have hhit : ((List.range 32).find? fun n => (s.engCount e R.CNT_RX_MSG).slotOn e n &&
      (s.engCount e R.CNT_RX_MSG).slotW e n 1 == b2n own +
        (if s.mon e 4 R.I2C_CFG_TGT_REG_BYTES then reg else reg % 256) * 256 &&
      ((s.engCount e R.CNT_RX_MSG).pubEntry e n).isSome) = some b :=
    (List.find?_congr fun n hn => by
      rw [hsame.slotOn, hsame.slotW (List.mem_range.mp hn) (by decide), hsame.pubEntry]).trans hslot
  simp only [i2cTarget, haddr, if_true, hhit, hentry', hsmbus', Bool.false_and, Bool.false_eq_true, if_false,
    hsame.lenOf hentry, hlen]
  rw [engPublish_entry _ _ hentry', hsame.engStamp]

end Ports

end Sys2Proof.Machine.State
end

section
/-! SUPPORT. Engines that are enabled and disabled (R185, R271), and the modes of lines (R299 to R301): an edge, a PWM period,
a transition and an index of an encoder. -/

namespace Sys2Proof.Machine.State

open Sys2Proof (Word Byte Agent EngineId)

variable (s : State)

/-! ### ENABLE (R271, R185) -/

/-- What a write of PAGE_CTRL leaves of an engine: the word with ENABLE as it came out, and the engine up or down by it. -/
def ctrlWritten (e : Nat) (t : State) (v : Word) : State :=
  (t.storeWrite (Pg.engine e) R.PAGE_CTRL.off (BitVec.ofNat 32 (bitsPut v.toNat 0 1 (b2n (t.engOn e))))).engineSync e

theorem wrEngine_enable {e : Nat} {v : Word} (hoff : s.engOn e = false) (hstop : s.blockStopped (Pg.engine e) = false)
    (hv : bitOf v.toNat 0 = true) : wrEngine e s R.PAGE_CTRL.off v = ctrlWritten e (s.engineEnable e) v := by
  simp [wrEngine, wrEngineWith, ctrlWritten, hoff, hstop, hv]

theorem wrEngine_disable {e : Nat} {v : Word} (hon : s.engOn e = true) (hv : bitOf v.toNat 0 = false) :
    wrEngine e s R.PAGE_CTRL.off v = ctrlWritten e (s.engineDisable e) v := by
  simp [wrEngine, wrEngineWith, ctrlWritten, hon, hv]

/-- A command that writes ENABLE writes it as bit 0. -/
theorem bitOf_withField_enable (p : Nat) (b : Bool) :
    bitOf (s.withField p R.PAGE_CTRL_ENABLE (b2n b)).toNat 0 = b := by
  have hbit : ∀ k, bitOf (BitVec.ofNat 32 (bitsPut k 0 1 (b2n b))).toNat 0 = b := fun k => by
    rw [BitVec.toNat_ofNat, bitOf, Nat.testBit_zero, bitsPut]
    cases b <;> simp [b2n] <;> omega
  exact hbit _

theorem engineEnable_refused {e : Nat} (h : s.enableReason e ≠ 0) :
    s.engineEnable e =
      (s.put (Pg.engine e) R.ENG_STATUS_REFUSE (s.enableReason e)).event (Pg.engine e) E.ENG_ENG_REFUSED := if_pos h

theorem engineEnable_accepted {e : Nat} (h : s.enableReason e = 0) :
    s.engineEnable e =
      ((((s.putKept (Pg.engine e) R.PAGE_CTRL_ENABLE 1).modEng e fun g =>
        { g with quiet := s.engMode e == 6, counts := [] }).bindEval e).engineSync e).pairSync e := if_neg (not_not.mpr h)

theorem core_digestStale (p off : Nat) (old new : Word) (active : Bool) :
    (s.digestStale p off old new active).core = s.core := by
  unfold digestStale
  split
  · rfl
  · cases active <;> rfl

/-- Which engines are down does not change by a write of a Kept word. -/
theorem engUp_putKept (p : Nat) (f : Fld) (v e : Nat) : (s.putKept p f v).engUp e = s.engUp e := by
  have hcore : (s.putKept p f v).core = s.core := by
    unfold putKept
    rcases s.wrKept_cases p f.off (BitVec.ofNat 32 (bitsPut (s.rd p f.off).toNat f.lo f.w v)) with h | h <;> rw [h]
    · rfl
    · obtain ⟨r, x, y, hj⟩ := (s.wr p f.off (BitVec.ofNat 32 (bitsPut (s.rd p f.off).toNat f.lo f.w v))).journal_eq
        (regKey p f.off) (BitVec.ofNat 32 (bitsPut (s.rd p f.off).toNat f.lo f.w v))
      rw [core_digestStale, hj]
      rfl
  rw [engUp, hcore, engUp]

/-- An engine that was up and goes down with ENABLE falls. -/
theorem engineDisable_falls {e : Nat} (hup : s.engUp e = true)
    (hdown : (s.putKept (Pg.engine e) R.PAGE_CTRL_ENABLE 0).engineDown e = true) :
    s.engineDisable e = ((s.putKept (Pg.engine e) R.PAGE_CTRL_ENABLE 0).engineFall e).pairSync e := by
  rw [engineDisable, engineSync]
  simp [engUp_putKept, hup, hdown]

/-! ### Slots that are not active -/

/-- A fold whose steps change nothing changes nothing. -/
theorem foldl_unchanged {α β : Type} {f : β → α → β} {t : β} (l : List α) (h : ∀ x ∈ l, f t x = t) : l.foldl f t = t := by
  induction l with
  | nil => rfl
  | cons x l ih =>
    rw [List.foldl_cons, h x (by simp)]
    exact ih fun y hy => h y (by simp [hy])

section Lines

variable {s} {e : EngineId}

/-! ### Discrete lines (R299) -/

/-- An edge of an assigned line without bindings changes its state and is counted. -/
theorem discreteEdge_unbound {line : Fin 4} {level : Bool} (at_ : Nat)
    (hedge : bitOf (s.get (Pg.mode e 7) R.DISC_STATE_FILTERED) line ≠ level)
    (hcell : (s.engCells e).any (·.2 == line.val) = true) (hslots : ∀ n < 32, s.slotOn e n = false) :
    s.discreteEdge e line level at_ =
      (s.put (Pg.mode e 7) R.DISC_STATE_FILTERED
        (bitsPut (s.get (Pg.mode e 7) R.DISC_STATE_FILTERED) line 1 (b2n level))).engCountN e (Pg.mode e 7)
          (R.DISC_EDGES line) 1 := by
  have hsame := ((SameBindings.refl s e).putMode 7 (f := R.DISC_STATE_FILTERED)
    (bitsPut (s.get (Pg.mode e 7) R.DISC_STATE_FILTERED) line 1 (b2n level)) (by decide)).modeCountN 7 1
      (f := R.DISC_EDGES line) (show 0x088 + 0x4 * line.val < _ by omega)
  unfold discreteEdge
  rw [if_neg (by simp [hedge, hcell])]
  refine foldl_unchanged _ fun n hn => if_pos ?_
  rw [hsame.slotOn, hslots n (List.mem_range.mp hn)]
  rfl

/-! ### PWM (R300) -/

theorem subValue_slotOff {e b : Nat} (h : s.slotOn e b = false) : s.subValue e b = none := by
  rw [subValue, subEntry, h]
  rfl

theorem regs_sinkTook (s : State) (i : Nat) : (s.sinkTook i).regs = s.regs := rfl

/-- A duty that came in time takes effect, where slot 0 alone is active. -/
theorem pwmStart_one {i late : Nat} {v : List Byte} (hvalue : s.subValue e 0 = some (i, v))
    (hslots : ∀ n < 32, n ≠ 0 → s.slotOn e n = false) (hlate : bitOf late (s.slotW e 0 1 % 4) = false) :
    s.pwmStart e late =
      (s.put (Pg.mode e 8) (R.PWM_DUTY (s.slotW e 0 1 % 4)) (Nat.min (leNat v) (s.pwmPeriod e))).sinkTook i := by
  have hsame : SameBindings e s
      ((s.put (Pg.mode e 8) (R.PWM_DUTY (s.slotW e 0 1 % 4)) (Nat.min (leNat v) (s.pwmPeriod e))).sinkTook i) :=
    ((SameBindings.refl s e).putMode 8 (f := R.PWM_DUTY (s.slotW e 0 1 % 4)) _
      (show 0x088 + 0x4 * (s.slotW e 0 1 % 4) < _ by omega)).of_regs (regs_sinkTook _ i)
  have hrange : List.range 32 = 0 :: (List.range 31).map Nat.succ := by rw [List.range_succ_eq_map]
  rw [pwmStart, hrange, List.foldl_cons]
  simp only [hvalue, hlate, Bool.false_eq_true, if_false]
  refine foldl_unchanged _ fun n hn => ?_
  obtain ⟨m, hm, rfl⟩ := List.mem_map.mp hn
  have hoff : s.slotOn e m.succ = false := hslots _ (by have := List.mem_range.mp hm; omega) (Nat.succ_ne_zero m)
  rw [subValue_slotOff ((hsame.slotOn _).trans hoff)]

/-! ### Encoders (R301) -/

theorem foldl_publish_unbound {t : State} (hsame : SameBindings e s t) (hslots : ∀ n < 32, s.slotOn e n = false)
    (which ts : Nat) (value : List Byte) :
    (List.range 32).foldl (fun t b => if t.slotW e b 1 = which then t.engPublish e b value ts else t) t = t := by
  refine foldl_unchanged _ fun n hn => ?_
  split
  · exact engPublish_slotOff _ _ ((hsame.slotOn n).trans (hslots n (List.mem_range.mp hn)))
  · rfl

/-- Without bindings a count moves and nothing is published. -/
theorem encMove_unbound {t : State} (hsame : SameBindings e s t) (hslots : ∀ n < 32, s.slotOn e n = false) (d : Int)
    (ts : Nat) :
    t.encMove e d ts =
      t.put (Pg.mode e 9) R.ENC_COUNT (ofSigned 32 ((t.get (Pg.mode e 9) R.ENC_COUNT : Int) + d)) := by
  unfold encMove
  exact foldl_publish_unbound (hsame.putMode 9 (f := R.ENC_COUNT) _ (by decide)) hslots 0 ts _

theorem ofSigned_up (n : Nat) : ofSigned 32 ((n : Int) + 1) = (n + 1) % 2 ^ 32 := by
  unfold ofSigned; omega

theorem ofSigned_down {n : Nat} (h : n < 2 ^ 32) : ofSigned 32 ((n : Int) + -1) = (n + 2 ^ 32 - 1) % 2 ^ 32 := by
  unfold ofSigned; omega

theorem get_lt (p : Nat) (f : Fld) : s.get p f < 2 ^ f.w := Nat.mod_lt _ (by positivity)

/-- The count goes up or down by one. -/
theorem encMove_one {t : State} (hsame : SameBindings e s t) (hslots : ∀ n < 32, s.slotOn e n = false) (up : Prop)
    [Decidable up] (ts : Nat) :
    t.encMove e (if up then 1 else -1) ts =
      t.put (Pg.mode e 9) R.ENC_COUNT
        (if up then (t.get (Pg.mode e 9) R.ENC_COUNT + 1) % 2 ^ 32
         else (t.get (Pg.mode e 9) R.ENC_COUNT + 2 ^ 32 - 1) % 2 ^ 32) := by
  rw [encMove_unbound hsame hslots]
  split
  · rw [ofSigned_up]
  · rw [ofSigned_down (get_lt _ R.ENC_COUNT)]

/-- The levels of A and B as the encoder holds them after a transition. -/
def encLevels (s : State) (e : Nat) (a b : Bool) : State := s.modEng e fun g => { g with encA := a, encB := b }

/-- Both levels at once are an illegal transition. -/
theorem encStep_both {e : Nat} {a b : Bool} (at_ : Nat) (ha : a ≠ (s.eng e).encA) (hb : b ≠ (s.eng e).encB) :
    s.encStep e a b at_ = (s.encLevels e a b).protoErr e 9 R.ENC_ERR := if_pos (by simp [ha, hb])

/-- At ×4 a transition of A counts up where A then differs from B. -/
theorem encStep_a {e : Nat} {a b : Bool} (at_ : Nat) (hres : s.mget e 9 R.ENC_CFG_RESOLUTION = 2)
    (hdir : s.mon e 9 R.ENC_CFG_INVERT_DIR = false) (ha : a ≠ (s.eng e).encA) (hb : b = (s.eng e).encB) :
    s.encStep e a b at_ = (s.encLevels e a b).encMove e (if a ≠ b then 1 else -1) (s.engStamp e at_) := by
  simp [encStep, encLevels, hres, hdir, ha, hb]

/-- At ×4 a transition of B counts up where B then equals A. -/
theorem encStep_b {e : Nat} {a b : Bool} (at_ : Nat) (hres : s.mget e 9 R.ENC_CFG_RESOLUTION = 2)
    (hdir : s.mon e 9 R.ENC_CFG_INVERT_DIR = false) (ha : a = (s.eng e).encA) (hb : b ≠ (s.eng e).encB) :
    s.encStep e a b at_ = (s.encLevels e a b).encMove e (if a = b then 1 else -1) (s.engStamp e at_) := by
  simp [encStep, encLevels, hres, hdir, ha, hb]

/-- In mode 2 an index stores the count and clears it. -/
theorem encIndex_clears (at_ : Nat) (hmode : s.get (Pg.mode e 9) R.ENC_CFG_INDEX_MODE = 2)
    (hslots : ∀ n < 32, s.slotOn e n = false) :
    s.encIndex e at_ =
      (s.put (Pg.mode e 9) R.ENC_INDEX_COUNT (s.get (Pg.mode e 9) R.ENC_COUNT)).put (Pg.mode e 9) R.ENC_COUNT 0 := by
  have hsame := (SameBindings.refl s e).putMode 9 (f := R.ENC_INDEX_COUNT) (s.get (Pg.mode e 9) R.ENC_COUNT) (by decide)
  have hkeep : (s.put (Pg.mode e 9) R.ENC_INDEX_COUNT (s.get (Pg.mode e 9) R.ENC_COUNT)).get (Pg.mode e 9) R.ENC_COUNT =
      s.get (Pg.mode e 9) R.ENC_COUNT := s.get_put_apart _ _ (by decide)
  have hzero : ∀ n : Nat, ofSigned 32 ((n : Int) + -n) = 0 := fun n => by rw [Int.add_right_neg]; rfl
  unfold encIndex
  simp only [hmode, or_true, if_true, foldl_publish_unbound hsame hslots]
  rw [encMove_unbound hsame hslots, hkeep, hzero]

/-- A preset of an encoder loads its count. -/
theorem wrEngine_preset {e : Nat} (v : Word) (hmode : s.engMode e = 9) :
    wrEngine e s R.ENC_PRESET.off v = s.wr (Pg.mode e 9) R.ENC_COUNT.off v := by
  simp [wrEngine, wrEngineWith, hmode, R.ENC_PRESET, R.PAGE_CTRL, R.ENG_CFG, R.ENG_CMD, R.TX_DATA, R.TX_COMMIT]

end Lines

end Sys2Proof.Machine.State
end

section
/-! The settling of the statements on the serial ports and the lines. -/

namespace Sys2Proof.Machine

open State (SameBindings)

/-- The end of a command to an engine that is up in the mode of the command. -/
theorem finishAll_inMode {s t : State} {e m : Nat} {f : State → State} (hup : s.engUp e = true) (hmode : s.engMode e = m)
    (h : f s = t) : finishAll (s.inMode e m f) = .next t.flushSinks.settle :=
  finishAll_of_eq ((State.inMode_here f hup hmode).trans h)

/-- Settles O38: each command at an engine that is up in its mode (`finishAll_inMode`) does what the lemma above says of it,
and the counters that it counts in leave the bindings as they are (`SameBindings.pubEntry`). How characters form a message,
and where it ends, is the model's reading of R288 to R290 (log entry 44). That a target takes a write of the entry's length
as its sample, that SMBUS_TIMEOUT ends the work in progress as the stretch limit does, and what BUS_RECOVER sends and reports
are the model's choice where R293 to R298 leave it open (log entry 47). -/
theorem serialPorts : Obligations.SerialPorts := by
  unfold Obligations.SerialPorts
  intro s a e ch reg losses at_ data x own pecOk stuck active p
  refine ⟨fun hup hmode => ⟨?_, fun hbits hraw hdelim hmsg hroom => ?_, fun hmsg hown hidle => ?_, fun hmsg hat => ?_,
      fun k d hwork hcts => ?_, fun hok => ?_⟩,
    fun hup hmode b i hwork hentry => ?_,
    fun hup hmode => ⟨fun b i hslot hentry hlen => ?_, fun hslot => ?_⟩,
    fun hup hmode => ⟨fun b i hwork hentry => ?_, fun b hwork => ⟨?_, fun hsmbus => ?_⟩, fun hsmbus hara => ?_,
      fun hok => ?_⟩,
    fun hup hmode => ⟨fun b hown hslot i hentry hsmbus hlen => ?_, fun b hstretch => ?_⟩⟩
  -- UART
  · exact finishAll_inMode hup hmode rfl
  · exact finishAll_inMode hup hmode (s.uartChar_joins hbits hraw hdelim hmsg hroom)
  · exact finishAll_inMode hup hmode ((if_neg hidle).trans (s.uartEnd_own hmsg hown))
  · exact finishAll_inMode hup hmode (s.uartBreak_idle hmsg hat)
  · exact finishAll_inMode hup hmode (s.uartSend_raw hwork hcts)
  · exact finishAll_of_eq ((s.engPoke_engCmd (f := R.ENG_CMD_SEND_BREAK) rfl hok).trans
      ((s.engCommand_sendBreak e).trans (State.inMode_here _ hup hmode)))
  -- SPI
  · exact finishAll_inMode hup hmode (State.spiTransaction_poll data _ hwork hentry)
  · exact finishAll_inMode hup hmode (State.spiTarget_publish _ hslot hentry hlen)
  · exact finishAll_inMode hup hmode (State.spiTarget_unmatched data _ hslot)
  -- I²C controller
  · intro u sent hlosses
    exact ⟨finishAll_inMode hup hmode (State.i2cTransaction_pollOk data _ hwork hentry hlosses),
      finishAll_inMode hup hmode (State.i2cTransaction_pollNak data _ hwork hentry hlosses)⟩
  · exact finishAll_inMode hup hmode (State.stretchLimit_poll _ hwork)
  · refine finishAll_of_eq ((if_neg ?_).trans ((if_neg ?_).trans
      ((State.inMode_here _ hup hmode).trans (State.i2cGiveUp_poll 4 _ hwork))))
    · simp [hsmbus]
    · rw [hmode]; decide
  · refine finishAll_of_eq ((if_pos ?_).trans ?_)
    · simp [hup, hmode, hsmbus]
    · rw [hmode, hara]; rfl
  · exact finishAll_of_eq ((s.poke_busRecover e stuck hok).trans (State.busRecover_here stuck hup hmode))
  -- I²C target
  · exact finishAll_inMode hup hmode (State.i2cTarget_publish pecOk _ hown hslot hentry hsmbus hlen)
  · exact finishAll_inMode hup hmode (if_pos (by rw [hstretch]; rfl))

/-- Settles O39: a write of ENABLE enables or disables by the bit (`wrEngine_enable`, `wrEngine_disable`); an edge, a period,
a transition and an index do what the lemma above says of them, where no slot but the named one is active
(`foldl_unchanged`). That every transition counts at ×4, and that ENC_PRESET loads the count and publishes nothing, is what
the model presumes (log entry 45). -/
theorem linePorts : Obligations.LinePorts := by
  unfold Obligations.LinePorts
  intro s a e line level at_ late ca cb v p
  have hengine : 0x080 ≤ p := Nat.le_trans (by decide) (Nat.le_add_right 0x100 _)
  refine ⟨fun hok => ?_, fun hup hmode hedge hcell hslots => ?_, fun i val hup hmode hvalue hslots hlate => ?_,
    fun hup hmode hslots => ?_, fun hmode hok => ?_⟩
  -- ENGINE_ENABLE, ENGINE_DISABLE
  · have henable : bitOf (s.withField p R.PAGE_CTRL_ENABLE 1).toNat 0 = true := s.bitOf_withField_enable p true
    have hdisable : bitOf (s.withField p R.PAGE_CTRL_ENABLE 0).toNat 0 = false := s.bitOf_withField_enable p false
    refine ⟨fun hoff hstop hreason => ?_, fun hoff hstop hreason => ?_, fun hon hup hdown => ?_⟩
    · exact finishAll_of_eq ((s.poke_ports_ok _ _ hengine hok).trans ((s.wrEngine_enable hoff hstop henable).trans
        (by rw [s.engineEnable_refused hreason]; rfl)))
    · exact finishAll_of_eq ((s.poke_ports_ok _ _ hengine hok).trans ((s.wrEngine_enable hoff hstop henable).trans
        (by rw [s.engineEnable_accepted hreason]; rfl)))
    · exact finishAll_of_eq ((s.poke_ports_ok _ _ hengine hok).trans ((s.wrEngine_disable hon hdisable).trans
        (by rw [s.engineDisable_falls hup hdown]; rfl)))
  -- DISCRETE_EDGE, PWM_PERIOD_START
  · exact finishAll_inMode hup hmode (State.discreteEdge_unbound _ hedge hcell hslots)
  · exact finishAll_inMode hup hmode (State.pwmStart_one hvalue hslots hlate)
  -- ENCODER_TRANSITION, ENCODER_INDEX
  · have hsame : SameBindings e s (s.encLevels e ca cb) := (SameBindings.refl s e).of_regs rfl
    intro t n
    exact ⟨fun ha hb => finishAll_inMode hup hmode (State.encStep_both _ ha hb),
      fun hres hdir =>
        ⟨fun ha hb => finishAll_inMode hup hmode
            ((State.encStep_a _ hres hdir ha hb).trans (State.encMove_one hsame hslots _ _)),
          fun ha hb => finishAll_inMode hup hmode
            ((State.encStep_b _ hres hdir ha hb).trans (State.encMove_one hsame hslots _ _))⟩,
      fun hindex => finishAll_inMode hup hmode (State.encIndex_clears _ hindex hslots)⟩
  -- ENC_PRESET
  · exact finishAll_of_eq ((s.poke_ports_ok _ _ hengine hok).trans (State.wrEngine_preset v hmode))

end Sys2Proof.Machine
end

section
/-! SUPPORT. The transmit side of CAN FD (R317 to R321, R333): what starts an attempt, what its end leaves, and the commands
of CAN_CMD. -/

namespace Sys2Proof.Machine

/-! ### Sparse tables -/

section Tables

variable {α : Type} {d : α} {j k : Nat}

theorem tabGet_tabInsert_ne (v : α) (l : List (Nat × α)) (h : k ≠ j) : tabGet d j (tabInsert k v l) = tabGet d j l := by
  induction l with
  | nil => simp [tabInsert, tabGet, h]
  | cons x t ih =>
    obtain ⟨i, w⟩ := x
    by_cases hi : i < k
    · simp [tabInsert, hi, tabGet, ih]
    · simp [tabInsert, hi, tabGet, h]

theorem tabGet_removed_ne (l : List (Nat × α)) (h : k ≠ j) : tabGet d j (l.filter fun e => e.1 != k) = tabGet d j l := by
  induction l with
  | nil => rfl
  | cons x t ih =>
    obtain ⟨i, w⟩ := x
    by_cases hi : i = k
    · subst hi
      simp [tabGet, h, ih]
    · simp [hi, tabGet, ih]

/-- A write of an entry leaves the other entries alone. -/
theorem tabGet_tabSet_ne [DecidableEq α] (v : α) (l : List (Nat × α)) (h : k ≠ j) :
    tabGet d j (tabSet d k v l) = tabGet d j l := by
  unfold tabSet
  dsimp only
  split
  · exact tabGet_removed_ne l h
  · exact (tabGet_tabInsert_ne v _ h).trans (tabGet_removed_ne l h)

end Tables

namespace State

open Sys2Proof (Word Byte Agent EngineId)

variable (s : State) {e : Nat}

/-! ### An engine's data -/

theorem eng_modEng_ne {j : Nat} (f : Eng → Eng) (h : e ≠ j) : (s.modEng e f).eng j = s.eng j := tabGet_tabSet_ne _ _ h

/-- A change of an engine's data that keeps SWAP keeps it for every engine. -/
theorem swap_modEng (j : Nat) {f : Eng → Eng} (hf : ∀ g, (f g).swap = g.swap) :
    ((s.modEng e f).eng j).swap = (s.eng j).swap := by
  by_cases h : e = j
  · subst h
    rw [eng_modEng_same, hf]
  · rw [s.eng_modEng_ne f h]

theorem eventFault_engs (p n kind addr : Nat) : (s.eventFault p n kind addr).engs = s.engs := by
  obtain ⟨r, x, h⟩ := s.eventFault_eq p n kind addr
  rw [h]

/-- The error counters, and the state that follows them, are registers. -/
theorem canState_engs (tec rec : Nat) : (s.canState e tec rec).engs = s.engs := by
  have hwarned : ∀ c : Bool, (((s.putB (canPg e) R.CAN_ERR_RP (127 < s.get (canPg e) R.CAN_ERR_REC)).when c fun t =>
      (t.setF (canPg e) R.CAN_STATUS_ERR_WARN).engEvent e E.ENG_ERR_WARN)).engs = s.engs := fun c => by
    rcases when_cases _ c _ with hw | hw <;> rw [hw]
    · rw [engEvent, event_engs, setF_engs, putB_engs]
    · rw [putB_engs]
  unfold canState
  dsimp only
  split
  · rw [eventFault_engs, put_engs, hwarned]
  · split
    · rw [put_engs, hwarned]
    · exact hwarned _

@[simp] theorem eng_canCounters (tec rec j : Nat) : (s.canCounters e tec rec).eng j = s.eng j := by
  rw [eng, canCounters, canState_engs, put_engs, put_engs, eng]

/-- What leaves the hub is not of an engine's data. -/
theorem eng_emit (o : Output) (j : Nat) : (s.emit o).eng j = s.eng j := by
  rw [eng, emit_engs, eng]

/-! ### Engines outside a pair -/

section Transmit

variable {s}

theorem canRole_unpaired (h : s.canPaired e = false) : s.canRole e = 0 := if_neg (by simp [h])

theorem slotHome_unpaired (h : s.canPaired e = false) : s.slotHome e = e := if_neg (by simp [h])

/-! ### Starting an attempt (R317, R318) -/

theorem takeNext_none (h : s.core.queued = []) : s.takeNext e = none := by
  simp [takeNext, h, bestOf]

/-- With its queues empty an engine takes nothing. -/
theorem rawTakeAll_none (h : s.core.queued = []) : s.rawTakeAll e = s := by
  simp [rawTakeAll, rawTake, takeNext_none h]

variable {c : CanTry}

/-- The raw buffer that wins is attempted. -/
theorem canAttempt_raw (hqueue : s.core.queued = []) (hmay : s.canMayStart e = true)
    (hwins : canWinner (s.canSet e) = some c) (hraw : c.cand = 32) :
    s.canAttempt e = s.modEng e fun g => { g with attempt := some c } := by
  rw [canAttempt, if_pos hmay]
  simp only [rawTakeAll_none hqueue, hwins, hraw, Nat.lt_irrefl, if_false]
  split <;> rfl

/-- A binding that wins is attempted, with its value taken from the mirror. -/
theorem canAttempt_binding {i : Nat} (hpair : s.canPaired e = false) (hqueue : s.core.queued = [])
    (hmay : s.canMayStart e = true) (hwins : canWinner (s.canSet e) = some c) (hcand : c.cand < 32)
    (hentry : s.subEntry e c.cand = some i) :
    s.canAttempt e = (s.modEng e fun g => { g with attempt := some c }).sinkTook i := by
  rw [canAttempt, if_pos hmay]
  simp only [rawTakeAll_none hqueue, hwins, slotHome_unpaired hpair, hentry, hcand, if_true]

/-! ### The end of an attempt (R319, R320, R333) -/

/-- Where neither an abort nor a swap waits for it, the end of an attempt is only its end. -/
theorem attemptOver_idle (habort : (s.eng e).abort = false) (hswap : (s.eng (e / 2 * 2)).swap = false) :
    s.attemptOver e = s.modEng e fun g => { g with attempt := none } := by
  have hstays : (s.modEng e fun g => { g with attempt := none }).canAbort e =
      s.modEng e fun g => { g with attempt := none } := if_neg (by simp [habort])
  have hkept : ((s.modEng e fun g => { g with attempt := none }).eng (e / 2 * 2)).swap = false :=
    (s.swap_modEng _ (f := fun g => { g with attempt := none }) fun _ => rfl).trans hswap
  simp only [attemptOver, hstays, hkept, Bool.false_eq_true, if_false]

/-- An attempt that ends after a change of the engine's data that keeps the requests waiting for it. -/
theorem attemptOver_modEng {f : Eng → Eng} (hf : ∀ g, (f g).abort = g.abort ∧ (f g).swap = g.swap)
    (habort : (s.eng e).abort = false) (hswap : (s.eng (e / 2 * 2)).swap = false) :
    (s.modEng e f).attemptOver e = s.modEng e fun g => { f g with attempt := none } := by
  rw [attemptOver_idle (by rw [eng_modEng_same, (hf _).1, habort]) (by rw [s.swap_modEng _ fun g => (hf g).2, hswap]),
    modEng_modEng]

/-- An end that is no bit error in the data field ends the run of such errors. -/
theorem canCollision_ends (s : State) (e : Nat) (c : CanTry) :
    s.canCollision e c false = s.modEng e fun g => { g with runs := file c.cand 0 g.runs } := rfl

/-- What waits for the end of an attempt of an engine: neither an abort nor the swap of its pair. -/
structure NoneWaits (s : State) (e : Nat) : Prop where
  abort : (s.eng e).abort = false
  swap : (s.eng (e / 2 * 2)).swap = false

theorem NoneWaits.of_engs {t : State} (h : s.NoneWaits e) (ht : ∀ j, t.eng j = s.eng j) : t.NoneWaits e :=
  ⟨by rw [ht, h.abort], by rw [ht, h.swap]⟩

/-- The frame of a binding leaves, is counted, lowers TEC and takes the binding out of the transmit set. -/
theorem canSent_binding {tdcv at_ : Nat} (htry : (s.eng e).attempt = some c) (hwaits : s.NoneWaits e)
    (hmode : s.mget e 6 R.CAN_CFG_OPMODE = 0) (hcand : c.cand < 32) (hnew : c.renewed = false)
    (htdc : s.mon e 6 R.CAN_CFG_TDC_EN = false) :
    s.canSent e tdcv at_ =
      ((((s.modeCount e 6 R.CNT_CAN_TX).engCount e R.CNT_TX_MSG).emit
        (.bytes (Pg.engine e) 6 (canRecord c.head c.ctl c.data))).canCounters e (s.get (canPg e) R.CAN_ERR_TEC - 1)
          (s.get (canPg e) R.CAN_ERR_REC)).modEng e fun g =>
        { g with runs := file c.cand 0 g.runs, pend := g.pend.filter (· != c.cand), attempt := none } := by
  have hbinding : (c.cand == 32) = false := beq_false_of_ne hcand.ne
  have heng : ∀ j, (((s.modeCount e 6 R.CNT_CAN_TX).engCount e R.CNT_TX_MSG).emit
      (.bytes (Pg.engine e) 6 (canRecord c.head c.ctl c.data))).eng j = s.eng j := fun j => by
    rw [eng_emit, engCount, eng_engCountN, eng_modeCount]
  have hwaits' := hwaits.of_engs fun j => (eng_canCounters (e := e) _ (s.get (canPg e) R.CAN_ERR_TEC - 1)
    (s.get (canPg e) R.CAN_ERR_REC) j).trans (heng j)
  rw [canSent, htry]
  dsimp only
  rw [hmode, if_neg (by decide), htdc, Bool.and_false, when_false, hbinding, Bool.false_and, when_false, if_neg (by decide)]
  refine (attemptOver_modEng ?_ hwaits'.abort hwaits'.swap).trans (congrArg (modEng _ e) (funext fun g => ?_))
  · exact fun _ => ⟨rfl, rfl⟩
  · simp [hcand, hcand.ne, hnew]

/-- A lost arbitration is counted, and the attempt is over. -/
theorem canFailed_arbitration (htry : (s.eng e).attempt = some c) (hwaits : s.NoneWaits e) :
    s.canFailed e .arbitration =
      (s.modeCount e 6 R.CNT_CAN_EVT_ARBITRATION).modEng e fun g =>
        { g with runs := file c.cand 0 g.runs, attempt := none } := by
  have hwaits' := hwaits.of_engs fun j => s.eng_modeCount e j 6 R.CNT_CAN_EVT_ARBITRATION
  simp only [canFailed, htry, canCollision_ends]
  exact attemptOver_modEng (fun _ => ⟨rfl, rfl⟩) hwaits'.abort hwaits'.swap

/-- A bus error of a transmitter in the arbitration phase sets LEC, is counted and adds 8 to TEC. -/
theorem canFailed_error (code : Fin 7) (htry : (s.eng e).attempt = some c) (hwaits : s.NoneWaits e)
    (htec : s.get (canPg e) R.CAN_ERR_TEC + 8 ≤ 255) :
    s.canFailed e (.error code false false false false) =
      (((s.put (canPg e) R.CAN_STATUS_LEC code).modeCount e 6 R.CNT_CAN_ERR_TRANSMIT).modEng e fun g =>
        { g with runs := file c.cand 0 g.runs, attempt := none }).canCounters e (s.get (canPg e) R.CAN_ERR_TEC + 8)
          (s.get (canPg e) R.CAN_ERR_REC) := by
  have hwaits' := hwaits.of_engs (t := (s.put (canPg e) R.CAN_STATUS_LEC code).modeCount e 6 R.CNT_CAN_ERR_TRANSMIT)
    fun j => by rw [eng_modeCount, eng, put_engs, eng]
  have hover := attemptOver_modEng (f := fun g => { g with runs := file c.cand 0 g.runs }) (fun _ => ⟨rfl, rfl⟩)
    hwaits'.abort hwaits'.swap
  rw [canFailed, htry]
  dsimp only
  rw [when_false, canLast, canCollision_ends, if_neg Bool.false_ne_true, if_neg Bool.false_ne_true, hover,
    if_neg (Nat.not_lt.mpr htec)]

/-! ### Commands of CAN_CMD (R321, R331, R337) -/

/-- CAN_CMD holds nothing: a command of one of its bits writes this bit alone. -/
theorem withField_canCmd (e : EngineId) {f : Fld} (x : Nat) (hoff : f.off = R.CAN_CMD.off) (hmode : s.engMode e = 6) :
    s.withField (Pg.engine e) f x = BitVec.ofNat 32 (bitsPut 0 f.lo f.w x) := by
  have hpage : isEngine (Pg.engine e) = true := by
    have hrange : 0x100 ≤ Pg.engine e ∧ Pg.engine e ≤ 0x17F := by unfold Pg.engine; omega
    simp [isEngine, hrange]
  have hrow : s.descOf (Pg.engine e) f.off = some { off := 0x098, wo := 0x7 } := by
    rw [descOf, hoff, if_pos ⟨hpage, by decide⟩, show s.get (Pg.engine e) R.ENG_CFG_MODE = 6 from hmode]
    decide
  rw [withField, hrow]
  exact congrArg (fun n => BitVec.ofNat 32 (bitsPut n f.lo f.w x)) (Nat.and_zero _)

theorem wrEngine_canCmd (v : Word) (hmode : s.engMode e = 6) : wrEngine e s R.CAN_CMD.off v = s.canCommand e v.toNat := by
  simp [wrEngine, wrEngineWith, hmode, R.CAN_CMD, R.PAGE_CTRL, R.ENG_CFG, R.ENG_CMD, R.TX_DATA, R.TX_COMMIT]

/-- A command bit of CAN_CMD is carried out alone. -/
theorem engPoke_canCmd {a : Agent} {e : EngineId} {f : Fld} (hoff : f.off = R.CAN_CMD.off) (hmode : s.engMode e = 6)
    (h : s.writeCode a (Pg.engine e) R.CAN_CMD.off = .ok) :
    s.engPoke a e f = s.canCommand e (BitVec.ofNat 32 (bitsPut 0 f.lo f.w 1)).toNat := by
  rw [engPoke, withField_canCmd e 1 hoff hmode, hoff, s.poke_ports_ok _ _ (by unfold Pg.engine; omega) h,
    wrEngine_canCmd _ hmode]

/-- ABORT_TX is asked for: the raw buffer empties at once, or at the end of the attempt in progress. -/
theorem canCommand_abort (hraw : (s.eng e).raw.isSome = true) :
    s.canCommand e 4 =
      if (s.eng e).attempt.isSome then s.modEng e fun g => { g with abort := true }
      else (s.modEng e fun g => { g with abort := true }).canAbort e := by
  have hrestart : bitOf 4 0 = false := by decide
  have hswap : bitOf 4 1 = false := by decide
  have habort : bitOf 4 2 = true := by decide
  unfold canCommand
  dsimp only
  rw [hrestart, Bool.false_and, when_false, hswap, Bool.false_and, when_false, habort, Bool.true_and, when_of_true _ _ hraw]

/-- A raw buffer whose abort is asked for is emptied. -/
theorem canAbort_raw (hraw : (s.eng e).raw.isSome = true) :
    (s.modEng e fun g => { g with abort := true }).canAbort e =
      ((s.modEng e fun g => { g with abort := false, raw := none }).modeCount e 6
        R.CNT_CAN_LEN_FRAMES).event (Pg.engine e) E.ENG_TX_ABORTED := by
  simp only [canAbort, eng_modEng_same, hraw, if_true, modEng_modEng]
  rfl

end Transmit

end State

end Sys2Proof.Machine
end

section
/-! The settling of the statement on transmission over CAN FD. -/

namespace Sys2Proof.Machine

/-- Settles O40: an engine outside a pair uses its own slots (`slotHome_unpaired`) and has nothing to take from empty queues
(`rawTakeAll_none`), so an attempt carries the winner; where no abort and no swap waits (`NoneWaits`), the end of the attempt
leaves the counters and the transmit set as the lemmas above say; a command bit of CAN_CMD is carried out alone
(`engPoke_canCmd`). -/
theorem canTransmit : Obligations.CanTransmit := by
  unfold Obligations.CanTransmit
  intro s a e c tdcv at_ slot p m hup hmode hpair
  refine ⟨fun hqueue hmay hwins hraw => ?_, fun i hqueue hmay hwins hcand hentry => ?_, fun htry habort hswap => ?_,
    fun hentry hcycle hopmode hnew => ?_, fun hok hraw => ⟨fun htry => ?_, fun htry => ?_⟩⟩
  -- CAN_TX_ATTEMPT
  · exact finishAll_of_eq (State.canAttempt_raw hqueue hmay hwins hraw)
  · exact finishAll_of_eq (State.canAttempt_binding hpair hqueue hmay hwins hcand hentry)
  -- CAN_FRAME_SENT, CAN_ATTEMPT_FAILED
  · have hwaits : s.NoneWaits e := ⟨habort, hswap⟩
    exact ⟨fun hopmode hcand hnew htdc =>
        finishAll_inMode hup hmode (State.canSent_binding htry hwaits hopmode hcand hnew htdc),
      finishAll_inMode hup hmode (State.canFailed_arbitration htry hwaits),
      fun code htec => finishAll_inMode hup hmode (State.canFailed_error code htry hwaits htec)⟩
  -- CAN_CYCLE_TIMER
  · refine finishAll_of_eq ?_
    simp only [State.canRole_unpaired hpair, or_true, if_true, State.slotHome_unpaired hpair]
    rw [if_pos ⟨hmode, hentry, hcycle, hopmode⟩]
    exact s.modEng_congr e (by simp [hnew])
  -- ABORT_TX
  · exact finishAll_of_eq ((State.engPoke_canCmd (f := R.CAN_CMD_ABORT_TX) rfl hmode hok).trans
      ((State.canCommand_abort hraw).trans ((if_neg (by simp [htry])).trans (State.canAbort_raw hraw))))
  · exact finishAll_of_eq ((State.engPoke_canCmd (f := R.CAN_CMD_ABORT_TX) rfl hmode hok).trans
      ((State.canCommand_abort hraw).trans (if_pos htry)))

end Sys2Proof.Machine
end

section
/-! SUPPORT. The receive side of CAN FD (R310, R325, R326, R329), what CAN_CMD, CAN_STATUS and the end of integration do
(R331, R337, R340), and failover (R336). -/

namespace Sys2Proof.Machine

/-! ### Header words (R328) -/

theorem decide_b2n (b : Bool) : decide (b2n b = 1) = b := by cases b <;> rfl

/-- A header word holds the identifier, IDE, RTR and FDF. -/
theorem canHead_fields (ident : BitVec 29) (ide rtr fdf : Bool) :
    canHead ident.toNat ide rtr fdf % 2 ^ 29 = ident.toNat ∧ bitOf (canHead ident.toNat ide rtr fdf) 29 = ide ∧
      bitOf (canHead ident.toNat ide rtr fdf) 31 = fdf := by
  have hident := ident.isLt
  simp only [canHead, bitOf, Nat.testBit_eq_decide_div_mod_eq]
  have hide := b2n_le ide
  have hrtr := b2n_le rtr
  have hfdf := b2n_le fdf
  exact ⟨by omega, (decide_eq_decide.mpr (by omega)).trans (decide_b2n ide),
    (decide_eq_decide.mpr (by omega)).trans (decide_b2n fdf)⟩

/-- The control byte holds DLC, BRS and ESI. -/
theorem canCtl_fields (dlc : BitVec 4) (brs esi : Bool) :
    (dlc.toNat + b2n brs * 16 + b2n esi * 32) % 16 = dlc.toNat ∧
      bitOf (dlc.toNat + b2n brs * 16 + b2n esi * 32) 5 = esi := by
  have hdlc := dlc.isLt
  simp only [bitOf, Nat.testBit_eq_decide_div_mod_eq]
  have hbrs := b2n_le brs
  have hesi := b2n_le esi
  exact ⟨by omega, (decide_eq_decide.mpr (by omega)).trans (decide_b2n esi)⟩

namespace State

open Sys2Proof (Word Byte Agent EngineId CanRx)

variable {s : State} {e : EngineId}

/-! ### Receiving (R325, R326) -/

/-- What a received frame counts. -/
def canCounted (s : State) (e : Nat) : State := (s.modeCount e 6 R.CNT_CAN_RX).engCount e R.CNT_RX_MSG

theorem eng_canCounted (e j : Nat) : (s.canCounted e).eng j = s.eng j :=
  (eng_engCountN _ e j _ _ 1).trans (s.eng_modeCount e j 6 _)

theorem SameBindings.canCounted : SameBindings e s (s.canCounted e) :=
  ((SameBindings.refl s e).modeCountN 6 1 (f := R.CNT_CAN_RX) (by decide)).rxMsg

/-- A good classical frame is taken with the bytes of its DLC. -/
theorem canReceive_classic {head ctl : Nat} (data : List Byte) (at_ : Nat) (hfdf : bitOf head 31 = false) :
    s.canReceive e .good head ctl data at_ = s.canGood e head ctl (bytesAt data 0 (dlcLen false (ctl % 16))) at_ := by
  simp [canReceive, hfdf]

/-- The slots of the engine that a frame matches. -/
def canHits (s : State) (e head : Nat) : List Nat :=
  (List.range 32).filter fun b => s.canMatches e b (head % 2 ^ 29) (bitOf head 29) (bitOf head 31)

theorem canMatches_slotOff {b ident : Nat} {ide fdf : Bool} (h : s.slotOn e b = false) :
    s.canMatches e b ident ide fdf = false := by
  simp [canMatches, pubEntry, h]

/-- Outside a pair and with REC at 0, a frame that no slot takes becomes a raw record. -/
theorem canGood_eq {head ctl : Nat} (data : List Byte) (at_ : Nat) (hpair : s.canPaired e = false)
    (hrec : s.get (canPg e) R.CAN_ERR_REC = 0) :
    s.canGood e head ctl data at_ =
      let t := (s.canHits e head).foldl (fun t b => t.canTake e e b data (s.engStamp e at_)) (s.canCounted e)
      if (s.canHits e head).any fun b => s.canTakes e b data then t
      else t.rawRecord e (b2n (bitOf ctl 5)) 0 at_ (canRecord head ctl data) := by
  have hnone : ¬0 = 2 := by decide
  unfold canGood
  dsimp only
  rw [hrec, if_pos rfl, canRole_unpaired hpair, if_neg hnone, if_neg hnone, Nat.add_zero, slotHome_unpaired hpair]
  rfl

/-- A frame that meets no active slot is a raw record. -/
theorem canGood_unbound {head ctl : Nat} (data : List Byte) (at_ : Nat) (hpair : s.canPaired e = false)
    (hrec : s.get (canPg e) R.CAN_ERR_REC = 0) (hslots : ∀ n < 32, s.slotOn e n = false) :
    s.canGood e head ctl data at_ =
      (s.canCounted e).rawRecord e (b2n (bitOf ctl 5)) 0 at_ (canRecord head ctl data) := by
  have hhits : s.canHits e head = [] := List.filter_eq_nil_iff.mpr fun n hn => by
    simp [canMatches_slotOff (hslots n (List.mem_range.mp hn))]
  simp only [canGood_eq data at_ hpair hrec, hhits, List.foldl_nil, List.any_nil, Bool.false_eq_true, if_false]

/-- A slot that takes the value of its entry out of the frame as it stands. -/
structure CanTaking (s : State) (e b i : Nat) (data : List Byte) : Prop where
  entry : s.pubEntry e b = some i
  kind : s.slotKind e b = 1
  order : bitOf (s.slotA e b) 5 = false
  fits : s.slotVpos e b + s.lenOf i ≤ data.length

theorem CanTaking.takes {b i : Nat} {data : List Byte} (h : s.CanTaking e b i data) : s.canTakes e b data = true := by
  simp [canTakes, h.entry, h.fits]

/-- Its sample is the bytes from VPOS on. -/
theorem CanTaking.canTake {t : State} {b i : Nat} {data : List Byte} (h : s.CanTaking e b i data)
    (hsame : SameBindings e s t) (hb : b < 32) (ts : Nat) :
    t.canTake e e b data ts = t.sourceUpdate i (bytesAt data (s.slotVpos e b) (s.lenOf i)) true ts := by
  have hentry : t.pubEntry e b = some i := (hsame.pubEntry b).trans h.entry
  have hkind : t.slotKind e b = 1 := by rw [slotKind, hsame.slotW hb (by decide), ← slotKind, h.kind]
  have hvpos : t.slotVpos e b = s.slotVpos e b := by rw [slotVpos, hsame.slotW hb (by decide), slotVpos]
  have horder : bitOf (t.slotA e b) 5 = false := by rw [slotA, hsame.slotW hb (by decide), ← slotA, h.order]
  rw [State.canTake, hentry]
  dsimp only
  rw [hkind, if_neg (by decide), hvpos, hsame.lenOf h.entry, if_neg (Nat.not_lt.mpr h.fits), horder,
    if_neg Bool.false_ne_true, engPublish_entry _ _ hentry]

/-- A frame that slot 0 alone matches is its sample. -/
theorem canGood_slotZero {head ctl i : Nat} {data : List Byte} (at_ : Nat) (hpair : s.canPaired e = false)
    (hrec : s.get (canPg e) R.CAN_ERR_REC = 0) (hslots : ∀ n < 32, n ≠ 0 → s.slotOn e n = false)
    (hmatch : s.canMatches e 0 (head % 2 ^ 29) (bitOf head 29) (bitOf head 31) = true) (htaking : s.CanTaking e 0 i data) :
    s.canGood e head ctl data at_ =
      (s.canCounted e).sourceUpdate i (bytesAt data (s.slotVpos e 0) (s.lenOf i)) true (s.engStamp e at_) := by
  have hrange : List.range 32 = 0 :: (List.range 31).map Nat.succ := by rw [List.range_succ_eq_map]
  have hothers : ((List.range 31).map Nat.succ).filter
      (fun b => s.canMatches e b (head % 2 ^ 29) (bitOf head 29) (bitOf head 31)) = [] :=
    List.filter_eq_nil_iff.mpr fun n hn => by
      obtain ⟨m, hm, rfl⟩ := List.mem_map.mp hn
      have hoff : s.slotOn e m.succ = false := hslots _ (by have := List.mem_range.mp hm; omega) (Nat.succ_ne_zero m)
      simp [canMatches_slotOff hoff]
  have hhits : s.canHits e head = [0] := by
    rw [canHits, hrange, List.filter_cons, if_pos hmatch, hothers]
  rw [canGood_eq data at_ hpair hrec, hhits]
  dsimp only
  rw [if_pos (by simp [htaking.takes]), List.foldl_cons, List.foldl_nil,
    htaking.canTake SameBindings.canCounted (by decide)]

/-- A remote frame makes the only slot that it matches pending. -/
theorem canRemote_one {ident dlc n : Nat} {ide : Bool} (at_ : Nat) (hpair : s.canPaired e = false)
    (hopmode : s.mget e 6 R.CAN_CFG_OPMODE ≠ 1)
    (hhits : ((List.range 32).filter fun b => (s.subEntry e b).isSome && bitOf (s.slotA e b) 4 &&
      bitOf (s.slotA e b) 0 == ide && s.slotW e b 1 % 2 ^ 29 == ident) = [n]) (hnew : n ∉ (s.eng e).pend) :
    s.canRemote e ident ide dlc at_ = (s.canCounted e).modEng e fun g => { g with pend := g.pend ++ [n] } := by
  unfold canRemote
  dsimp only
  rw [canRole_unpaired hpair, if_neg (by decide), slotHome_unpaired hpair, hhits, if_neg (by simp), if_neg hopmode,
    ← canCounted]
  refine modEng_congr _ e ?_
  rw [eng_canCounted]
  simp [hnew]

/-- A reserved bit found recessive, with the exception on, starts integration (R310). -/
theorem canReceive_exception {head ctl : Nat} (data : List Byte) (at_ : Nat) (hfd : s.mon e 6 R.CAN_CFG_FD_EN = true)
    (hpex : s.mon e 6 R.CAN_CFG_PEX_EN = true) :
    s.canReceive e .recessiveRes head ctl data at_ =
      (((s.modeCount e 6 R.CNT_CAN_EVT2_PROTOCOL).setF (canPg e) R.CAN_STATUS_PEX).event (Pg.engine e) E.ENG_PEX).modEng e
        fun g => { g with quiet := true } := by
  simp only [canReceive, hfd, hpex, Bool.and_self, if_true, canException, engEvent]

/-- An error of a receiver sets LEC or DLEC, is counted and adds one to REC (R329). -/
theorem canRxError_one (s : State) (e code : Nat) (dp : Bool) :
    s.canRxError e code dp false =
      ((s.put (canPg e) (if dp then R.CAN_STATUS_DLEC else R.CAN_STATUS_LEC) code).modeCount e 6
        R.CNT_CAN_ERR_RECEIVE).canCounters e (s.get (canPg e) R.CAN_ERR_TEC) (s.get (canPg e) R.CAN_ERR_REC + 1) := by
  simp only [canRxError, canLast, Bool.false_eq_true, if_false]

/-! ### CAN_CMD, CAN_STATUS and integration (R331, R337, R340) -/

/-- RESTART in bus-off clears the error counters and begins integration. -/
theorem canCommand_restart {e : Nat} (hst : s.get (canPg e) R.CAN_STATUS_STATE = 2) :
    s.canCommand e 1 =
      ((s.put (canPg e) R.CAN_STATUS_STATE 3).canCounters e 0 0).clrF (canPg e) R.CAN_ERR_RP := by
  have hrestart : bitOf 1 0 = true := by decide
  have hswap : bitOf 1 1 = false := by decide
  have habort : bitOf 1 2 = false := by decide
  unfold canCommand
  dsimp only
  rw [hswap, Bool.false_and, when_false, habort, Bool.false_and, when_false, hrestart, Bool.true_and, hst, beq_self_eq_true,
    when_true]

/-- PAIR_SWAP at the even engine of a pair goes to the pair, which counts as touched. -/
theorem canCommand_pairSwap {e : Nat} (heven : e % 2 = 0) : s.canCommand e 2 = (s.touch (64 + e / 2)).pairSwap e := by
  have hrestart : bitOf 2 0 = false := by decide
  have hswap : bitOf 2 1 = true := by decide
  have habort : bitOf 2 2 = false := by decide
  unfold canCommand
  dsimp only
  rw [hrestart, Bool.false_and, when_false, habort, Bool.false_and, when_false, hswap, Bool.true_and, heven,
    beq_self_eq_true, when_true]

/-- The request for a swap is taken. -/
def swapTaken (s : State) (e : Nat) : State := s.modEng e fun g => { g with swap := false }

/-- Without a pair a swap is refused. -/
theorem pairSwap_unpaired {e : Nat} (heven : e % 2 = 0) (hpair : s.canPaired e = false) :
    s.pairSwap e = (s.swapTaken e).event (Pg.engine e) E.ENG_PAIR_SWAP_REFUSED := by
  have hself : e / 2 * 2 = e := by omega
  unfold pairSwap
  dsimp only
  rw [hself, if_pos (by simp [hpair])]
  rfl

/-- A swap of a pair whose even engine is active, with no attempt in progress and the standby up and error active. -/
theorem pairSwap_done {e : Nat} (heven : e % 2 = 0) (hmode : s.engMode e = 6) (hpair : s.canPaired e = true)
    (hrole : s.canRole e = 1) (htry : (s.eng e).attempt = none) (hup : s.engUp (e + 1) = true)
    (hst : s.get (canPg (e + 1)) R.CAN_STATUS_STATE = 0) :
    s.pairSwap e =
      ((((s.swapTaken e).moveSet e (e + 1)).setRoles (e + 1) e).modeCount (e + 1) 6 R.CNT_CAN_EVT2_FAILOVERS).event
        (Pg.engine e) E.ENG_PAIR_SWAP_DONE := by
  have hself : e / 2 * 2 = e := by omega
  have hpartner : partner e = e + 1 := if_pos heven
  unfold pairSwap
  dsimp only
  rw [hself, if_neg (by simp [hpair, hmode]), if_pos hrole, hpartner, if_neg (by simp [htry]), if_pos (by simp [hup, hst])]
  rfl

/-- The standby takes over from the active engine that is down, with nothing left to send. -/
theorem pairFailover_idle {e last : Nat} (heven : e % 2 = 0) (hmode : s.engMode e = 6) (hpair : s.canPaired e = true)
    (hrole : s.canRole e = 1) (hdown : s.engUp e = false) (hup : s.engUp (e + 1) = true)
    (hnone : canWinner (((s.moveSet e (e + 1)).setRoles (e + 1) e).canSet (e + 1)) = none) (hlast : 2 ^ 31 + 2 ^ 30 = last) :
    s.pairFailover e =
      (((((s.moveSet e (e + 1)).setRoles (e + 1) e).wr (canPg (e + 1)) R.PAIR_LAST.off (BitVec.ofNat 32 last)).modeCount
        (e + 1) 6 R.CNT_CAN_EVT2_FAILOVERS).eventFault (Pg.engine e) E.ENG_PAIR_FAILOVER K.PAIR_FAILOVER last).eventFault
          (Pg.engine (e + 1)) E.ENG_PAIR_FAILOVER K.PAIR_FAILOVER last := by
  have hself : e / 2 * 2 = e := by omega
  have hpartner : partner e = e + 1 := if_pos heven
  unfold pairFailover
  dsimp only
  rw [hself, if_pos hrole, hpartner, if_pos (by simp [hmode, hpair, hrole, hdown, hup]), hnone, ← hlast]

/-- PAIR_SWAP without a pair is refused. -/
theorem canCommand_swapRefused {e : Nat} (heven : e % 2 = 0) (hpair : s.canPaired e = false) :
    s.canCommand e 2 = ((s.touch (64 + e / 2)).swapTaken e).event (Pg.engine e) E.ENG_PAIR_SWAP_REFUSED :=
  (canCommand_pairSwap heven).trans (pairSwap_unpaired heven hpair)

theorem canCommand_swapDone {e : Nat} (heven : e % 2 = 0) (hmode : s.engMode e = 6) (hpair : s.canPaired e = true)
    (hrole : s.canRole e = 1) (htry : (s.eng e).attempt = none) (hup : s.engUp (e + 1) = true)
    (hst : s.get (canPg (e + 1)) R.CAN_STATUS_STATE = 0) :
    s.canCommand e 2 =
      (((((s.touch (64 + e / 2)).swapTaken e).moveSet e (e + 1)).setRoles (e + 1) e).modeCount (e + 1) 6
        R.CNT_CAN_EVT2_FAILOVERS).event (Pg.engine e) E.ENG_PAIR_SWAP_DONE :=
  (canCommand_pairSwap heven).trans (pairSwap_done heven hmode hpair hrole htry hup hst)

/-- An engine that was down before a change of registers comes up when no reason to be down is left. -/
theorem engineSync_up {t : State} {e : Nat} (hcore : t.core = s.core) (hdown : s.engUp e = false)
    (hgone : t.engineDown e = false) : t.engineSync e = t.engineUp e := by
  have hdown' : t.engUp e = false := by rw [engUp, hcore, ← engUp, hdown]
  rw [engineSync]
  simp only [hdown', hgone, Bool.false_eq_true, if_false, Bool.not_false, Bool.and_self, if_true]

/-- A read of CAN_STATUS where no condition stands and nothing waits to be sent. -/
theorem canStatusRead_clear {e : Nat} (hmode : s.engMode e = 6) (htec : s.get (canPg e) R.CAN_ERR_TEC = 0)
    (hrec : s.get (canPg e) R.CAN_ERR_REC = 0) (hquiet : (s.eng e).quiet = false) (hpend : (s.eng e).pend = [])
    (hraw : (s.eng e).raw = none) :
    s.canStatusRead e =
      (((((s.put (canPg e) R.CAN_STATUS_LEC 7).put (canPg e) R.CAN_STATUS_DLEC 7).clrF (canPg e)
        R.CAN_STATUS_ERR_WARN).clrF (canPg e) R.CAN_STATUS_PEX).clrF (canPg e) R.CAN_STATUS_TDC_ERR,
          BitVec.ofNat 32 (bitsPut (s.rd (canPg e) R.CAN_STATUS.off).toNat 6 1 0)) := by
  have hbelow : 0 < Nat.max 1 (s.get (canPg e) R.CAN_CFG_EWL) := Nat.lt_of_lt_of_le Nat.one_pos (Nat.le_max_left 1 _)
  simp only [canStatusRead, if_pos hmode, htec, hrec, hquiet, hpend, hraw, hbelow, decide_true, Bool.and_self, when_true,
    Bool.not_false, Bool.not_true, List.isEmpty_nil, Option.isSome_none, Bool.or_self, b2n, Bool.false_eq_true, if_false]

end State

end Sys2Proof.Machine
end

section
/-! The settling of the statement on reception, the error states and the pairs of CAN FD ports. -/

namespace Sys2Proof.Machine

/-- A frame on the bus of an engine that has ended its quiet time. -/
theorem finishAll_listening {s t : State} {e : Nat} {f : State → State} (hup : s.engUp e = true) (hmode : s.engMode e = 6)
    (hquiet : (s.eng e).quiet = false) (h : f s = t) :
    finishAll (s.inMode e 6 fun t => if (t.eng e).quiet then t else f t) = .next t.flushSinks.settle :=
  finishAll_inMode hup hmode ((if_neg (by simp [hquiet])).trans h)

/-- Settles O41: a good frame is counted, and the slots that it matches take it (`canGood_unbound`, `canGood_slotZero`); the
other receptions, the commands of CAN_CMD (`engPoke_canCmd`), failover, the end of integration and the read of CAN_STATUS do
what the lemma above for each says. When the roles of a pair are exchanged is what the model deduces from R336 to R340 (log
entry 51). -/
theorem canReceiveAndPairs : Obligations.CanReceiveAndPairs := by
  unfold Obligations.CanReceiveAndPairs
  intro s a e ident ide fdf brs esi dp dlc data at_ code p m head ctl got hmode
  obtain ⟨hident, hide, hfdf⟩ := canHead_fields ident ide false fdf
  obtain ⟨hdlc, hesi⟩ := canCtl_fields dlc brs esi
  have heven : e % 2 = 0 → e.val % 2 = 0 := fun h => by simpa using congrArg Fin.val h
  refine ⟨fun hup => ⟨?_, fun hquiet hpair => ⟨fun hclassic hrec hslots => ?_,
      fun i hclassic hrec hentry hslots hmatch hkind horder hfits => ?_, fun hfd hpex => ?_,
      fun n hopmode hhits hnew => ?_, ?_⟩⟩,
    fun hok => ⟨fun hst => ?_, fun hfirst hpair => ?_, fun hfirst hpair hrole htry hup hst => ?_⟩,
    fun hfirst hpair hrole hdown hup hnone => ?_, fun hon hst hdown hgone => ?_,
    fun hok htec hrec hquiet hpend hraw => ?_⟩
  -- ENABLE_INTEGRATION_DONE
  · exact finishAll_inMode hup hmode rfl
  -- CAN_FRAME_RECEIVED
  · have hframe := State.canGood_unbound (head := head) (ctl := ctl) (bytesAt data 0 (dlcLen false dlc.toNat)) at_.toNat
      hpair hrec hslots
    rw [hesi] at hframe
    refine finishAll_listening hup hmode hquiet ((State.canReceive_classic data _ (hfdf.trans hclassic)).trans ?_)
    rw [hdlc]
    exact hframe
  · subst hclassic
    refine finishAll_listening hup hmode hquiet ((State.canReceive_classic data _ hfdf).trans ?_)
    rw [hdlc]
    exact State.canGood_slotZero _ hpair hrec hslots (by rw [hident, hide, hfdf]; exact hmatch)
      ⟨hentry, hkind, horder, by rw [length_bytesAt]; exact hfits⟩
  · exact finishAll_listening hup hmode hquiet (State.canReceive_exception _ _ hfd hpex)
  -- CAN_REMOTE_FRAME, CAN_RX_ERROR
  · exact finishAll_listening hup hmode hquiet (State.canRemote_one _ hpair hopmode hhits hnew)
  · exact finishAll_listening hup hmode hquiet (s.canRxError_one e code dp)
  -- RESTART, PAIR_SWAP
  · exact finishAll_of_eq ((State.engPoke_canCmd (f := R.CAN_CMD_RESTART) rfl hmode hok).trans
      (State.canCommand_restart hst))
  · exact finishAll_of_eq ((State.engPoke_canCmd (f := R.CAN_CMD_PAIR_SWAP) rfl hmode hok).trans
      (State.canCommand_swapRefused (heven hfirst) hpair))
  · exact finishAll_of_eq ((State.engPoke_canCmd (f := R.CAN_CMD_PAIR_SWAP) rfl hmode hok).trans
      (State.canCommand_swapDone (heven hfirst) hmode hpair hrole htry hup hst))
  -- PAIR_FAILOVER
  · exact finishAll_of_eq (State.pairFailover_idle (heven hfirst) hmode hpair hrole hdown hup hnone rfl)
  -- INTEGRATION_DONE
  · exact finishAll_of_eq ((if_pos ⟨hmode, hon, hst⟩).trans
      (State.engineSync_up (s := s) (by rw [State.engEvent, State.event_core, State.put_core]) hdown hgone))
  -- CAN_STATUS_READ
  · have hread := State.canStatusRead_clear hmode htec hrec hquiet hpend hraw
    exact finishAll_of_eq ((s.guardedRead_ok a p R.CAN_STATUS.off _ hok).trans
      (congrArg (fun x => x.1.reply a p R.CAN_STATUS.off x.2 .ok) hread))

end Sys2Proof.Machine
end

section
/-! SUPPORT. The clocks of the time block (R361 to R367, R379 to R389): what a write to its pages does register by register,
and what the external reference, the pulse and the queues do under the condition that each tests. -/

namespace Sys2Proof.Machine

open Sys2Proof (Word Agent)

/-- A word of two's complement holds the number that it is read as. -/
theorem ofSigned_signedOf (v : Word) : ofSigned 32 (signedOf 32 v.toNat) = v.toNat := by
  have hv := v.isLt
  unfold ofSigned signedOf
  dsimp only
  split <;> omega

namespace State

variable (s : State)

/-! ### Writes to the pages -/

/-- A command to a page of the time block that passes the check has the effect of a write of its register. -/
theorem poke_clock_ok {a : Agent} {p off : Nat} (v : Word) (hp : Pg.time ≤ p ∧ p ≤ Pg.units)
    (h : s.writeCode a p off = .ok) : s.poke a p off v (wrClock p) = wrClock p s off v := by
  obtain ⟨hfirst, hlast⟩ := hp
  have hsched : p ≠ Pg.sched := fun e => absurd (e ▸ hlast) (by decide)
  have hepoch : p ≠ Pg.epoch := fun e => absurd (e ▸ hfirst) (by decide)
  have hidentity : p ≠ Pg.identity := fun e => absurd (e ▸ hfirst) (by decide)
  refine s.poke_ok' a p off v _ hidentity ?_ h
  simp [stagingBit, hsched, hepoch]

theorem wrClock_freq0 (v : Word) :
    wrClock Pg.prime s (R.P_FREQ 0).off v =
      if s.servoHolds then s else s.storeWrite Pg.prime (R.P_FREQ 0).off v := by
  rw [wrClock, if_neg (by decide), if_pos rfl, if_pos rfl]

theorem wrClock_freq1 (v : Word) :
    wrClock Pg.prime s (R.P_FREQ 1).off v = s.storeWrite Pg.prime (R.P_FREQ 1).off v := by
  rw [wrClock, if_neg (by decide), if_pos rfl, if_neg (by decide), if_neg (by decide), if_neg (by decide),
    if_neg (by decide), if_neg (by decide), if_neg (by decide)]

theorem wrClock_adj0 (v : Word) :
    wrClock Pg.prime s (R.P_ADJ 0).off v = if s.servoHolds then s else s.adjust 0 (signedOf 32 v.toNat) := by
  rw [wrClock, if_neg (by decide), if_pos rfl, if_neg (by decide), if_pos rfl]

/-- The adjustment of prime 1 is the word written, whatever was pending (R363). -/
theorem wrClock_adj1 (v : Word) :
    wrClock Pg.prime s (R.P_ADJ 1).off v =
      (s.put Pg.prime (R.P_ADJ_REMAIN 1) v.toNat).modPrime 1 fun p => { p with adjTicks := 0 } := by
  rw [wrClock, if_neg (by decide), if_pos rfl, if_neg (by decide), if_neg (by decide), if_pos rfl, adjust,
    ofSigned_signedOf]

theorem wrClock_set0 : wrClock Pg.prime s (R.P_CMD 0).off 1 = s.primeSet 0 := rfl

theorem wrClock_set1 : wrClock Pg.prime s (R.P_CMD 1).off 1 = s.primeSet 1 := rfl

theorem wrClock_timeCmd (v : Word) : wrClock Pg.time s R.TIME_CMD.off v = s.timeCmd v.toNat := rfl

theorem wrClock_txtsStatus (v : Word) :
    wrClock Pg.units s R.TXTS_STATUS.off v =
      if s.time.txts.length < 32 then s.storeWrite Pg.units R.TXTS_STATUS.off v else s := rfl

/-! ### SET (R364, R379) -/

theorem primeSet_refused (h : 3 ≤ s.servo) : s.primeSet 0 = s.event Pg.prime E.P019_SET_REFUSED := if_pos h

/-- A step of prime 0 that drives no pulse, on a hub that is not the grandmaster, changes prime 0 alone. -/
theorem primeSet_steps (hservo : s.servo < 3) (hgm : s.isGm = false) (hsrc : s.get Pg.prime R.PPS_OUT_CFG_SRC ≠ 0) :
    s.primeSet 0 = { s with prime0 := s.setValue 0 s.prime0 } := by
  have hstep : s.primeStep 0 (s.setValue 0) = { s with prime0 := s.setValue 0 s.prime0 } := by
    rw [primeStep, beq_false_of_ne hsrc, when_false]
    rfl
  refine (if_neg (Nat.not_le.mpr hservo)).trans ?_
  rw [hgm, when_false, hstep]

theorem primeSet_waits (h : s.on Pg.prime R.EXT_STATUS_PPS_OK = true) :
    s.primeSet 1 = s.modPrime 1 fun p => { p with setWait := true } := if_pos h

/-! ### TIME_CMD (R388, R389) -/

/-- The word of SNAP names the unit and commands nothing else. -/
theorem snapWord_bits : ∀ u : Fin 32,
    bitOf (BitVec.ofNat 32 (1 + u * 2 ^ 8)).toNat 0 = true ∧ bitOf (BitVec.ofNat 32 (1 + u * 2 ^ 8)).toNat 1 = false ∧
      bitOf (BitVec.ofNat 32 (1 + u * 2 ^ 8)).toNat 2 = false ∧
      bitsOf (BitVec.ofNat 32 (1 + u * 2 ^ 8)).toNat 8 5 = u := by
  decide

theorem timeCmd_snap (u : Fin 32) : s.timeCmd (BitVec.ofNat 32 (1 + u * 2 ^ 8)).toNat = s.timeSnap u := by
  obtain ⟨hsnap, hclear, hflush, hunit⟩ := snapWord_bits u
  rw [timeCmd, hsnap, hclear, hflush, hunit, when_true, when_false, when_false]

/-- A snapshot with a unit that exists draws nothing. -/
theorem timeSnap_unit {u : Nat} (hu : u < 15) :
    let w (n : Nat) : Word := BitVec.ofNat 32 n
    let p1 := (s.prime1.sec * 1000000000 + s.prime1.ns) % 2 ^ 64
    s.timeSnap u =
      (((((s.wr Pg.time R.SNAP_P0_LO.off (w s.now)).wr Pg.time R.SNAP_P0_HI.off (w (s.now / 2 ^ 32))).wr Pg.time
        R.SNAP_P1_LO.off (w p1)).wr Pg.time R.SNAP_P1_HI.off (w (p1 / 2 ^ 32))).wr Pg.time R.SNAP_UNIT_LO.off
          (w (s.unitTime u))).wr Pg.time R.SNAP_UNIT_HI.off (w (s.unitTime u / 2 ^ 32)) := by
  simp only [timeSnap, if_pos hu]

theorem timeCmd_flush : s.timeCmd 4 = s.modTime fun x => { x with txts := [] } := rfl

/-! ### The external reference (R379) -/

/-- While the reference is not used, prime 1 is not locked and stays so. -/
theorem lockCheck_unused (hext : s.on Pg.prime R.EXT_CFG_EXT_EN = false)
    (hlocked : s.on Pg.prime R.EXT_STATUS_P1_LOCKED = false) :
    s.lockCheck = s.clrF Pg.prime R.EXT_STATUS_P1_LOCKED := by
  simp only [lockCheck, setLocked, hext, hlocked, Bool.false_and, when_false]
  rfl

/-- The second pulse in a row that comes in time qualifies the input; prime 1 does not follow it. -/
theorem ppsEdge_qualifies {n : Nat} (hext : s.on Pg.prime R.EXT_CFG_EXT_EN = false) (hrun : s.time.ppsRun = 1)
    (hlow : 999999000 ≤ n) (hhigh : n ≤ 1000001000) :
    s.ppsEdge (some n) =
      ((s.modTime fun t => { t with ppsRun := 2 }).setF Pg.prime R.EXT_STATUS_PPS_OK).put Pg.prime R.PPS_LAST_ERR
        (ofSigned 32 (s.ppsError / 2 ^ 32)) := by
  have hgood : decide (999999000 ≤ n ∧ n ≤ 1000001000) = true := decide_eq_true ⟨hlow, hhigh⟩
  simp only [ppsEdge, hgood, if_true, hrun, hext, Bool.not_false]
  rfl

/-- The loss of a qualified pulse that prime 1 does not follow. -/
theorem ppsLost_unused (hext : s.on Pg.prime R.EXT_CFG_EXT_EN = false)
    (hok : s.on Pg.prime R.EXT_STATUS_PPS_OK = true) (hlocked : s.on Pg.prime R.EXT_STATUS_P1_LOCKED = false) :
    s.ppsLost =
      ((((s.modTime fun t => { t with ppsRun := 0 }).clrF Pg.prime R.EXT_STATUS_PPS_OK).event Pg.prime
        E.P019_PPS_LOST).clrF Pg.prime R.EXT_STATUS_P1_LOCKED) := by
  have hbeside : ∀ {g : Fld}, R.EXT_STATUS_PPS_OK.apart g = true → Fld.apart ⟨0x010, E.P019_PPS_LOST, 1⟩ g = true →
      (((s.modTime fun t => { t with ppsRun := 0 }).clrF Pg.prime R.EXT_STATUS_PPS_OK).event Pg.prime
        E.P019_PPS_LOST).on Pg.prime g = s.on Pg.prime g := fun hg hev =>
    (on_put_apart _ _ 1 hev).trans (on_put_apart _ _ 0 hg)
  have hext' := (hbeside (by decide) (by decide)).trans hext
  have hlocked' := (hbeside (by decide) (by decide)).trans hlocked
  refine (if_pos hok).trans ?_
  rw [hext', when_false, lockCheck_unused _ hext' hlocked']

/-- The 10 MHz input is good, and gives the term of prime 1, whether prime 1 uses it or not. -/
theorem ref10Change_good (term : Word) (hext : s.on Pg.prime R.EXT_CFG_EXT_EN = false)
    (hlocked : s.on Pg.prime R.EXT_STATUS_P1_LOCKED = false) :
    s.ref10Change true term =
      ((s.setF Pg.prime R.EXT_STATUS_REF10_OK).put Pg.prime (R.P_SYNT_FREQ 1) term.toNat).clrF Pg.prime
        R.EXT_STATUS_P1_LOCKED := by
  have hbeside : ∀ {g : Fld}, R.EXT_STATUS_REF10_OK.apart g = true → (R.P_SYNT_FREQ 1).apart g = true →
      ((s.setF Pg.prime R.EXT_STATUS_REF10_OK).put Pg.prime (R.P_SYNT_FREQ 1) term.toNat).on Pg.prime g =
        s.on Pg.prime g := fun hg hterm =>
    (on_put_apart _ _ _ hterm).trans (on_put_apart _ _ 1 hg)
  have hcheck := lockCheck_unused _ ((hbeside (by decide) (by decide)).trans hext)
    ((hbeside (by decide) (by decide)).trans hlocked)
  rw [ref10Change, Bool.not_true, Bool.and_false, when_false]
  exact hcheck

/-! ### TIME_PPS_OUT (R381) -/

theorem ppsDrive_changes {high : Bool} (h : s.time.ppsHigh ≠ high) :
    s.ppsDrive high = (s.modTime fun t => { t with ppsHigh := high }).emit (.level Pg.prime (b2n high)) := if_neg h

/-! ### The queues (R384, R387) -/

theorem measPop_nil (h : s.time.meas = []) : s.measPop = (s, 0) := by rw [measPop, h]

theorem measPop_cons {m : Meas} {l : List Meas} (h : s.time.meas = m :: l) :
    s.measPop =
      ((((s.modTime fun x => { x with meas := l }).put Pg.ptp R.MEAS_OFFSET
        (ofSigned 32 (max (-(2 ^ 31)) (min (2 ^ 31 - 1) m.offset)))).put Pg.ptp R.MEAS_TIME_LO (m.at_ % 2 ^ 32)).put
          Pg.ptp R.MEAS_TIME_HI (m.at_ / 2 ^ 32 % 2 ^ 32),
        BitVec.ofNat 32 (m.seq + m.path * 2 ^ 16 + b2n m.stitch * 2 ^ 18 + m.transits * 2 ^ 20 + 2 ^ 31)) := by
  rw [measPop, h]

theorem txtsPop_nil (h : s.time.txts = []) : s.txtsPop = (s, 0) := by rw [txtsPop, h]

theorem txtsPop_cons {x : TxStamp} {l : List TxStamp} (h : s.time.txts = x :: l) :
    s.txtsPop =
      (((s.modTime fun y => { y with txts := l }).put Pg.units R.TXTS_LO (x.ts % 2 ^ 32)).put Pg.units R.TXTS_HI
        (x.ts / 2 ^ 32 % 2 ^ 32),
        BitVec.ofNat 32 (x.ident + b2n x.invalid * 2 ^ 8 + x.source * 2 ^ 16 + 2 ^ 31)) := by
  rw [txtsPop, h]

/-! ### Conditions of the block -/

theorem whenTimeDomain_of_on (f : State → State) (h : s.domainOn 1 = true) : s.whenTimeDomain f = f s := if_pos h

end State

end Sys2Proof.Machine
end

section
/-! The settling of the statement on the clocks, the pulses and the queues of the time block. -/

namespace Sys2Proof.Machine

/-- The end of a command to a page of the time block that passes the check. -/
theorem finishAll_clock {s t : State} {a : Sys2Proof.Agent} {p off : Nat} {v : Sys2Proof.Word}
    (hp : Pg.time ≤ p ∧ p ≤ Pg.units) (hok : s.writeCode a p off = .ok) (h : State.wrClock p s off v = t) :
    finishAll (s.poke a p off v (State.wrClock p)) = .next t.flushSinks.settle :=
  finishAll_of_eq ((s.poke_clock_ok v hp hok).trans h)

/-- Settles O44: each command is a write of its register (`wrClock_freq0` and the lemmas beside it), a pop of a queue
(`measPop_cons`, `txtsPop_cons`), or an event while the domain is on, which does what the lemma above says of it. The trim
that a unit draws at a strobe is bounded by R366 and R367 and otherwise free (log entry 56). That SET of prime 1 waits for the
edge while the pulse is good, and that the pulse is qualified while EXT_EN is 0, is the model's reading of R379 (log entry
57). -/
theorem clocksAndPulses : Obligations.ClocksAndPulses := by
  unfold Obligations.ClocksAndPulses
  intro s a v term u interval p w
  refine ⟨fun hok => ⟨fun hheld => ?_, fun hfree => ?_⟩, fun hok => ?_, fun hok => ?_, fun hok hheld => ?_,
    fun hok => ⟨fun hservo => ?_, fun hservo hgm hsrc => ?_⟩, fun hok hpps => ?_,
    fun hon => ⟨?_, fun hext hrun hlow hhigh => ?_, fun hext hpps hlocked => ?_, fun hext hlocked => ?_,
      fun hen hlow => ?_, fun hhigh => ?_⟩,
    fun hok => ⟨fun hu => ?_, ?_⟩, fun hok => ⟨fun hnil => ?_, fun m l hcons => ?_⟩,
    fun hok => ⟨fun hnil => ?_, fun x l hcons => ?_⟩, fun hok => ⟨fun hroom => ?_, fun hfull => ?_⟩⟩
  -- P_FREQ_WRITE, P_ADJ_WRITE
  · exact finishAll_clock (by decide) hok ((s.wrClock_freq0 v).trans (if_pos hheld))
  · exact finishAll_clock (by decide) hok ((s.wrClock_freq0 v).trans (if_neg (by simp [hfree])))
  · exact finishAll_clock (by decide) hok (s.wrClock_freq1 v)
  · exact finishAll_clock (by decide) hok (s.wrClock_adj1 v)
  · exact finishAll_clock (by decide) hok ((s.wrClock_adj0 v).trans (if_pos hheld))
  -- SET
  · exact finishAll_clock (by decide) hok (s.wrClock_set0.trans (s.primeSet_refused hservo))
  · exact finishAll_clock (by decide) hok (s.wrClock_set0.trans (s.primeSet_steps hservo hgm hsrc))
  · exact finishAll_clock (by decide) hok (s.wrClock_set1.trans (s.primeSet_waits hpps))
  -- UNIT_STROBE, the external reference and the pulse
  · exact finishAll_of_eq (s.whenTimeDomain_of_on _ hon)
  · exact finishAll_of_eq ((s.whenTimeDomain_of_on _ hon).trans (s.ppsEdge_qualifies hext hrun hlow hhigh))
  · exact finishAll_of_eq ((s.whenTimeDomain_of_on _ hon).trans (s.ppsLost_unused hext hpps hlocked))
  · exact finishAll_of_eq ((s.whenTimeDomain_of_on _ hon).trans (s.ref10Change_good term hext hlocked))
  · exact finishAll_of_eq ((s.whenTimeDomain_of_on _ hon).trans
      ((if_pos hen).trans (s.ppsDrive_changes (by simp [hlow]))))
  · exact finishAll_of_eq ((s.whenTimeDomain_of_on _ hon).trans (s.ppsDrive_changes (by simp [hhigh])))
  -- TIME_SNAP, TXTS_FLUSH
  · intro q p1
    exact finishAll_clock (by decide) hok ((s.wrClock_timeCmd _).trans ((s.timeCmd_snap u).trans
      (s.timeSnap_unit hu)))
  · exact finishAll_clock (by decide) hok ((s.wrClock_timeCmd _).trans s.timeCmd_flush)
  -- MEAS_POP, TXTS_POP
  · exact finishAll_of_eq ((s.guardedRead_ok a _ _ _ hok).trans (by rw [s.measPop_nil hnil]))
  · exact finishAll_of_eq ((s.guardedRead_ok a _ _ _ hok).trans (by rw [s.measPop_cons hcons]))
  · exact finishAll_of_eq ((s.guardedRead_ok a _ _ _ hok).trans (by rw [s.txtsPop_nil hnil]))
  · exact finishAll_of_eq ((s.guardedRead_ok a _ _ _ hok).trans (by rw [s.txtsPop_cons hcons]))
  -- TXTS_OVERFLOW_CLEAR
  · exact finishAll_clock (by decide) hok ((s.wrClock_txtsStatus _).trans (if_pos hroom))
  · exact finishAll_clock (by decide) hok ((s.wrClock_txtsStatus _).trans (if_neg (Nat.not_lt.mpr hfull)))

end Sys2Proof.Machine
end

section
/-! SUPPORT. PTP on the ring and the servo (R369 to R378, R382): what a message, a send or a timer does under the condition
that it tests, and the registers that a measurement and a change of the servo leave alone. -/

namespace Sys2Proof.Machine.State

open Sys2Proof (Word Byte LinkId)

variable (s : State)

/-! ### Conditions of the block -/

theorem whenTime_of_on (f : State → State) (h : s.timeOn = true) : s.whenTime f = f s := if_pos h

theorem ptpIn_good {type : Nat} {m : List Byte} (f : State → State) (hon : s.timeOn = true)
    (h : s.ptpGood type m = true) : s.ptpIn type m f = f s := by
  simp only [ptpIn, hon, h, Bool.not_true, Bool.false_eq_true, if_false, if_true]

theorem ptpIn_bad {type : Nat} {m : List Byte} (f : State → State) (hon : s.timeOn = true)
    (h : s.ptpGood type m = false) :
    s.ptpIn type m f = (s.count Pg.ptp R.CNT_PTP_ERR_MESSAGES).event Pg.ptp E.P01A_PTP_ERR := by
  simp only [ptpIn, hon, h, Bool.not_true, Bool.false_eq_true, if_false]
  rfl

/-! ### The link delay (R372, R373) -/

theorem pdelaySend_active {k : Nat} (t1 : Nat) (hon : s.timeOn = true) (hlink : s.linkActive k = true) :
    s.pdelaySend k t1 =
      ((s.ptpOut k 2 (s.ptpMessage 2 k 0 0 0 s.time.seqPdelay s.logPdelay (List.replicate 20 0))).modTime fun x =>
        { x with seqPdelay := (s.time.seqPdelay + 1) % 65536 }).modPort k fun x =>
          { x with asked := some (s.time.seqPdelay, t1) } := by
  refine if_neg ?_
  simp [hon, hlink]

/-- The answer to the request that is outstanding gives a loop, and the mean of the loops is the delay. -/
theorem pdelayTake_answer {k t1 : Nat} {m : List Byte} (t4 : Nat) (hasked : (s.ptpPort k).asked = some (mSeq m, t1))
    (hclock : beNat (bytesAt m 44 8) = s.uid) (hport : beNat (bytesAt m 52 2) = k + 1) :
    let loops := (((t4 : Int) - t1 - mCorr m) :: (s.ptpPort k).loops).take (2 ^ s.avgLog)
    s.pdelayTake k m t4 =
      ((s.modPort k fun x =>
        { x with loops := loops, asked := none, misses := 0, rateDev := some (signedOf 32 (mSpecific m)) }).put Pg.ptp
          (R.LINK_DELAY k) (ofSigned 32 (roundFree loops.sum (2 * loops.length)))).setF Pg.ptp
            (R.PORT_STATUS_PDELAY_OK k) := by
  have hmatch : ¬(mSeq m ≠ mSeq m ∨ beNat (bytesAt m 44 8) ≠ s.uid ∨ beNat (bytesAt m 52 2) ≠ k + 1) := by
    simp [hclock, hport]
  rw [pdelayTake, hasked]
  exact if_neg hmatch

/-- A port whose answer has not come. -/
def missed (s : State) (k : Nat) : State :=
  (s.count Pg.ptp R.CNT_PTP_ERR_PDELAY).modPort k fun x => { x with asked := none, misses := Nat.min 3 (x.misses + 1) }

/-- A missing answer is counted, and the third in a row loses the port. -/
theorem pdelayMiss_asked {k : Nat} (hon : s.timeOn = true) (hasked : (s.ptpPort k).asked.isSome = true) :
    s.pdelayMiss k =
      if 3 ≤ (s.ptpPort k).misses + 1 ∧ (s.missed k).on Pg.ptp (R.PORT_STATUS_PDELAY_OK k) = true then
        ((s.missed k).clrF Pg.ptp (R.PORT_STATUS_PDELAY_OK k)).event Pg.ptp E.P01A_PDELAY_LOST
      else s.missed k := by
  have hwaits : ¬((!s.timeOn || (s.ptpPort k).asked.isNone) = true) := by
    simp [hon, Option.ne_none_iff_isSome.mpr hasked]
  have hmissed : s.missed k = (s.count Pg.ptp R.CNT_PTP_ERR_PDELAY).modPort k fun x =>
      { x with asked := none, misses := Nat.min 3 ((s.ptpPort k).misses + 1) } := by
    obtain ⟨r, hr⟩ := s.count_eq Pg.ptp R.CNT_PTP_ERR_PDELAY
    rw [missed, hr]
    rfl
  rw [hmissed]
  exact if_neg hwaits

theorem on_pdelayOk_missed (k : LinkId) :
    (s.missed k).on Pg.ptp (R.PORT_STATUS_PDELAY_OK k) = s.on Pg.ptp (R.PORT_STATUS_PDELAY_OK k) := by
  have hk := k.isLt
  have hoff : (R.PORT_STATUS_PDELAY_OK k).off = 0x04C + 0x10 * k.val := rfl
  have hcount := s.get_countN_ne Pg.ptp R.CNT_PTP_ERR_PDELAY 1 (g := R.PORT_STATUS_PDELAY_OK k) (by decide)
    (by omega) (by simp only [hoff, R.CNT_PTP_ERR_PDELAY]; omega) (by omega)
  exact congrArg (· == 1) hcount

/-! ### Syncs and Announces that leave (R374, R377) -/

theorem syncSend_unlinked (hon : s.timeOn = true) (hservo : s.servo = 2) (hports : s.ptpPorts = []) :
    s.syncSend = s.modTime fun x => { x with seqSync := (x.seqSync + 1) % 65536 } := by
  simp only [syncSend, hon, hservo, hports, List.foldl_nil]
  rfl

theorem announceSend_unlinked (hon : s.timeOn = true) (hgm : s.on Pg.time R.TIME_CFG_GM_CAPABLE = true)
    (hports : s.ptpPorts = []) :
    s.announceSend = s.modTime fun x => { x with seqAnn := (x.seqAnn + 1) % 65536 } := by
  simp only [announceSend, hon, hgm, hports, List.foldl_nil]
  rfl

/-! ### A Sync that arrives (R374, R375) -/

/-- The hub's own Sync ends where it comes back. -/
theorem syncIn_own {k at_ residence : Nat} {m : List Byte} (hforward : s.ptpForward k m = none)
    (hown : mClock m = s.uid) :
    s.syncIn k m at_ residence = s.modPort k fun x => { x with syncAt := some s.ns } := by
  simp only [syncIn, hforward, hown, true_or, if_true]

/-- A Sync that was not used before, from a port with a link delay, is a copy for the selection. -/
theorem syncIn_copy {k at_ residence : Nat} {m : List Byte} (hforward : s.ptpForward k m = none)
    (hclock : mClock m ≠ s.uid) (hnew : s.time.usedSeq ≠ some (mClock m, mSeq m)) (hstitch : s.stitchOnly = none)
    (hdelay : s.on Pg.ptp (R.PORT_STATUS_PDELAY_OK k) = true) :
    s.syncIn k m at_ residence =
      (s.modPort k fun x => { x with syncAt := some s.ns }).modTime fun x =>
        { x with copies := x.copies ++ [{ port := k, msg := m, at_ := at_ }] } := by
  have huse : ¬(mClock m = s.uid ∨ s.time.usedSeq = some (mClock m, mSeq m) ∨ False ∨ False) := by
    simp [hclock, hnew]
  simp only [syncIn, hforward, hstitch, hdelay, Bool.not_true, Bool.false_eq_true, if_neg huse]

/-! ### The servo's registers (R382) -/

theorem get_count_ptp_time (f g : Fld) (hf : f.off < 0x1000000) (hg : g.off < 0x1000000) :
    (s.count Pg.ptp f).get Pg.time g = s.get Pg.time g := by
  rw [get, count, s.rd_countN_page_ne f 1 hf hg (by decide), get]

theorem get_when {b : Bool} {f : State → State} {p : Nat} {g : Fld} (h : (f s).get p g = s.get p g) :
    (s.when b f).get p g = s.get p g := by
  cases b
  · rfl
  · exact h

/-- A measurement enters its queue without a change of page 0x018. -/
theorem get_measPush_time (x : Meas) (g : Fld) (hg : g.off < 0x1000000) :
    (s.measPush x).get Pg.time g = s.get Pg.time g := by
  have hevent : ∀ t : State, (t.event Pg.ptp E.P01A_MEASUREMENT).get Pg.time g = t.get Pg.time g := fun t =>
    congrArg (fun w : Word => bitsOf w.toNat g.lo g.w)
      (t.rd_put_ne Pg.ptp Pg.time g.off _ 1 (by decide : 0x010 < _) hg (.inl (by decide)))
  have hlost : ∀ t : State, (t.count Pg.ptp ⟨R.MEAS_LOST.off, 0, 16⟩).get Pg.time g = t.get Pg.time g := fun t =>
    t.get_count_ptp_time _ g (by decide) hg
  exact (get_when _ (hevent _)).trans (get_when _ (hlost _))

/-- Entering any state but HOLDOVER counts nothing. -/
theorem servoTo_plain {n : Nat} (h : n ≠ 5) :
    s.servoTo n =
      ((s.put Pg.time R.TIME_STATUS_STATE n).putB Pg.time R.TIME_STATUS_IS_GM (n == 2)).modTime fun x =>
        { x with lockRun := 0 } := by
  rw [servoTo, beq_false_of_ne h, Bool.false_and, when_false]

theorem get_servoTo_apart {n : Nat} {g : Fld} (h : n ≠ 5) (hstate : R.TIME_STATUS_STATE.apart g = true)
    (hgm : R.TIME_STATUS_IS_GM.apart g = true) : (s.servoTo n).get Pg.time g = s.get Pg.time g := by
  rw [s.servoTo_plain h]
  exact (get_putB_apart _ _ _ hgm).trans (get_put_apart _ _ _ hstate)

theorem timeValid_servoTo {n : Nat} (h : n ≠ 5) : (s.servoTo n).timeValid = s.timeValid :=
  congrArg (· == 1) (s.get_servoTo_apart h (by decide) (by decide))

theorem servo_servoTo {n : Nat} (h : n < 5) : (s.servoTo n).servo = n := by
  have hwidth : n % 2 ^ R.TIME_STATUS_STATE.w = n := Nat.mod_eq_of_lt (h.trans (by decide))
  rw [s.servoTo_plain h.ne]
  exact (get_putB_apart _ _ _ (by decide)).trans ((get_put_same _ _ _ _ (by decide)).trans hwidth)

/-- The fall of TIME_VALID is told with the state that the servo is in. -/
theorem setValid_falls (h : s.timeValid = true) :
    s.setValid false =
      (((s.clrF Pg.time R.TIME_STATUS_TIME_VALID).event Pg.time E.P018_TIME_VALID_CHANGED).count Pg.time
        R.CNT_HOLDOVER_TIME_VALID).raise Pg.time K.TIME_VALID_LOST s.servo := by
  have hservo : ((s.clrF Pg.time R.TIME_STATUS_TIME_VALID).event Pg.time E.P018_TIME_VALID_CHANGED).servo = s.servo :=
    (get_put_apart _ _ _ (by decide)).trans (get_put_apart _ _ _ (by decide))
  have hchange : ¬s.timeValid = false := by simp [h]
  rw [← hservo]
  exact if_neg hchange

/-! ### The selection and the measurement (R375, R376) -/

/-- The selection takes the only copy from those that wait. -/
theorem modTime_copies_dropped {c : SyncCopy} (h : s.time.copies = [c]) :
    (s.modTime fun x => { x with copies := x.copies.filter fun d =>
      !(mSeq d.msg == mSeq c.msg && mClock d.msg == mClock c.msg) }) = s.modTime fun x => { x with copies := [] } := by
  simp [modTime, h]

/-- Syncs of another clock than the hub's grandmaster are dropped. -/
theorem syncSelect_foreign {c : SyncCopy} (residence : Nat) (hcopies : s.time.copies = [c]) (hgm : s.betterGm = none)
    (hclock : mClock c.msg ≠ s.uid) :
    s.syncSelect residence = s.modTime fun x => { x with copies := [] } := by
  have hunused : mClock c.msg ≠ s.uid ∨ s.servo = 0 ∨ s.servo = 2 := .inl hclock
  simp only [syncSelect, hcopies, hgm, s.modTime_copies_dropped hcopies, List.filter_cons, List.filter_nil,
    beq_self_eq_true, Bool.and_self, if_true, bestCopy, if_pos hunused]

theorem modTime_modTime (f g : TimeBase → TimeBase) : (s.modTime f).modTime g = s.modTime fun x => g (f x) := rfl

theorem putB_false (p : Nat) (f : Fld) : s.putB p f false = s.clrF p f := rfl

/-- What TIME_STATUS and the queue of measurements show of a copy that came on a ring side and was selected. -/
def measured (s : State) (c : SyncCopy) : State :=
  let n := Nat.min 1023 (mSpecific c.msg)
  let t := (((s.modTime fun x =>
    { x with copies := [], usedSeq := some (mClock c.msg, mSeq c.msg), selPort := some c.port }).put Pg.time
      R.TIME_STATUS_PATH (pathOf c.port)).clrF Pg.time R.TIME_STATUS_VIA_STITCH).put Pg.time R.TIME_STATUS_PATH_TRANSITS n
  (t.count Pg.ptp R.CNT_SYNC_SYNC).measPush
    { seq := mSeq c.msg, path := pathOf c.port, stitch := false, transits := n, offset := s.offsetOf c
      at_ := c.at_ / 2 ^ 16 }

theorem get_measured (c : SyncCopy) {g : Fld} (hpath : R.TIME_STATUS_PATH.apart g = true)
    (hvia : R.TIME_STATUS_VIA_STITCH.apart g = true) (htransits : R.TIME_STATUS_PATH_TRANSITS.apart g = true)
    (hg : g.off < 0x1000000) : (s.measured c).get Pg.time g = s.get Pg.time g := by
  refine (get_measPush_time _ _ g hg).trans ((get_count_ptp_time _ _ g (by decide) hg).trans ?_)
  exact (get_put_apart _ _ _ htransits).trans ((get_put_apart _ _ _ hvia).trans (get_put_apart _ _ _ hpath))

/-- The only copy, of the grandmaster's Sync, is measured, and the servo takes the measurement. -/
theorem syncSelect_measures {c : SyncCopy} {d : GmData} (residence : Nat) (hcopies : s.time.copies = [c])
    (hgm : s.betterGm = some d) (hclock : mClock c.msg = d.ident) (hservo : s.servo = 1) (hport : c.port < 4)
    (hstitch : s.ptpStitch c.port = []) :
    s.syncSelect residence =
      (((s.measured c).servoSync (s.offsetOf c)).servoDecide s.servo (s.offsetOf c)).syntonise c.port := by
  have huse : ¬(mClock c.msg ≠ d.ident ∨ s.servo = 0 ∨ s.servo = 2) := by simp [hclock, hservo]
  have hvia : decide (4 ≤ c.port) = false := decide_eq_false (by omega)
  simp only [syncSelect, hcopies, hgm, s.modTime_copies_dropped hcopies, List.filter_cons, List.filter_nil,
    beq_self_eq_true, Bool.and_self, if_true, bestCopy, if_neg huse]
  rw [hstitch, List.foldl_nil, hvia, when_false, if_neg Bool.false_ne_true, modTime_modTime, putB_false, measured]

/-- In LISTEN a measurement moves the servo and is not processed. -/
theorem servoSync_listen (offset : Int) (h : s.servo = 1) : s.servoSync offset = s.servoTo 3 := if_pos h

theorem servoDecide_listen (offset : Int) : s.servoDecide 1 offset = s := if_neg (by simp)

theorem syntonise_off (k : Nat) (h : s.on Pg.time R.TIME_CFG_SYNT_EN = false) : s.syntonise k = s := by
  unfold syntonise
  dsimp only
  split
  · simp [h]
  · rfl

/-- The first usable Sync of a hub in LISTEN: it is measured, and the servo goes to ACQUIRE. -/
theorem syncSelect_listen {c : SyncCopy} {d : GmData} (residence : Nat) (hcopies : s.time.copies = [c])
    (hgm : s.betterGm = some d) (hclock : mClock c.msg = d.ident) (hservo : s.servo = 1) (hport : c.port < 4)
    (hsynt : s.on Pg.time R.TIME_CFG_SYNT_EN = false) (hstitch : s.ptpStitch c.port = []) :
    s.syncSelect residence = (s.measured c).servoTo 3 := by
  have hlisten : (s.measured c).servo = 1 :=
    (s.get_measured c (by decide) (by decide) (by decide) (by decide)).trans hservo
  have hsynt' : ((s.measured c).servoTo 3).get Pg.time R.TIME_CFG_SYNT_EN = s.get Pg.time R.TIME_CFG_SYNT_EN :=
    (get_servoTo_apart _ (by decide) (by decide) (by decide)).trans
      (s.get_measured c (by decide) (by decide) (by decide) (by decide))
  rw [s.syncSelect_measures residence hcopies hgm hclock hservo hport hstitch, servoSync_listen _ _ hlisten, hservo,
    servoDecide_listen]
  refine syntonise_off _ _ ?_
  rw [on, hsynt']
  exact hsynt

/-! ### Announces (R377) -/

/-- The hub's own Announce, where it neither goes on along the ring nor to the stitch ports. -/
theorem announceTake_own {k : Nat} {m : List Byte} (hforward : s.ptpForward k m = none)
    (hident : (s.annData m).ident = s.uid) (h1 : k ≠ 1) (h2 : k ≠ 2) : s.announceTake k m = s := by
  have hstitch : ¬(k = 1 ∨ k = 2) := by simp [h1, h2]
  simp only [announceTake, hforward, if_neg hstitch, List.foldl_nil, if_pos hident]

/-- The first Announce of another clock is the only one to compare with. -/
theorem announceTake_first {k : Nat} {m : List Byte} (hforward : s.ptpForward k m = none)
    (hident : (s.annData m).ident ≠ s.uid) (h1 : k ≠ 1) (h2 : k ≠ 2) (hfresh : s.freshAnns = []) :
    s.announceTake k m = (s.modTime fun x => { x with anns := [s.annData m] }).compareGm := by
  have hstitch : ¬(k = 1 ∨ k = 2) := by simp [h1, h2]
  simp only [announceTake, hforward, if_neg hstitch, List.foldl_nil, if_neg hident, hfresh, List.filter_nil, List.any_nil,
    Bool.false_eq_true, if_false, List.nil_append]

theorem announceExpired_becomes (hon : s.timeOn = true) (hgm : s.on Pg.time R.TIME_CFG_GM_CAPABLE = true)
    (hservo : s.servo = 1 ∨ s.servo = 5) :
    s.announceExpired =
      (s.modTime fun x =>
        { x with anns := x.anns.filter fun d => decide (GmData.rank s.ownData ≤ GmData.rank d) }).becomeGm := by
  refine if_pos ?_
  simp [hon, hgm, hservo]

end Sys2Proof.Machine.State
end

section
/-! The settling of the statement on PTP and the servo. -/

namespace Sys2Proof.Machine

/-- Settles O45: a message that passes the checks of R369 and R370 does what its type does (`ptpIn_good`), another is
discarded and counted (`ptpIn_bad`); a send and a timer do what the lemma above says of them. The mean of the loops is rounded
by a free choice (`roundFree`, log entry 22). That one row is one measurement, from the selection to the servo, and that in
LISTEN it moves the servo without being processed (`syncSelect_listen`), is what the model deduces (log entry 55). -/
theorem ptpAndServo : Obligations.PtpAndServo := by
  unfold Obligations.PtpAndServo
  intro s k m t1 t4 turn res ratio bad hon
  refine ⟨fun hlink => ⟨?_, fun hdomain hport => ?_⟩, fun hbad => ?_, fun hgood => ?_,
    fun hgood hasked hclock hport => ?_, fun hasked => ⟨fun hmisses hok => ?_, fun hmisses => ?_⟩,
    fun hservo hports => ?_, fun hgood hforward => ⟨fun hown => ?_, fun hclock hnew hstitch hok => ?_⟩,
    fun c hcopies hgm hclock => ?_, fun c d hcopies hgm hclock hservo hport hsynt hstitch => ?_,
    fun hgm => ⟨fun hports => ?_, fun hservo => ?_⟩, fun hgood hforward hident hside => ?_,
    fun hgood hforward hident hside hfresh => ?_, fun hservo => ?_, fun hservo => ⟨fun hvalid => ?_, fun hvalid => ?_⟩⟩
  -- PDELAY_REQ_SEND, RATE_RATIO_MEASUREMENT
  · exact finishAll_of_eq (s.pdelaySend_active _ hon hlink)
  · exact finishAll_of_eq ((s.whenTimeDomain_of_on _ hdomain).trans ((if_neg (by simp [hlink])).trans (if_neg hport)))
  -- PDELAY_REQ, PDELAY_RESP, PDELAY_ANSWER_TIMEOUT
  · exact finishAll_of_eq (s.ptpIn_bad _ hon hbad)
  · exact finishAll_of_eq (s.ptpIn_good _ hon hgood)
  · exact finishAll_of_eq ((s.ptpIn_good _ hon hgood).trans (s.pdelayTake_answer _ hasked hclock hport))
  · exact finishAll_of_eq ((s.pdelayMiss_asked hon hasked).trans
      (if_pos ⟨Nat.succ_le_succ hmisses, (s.on_pdelayOk_missed k).trans hok⟩))
  · exact finishAll_of_eq ((s.pdelayMiss_asked hon hasked).trans (if_neg fun h => by omega))
  -- SYNC_SEND, SYNC, SYNC_WAIT_EXPIRY
  · exact finishAll_of_eq (s.syncSend_unlinked hon hservo hports)
  · exact finishAll_of_eq ((s.ptpIn_good _ hon hgood).trans (s.syncIn_own hforward hown))
  · exact finishAll_of_eq ((s.ptpIn_good _ hon hgood).trans (s.syncIn_copy hforward hclock hnew hstitch hok))
  · exact finishAll_of_eq ((s.whenTime_of_on _ hon).trans (s.syncSelect_foreign _ hcopies hgm hclock))
  · exact finishAll_of_eq ((s.whenTime_of_on _ hon).trans
      (s.syncSelect_listen _ hcopies hgm hclock hservo hport hsynt hstitch))
  -- ANNOUNCE_SEND, ANNOUNCE_TIMEOUT, PTP_ANNOUNCE
  · exact finishAll_of_eq (s.announceSend_unlinked hon hgm hports)
  · exact finishAll_of_eq (s.announceExpired_becomes hon hgm hservo)
  · obtain ⟨h1, h2⟩ : k.val ≠ 1 ∧ k.val ≠ 2 := by rcases hside with rfl | rfl <;> decide
    exact finishAll_of_eq ((s.ptpIn_good _ hon hgood).trans (s.announceTake_own hforward hident h1 h2))
  · exact finishAll_of_eq ((s.ptpIn_good _ hon hgood).trans
      (s.announceTake_first hforward hident (by omega) (by omega) hfresh))
  -- SYNC_LOSS_TIMEOUT, HOLDOVER_EXPIRY
  · exact finishAll_of_eq ((s.whenTime_of_on _ hon).trans (if_pos hservo))
  · refine finishAll_of_eq ((s.whenTime_of_on _ hon).trans ((if_pos hservo).trans
      ((State.setValid_falls _ ((s.timeValid_servoTo (by decide)).trans hvalid)).trans ?_)))
    rw [s.servo_servoTo (by decide)]
  · exact finishAll_of_eq ((s.whenTime_of_on _ hon).trans ((if_pos hservo).trans
      (if_pos ((s.timeValid_servoTo (by decide)).trans hvalid))))

end Sys2Proof.Machine
end

section
/-! SUPPORT. What settling gives (R399 to R401, R405, R425): the sources read as before it, a vector or a notification that
stays in PENDING has one, and the nINT bits are the levels of the balls. -/

namespace Sys2Proof.Machine

open Sys2Proof (Word)

/-! ### The words that the sources are read from -/

/-- Settling writes words of three pages only. -/
theorem settleKey_page_ne {p o : Nat} (ho : o < 0x1000000) (hint : p ≠ Pg.interrupts) (htime : p ≠ Pg.intTime)
    (hhigh : p ≠ Pg.liveHigh Pg.intTime) : settleKey (regKey p o) = false := by
  refine Bool.eq_false_iff.mpr fun h => ?_
  revert h
  simp only [settleKey, List.contains_iff_mem, List.mem_cons, List.not_mem_nil, or_false, imp_false, not_or]
  refine ⟨?_, ?_, ?_, ?_, ?_, ?_, ?_⟩ <;> exact regKey_ne ho (by decide) (.inl ‹_›)

/-- It writes none of the event words at the head of a page. -/
theorem settleKey_head (p : Nat) {o : Nat} (h : o < 0x028) : settleKey (regKey p o) = false := by
  refine Bool.eq_false_iff.mpr fun h => ?_
  revert h
  simp only [settleKey, List.contains_iff_mem, List.mem_cons, List.not_mem_nil, or_false, imp_false, not_or]
  have hoff : R.INT_STATUS.off = 0x064 := rfl
  refine ⟨?_, ?_, ?_, ?_, ?_, ?_, ?_⟩ <;> exact regKey_ne (by omega) (by decide) (.inr (by omega))

namespace State

variable {s t : State}

theorem SettleSame.rd_eq (h : SettleSame s t) {p o : Nat} (hk : settleKey (regKey p o) = false) : t.rd p o = s.rd p o :=
  h.1 _ hk

theorem SettleSame.sourcePending_eq (h : SettleSame s t) (n : Nat) : t.sourcePending n = s.sourcePending n := by
  have hstatus (p : Nat) : t.rd p 0x010 = s.rd p 0x010 := h.rd_eq (settleKey_head p (by decide))
  have henable (p : Nat) : t.rd p 0x014 = s.rd p 0x014 := h.rd_eq (settleKey_head p (by decide))
  have hdomains : t.rd Pg.power R.PD_ON.off = s.rd Pg.power R.PD_ON.off := h.rd_eq (by decide)
  simp only [sourcePending, pageOn, domainOn, hstatus, henable, hdomains]

theorem SettleSame.routeWord_eq (h : SettleSame s t) {n : Nat} (hn : n < 128) : t.routeWord n = s.routeWord n := by
  rw [routeWord, h.rd_eq (settleKey_page_ne (by omega) (by decide) (by decide) (by decide)), routeWord]

theorem SettleSame.sentTo_eq (h : SettleSame s t) (b : Nat) {n : Nat} (hn : n < 128) : t.sentTo b n = s.sentTo b n := by
  have hmask : (R.SRC_MASK (n / 32)).off < 0x1000000 := by
    have : (R.SRC_MASK (n / 32)).off = 0x050 + 0x4 * (n / 32) := rfl
    omega
  rw [sentTo, sourceMasked, h.routeWord_eq hn, h.sourcePending_eq,
    h.rd_eq (settleKey_page_ne hmask (by decide) (by decide) (by decide)), sentTo, sourceMasked]

theorem SettleSame.any_sentTo_eq (h : SettleSame s t) (b : Nat) :
    (List.range 128).any (t.sentTo b) = (List.range 128).any (s.sentTo b) := by
  rw [Bool.eq_iff_iff, List.any_eq_true, List.any_eq_true]
  exact exists_congr fun n => and_congr_right fun hn => by
    rw [h.sentTo_eq b (List.mem_range.mp hn)]

theorem SettleSame.liveCount_eq (h : SettleSame s t) (v : Nat) : t.liveCount v = s.liveCount v := by
  refine congrArg List.length (List.filter_congr fun n hn => ?_)
  have hlt := List.mem_range.mp hn
  rw [liveOn, liveOn, h.routeWord_eq hlt, h.sentTo_eq 6 hlt]

/-! ### Vectors (R401) -/

/-- A vector in PENDING has a live source. -/
def Sourced (s : State) (v : Nat) : Prop := (s.vec v).st = 1 → 0 < s.liveCount v

theorem SettleSame.sourced (h : SettleSame s t) {v : Nat} (hvec : t.vec v = s.vec v) (hs : s.Sourced v) :
    t.Sourced v := by
  rwa [Sourced, hvec, h.liveCount_eq]

theorem vec_setVec_same (s : State) {v : Nat} (hv : v < 64) (x : Vec) : (s.setVec v x).vec v = x := by
  simp [vec, setVec, Vector.getD, hv]

theorem vec_vecDrop_ne (s : State) {v w : Nat} (h : v ≠ w) : (s.vecDrop w).vec v = s.vec v := by
  unfold vecDrop
  split
  · exact s.vec_setVec_ne {} h
  · rfl

/-- Dropping a vector leaves it with a source, or out of PENDING. -/
theorem sourced_vecDrop_same (s : State) {v : Nat} (hv : v < 64) : (s.vecDrop v).Sourced v := by
  unfold vecDrop
  split
  case isTrue =>
    intro hst
    have hvec : (((s.setVec v {}).setPba v false).vec v) = {} := s.vec_setVec_same hv {}
    rw [hvec] at hst
    exact absurd hst (by decide)
  case isFalse hnot => exact fun hst => Nat.pos_of_ne_zero fun hzero => hnot ⟨hst, hzero⟩

theorem sourced_vecDrop (s : State) {v w : Nat} (hw : w < 64) (h : v = w ∨ s.Sourced v) : (s.vecDrop w).Sourced v := by
  by_cases hvw : v = w
  · exact hvw ▸ s.sourced_vecDrop_same (hvw ▸ hw)
  · exact (settleSame_vecDrop s w hw).sourced (s.vec_vecDrop_ne hvw) (h.resolve_left hvw)

theorem sourced_vecDrops (s : State) {l : List Nat} (hl : ∀ w ∈ l, w < 64) {v : Nat} (h : v ∈ l ∨ s.Sourced v) :
    (l.foldl vecDrop s).Sourced v := by
  induction l generalizing s with
  | nil => exact h.resolve_left List.not_mem_nil
  | cons w l ih =>
    have hdrop : v = w ∨ s.Sourced v → (s.vecDrop w).Sourced v := s.sourced_vecDrop (hl w List.mem_cons_self)
    refine ih _ (fun x hx => hl x (List.mem_cons_of_mem w hx)) ?_
    rcases h with hmem | hs
    · exact (List.mem_cons.mp hmem).symm.imp_right fun hv => hdrop (.inl hv)
    · exact .inr (hdrop (.inr hs))

/-! ### The notification (R425) -/

theorem usbRouted_noteDrop (s : State) (h : s.noteDrop.usb.note.st = 1) : s.noteDrop.usbRouted = true := by
  unfold noteDrop at h ⊢
  split at h
  case isTrue => exact absurd h Nat.zero_ne_one
  case isFalse hnot =>
    rw [if_neg hnot]
    exact (Bool.not_eq_false _).mp fun hrouted => hnot ⟨h, hrouted⟩

theorem pcie_noteDrop (s : State) : s.noteDrop.pcie = s.pcie := by
  unfold noteDrop
  split <;> rfl

/-! ### The nINT balls (R405) -/

/-- Driving a ball writes registers only. -/
theorem driveNint_eq (s : State) (b : Nat) : ∃ r, s.driveNint b = { s with regs := r } := by
  unfold driveNint
  dsimp only
  split <;> exact ⟨_, rfl⟩

theorem vec_driveNint (s : State) (b v : Nat) : (s.driveNint b).vec v = s.vec v := by
  obtain ⟨r, h⟩ := s.driveNint_eq b
  rw [h]
  rfl

theorem usb_driveNint (s : State) (b : Nat) : (s.driveNint b).usb = s.usb := by
  obtain ⟨r, h⟩ := s.driveNint_eq b
  rw [h]

/-- Driving a ball writes its bit of INT_STATUS, whether or not it records a time. -/
theorem on_driveNint (s : State) {b c : Nat} (hb : b < 2) :
    (s.driveNint b).on Pg.interrupts ⟨R.INT_STATUS.off, c, 1⟩ =
      (s.putB Pg.interrupts ⟨R.INT_STATUS.off, b, 1⟩ (s.nintLow b)).on Pg.interrupts ⟨R.INT_STATUS.off, c, 1⟩ := by
  unfold driveNint
  dsimp only
  split
  · have hoff : R.INT_STATUS.off < 0x1000000 := by decide
    rw [on, get, wrTime, rd_wr_ne _ _ _ _ _ _ (by omega) hoff (.inl (by decide)),
      rd_wr_ne _ _ _ _ _ _ (by omega) hoff (.inl (by decide))]
    rfl
  · rfl

theorem on_driveNint_same (s : State) {b : Nat} (hb : b < 2) :
    (s.driveNint b).on Pg.interrupts ⟨R.INT_STATUS.off, b, 1⟩ = s.nintLow b :=
  (s.on_driveNint hb).trans (s.on_putB_same _ _ _ (show b + 1 ≤ 32 by omega) rfl)

/-- Driving nINT1 leaves the bit of nINT0. -/
theorem on_driveNint_one (s : State) :
    (s.driveNint 1).on Pg.interrupts ⟨R.INT_STATUS.off, 0, 1⟩ = s.on Pg.interrupts ⟨R.INT_STATUS.off, 0, 1⟩ :=
  (s.on_driveNint (by decide)).trans (s.on_putB_apart _ _ (by decide))

/-! ### Settling -/

/-- Driving both balls settles a state in which what is in PENDING has a source: the second leaves the bit of the first. -/
theorem settled_driveNints (s : State) (hvecs : ∀ v < 64, s.Sourced v)
    (hnote : s.usb.note.st = 1 → s.usbRouted = true) : ((s.driveNint 0).driveNint 1).Settled := by
  have h0 : SettleSame s (s.driveNint 0) := s.settleSame_driveNint 0 (by decide)
  have h1 : SettleSame (s.driveNint 0) ((s.driveNint 0).driveNint 1) := settleSame_driveNint _ 1 (by decide)
  have h01 := h0.trans h1
  refine ⟨fun b hb => ?_, fun v hv => ?_, fun hst => ?_⟩
  · rcases (by omega : b = 0 ∨ b = 1) with rfl | rfl
    · exact (on_driveNint_one _).trans ((s.on_driveNint_same (by decide)).trans (h01.any_sentTo_eq 7).symm)
    · exact (on_driveNint_same _ (by decide)).trans (h1.any_sentTo_eq 8).symm
  · exact h01.sourced ((vec_driveNint _ 1 v).trans (s.vec_driveNint 0 v)) (hvecs v hv)
  · rw [usb_driveNint, usb_driveNint] at hst
    exact (h01.any_sentTo_eq 9).trans (hnote hst)

/-- Settling leaves a settled state: dropping gives what is in PENDING a source, and driving the balls keeps it. -/
theorem settled_settle (s : State) : s.settle.Settled := by
  refine settled_driveNints _ (fun v hv => ?_) (usbRouted_noteDrop _)
  refine (settleSame_noteDrop _).sourced (by rw [vec, pcie_noteDrop, vec]) ?_
  exact s.sourced_vecDrops (fun w hw => List.mem_range.mp hw) (.inl (List.mem_range.mpr hv))

end State

end Sys2Proof.Machine
end

section
/-! The settling of the statements on the step and its end. -/

namespace Sys2Proof.Machine

/-- Settles O1: a step takes the command at the front of the queue, by the two cases of its definition. That an empty queue
lets one nanosecond pass is the model's choice (log entry 5). -/
theorem stepRunsCommand : Obligations.StepRunsCommand := by
  unfold Obligations.StepRunsCommand
  refine ⟨fun c s => rfl, fun c rest s hqueue => ?_, fun s hqueue => ?_⟩
  · simp only [step, hqueue]
  · simp only [step, hqueue]
    rfl

/-- Settles O2: a step is answered by a next state that its meaning has settled (`step_settles`), and settling leaves a
settled state (`settled_settle`). -/
theorem stepSettles : Obligations.StepSettles := by
  unfold Obligations.StepSettles
  intro s
  obtain ⟨x, hx⟩ := step_settles s
  exact ⟨x.settle, hx, x.settled_settle⟩

end Sys2Proof.Machine
end

section
/-! SUPPORT. The sources as their registers show them (R399): the bits of SRC_PEND, and what a source follows from. -/

namespace Sys2Proof.Machine

open Sys2Proof (Word Agent)

/-! ### Numbers made of bits -/

theorem bitOf_bitsNat (l : List Bool) (i : Nat) : bitOf (bitsNat l) i = l.getD i false := by
  induction l generalizing i with
  | nil => simp [bitsNat, bitOf]
  | cons b l ih =>
    have hcons : bitsNat (b :: l) = 2 * bitsNat l + b2n b := Nat.add_comm ..
    cases i with
    | zero => cases b <;> simp [hcons, bitOf, b2n]
    | succ i =>
      have hhalf : (2 * bitsNat l + b2n b) / 2 = bitsNat l := by cases b <;> simp [b2n]; omega
      rw [hcons, bitOf, Nat.testBit_succ, hhalf, List.getD_cons_succ]
      exact ih i

theorem bitOf_word {x i : Nat} (h : i < 32) : bitOf (word x).toNat i = bitOf x i := by
  rw [word, BitVec.toNat_ofNat, bitOf, Nat.testBit_mod_two_pow, decide_eq_true h, Bool.true_and, bitOf]

/-- Two words have a bit in common where their conjunction is not 0. -/
theorem and_ne_zero_iff (x y : Word) :
    (x &&& y != 0) = true ↔ ∃ i < 32, bitOf x.toNat i = true ∧ bitOf y.toNat i = true := by
  rw [bne_iff_ne, ne_eq, BitVec.eq_of_getLsbD_eq_iff]
  simp [bitOf, BitVec.testBit_toNat]

namespace State

variable (s : State)

/-- A read of SRC_PEND gives the sources of its word (R399). -/
theorem shown_srcPend (a : Agent) {w : Nat} (hw : w < 4) :
    s.shown a Pg.events (R.SRC_PEND w).off = word (bitsNat ((List.range 32).map fun i => s.sourcePending (32 * w + i))) := by
  have hoff : (R.SRC_PEND w).off = 0x040 + 0x4 * w := rfl
  have hbase : (0x040 + 0x4 * w - 0x040) * 8 = 32 * w := by omega
  have hpast : ¬ 0x040 + 0x4 * w < 0x28 := by omega
  have hrange : 0x040 ≤ 0x040 + 0x4 * w ∧ 0x040 + 0x4 * w < 0x050 := by omega
  rw [hoff, shown, if_neg hpast, if_neg (by decide), if_neg (by decide), if_neg (by decide), if_pos (.inl (by decide)),
    aonWord, if_neg (by decide), if_pos rfl, if_pos hrange, hbase]

theorem bitOf_shown_srcPend (a : Agent) {n : Nat} (hn : n < 128) :
    bitOf (s.shown a Pg.events (R.SRC_PEND (n / 32)).off).toNat (n % 32) = s.sourcePending n := by
  have hbit : n % 32 < 32 := Nat.mod_lt n (by decide)
  rw [s.shown_srcPend a (by omega), bitOf_word hbit, bitOf_bitsNat]
  simp [hbit, Nat.div_add_mod]

/-- A source is pending while a page of it in a domain that is on has an event bit with its enable (R398, R399). -/
theorem sourcePending_iff (n : Nat) :
    s.sourcePending n = true ↔ ∃ p ∈ sourcePages n, s.pageOn p = true ∧
      ∃ i < 32, bitOf (s.rd p R.EVT_STATUS.off).toNat i = true ∧ bitOf (s.rd p R.EVT_ENABLE.off).toNat i = true := by
  rw [sourcePending, List.any_eq_true]
  refine exists_congr fun p => and_congr_right fun _ => ?_
  rw [Bool.and_eq_true, and_ne_zero_iff]
  rfl

/-- A source that is masked is sent nowhere (R399). -/
theorem sentTo_masked {n : Nat} (b : Nat) (h : s.sourceMasked n = true) : s.sentTo b n = false := by
  rw [sentTo, h, Bool.not_true, Bool.false_and, Bool.and_false]

theorem liveOn_masked {n : Nat} (v : Nat) (h : s.sourceMasked n = true) : s.liveOn v n = false := by
  rw [liveOn, s.sentTo_masked 6 h, Bool.and_false]

/-- A write of SRC_MASK reaches none of the words that pending follows from. -/
theorem sourcePending_wr_srcMask (w : Fin 4) (v : Word) (n : Nat) :
    (s.wr Pg.events (R.SRC_MASK w).off v).sourcePending n = s.sourcePending n := by
  have hoff : (R.SRC_MASK w).off = 0x050 + 0x4 * w := rfl
  have hrd (p : Nat) {o : Nat} (ho : o < 0x1000000) (h : p ≠ Pg.events ∨ o < 0x050) :
      (s.wr Pg.events (R.SRC_MASK w).off v).rd p o = s.rd p o :=
    s.rd_wr_ne _ _ _ _ _ (by omega) ho (h.imp_right fun h => by omega)
  have hstatus (p : Nat) := hrd p (o := 0x010) (by decide) (.inr (by decide))
  have henable (p : Nat) := hrd p (o := 0x014) (by decide) (.inr (by decide))
  have hdomains := hrd Pg.power (o := R.PD_ON.off) (by decide) (.inl (by decide))
  simp only [sourcePending, pageOn, domainOn, hstatus, henable, hdomains]

/-- A source whose pages all lie in domains that are off is not pending (R399). -/
theorem sourcePending_off {n : Nat} (h : ∀ p ∈ sourcePages n, s.pageOn p = false) : s.sourcePending n = false :=
  List.any_eq_false.mpr fun p hp => by rw [h p hp, Bool.false_and]; exact Bool.false_ne_true

end State

end Sys2Proof.Machine
end

section
/-! The settling of the statement on the event sources. -/

namespace Sys2Proof.Machine

/-- Settles O5: SRC_PEND is made of the sources that are pending (`bitOf_shown_srcPend`), which the pages' event words and the
domains decide (`sourcePending_iff`), so that a write of SRC_MASK changes none; a masked source is sent nowhere
(`sentTo_masked`). -/
theorem eventSources : Obligations.EventSources := by
  unfold Obligations.EventSources
  intro s a n hn
  exact ⟨s.bitOf_shown_srcPend a hn, s.sourcePending_iff n,
    fun hmask => ⟨fun b => s.sentTo_masked b hmask, fun v => s.liveOn_masked v hmask⟩,
    fun w v => s.sourcePending_wr_srcMask w v n, s.sourcePending_off⟩

end Sys2Proof.Machine
end

section
/-! SUPPORT. What a write of a register changes beside the registers: the staging copies, the store and the fault queues, for
a Kept word that changes is journalled (R27, R480, R553). -/

namespace Sys2Proof.Machine.State

open Sys2Proof (Word)

variable (s : State)

/-- A digest that goes out of date changes registers only. -/
theorem digestStale_eq (p off : Nat) (old new : Word) (active : Bool) :
    ∃ r, s.digestStale p off old new active = { s with regs := r } := by
  unfold digestStale
  split
  · exact ⟨_, rfl⟩
  · cases active <;> exact ⟨_, rfl⟩

theorem wrKept_eq (p off : Nat) (v : Word) :
    ∃ r x y, s.wrKept p off v = { s with regs := r, seed := x, thr := y } := by
  rcases s.wrKept_cases p off v with h | h <;> rw [h]
  · exact ⟨_, s.seed, s.thr, rfl⟩
  · obtain ⟨r, x, y, hj⟩ := (s.wr p off v).journal_eq (regKey p off) v
    obtain ⟨r', hd⟩ := ((s.wr p off v).journal (regKey p off) v).digestStale_eq p off (s.rd p off) v true
    exact ⟨r', x, y, by rw [hd, hj]; rfl⟩

theorem storeWrite_eq (p off : Nat) (v : Word) :
    ∃ r g x y, s.storeWrite p off v = { s with regs := r, staged := g, seed := x, thr := y } := by
  unfold storeWrite
  split
  · exact ⟨s.regs, s.staged, s.seed, s.thr, rfl⟩
  · dsimp only
    obtain ⟨r, x, y, hw⟩ := s.wrKept_eq (s.locate p off).1 (s.locate p off).2 _
    rw [hw]
    split
    · exact ⟨r, s.staged, x, y, rfl⟩
    · unfold stage
      obtain ⟨r', hd⟩ := digestStale_eq (wrStaged _ _ _ _) _ _ _ _ _
      exact ⟨r', _, x, y, hd⟩

end Sys2Proof.Machine.State
end

section
/-! SUPPORT. The PCIe endpoint and its vectors (R394 to R406, R471): what a configuration request, a reset and a link that
comes up do, and how a vector moves between IDLE, PENDING and SENT. -/

namespace Sys2Proof.Machine.State

open Sys2Proof (Word Byte Agent AccessKind)

variable (s : State)

/-! ### Configuration requests (R394, R471) -/

theorem cfgRequest_retry {write : Bool} {off be : Nat} {data : Word} (hup : s.hostUp = true)
    (h : (domainPages 2).all s.ready = false) : s.cfgRequest write off be data = s.emit (.bytes Pg.pcie 1 []) := by
  simp [cfgRequest, hup, h]

theorem cfgRequest_read {off be : Nat} {data : Word} (hup : s.hostUp = true) (hflr : s.pcie.flr = false)
    (h : (domainPages 2).all s.ready = true) :
    s.cfgRequest false off be data = s.emit (.bytes Pg.pcie 0 (leBytes 4 (s.cfgRead off).toNat)) := by
  simp [cfgRequest, hup, hflr, h]

/-- A read of dword 0 gives the vendor and device identifiers. -/
theorem cfgRequest_readIdentity {be : Nat} {data : Word} (hup : s.hostUp = true) (hflr : s.pcie.flr = false)
    (h : (domainPages 2).all s.ready = true) :
    s.cfgRequest false 0 be data = s.emit (.bytes Pg.pcie 0 [0x3B, 0x1F, 0x80, 0x12]) := by
  have hid : s.cfgRead 0 = 0x12801F3B := by rw [cfgRead, if_pos rfl]
  have hbytes : leBytes 4 (0x12801F3B : Word).toNat = [0x3B, 0x1F, 0x80, 0x12] := by decide
  rw [s.cfgRequest_read hup hflr h, hid, hbytes]

/-! ### The link (R396, R406) -/

/-- A reset of the island finds no link to bring down. -/
theorem pcieReset_perst (hon : s.domainOn 2 = true) (hdl : s.dlActive = false) :
    s.pcieReset .perst = s.pcieIslandReset true := by
  simp [pcieReset, hon, dlDown, hdl]

theorem pcieReset_flrDone (hon : s.domainOn 2 = true) :
    s.pcieReset .flrDone = { s with pcie := { s.pcie with flr := false } } := by
  simp [pcieReset, hon]

theorem vecTry_notPending {v : Nat} (h : (s.vec v).st ≠ 1) : s.vecTry v = s := if_neg fun h' => h h'.1

theorem vecsTry_none (h : ∀ v < 64, (s.vec v).st ≠ 1) : s.vecsTry = s :=
  foldl_unchanged _ fun v hv => s.vecTry_notPending (h v (List.mem_range.mp hv))

/-- A link that comes up at the speed and width of PCIE_CFG, with no vector in PENDING, says so in its registers (R406). -/
theorem pcieUp_full {speed width inverted : Nat} {reversed : Bool} (hon : s.domainOn 2 = true) (hdl : s.dlActive = false)
    (hen : s.on Pg.pcie R.PAGE_CTRL_ENABLE = true) (href : s.on Pg.bringUp R.BRINGUP_STATUS_PCIE_REF_ABSENT = false)
    (hspeed : speed ≤ s.get Pg.pcie R.PCIE_CFG_MAX_SPEED) (hwidth : width ≤ Nat.min 2 (s.get Pg.pcie R.PCIE_CFG_MAX_WIDTH))
    (hvecs : ∀ v < 64, (s.vec v).st ≠ 1) :
    s.pcieUp speed width reversed inverted =
      ((((((s.put Pg.pcie R.PCIE_STATUS_LTSSM (Sys2Proof.Config.ltssm 1)).put Pg.pcie R.PCIE_STATUS_SPEED speed).put Pg.pcie
        R.PCIE_STATUS_WIDTH width).setF Pg.pcie R.PCIE_STATUS_DL_ACTIVE).putB Pg.pcie R.PCIE_STATUS_LANES_REVERSED
          reversed).put Pg.pcie R.PCIE_STATUS_LANES inverted).event Pg.pcie E.P030_LINK_UP := by
  have hmay : (!s.domainOn 2 || s.dlActive || !s.on Pg.pcie R.PAGE_CTRL_ENABLE ||
      s.on Pg.bringUp R.BRINGUP_STATUS_PCIE_REF_ABSENT) = false := by simp [hon, hdl, hen, href]
  unfold pcieUp
  rw [if_neg (Bool.not_eq_true _ ▸ hmay)]
  dsimp only
  rw [decide_eq_false (Nat.not_lt.mpr hspeed), decide_eq_false (Nat.not_lt.mpr hwidth), when_false, when_false]
  exact vecsTry_none _ hvecs

/-- RETRAIN of PCIE_CMD sends an active link to Recovery (R406). -/
theorem wrEvents_retrain (hdl : s.dlActive = true) :
    wrEvents Pg.pcie s R.PCIE_CMD.off 2 =
      (s.count Pg.pcie R.PCIE_CNT_LINK_RECOVERY).put Pg.pcie R.PCIE_STATUS_LTSSM (Sys2Proof.Config.ltssm 2) := by
  have hclear : bitOf (2 : Word).toNat 0 = false := by decide
  have hretrain : bitOf (2 : Word).toNat 1 = true := by decide
  rw [wrEvents, if_neg (by decide), if_pos rfl, if_pos rfl, hclear, when_false, hretrain, Bool.true_and, hdl, when_true]

/-! ### Vectors (R401, R402) -/

theorem liveCount_pos {n v : Nat} (hn : n < 128) (h : s.liveOn v n = true) : 0 < s.liveCount v :=
  List.length_pos_of_mem (List.mem_filter.mpr ⟨List.mem_range.mpr hn, h⟩)

/-- A live source moves its vector from IDLE to PENDING, where it is tried. -/
theorem vecLive_idle {n v : Nat} (hn : n < 128) (hlive : s.liveOn v n = true) (hst : (s.vec v).st = 0) :
    s.vecLive v = (s.setVec v { st := 1 }).vecTry v := by
  rw [vecLive, if_pos (s.liveCount_pos hn hlive), if_pos hst]

/-- A vector that waits for its timer or for more sources stays in PENDING. -/
theorem vecTry_notDue {v : Nat} (h : s.vecDue v = false) : s.vecTry v = s := if_neg fun h' => by simp [h] at h'

/-- A vector that is due and may issue sends its message (R401). -/
theorem vecTry_issues {v : Nat} (hst : (s.vec v).st = 1) (hdue : s.vecDue v = true) (hon : s.domainOn 2 = true)
    (hen : s.msixEnable = true) (hmaster : s.busMaster = true) (hfunc : s.msixFuncMask = false)
    (hmask : s.vecMasked v = false) : s.vecTry v = s.vecIssue v := by
  simp [vecTry, hst, hdue, hon, hen, hmaster, hfunc, hmask]

/-- A vector that is due and masked sets its PBA bit. -/
theorem vecTry_masked {v : Nat} (hst : (s.vec v).st = 1) (hdue : s.vecDue v = true) (hon : s.domainOn 2 = true)
    (hen : s.msixEnable = true) (hmaster : s.busMaster = true) (hmask : s.vecMasked v = true) :
    s.vecTry v = s.setPba v true := by
  simp [vecTry, hst, hdue, hon, hen, hmaster, hmask]

/-- A vector that has just entered PENDING is due as its settings say: its timer has not run. -/
theorem vecDue_entered {v : Nat} (hv : v < 64) (h : s.vecDue v = false) : (s.setVec v { st := 1 }).vecDue v = false := by
  have hold : s.vecDue v = ((s.vec v).timer || (s.setVec v { st := 1 }).vecDue v) := by
    simp only [vecDue, s.vec_setVec_same hv, Bool.false_or, Bool.or_assoc]
    rfl
  exact (Bool.or_eq_false_iff.mp (hold ▸ h)).2

/-- Without a coalescing time a vector is due at once. -/
theorem vecDue_noTime {v : Nat} (h : (s.rd Pg.coalTable (4 * v)).toNat % 2 ^ 16 = 0) : s.vecDue v = true := by
  rw [vecDue, h, beq_self_eq_true, Bool.or_true, Bool.true_or]

theorem vecDue_timer {v : Nat} (h : (s.vec v).timer = true) : s.vecDue v = true := by
  simp [vecDue, h]

/-- Unmasking a vector that is not in PENDING is a write of its table word. -/
theorem wrEvents_unmask {v : Nat} (hv : v < 64) (hst : (s.vec v).st ≠ 1) (x : Word) :
    wrEvents Pg.interrupts s (0x80C + 16 * v) x = s.storeWrite Pg.interrupts (0x80C + 16 * v) x := by
  have h0 : R.VEC_ACK0.off = 0x054 := rfl
  have h1 : R.VEC_ACK1.off = 0x058 := rfl
  have h2 : R.INT_CMD.off < 0x080 := by decide
  obtain ⟨r, g, y, z, hw⟩ := s.storeWrite_eq Pg.interrupts (0x80C + 16 * v) x
  have hindex : (0x80C + 16 * v - 0x800) / 16 = v := by omega
  rw [wrEvents, if_pos rfl, if_neg (by omega), if_neg (by omega), if_pos (by omega), hindex]
  exact vecTry_notPending _ (by rw [hw]; exact hst)

/-- The word of VEC_ACK names one vector. -/
theorem wrEvents_ackFive : wrEvents Pg.interrupts s R.VEC_ACK0.off 0x20 = s.vecAck 5 := rfl

/-- An acknowledged vector without a live source is in IDLE again (R402). -/
theorem vecAck_noSource {v : Nat} (hst : (s.vec v).st = 2) (h : s.liveCount v = 0) : s.vecAck v = s.setVec v {} := by
  have hlive : (s.setVec v {}).liveCount v = 0 := h
  rw [vecAck, if_pos hst, vecLive, if_neg (by rw [hlive]; exact Nat.lt_irrefl 0)]

end Sys2Proof.Machine.State
end

section
/-! The settling of the statement on the PCIe endpoint, the vectors and the sources. -/

namespace Sys2Proof.Machine

/-- A command to a page of the events or of PCIe is the end of a step after the write of its register. -/
theorem finishAll_events {s t : State} {a : Sys2Proof.Agent} {p off : Nat} {v : Sys2Proof.Word}
    (hid : p ≠ Pg.identity) (hstage : State.stagingBit p off = none) (hok : s.writeCode a p off = .ok)
    (h : State.wrEvents p s off v = t) :
    finishAll (s.poke a p off v (State.wrEvents p)) = .next t.flushSinks.settle :=
  finishAll_of_eq ((s.poke_ok' a p off v _ hid hstage hok).trans h)

theorem execSourceLive_vector {s : State} {n : Fin 128} {v : Nat} (hroute : s.routeWord n % 64 = v)
    (hlive : s.liveOn v n = true) (husb : s.sentTo 9 n = false) : execSourceLive n s = finishAll (s.vecLive v) := by
  simp [execSourceLive, hroute, hlive, husb]

theorem execCoalTimerExpiry_pending {s : State} {v : Fin 64} (h : (s.vec v).st = 1) :
    execCoalTimerExpiry v s = finishAll ((s.setVec v { st := 1, timer := true }).vecTry v) := by
  rw [execCoalTimerExpiry, if_pos h]

/-- Settles O48: a configuration request, a reset and a link that comes up do what is said of them above; a source that becomes
live and a timer that runs out put their vector in PENDING, where it is tried (`vecTry_issues`, `vecTry_masked`,
`vecTry_notDue`). The status codes of a configuration answer and the LTSSM codes are the model's choice (log entries 59
and 60), as is that a timer is kept in the vector (log entry 61). -/
theorem endpointAndVectors : Obligations.EndpointAndVectors := by
  unfold Obligations.EndpointAndVectors
  intro s a be data n v spd wid rev inv p issued may
  refine ⟨fun hup => ⟨fun hready => ?_, fun hflr hready => ?_⟩,
    fun hon => ⟨fun hdl => ⟨?_, fun hen href hspeed hwidth hvecs => ?_⟩, ?_⟩, fun hok hdl => ?_,
    fun hroute hmsix husb hst => ⟨fun hdue _ => ?_, fun htime hmay => ?_⟩,
    fun hst => ⟨fun hmay => ?_, fun hon hen hmaster hmask => ?_⟩, fun hok hst => ?_, fun hok hst hlive => ?_⟩
  -- PCIE_CONFIG_REQUEST, PCIE_RESET, PCIE_LINK_UP, RETRAIN_PCIE
  · exact finishAll_of_eq (s.cfgRequest_retry hup hready)
  · exact finishAll_of_eq (s.cfgRequest_readIdentity hup hflr hready)
  · exact finishAll_of_eq (s.pcieReset_perst hon hdl)
  · exact finishAll_of_eq (s.pcieUp_full hon hdl hen href hspeed hwidth hvecs)
  · exact finishAll_of_eq (s.pcieReset_flrDone hon)
  · exact finishAll_events (by decide) (by decide) hok (s.wrEvents_retrain hdl)
  -- SOURCE_LIVE
  · have hlive : s.liveOn v n = true := by rw [State.liveOn, hmsix, hroute, beq_self_eq_true, Bool.true_and]
    exact (execSourceLive_vector hroute hlive husb).trans (finishAll_of_eq ((s.vecLive_idle n.isLt hlive hst).trans
      (State.vecTry_notDue _ (s.vecDue_entered v.isLt hdue))))
  · obtain ⟨hon, hen, hmaster, hfunc, hmask⟩ := hmay
    have hlive : s.liveOn v n = true := by rw [State.liveOn, hmsix, hroute, beq_self_eq_true, Bool.true_and]
    have hentered : ((s.setVec v { st := 1 }).vec v).st = 1 := by rw [s.vec_setVec_same v.isLt]
    exact (execSourceLive_vector hroute hlive husb).trans (finishAll_of_eq ((s.vecLive_idle n.isLt hlive hst).trans
      (State.vecTry_issues _ hentered (State.vecDue_noTime _ htime) hon hen hmaster hfunc hmask)))
  -- COAL_TIMER_EXPIRY
  · obtain ⟨hon, hen, hmaster, hfunc, hmask⟩ := hmay
    have hran : (s.setVec v { st := 1, timer := true }).vec v = { st := 1, timer := true } := s.vec_setVec_same v.isLt _
    exact (execCoalTimerExpiry_pending hst).trans (finishAll_of_eq
      (State.vecTry_issues _ (by rw [hran]) (State.vecDue_timer _ (by rw [hran])) hon hen hmaster hfunc hmask))
  · have hran : (s.setVec v { st := 1, timer := true }).vec v = { st := 1, timer := true } := s.vec_setVec_same v.isLt _
    exact (execCoalTimerExpiry_pending hst).trans (finishAll_of_eq
      (State.vecTry_masked _ (by rw [hran]) (State.vecDue_timer _ (by rw [hran])) hon hen hmaster hmask))
  -- MSIX_UNMASK, VEC_ACK
  · exact finishAll_events (by decide) rfl hok (s.wrEvents_unmask v.isLt hst 0)
  · exact finishAll_events (by decide) (by decide) hok (s.wrEvents_ackFive.trans (s.vecAck_noSource hst hlive))

end Sys2Proof.Machine
end

section
/-! SUPPORT. The inlet controller (R434 to R448): what the inlet drives in each of its states, and what a fault, a lost window
and a write to its page do there. -/

namespace Sys2Proof.Machine.State

open Sys2Proof (Word Agent)

variable {s : State}

/-! ### The status of the inlet -/

theorem hsState_put (s : State) {f : Fld} (v : Nat) (h : f.apart R.HS_STATUS_STATE = true) :
    (s.put Pg.inlet f v).hsState = s.hsState := s.get_put_apart Pg.inlet v h

theorem pgood_put (s : State) {f : Fld} (v : Nat) (h : f.apart R.HS_STATUS_PGOOD = true) :
    (s.put Pg.inlet f v).pgood = s.pgood := s.on_put_apart Pg.inlet v h

theorem hsState_hsTo (s : State) {n : Nat} (h : n < 8) : (s.hsTo n).hsState = n :=
  (s.get_put_same Pg.inlet R.HS_STATUS_STATE n (by decide)).trans (Nat.mod_eq_of_lt h)

theorem pgood_hsTo (s : State) (n : Nat) : (s.hsTo n).pgood = s.pgood := s.pgood_put n (by decide)

theorem hsState_count (s : State) {f : Fld} (hf : f.off < 0x1000000) (h : R.HS_STATUS_STATE.off ≠ f.off) :
    (s.count Pg.inlet f).hsState = s.hsState := s.get_countN_ne Pg.inlet f 1 hf (by decide) h (by decide)

theorem pgood_count (s : State) {f : Fld} (hf : f.off < 0x1000000) (h : R.HS_STATUS_PGOOD.off ≠ f.off) :
    (s.count Pg.inlet f).pgood = s.pgood := by
  rw [pgood, on, count, s.get_countN_ne Pg.inlet f 1 hf (by decide) h (by decide)]
  rfl

theorem hsState_event (s : State) (n : Nat) : (s.event Pg.inlet n).hsState = s.hsState :=
  s.get_put_ne Pg.inlet Pg.inlet ⟨0x010, n, 1⟩ R.HS_STATUS_STATE 1 (by decide : 0x010 < _) (by decide) (by decide)
    (.inr (.inl (by decide : R.HS_STATUS_STATE.off ≠ 0x010)))

theorem pgood_event (s : State) (n : Nat) : (s.event Pg.inlet n).pgood = s.pgood := by
  rw [pgood, on, event, s.get_put_ne Pg.inlet Pg.inlet ⟨0x010, n, 1⟩ R.HS_STATUS_PGOOD 1 (by decide : 0x010 < _) (by decide)
    (by decide) (.inr (.inl (by decide : R.HS_STATUS_PGOOD.off ≠ 0x010)))]
  rfl

/-! ### Gate and PGOOD (R438, R446) -/

/-- What the inlet drives: the gate, and PGOOD above it. -/
def inletLevel (s : State) : Nat := b2n s.hsGate + 2 * b2n s.pgood

theorem hsDrive_eq (t old : State) :
    t.hsDrive old = t.when (t.inletLevel != old.inletLevel) fun u => u.emit (.level Pg.inlet t.inletLevel) := rfl

theorem hsGate_eq {n : Nat} (hst : s.hsState = n) : s.hsGate = (n == 3 || n == 4 || n == 5) := by rw [hsGate, hst]

theorem inletLevel_eq {n : Nat} {good : Bool} (hst : s.hsState = n) (hgood : s.pgood = good) :
    s.inletLevel = b2n (n == 3 || n == 4 || n == 5) + 2 * b2n good := by rw [inletLevel, hsGate_eq hst, hgood]

theorem inletLevel_count (s : State) {f : Fld} (hf : f.off < 0x1000000) (h : R.HS_STATUS_STATE.off ≠ f.off) :
    (s.count Pg.inlet f).inletLevel = s.inletLevel := by
  rw [inletLevel, hsGate, s.hsState_count hf h, s.pgood_count hf h, inletLevel, hsGate]

/-- A change of what the inlet drives is shown. -/
theorem hsDrive_changes {t old : State} {n : Nat} (ht : t.inletLevel = n) (h : n ≠ old.inletLevel) :
    t.hsDrive old = t.emit (.level Pg.inlet n) := by
  rw [hsDrive_eq, ht, bne_iff_ne.mpr h, when_true]

theorem hsDrive_same {t old : State} (h : t.inletLevel = old.inletLevel) : t.hsDrive old = t := by
  rw [hsDrive_eq, h, bne_self_eq_false, when_false]

/-- The status after the gate turns off: no limit, no timer, and the cause. -/
def inletOff (s : State) (cause : Nat) : State :=
  ((s.clrF Pg.inlet R.HS_STATUS_IN_LIMIT).clrF Pg.inlet R.HS_STATUS_TIMER_RUN).put Pg.inlet R.HS_STATUS_LAST_OFF_CAUSE cause

theorem gateOff_driven (cause : Nat) (h : s.hsGate = true) : s.gateOff cause = s.inletOff cause := by
  unfold gateOff
  dsimp only
  rw [h, when_true, inletOff]

theorem hsState_inletOff (s : State) (cause : Nat) : (s.inletOff cause).hsState = s.hsState := by
  simp (disch := decide) only [inletOff, clrF, hsState_put]

theorem pgood_inletOff (s : State) (cause : Nat) : (s.inletOff cause).pgood = s.pgood := by
  simp (disch := decide) only [inletOff, clrF, pgood_put]

theorem pgoodFall_low (h : s.pgood = false) : s.pgoodFall = s := by rw [pgoodFall, h, when_false]

/-! ### Faults, loss of the window, HS_CYCLE -/

/-- A fault before PGOOD turns the gate off, counts the try, and cools down or latches (R443, R444). -/
theorem inletFault_low {cause st : Nat} (hst : s.hsState = st) (hgate : (st == 3 || st == 4 || st == 5) = true)
    (hgood : s.pgood = false) :
    let n := Nat.min 15 (s.get Pg.inlet R.HS_STATUS_RETRY_COUNT + 1)
    let latch := latches (s.get Pg.inlet R.HS_RETRY_RETRY_MODE) (s.get Pg.inlet R.HS_RETRY_RETRY_MAX) n
    s.inletFault cause =
      ((((((s.inletOff cause).hsTo (if latch then 7 else 1)).put Pg.inlet R.HS_STATUS_RETRY_COUNT n).count Pg.inlet
        R.CNT_HS_FAULT).when (cause == 2) fun t => t.count Pg.inlet R.CNT_HS_FAST).emit (.level Pg.inlet 0)) := by
  intro n latch
  have hoff : ∃ k, (if latch then 7 else 1) = k ∧ k < 8 ∧ (k == 3 || k == 4 || k == 5) = false := by
    cases latch <;> exact ⟨_, rfl, by decide, by decide⟩
  obtain ⟨k, hk, hk8, hkoff⟩ := hoff
  have hst' : (((s.inletOff cause).hsTo k).put Pg.inlet R.HS_STATUS_RETRY_COUNT n).hsState = k :=
    (hsState_put _ n (by decide)).trans (hsState_hsTo _ hk8)
  have hlow : (((s.inletOff cause).hsTo k).put Pg.inlet R.HS_STATUS_RETRY_COUNT n).pgood = false := by
    rw [pgood_put _ n (by decide), pgood_hsTo, pgood_inletOff, hgood]
  have hdrive : s.inletFault cause =
      ((((((s.inletOff cause).hsTo k).put Pg.inlet R.HS_STATUS_RETRY_COUNT n).count Pg.inlet R.CNT_HS_FAULT).when
        (cause == 2) fun t => t.count Pg.inlet R.CNT_HS_FAST)).hsDrive s := by
    unfold inletFault
    dsimp only
    rw [gateOff_driven cause ((hsGate_eq hst).trans hgate), hk, pgoodFall_low hlow]
  rw [hdrive, hk]
  refine hsDrive_changes ?_ ?_
  · have hcounted : ((((s.inletOff cause).hsTo k).put Pg.inlet R.HS_STATUS_RETRY_COUNT n).count Pg.inlet
        R.CNT_HS_FAULT).inletLevel = 0 := by
      rw [inletLevel_count _ (by decide) (by decide), inletLevel_eq hst' hlow, hkoff]
      rfl
    rcases when_cases _ (cause == 2) fun t => t.count Pg.inlet R.CNT_HS_FAST with h | h <;> rw [h]
    · rw [inletLevel_count _ (by decide) (by decide), hcounted]
    · exact hcounted
  · rw [inletLevel_eq hst hgood, hgate]
    decide

/-- A fault that is no fast trip is counted alone. -/
theorem inletFault_slow {cause st : Nat} (hcause : cause ≠ 2) (hst : s.hsState = st)
    (hgate : (st == 3 || st == 4 || st == 5) = true) (hgood : s.pgood = false) :
    let n := Nat.min 15 (s.get Pg.inlet R.HS_STATUS_RETRY_COUNT + 1)
    let latch := latches (s.get Pg.inlet R.HS_RETRY_RETRY_MODE) (s.get Pg.inlet R.HS_RETRY_RETRY_MAX) n
    s.inletFault cause =
      ((((s.inletOff cause).hsTo (if latch then 7 else 1)).put Pg.inlet R.HS_STATUS_RETRY_COUNT n).count Pg.inlet
        R.CNT_HS_FAULT).emit (.level Pg.inlet 0) := by
  intro n latch
  rw [inletFault_low hst hgate hgood, beq_false_of_ne hcause, when_false]

/-- A fast trip is counted as a fault and as a fast trip. -/
theorem inletFault_fast {st : Nat} (hst : s.hsState = st) (hgate : (st == 3 || st == 4 || st == 5) = true)
    (hgood : s.pgood = false) :
    let n := Nat.min 15 (s.get Pg.inlet R.HS_STATUS_RETRY_COUNT + 1)
    let latch := latches (s.get Pg.inlet R.HS_RETRY_RETRY_MODE) (s.get Pg.inlet R.HS_RETRY_RETRY_MAX) n
    s.inletFault 2 =
      (((((s.inletOff 2).hsTo (if latch then 7 else 1)).put Pg.inlet R.HS_STATUS_RETRY_COUNT n).count Pg.inlet
        R.CNT_HS_FAULT).count Pg.inlet R.CNT_HS_FAST).emit (.level Pg.inlet 0) := by
  intro n latch
  rw [inletFault_low hst hgate hgood, beq_self_eq_true, when_true]

/-- Below its window an inlet that has not released PGOOD goes back to INSERT (R438). -/
theorem windowLost_low {st : Nat} (hst : s.hsState = st) (hgate : (st == 3 || st == 4 || st == 5) = true)
    (hgood : s.pgood = false) :
    s.windowLost .under = (((s.clrF Pg.inlet R.HS_STATUS_WINDOW_MET).inletOff 4).hsTo 2).emit (.level Pg.inlet 0) := by
  have hst' : (s.clrF Pg.inlet R.HS_STATUS_WINDOW_MET).hsState = st := (s.hsState_put 0 (by decide)).trans hst
  have hgood' : (s.clrF Pg.inlet R.HS_STATUS_WINDOW_MET).pgood = false := (s.pgood_put 0 (by decide)).trans hgood
  have hdrive : s.windowLost .under =
      (((s.clrF Pg.inlet R.HS_STATUS_WINDOW_MET).inletOff 4).hsTo 2).hsDrive s := by
    rw [← gateOff_driven 4 ((hsGate_eq hst').trans hgate)]
    simp only [windowLost, hsGate_eq hst, hgate, hgood]
    rfl
  rw [hdrive]
  refine hsDrive_changes ?_ ?_
  · rw [inletLevel_eq (hsState_hsTo _ (by decide)) (by rw [pgood_hsTo, pgood_inletOff, hgood'])]
    rfl
  · rw [inletLevel_eq hst hgood, hgate]
    decide

/-- Above its window an inlet that is ON holds: PGOOD stays (R438). -/
theorem windowLost_hold (hst : s.hsState = 5) (hgood : s.pgood = true) :
    s.windowLost .over =
      (((((s.clrF Pg.inlet R.HS_STATUS_WINDOW_MET).inletOff 5).hsTo 6).count Pg.inlet R.CNT_HS2_HOLD).event Pg.inlet
        E.P020_HOLD_ENTERED).emit (.level Pg.inlet 2) := by
  have hst' : (s.clrF Pg.inlet R.HS_STATUS_WINDOW_MET).hsState = 5 := (s.hsState_put 0 (by decide)).trans hst
  have hgood' : (s.clrF Pg.inlet R.HS_STATUS_WINDOW_MET).pgood = true := (s.pgood_put 0 (by decide)).trans hgood
  have hdrive : s.windowLost .over =
      (((((s.clrF Pg.inlet R.HS_STATUS_WINDOW_MET).inletOff 5).hsTo 6).count Pg.inlet R.CNT_HS2_HOLD).event Pg.inlet
        E.P020_HOLD_ENTERED).hsDrive s := by
    rw [← gateOff_driven 5 (hsGate_eq hst')]
    simp only [windowLost, hsGate_eq hst, hgood]
    rfl
  rw [hdrive]
  refine hsDrive_changes ?_ (by rw [inletLevel_eq hst hgood]; decide)
  refine inletLevel_eq (n := 6) (good := true) ?_ ?_
  · rw [hsState_event, hsState_count _ (by decide) (by decide), hsState_hsTo _ (by decide)]
  · rw [pgood_event, pgood_count _ (by decide) (by decide), pgood_hsTo, pgood_inletOff, hgood']

/-- A valid HS_CYCLE in RAMP turns the gate off and holds it off (R447). -/
theorem hsCycle_ramp (hst : s.hsState = 3) (hgood : s.pgood = false) :
    s.hsCycle = (((s.inletOff 7).hsTo 2).modPower fun x => { x with holdOff := true }).emit (.level Pg.inlet 0) := by
  have hst' : ((s.inletOff 7).hsTo 2).hsState = 2 := hsState_hsTo _ (by decide)
  have hgood' : ((s.inletOff 7).hsTo 2).pgood = false := by rw [pgood_hsTo, pgood_inletOff, hgood]
  have hdrive : s.hsCycle = (((s.inletOff 7).hsTo 2).modPower fun x => { x with holdOff := true }).hsDrive s := by
    rw [hsCycle, if_neg (by rw [hst]; decide), gateOff_driven 7 (hsGate_eq hst), pgoodFall_low hgood']
  rw [hdrive]
  refine hsDrive_changes ?_ (by rw [inletLevel_eq hst hgood]; decide)
  exact inletLevel_eq (n := 2) (good := false) hst' hgood'

/-! ### The power-fail warning (R448) -/

theorem pfwBegin_alone (h : s.on Pg.inlet R.HS_STATUS_PFW_ACTIVE = false) (hdie : s.die.up = false) :
    s.pfwBegin =
      ((s.setF Pg.inlet R.HS_STATUS_PFW_ACTIVE).event Pg.inlet E.P020_PFW).count Pg.inlet R.CNT_HS2_WARNINGS := by
  rw [pfwBegin, h, if_neg (by decide), hdie, when_false]

/-- The end of a warning finds no frozen store. -/
theorem pfwEnd_notFrozen {lowest : Nat} (hlow : lowest < 2 ^ 16) (h : s.on Pg.inlet R.HS_STATUS_PFW_ACTIVE = true)
    (hfrozen : s.on Pg.seed R.SEED_STATUS_FROZEN = false) :
    s.pfwEnd lowest =
      ((s.clrF Pg.inlet R.HS_STATUS_PFW_ACTIVE).event Pg.inlet E.P020_PFW_END).wr Pg.inlet R.VIN_DIP_MIN.off
        (BitVec.ofNat 32 (2 ^ 31 + lowest)) := by
  have hseed : ∀ w, (((s.clrF Pg.inlet R.HS_STATUS_PFW_ACTIVE).event Pg.inlet E.P020_PFW_END).wr Pg.inlet R.VIN_DIP_MIN.off
      w).on Pg.seed R.SEED_STATUS_FROZEN = false := by
    intro w
    rw [on, get, rd_wr_ne _ _ _ _ _ _ (by decide) (by decide) (.inl (by decide)), event,
      rd_put_ne _ _ _ _ _ _ (by decide : 0x010 < _) (by decide) (.inl (by decide)), clrF,
      rd_put_ne _ _ _ _ _ _ (by decide) (by decide) (.inl (by decide))]
    exact hfrozen
  rw [pfwEnd, h, if_pos rfl, thawStore, hseed, if_neg (by decide), Nat.mod_eq_of_lt hlow]

/-! ### Writes to the page -/

theorem poke_inlet_ok (s : State) {a : Agent} {off : Nat} (v : Word) (h : s.writeCode a Pg.inlet off = .ok) :
    s.poke a Pg.inlet off v (wrPower Pg.inlet) = wrPower Pg.inlet s off v :=
  s.poke_ok' a Pg.inlet off v _ (by decide) rfl h

theorem wrPower_cycle (s : State) (v : Word) :
    wrPower Pg.inlet s R.HS_CYCLE.off v = s.when (v.toNat % 2 ^ 16 == 0x0C1C) hsCycle := by
  rw [wrPower, if_neg (by decide), if_pos (by decide)]

/-- HS_WINDOW is written where it keeps the relations with HS_LEVELS (R439). -/
theorem wrPower_window (s : State) (v : Word) :
    wrPower Pg.inlet s R.HS_WINDOW.off v =
      if levelsFit v.toNat (s.rd Pg.inlet R.HS_LEVELS.off).toNat then s.storeWrite Pg.inlet R.HS_WINDOW.off v
      else s.event Pg.inlet E.P020_WINDOW_REFUSED := by
  rw [wrPower, if_pos (by decide)]
  rfl

end Sys2Proof.Machine.State
end

section
/-! The settling of the statement on the inlet controller. -/

namespace Sys2Proof.Machine

/-- What happens on the power and field die while it is out of reset is the end of a step after its meaning. -/
theorem finishAll_onDie {s t : State} {f : State → State} (hdie : s.power.dieUp = true) (h : f s = t) :
    finishAll (s.onDie f) = .next t.flushSinks.settle :=
  finishAll_of_eq ((s.when_of_true f hdie).trans h)

/-- Settles O50: each command tests the state of the inlet, and in that state does what its lemma above says; the inlet shows
what it drives where that changes (`hsDrive_changes`). RETRY_COUNT saturates at 15, LAST_OFF_CAUSE follows the gate and the
levels are clamped by the model's choice (log entry 64). -/
theorem inletController : Obligations.InletController := by
  unfold Obligations.InletController
  intro s a v lim cretry lowest p st off n latch
  refine ⟨fun hdown => ⟨?_, ?_⟩, fun hdie => ⟨?_, ?_, fun hst hwin hhold hgood => ?_, fun hst hgood => ⟨?_, ?_⟩,
      fun hst hgood => ⟨fun hlim htimer => ?_, fun htimer => ?_, ?_, ?_⟩, fun hst hgood => ?_, fun hgate => ?_,
      fun hst => ⟨fun hgood => ?_, fun hgood => ?_⟩, fun hst => ?_, fun hgood => ?_, fun hpfw hlink => ?_,
      fun hpfw hfrozen => ?_⟩,
    fun hok => ⟨fun hv => ?_, fun hv hst hgood => ?_⟩, fun hok => ⟨fun hfit => ?_, fun hfit => ?_⟩⟩
  -- POWER_DIE_RESET_ENTRY, POWER_DIE_RESET_EXIT
  · exact finishAll_of_eq (by rw [State.dieResetEntry, hdown, if_neg (by decide)])
  · exact finishAll_of_eq (by rw [State.dieResetExit, hdown, if_neg (by decide)]; rfl)
  -- INLET_WINDOW_MET, HS_CYCLE_OFF_EXPIRY, INSERT_DELAY_EXPIRY
  · exact finishAll_onDie hdie rfl
  · exact finishAll_onDie hdie rfl
  · refine finishAll_onDie hdie ((if_pos ⟨hst, hwin, hhold⟩).trans (State.hsDrive_changes ?_ ?_))
    · exact State.inletLevel_eq (s.hsState_hsTo (by decide)) ((s.pgood_hsTo 3).trans hgood)
    · rw [State.inletLevel_eq hst hgood]
      decide
  -- HS_OUT_GOOD, RAMP_TIMEOUT
  · exact finishAll_onDie hdie ((if_pos hst).trans (by rw [hgood]; rfl))
  · exact finishAll_onDie hdie ((if_pos hst).trans (State.inletFault_slow (by decide) hst rfl hgood))
  -- PG_COUNT_DONE, FAULT_TIMER_EXPIRY, FAST_TRIP, WINDOW_LOST
  · refine finishAll_onDie hdie ((if_pos ⟨hst, hlim, htimer⟩).trans (State.hsDrive_changes ?_ ?_))
    · exact State.inletLevel_eq (n := 5) (good := true)
        ((State.hsState_put _ 1 (by decide)).trans (s.hsState_hsTo (by decide)))
        (State.on_setF_same _ _ _ (by decide) rfl)
    · rw [State.inletLevel_eq hst hgood]
      decide
  · exact finishAll_onDie hdie ((if_pos (by rw [State.hsGate_eq hst, htimer]; rfl)).trans
      (State.inletFault_slow (by decide) hst rfl hgood))
  · exact finishAll_onDie hdie ((if_pos (State.hsGate_eq hst)).trans (State.inletFault_fast hst rfl hgood))
  · exact finishAll_onDie hdie (State.windowLost_low hst rfl hgood)
  · exact finishAll_onDie hdie (State.windowLost_hold hst hgood)
  -- CURRENT_LIMIT_ENTRY, HOLD_RECOVER, HOLD_OUT_LOW
  · exact finishAll_onDie hdie (s.when_of_true _ hgate)
  · refine finishAll_onDie hdie ((if_pos hst).trans (State.hsDrive_changes ?_ ?_))
    · exact State.inletLevel_eq (State.hsState_hsTo _ (by decide))
        ((State.pgood_hsTo _ 3).trans ((s.pgood_put 1 (by decide)).trans hgood))
    · rw [State.inletLevel_eq hst hgood]
      decide
  · have hlow : (s.hsTo 2).pgood = false := (s.pgood_hsTo 2).trans hgood
    refine finishAll_onDie hdie ((if_pos hst).trans ?_)
    rw [State.pgoodFall_low hlow]
    refine State.hsDrive_same ?_
    rw [State.inletLevel_eq (s.hsState_hsTo (by decide)) hlow, State.inletLevel_eq hst hgood]
    rfl
  -- COOLDOWN_END, RETRY_COUNT_RESET, PFW, PFW_END
  · exact finishAll_onDie hdie (if_pos hst)
  · exact finishAll_onDie hdie (s.when_of_true _ hgood)
  · exact finishAll_onDie hdie (State.pfwBegin_alone hpfw hlink)
  · exact finishAll_onDie hdie (State.pfwEnd_notFrozen lowest.isLt hpfw hfrozen)
  -- HS_CYCLE, HS_WINDOW_WRITE
  · refine finishAll_of_eq ((s.poke_inlet_ok v hok).trans ((s.wrPower_cycle v).trans ?_))
    rw [beq_false_of_ne hv, State.when_false]
  · refine finishAll_of_eq ((s.poke_inlet_ok v hok).trans ((s.wrPower_cycle v).trans ?_))
    rw [hv]
    exact State.hsCycle_ramp hst hgood
  · exact finishAll_of_eq ((s.poke_inlet_ok v hok).trans ((s.wrPower_window v).trans (if_pos hfit)))
  · exact finishAll_of_eq ((s.poke_inlet_ok v hok).trans ((s.wrPower_window v).trans
      (if_neg (by rw [hfit]; decide))))

end Sys2Proof.Machine
end

section
/-! SUPPORT. Branch fuses, meters and the die temperature (R450 to R457, R463): what starts, trips and clears a fuse, and what
the commands to the meters write. -/

namespace Sys2Proof.Machine

/-- A fold in which one step acts, once, and no other step changes anything before or after it. -/
theorem foldl_once {α β : Type} {f : α → β → α} {x : α} {i : β} {l : List β} (hmem : i ∈ l) (hnodup : l.Nodup)
    (hbefore : ∀ j ∈ l, j ≠ i → f x j = x) (hafter : ∀ j ∈ l, j ≠ i → f (f x i) j = f x i) : l.foldl f x = f x i := by
  obtain ⟨l1, l2, rfl⟩ := List.append_of_mem hmem
  have hne : ∀ j ∈ l1 ++ l2, j ≠ i := fun j hj h =>
    (List.nodup_middle.mp hnodup).notMem (h ▸ hj)
  have h1 : l1.foldl f x = x := State.foldl_unchanged _ fun j hj =>
    hbefore j (List.mem_append_left _ hj) (hne j (List.mem_append_left l2 hj))
  have h2 : l2.foldl f (f x i) = f x i := State.foldl_unchanged _ fun j hj =>
    hafter j (List.mem_append_right l1 (List.mem_cons_of_mem i hj)) (hne j (List.mem_append_right l1 hj))
  rw [List.foldl_append, h1, List.foldl_cons, h2]

/-- A fold over the bits of a power of two takes the step of one bit. -/
theorem foldl_bitOf_two_pow {α : Type} (f : α → Nat → α) (x : α) {b n : Nat} (hb : b < n) :
    (List.range n).foldl (fun t j => if bitOf (2 ^ b) j then f t j else t) x = f x b := by
  have hbit : bitOf (2 ^ b) b = true := Nat.testBit_two_pow_self
  have hother (t : α) (j : Nat) (hj : j ≠ b) : (if bitOf (2 ^ b) j then f t j else t) = t := by
    rw [bitOf, Nat.testBit_two_pow_of_ne hj.symm, if_neg (by decide)]
  refine (foldl_once (List.mem_range.mpr hb) List.nodup_range (fun j _ => hother _ j) fun j _ => hother _ j).trans ?_
  rw [hbit, if_pos rfl]

namespace State

open Sys2Proof (Word Agent)

variable {s : State}

/-! ### Fuses (R450 to R453) -/

theorem fuseStart_lowest {b : Nat} (hmay : s.fuseMayStart b = true) (hlower : ∀ j < b, s.fuseMayStart j = false)
    (hramp : ∀ j < 8, s.fuseState j ≠ 2) : s.fuseStart b = s.fuseTo b 2 := by
  have hnone : ((List.range 8).any fun j => s.fuseState j == 2) = false :=
    List.any_eq_false.mpr fun j hj => by simp [hramp j (List.mem_range.mp hj)]
  have hfirst : ((List.range b).all fun j => !s.fuseMayStart j) = true :=
    List.all_eq_true.mpr fun j hj => by rw [hlower j (List.mem_range.mp hj)]; rfl
  rw [fuseStart, hnone, hmay, hfirst]
  rfl

/-- A fuse that ramps turns off with its cause. -/
theorem fuseOff_ramping {b st cause : Nat} (h : s.fuseState b = 2) :
    s.fuseOff b st cause =
      (((s.clrF Pg.fuses (R.FUSE_STATUS_IN_LIMIT b)).clrF Pg.fuses (R.FUSE_STATUS_TIMER_RUN b)).put Pg.fuses
        (R.FUSE_STATUS_LAST_OFF_CAUSE b) cause).fuseTo b st := if_pos (.inl h)

theorem fuseOff_off {b st cause : Nat} (h : s.fuseState b ≠ 2 ∧ s.fuseState b ≠ 3) : s.fuseOff b st cause = s :=
  if_neg (not_or.mpr h)

/-- With RETRY_MODE 2 nothing latches (R444). -/
theorem latches_retry (most n : Nat) : latches 2 most n = false := rfl

/-- A ramp that ends too late, with RETRY_MODE 2, cools down and is counted and reported (R451). -/
theorem fuseFault_ramp {b : Nat} (hst : s.fuseState b = 2) (hmode : s.get Pg.fuses (R.FUSE_CFG_RETRY_MODE b) = 2) :
    s.fuseFault b .rampTimeout =
      ((((s.fuseOff b 1 3).put Pg.fuses (R.FUSE_STATUS_RETRY_COUNT b)
        (Nat.min 15 (s.get Pg.fuses (R.FUSE_STATUS_RETRY_COUNT b) + 1))).count Pg.fuses (R.FUSE_CNT_FAULTS b)).event Pg.fuses
          E.P021_FUSE_TRIP).raise Pg.fuses K.FUSE_TRIP b := by
  unfold fuseFault
  dsimp only
  rw [hst, hmode, latches_retry]
  rfl

theorem fusesOff_none {cause : Nat} (h : ∀ j < 8, s.fuseState j ≠ 2 ∧ s.fuseState j ≠ 3) : s.fusesOff cause = s :=
  foldl_unchanged _ fun j hj => fuseOff_off (h j (List.mem_range.mp hj))

/-- FSUP leaves its window while every fuse is off (R452). -/
theorem fsupChange_lost (hmet : s.power.fsupMet = true) (h : ∀ j < 8, s.fuseState j ≠ 2 ∧ s.fuseState j ≠ 3) :
    s.fsupChange false =
      ((s.modPower fun x => { x with fsupMet := false }).event Pg.fuses E.P021_FSUP_FAULT).raise Pg.fuses K.FSUP_FAULT 0 := by
  have hoff : (s.modPower fun x => { x with fsupMet := false }).fusesOff 4 =
      s.modPower fun x => { x with fsupMet := false } := fusesOff_none h
  unfold fsupChange
  dsimp only
  rw [hmet, Bool.not_false, Bool.and_true, when_true, hoff, eventFault]

theorem fsupChange_met : s.fsupChange true = s.modPower fun x => { x with fsupMet := true } := by
  rw [fsupChange, Bool.not_true, Bool.and_false, when_false]

/-- A write of one bit of FUSE_FAULT is for one fuse (R453). -/
theorem wrPower_fuseFault (s : State) {b : Nat} (hb : b < 8) :
    wrPower Pg.fuses s R.FUSE_FAULT.off (BitVec.ofNat 32 (2 ^ b)) = s.fuseClear b := by
  have hword : (BitVec.ofNat 32 (2 ^ b)).toNat = 2 ^ b :=
    (BitVec.toNat_ofNat ..).trans (Nat.mod_eq_of_lt (Nat.pow_lt_pow_right (by decide) (by omega)))
  unfold wrPower
  dsimp only
  rw [if_neg (by decide), if_neg (by decide), if_neg (by decide), if_pos (by decide), hword]
  exact foldl_bitOf_two_pow fuseClear s hb

theorem fuseClear_refused {b : Nat} (hset : s.on Pg.fuses ⟨R.FUSE_FAULT.off, b, 1⟩ = true) (hmet : s.power.fsupMet = false) :
    s.fuseClear b = s.event Pg.fuses E.P021_CLEAR_REFUSED := by
  rw [fuseClear, hset, if_neg (by decide), hmet, if_neg (by decide)]

theorem fuseClear_done {b : Nat} (hset : s.on Pg.fuses ⟨R.FUSE_FAULT.off, b, 1⟩ = true) (hmet : s.power.fsupMet = true) :
    s.fuseClear b =
      ((s.clrF Pg.fuses ⟨R.FUSE_FAULT.off, b, 1⟩).fuseTo b 0).sourceCleared Pg.fuses K.FUSE_LATCHED b := by
  rw [fuseClear, hset, if_neg (by decide), hmet, if_pos rfl]

/-! ### Meters (R456, R457) -/

theorem wrPower_meterCmd (s : State) (v : Word) : wrPower Pg.meters s R.MTR_CMD.off v = s.energyClear v.toNat := by
  unfold wrPower
  dsimp only
  rw [if_neg (by decide), if_neg (by decide), if_neg (by decide), if_neg (by decide), if_neg (by decide),
    if_neg (by decide), if_pos (by decide)]

end State

end Sys2Proof.Machine
end

section
/-! The settling of the statement on the branch fuses, the meters and the die temperature. -/

namespace Sys2Proof.Machine

/-- Settles O51: each command tests the state of its fuse, and in that state does what its lemma above says; a command to the
meters is a write of MTR_CMD (`wrPower_meterCmd`). RETRY_COUNT saturates at 15 by the model's choice (log entry 64), and the
means are rounded by a free choice (`roundFree`, log entry 22). -/
theorem fusesAndMeters : Obligations.FusesAndMeters := by
  unfold Obligations.FusesAndMeters
  intro s a b lim vin vout inl fsup br mask temp p flt i n hdie
  refine ⟨fun hmay hlower hramp => ?_, fun hst => ⟨fun hlim htimer => ?_, ?_, fun hmode => ?_⟩, fun hst => ?_, fun hst => ?_,
    ?_, fun hmet hoff => ?_, fun hok hset => ⟨fun hmet => ?_, fun hmet => ?_⟩, fun hcount => ?_, ?_, fun hok => ?_,
    fun hcool => ?_, fun hhot => ?_⟩
  -- FUSE_START, FUSE_POWER_GOOD, CURRENT_LIMIT_ENTRY, FUSE_FAULT
  · exact finishAll_onDie hdie (State.fuseStart_lowest hmay hlower hramp)
  · exact finishAll_onDie hdie (if_pos ⟨hst, hlim, htimer⟩)
  · exact finishAll_onDie hdie (s.when_of_true _ (by rw [hst]; rfl))
  · refine finishAll_onDie hdie ((State.fuseFault_ramp hst hmode).trans ?_)
    rw [State.fuseOff_ramping hst]
  -- FUSE_COOL_EXPIRY, RETRY_COUNT_RESET, FSUP_WINDOW_CHANGE, FUSE_FAULT_CLEAR
  · exact finishAll_onDie hdie (if_pos hst)
  · exact finishAll_onDie hdie (s.when_of_true _ (by rw [hst]; rfl))
  · exact finishAll_onDie hdie State.fsupChange_met
  · exact finishAll_onDie hdie (State.fsupChange_lost hmet hoff)
  · exact finishAll_of_eq ((s.poke_ok' a _ _ _ _ (by decide) rfl hok).trans ((s.wrPower_fuseFault b.isLt).trans
      (State.fuseClear_refused hset hmet)))
  · exact finishAll_of_eq ((s.poke_ok' a _ _ _ _ (by decide) rfl hok).trans ((s.wrPower_fuseFault b.isLt).trans
      (State.fuseClear_done hset hmet)))
  -- METER_AVG_BLOCK, METER_SAMPLE, ENERGY_CLEAR
  · exact finishAll_onDie hdie (if_neg hcount)
  · exact finishAll_onDie hdie rfl
  · refine finishAll_of_eq ((s.poke_ok' a _ _ _ _ (by decide) rfl hok).trans ((s.wrPower_meterCmd _).trans ?_))
    rw [BitVec.toNat_ofNat, Nat.mod_eq_of_lt (mask.isLt.trans (by decide))]
    rfl
  -- PD_HOT
  · refine finishAll_onDie hdie ?_
    rw [decide_eq_false (Int.not_lt.mpr hcool), State.when_false]
  · refine finishAll_onDie hdie ?_
    rw [decide_eq_true hhot, State.when_true, State.eventFault]

end Sys2Proof.Machine
end

section
/-! SUPPORT. The Seed store (R479 to R486): a record that enters the buffer, the commands of SEED_CMD, and what a compaction
without an image leaves. -/

namespace Sys2Proof.Machine.State

open Sys2Proof (Word Agent)

variable (s : State)

/-! ### The journal (R480, R481) -/

/-- A record that does not fill a buffer joins it, and starts no commit. -/
theorem journal_joins {k : Nat} {v : Word} (hon : s.on Pg.seed R.SEED_STATUS_JOURNALLING = true)
    (hroom : s.seed.buf.length < 255) :
    s.journal k v =
      s.modSeed fun x => { x with buf := x.buf ++ [{ key := k, val := v, seq := x.seq }], seq := (x.seq + 1) % 2 ^ 32 } := by
  have hlen : ((s.seed.buf ++ [({ key := k, val := v, seq := s.seed.seq } : JRec)]).length % 256 == 0) = false := by
    rw [List.length_append, List.length_singleton]
    exact beq_false_of_ne (by omega)
  unfold journal
  rw [hon, if_pos rfl, if_pos (by omega)]
  dsimp only
  rw [hlen, when_false, modSeed]

/-- The only value that waits, outside the lanes and never recorded before, is recorded at its time. -/
theorem adaptRecord_only {p off : Nat} (v : Word) (hp : isLane p = false) (hdirty : s.seed.dirty = [regKey p off])
    (hadapted : s.seed.adapted = []) (hon : s.on Pg.seed R.SEED_STATUS_JOURNALLING = true)
    (hroom : s.seed.buf.length < 255) :
    s.adaptRecord p off v =
      s.modSeed fun x =>
        { x with buf := x.buf ++ [{ key := regKey p off, val := s.rd p off, seq := x.seq }]
                 seq := (x.seq + 1) % 2 ^ 32, adapted := [(regKey p off, s.ns)], dirty := [] } := by
  unfold adaptRecord
  dsimp only
  rw [hp, Bool.false_and, Bool.false_and, Bool.false_and, when_false, hdirty, hadapted]
  simp only [List.contains_cons, beq_self_eq_true, Bool.true_or, List.find?_nil, Option.map_none, Option.all_none,
    Bool.and_true, when_true, s.journal_joins hon hroom, Bool.false_eq_true, if_false]
  simp [modSeed, hdirty, hadapted]

theorem startCommit_begins (h : s.on Pg.seed R.SEED_STATUS_FROZEN = false) (hnone : s.seed.commit = none) (w : Bool) :
    s.startCommit w = s.modSeed fun x => { x with commit := some (x.buf.length, w) } := by
  rw [startCommit, h, if_neg (by decide), hnone]
  rfl

/-! ### SEED_CMD (R479, R481, R482, R486) -/

/-- The effect of a write of SEED_CMD with COMMIT, COMPACT or ADOPT and without CNT_CLEAR. -/
theorem wrSeed_cmd {v : Word} (hclear : bitOf v.toNat 3 = false) (hany : v.toNat % 8 ≠ 0) :
    s.wrSeed R.SEED_CMD.off v =
      if s.on Pg.seed R.SEED_STATUS_FROZEN then s.event Pg.seed E.P006_SEED_REFUSED
      else
        (((s.when (bitOf v.toNat 0 && (!s.seed.buf.isEmpty || s.seed.commit.isSome)) fun t => t.startCommit false).when
          (bitOf v.toNat 1) compactStart).when (bitOf v.toNat 2) adopt) := by
  unfold wrSeed
  dsimp only
  rw [if_pos rfl, hclear, when_false, if_neg hany]

/-- A frozen store refuses a command (R486). -/
theorem wrSeed_frozen {v : Word} (hclear : bitOf v.toNat 3 = false) (hany : v.toNat % 8 ≠ 0)
    (h : s.on Pg.seed R.SEED_STATUS_FROZEN = true) :
    s.wrSeed R.SEED_CMD.off v = s.event Pg.seed E.P006_SEED_REFUSED := by
  rw [s.wrSeed_cmd hclear hany, if_pos h]

theorem wrSeed_commit (h : s.on Pg.seed R.SEED_STATUS_FROZEN = false) (hbuf : s.seed.buf ≠ []) :
    s.wrSeed R.SEED_CMD.off 1 = s.startCommit false := by
  have hempty : s.seed.buf.isEmpty = false := by rwa [List.isEmpty_eq_false_iff]
  rw [s.wrSeed_cmd (by decide) (by decide), h, if_neg (by decide), hempty]
  rfl

theorem wrSeed_compact (h : s.on Pg.seed R.SEED_STATUS_FROZEN = false) :
    s.wrSeed R.SEED_CMD.off 2 = s.compactStart := by
  rw [s.wrSeed_cmd (by decide) (by decide), h, if_neg (by decide)]
  rfl

theorem wrSeed_adopt (h : s.on Pg.seed R.SEED_STATUS_FROZEN = false) : s.wrSeed R.SEED_CMD.off 4 = s.adopt := by
  rw [s.wrSeed_cmd (by decide) (by decide), h, if_neg (by decide)]
  rfl

/-- ADOPT makes an image of the live values active, turns journalling on, and empties both banks and the buffer (R479). -/
theorem adopt_eq :
    s.adopt =
      (((s.activate s.spareImage { valid := true, gen := s.nextGen, cells := s.liveCells, base := s.seed.seq }).setF Pg.seed
        R.SEED_STATUS_JOURNALLING).clrF Pg.seed R.SEED_STATUS_COMPACTING).modSeed fun x =>
          { x with bank0 := [], bank1 := [], buf := [], commit := none, again := false, recompact := false } := by
  simp only [adopt, setBank, modSeed, if_pos, one_ne_zero, if_false]

/-! ### Compaction (R482) -/

theorem notFrozen_of_compactHeld (h : s.compactHeld = false) : s.on Pg.seed R.SEED_STATUS_FROZEN = false := by
  simp only [compactHeld, Bool.or_eq_false_iff] at h
  obtain ⟨⟨⟨⟨hfrozen, -⟩, -⟩, -⟩, -⟩ := h
  exact hfrozen

/-- A compaction that starts with the other bank empty moves journalling there at once. -/
theorem compactStart_switches (hheld : s.compactHeld = false) (hbank : s.bank s.otherBank = []) :
    s.compactStart =
      ((s.put Pg.seed R.SEED_STATUS_ACTIVE_BANK s.otherBank).setF Pg.seed R.SEED_STATUS_COMPACTING).modSeed fun x =>
        { x with recompact := false } := by
  rw [compactStart, hheld, if_neg (by decide), hbank, List.isEmpty_nil, when_true]

/-- Without an active image and with nothing in the old bank, a compaction makes image A the first generation. -/
theorem compactDone_first (hrun : s.on Pg.seed R.SEED_STATUS_COMPACTING = true) (hbank : s.bank s.otherBank = [])
    (himage : s.activeImage = none) :
    s.compactDone =
      (((((s.activate 0 { valid := true, gen := 1, cells := s.compactCells, base := s.seed.powerUpSeq }).setBank s.otherBank
        []).clrF Pg.seed R.SEED_STATUS_COMPACTING).clrF Pg.seed R.SEED_STATUS_RESYNC).count Pg.seed R.CNT_COMPACT) := by
  have hspare : s.spareImage = 0 := by rw [spareImage, himage]
  have hgen : s.nextGen = 1 := by rw [nextGen, himage]
  unfold compactDone
  rw [hrun, if_pos rfl, hbank, himage, hspare, hgen]
  rfl

end Sys2Proof.Machine.State
end

section
/-! The settling of the statement on the Seed store. -/

namespace Sys2Proof.Machine

/-- A command of SEED_CMD that passes the check is the end of a step after the write of its register. -/
theorem finishAll_seedCmd {s t : State} {a : Sys2Proof.Agent} {v : Sys2Proof.Word}
    (hok : s.writeCode a Pg.seed R.SEED_CMD.off = .ok) (h : s.wrSeed R.SEED_CMD.off v = t) :
    finishAll (s.poke a Pg.seed R.SEED_CMD.off v State.wrSeed) = .next t.flushSinks.settle :=
  finishAll_of_eq ((s.poke_ok' a _ _ v _ (by decide) (by decide) hok).trans h)

/-- Settles O49: a value is recorded at its time (`adaptRecord_only`), and a commit, a compaction and an adoption are the
commands of SEED_CMD (`wrSeed_cmd`), which a frozen store refuses. That ADOPT erases the banks is the model's choice (log
entry 62). -/
theorem seedStore : Obligations.SeedStore := by
  unfold Obligations.SeedStore
  intro s a w v p k
  refine ⟨fun hdirty hadapted hon hroom => ?_, fun hfrozen hnone hbuf => ⟨?_, fun hok => ?_⟩,
    fun hok => ⟨fun hfrozen => ?_, fun hheld hbank => ?_, fun hfrozen => ?_⟩, fun hrun hbank himage => ?_⟩
  -- ADAPT_RECORD, COMMIT_TIMER, COMMIT
  · have hpage : ((Pg.ralusk : BitVec 9)).toNat = Pg.ralusk := by decide
    refine finishAll_of_eq ?_
    rw [hpage]
    exact s.adaptRecord_only v (by decide) hdirty hadapted hon hroom
  · have hempty : s.seed.buf.isEmpty = false := by rwa [List.isEmpty_eq_false_iff]
    exact finishAll_of_eq ((s.when_of_true _ (by rw [hnone, hempty]; rfl)).trans (s.startCommit_begins hfrozen hnone false))
  · exact finishAll_seedCmd hok ((s.wrSeed_commit hfrozen hbuf).trans (s.startCommit_begins hfrozen hnone false))
  -- COMMIT of a frozen store, COMPACT, ADOPT, COMPACT_DONE
  · exact finishAll_seedCmd hok (s.wrSeed_frozen (by decide) (by decide) hfrozen)
  · exact finishAll_seedCmd hok ((s.wrSeed_compact (s.notFrozen_of_compactHeld hheld)).trans
      (s.compactStart_switches hheld hbank))
  · exact finishAll_seedCmd hok ((s.wrSeed_adopt hfrozen).trans s.adopt_eq)
  · exact finishAll_of_eq (s.compactDone_first hrun hbank himage)

end Sys2Proof.Machine
end

section
/-! SUPPORT. The Thresher (R491 to R509): a batch of one message, the decision on a clear, and the commands of THR_CTRL. -/

namespace Sys2Proof.Machine

/-- A filter that keeps one element of a list without repeats. -/
theorem filterMap_once {α β : Type} {f : α → Option β} {i : α} {b : β} {l : List α} (hmem : i ∈ l) (hnodup : l.Nodup)
    (hsome : f i = some b) (hnone : ∀ j ∈ l, j ≠ i → f j = none) : l.filterMap f = [b] := by
  obtain ⟨l1, l2, rfl⟩ := List.append_of_mem hmem
  have hne : ∀ j ∈ l1 ++ l2, j ≠ i := fun j hj h => (List.nodup_middle.mp hnodup).notMem (h ▸ hj)
  have h1 : l1.filterMap f = [] := List.filterMap_eq_nil_iff.mpr fun j hj =>
    hnone j (List.mem_append_left _ hj) (hne j (List.mem_append_left l2 hj))
  have h2 : l2.filterMap f = [] := List.filterMap_eq_nil_iff.mpr fun j hj =>
    hnone j (List.mem_append_right l1 (List.mem_cons_of_mem i hj)) (hne j (List.mem_append_right l1 hj))
  rw [List.filterMap_append, h1, List.filterMap_cons_some hsome, h2, List.nil_append]

namespace State

open Sys2Proof (Word Agent)

variable {s : State}

/-! ### A batch of one message (R491, R492) -/

/-- What the queue of one island delivers, and the held message that takes the entry that has freed. -/
def deliverFrom (t : State) (i : Nat) : State :=
  if t.thr.queue.any (·.island == i) then
    let t := t.modThr fun x => { x with queue := x.queue.eraseP (·.island == i) }
    match t.thr.held.find? (·.island == i) with
    | some m => t.modThr fun x => { x with queue := x.queue ++ [m], held := x.held.eraseP (·.island == i) }
    | none => t
  else t

theorem delivered_eq (s : State) : s.delivered = (List.range 20).foldl deliverFrom s := rfl

theorem deliverFrom_none {i : Nat} (h : (s.thr.queue.any (·.island == i)) = false) : s.deliverFrom i = s := by
  rw [deliverFrom, h, if_neg (by decide)]

theorem deliverFrom_last {m : FaultMsg} (hqueue : s.thr.queue = [m]) (hheld : s.thr.held = []) :
    s.deliverFrom m.island = s.modThr fun x => { x with queue := [] } := by
  simp [deliverFrom, hqueue, hheld, modThr]

theorem delivered_one {m : FaultMsg} (hqueue : s.thr.queue = [m]) (hheld : s.thr.held = []) (hisland : m.island < 20) :
    s.delivered = s.modThr fun x => { x with queue := [] } := by
  have hlast := deliverFrom_last hqueue hheld
  rw [delivered_eq]
  refine (foldl_once (List.mem_range.mpr hisland) List.nodup_range (fun j _ hj => ?_) fun j _ _ => ?_).trans hlast
  · exact deliverFrom_none (by simp [hqueue, hj.symm])
  · rw [hlast]
    exact deliverFrom_none rfl

theorem batch_one {m : FaultMsg} (hqueue : s.thr.queue = [m]) (hisland : m.island < 20) : s.batch = [m] := by
  refine filterMap_once (List.mem_range.mpr hisland) List.nodup_range ?_ fun j _ hj => ?_
  · simp [hqueue]
  · simp [hqueue, hj.symm]

theorem faultBatch_one {m : FaultMsg} (hqueue : s.thr.queue = [m]) (hheld : s.thr.held = []) (hisland : m.island < 20) :
    s.faultBatch = (s.modThr fun x => { x with queue := [] }).faultOne m 0 1 := by
  rw [faultBatch, batch_one hqueue hisland, delivered_one hqueue hheld hisland]
  rfl

/-! ### One message (R494, R495, R497) -/

/-- A count reaches no word of a page above its own. -/
theorem rd_count_above {p q : Nat} (s : State) (r : Nat) {f : Fld} (hf : f.off < 0x1000000) (h : p < q) :
    (s.count p f).rd q r = s.rd q r := by
  refine s.regs_countN_ne p f 1 ?_ ?_ <;> unfold regKey <;> omega

theorem actW_count (s : State) {f : Fld} (hf : f.off < 0x1000000) (n w : Nat) :
    (s.count Pg.thresher f).actW n w = s.actW n w := by
  rw [actW, s.rd_count_above _ hf (by decide), actW]

theorem heldEntry_count (s : State) {f : Fld} (hf : f.off < 0x1000000) (m : FaultMsg) :
    (s.count Pg.thresher f).heldEntry m = s.heldEntry m := by
  have hvalid : (s.count Pg.thresher f).actValid = s.actValid := funext fun n => by
    rw [actValid, s.actW_count hf, actValid]
  simp only [heldEntry, actUsed, hvalid, actPage, actKind, s.actW_count hf]

/-- A repeat of a held fault is counted in its entry (R494). -/
theorem faultOne_repeat {m : FaultMsg} {e : Nat} (pos n : Nat) (h : s.heldEntry m = some e) :
    s.faultOne m pos n =
      ((s.count Pg.thresher R.CNT_MSG_RECEIVED).wr Pg.active (0x808 + 16 * e)
        (BitVec.ofNat 32 (satAdd 16 (s.actW e 2 % 65536) 1))).count Pg.thresher R.CNT_SUPPRESS_REPEATS := by
  unfold faultOne
  dsimp only
  rw [s.heldEntry_count (by decide), h]
  dsimp only
  rw [s.actW_count (by decide)]

/-- A new message of S0 or S1 that is neither logged nor first is counted as received, and no more. -/
theorem faultOne_silent {m : FaultMsg} (pos n : Nat) (h : s.heldEntry m = none) (hsev : m.sev < 2)
    (hlog : (s.rd Pg.kindTable (4 * m.kind)).toNat % 2 = 0) (hfirst : s.on Pg.thresher R.THR_STATUS_FF_VALID = true) :
    s.faultOne m pos n = s.count Pg.thresher R.CNT_MSG_RECEIVED := by
  have hreact : bitOf ((s.rd Pg.kindTable (4 * m.kind)).toNat % 64) 0 = false := by
    rw [bitOf, Nat.testBit_zero, decide_eq_false (by omega)]
  have hvalid : (s.count Pg.thresher R.CNT_MSG_RECEIVED).on Pg.thresher R.THR_STATUS_FF_VALID = true := by
    rw [on, count, s.get_countN_ne _ _ _ (by decide) (by decide) (by decide) (by decide)]
    exact hfirst
  unfold faultOne
  dsimp only
  rw [s.heldEntry_count (by decide), h]
  dsimp only
  rw [s.rd_count_above _ (by decide) (by decide), hreact, hvalid]
  simp [hsev]

/-! ### Clearing (R508) -/

/-- A decision is entered in CLR_CTRL, and said (R508). -/
def clearSaid (t : State) (r : Nat) : State :=
  (((((t.clrF Pg.active R.CLR_CTRL_BUSY).clrF Pg.active R.CLR_CTRL_GO).setF Pg.active R.CLR_CTRL_DONE).putB Pg.active
    R.CLR_CTRL_REFUSED (r != 0)).put Pg.active R.CLR_CTRL_REASON r).event Pg.active E.P012_CLEAR_DONE

theorem clearDecided_eq {t : State} {r : Nat} (hbusy : s.on Pg.active R.CLR_CTRL_BUSY = true)
    (h : s.clearEntry (s.get Pg.active R.CLR_CTRL_ENTRY) = (t, r)) : s.clearDecided = t.clearSaid r := by
  rw [clearDecided, hbusy, h]
  rfl

theorem clearEntry_invalid {e : Nat} (h : s.actValid e = false) : s.clearEntry e = (s, 2) := by
  have hreason : s.clearReason e = 2 := by simp [clearReason, h]
  have hpersists : (2 == 1) = false := by decide
  rw [clearEntry, hreason, if_neg (by decide), bne_self_eq_false, when_false, hpersists]
  dsimp only
  rw [when_false]

theorem clearEntry_persists {e : Nat} (h : s.clearReason e = 1) :
    s.clearEntry e = ((s.count Pg.thresher R.CNT_SAFE_CLEARS_REFUSED).event Pg.active E.P012_CLEAR_REFUSED, 1) := by
  have hcount : (1 != 2) = true := by decide
  rw [clearEntry, h, if_neg (by decide), hcount, when_true, beq_self_eq_true]
  dsimp only
  rw [when_true]

theorem clearEntry_accepted {e : Nat} (h : s.clearReason e = 0) (hkind : s.actKind e ≠ K.DIE_LINK_LOST) :
    s.clearEntry e = (s.actClear e, 0) := by
  rw [clearEntry, h, if_pos rfl, beq_false_of_ne hkind]
  dsimp only
  rw [when_false, when_false]

/-! ### THR_CTRL and CLR_CTRL (R497, R503, R508, R509) -/

/-- GO of CLR_CTRL asks for the clear of its entry. -/
theorem wrThr_clrGo (s : State) (n : Fin 128) (hbusy : s.on Pg.active R.CLR_CTRL_BUSY = false) :
    wrThr Pg.active s R.CLR_CTRL.off (BitVec.ofNat 32 (256 + n.val)) =
      (((s.put Pg.active R.CLR_CTRL_ENTRY n).setF Pg.active R.CLR_CTRL_GO).setF Pg.active R.CLR_CTRL_BUSY).clrF Pg.active
        R.CLR_CTRL_DONE := by
  have hword : ∀ n : Fin 128, (BitVec.ofNat 32 (256 + n.val)).toNat % 128 = n ∧
      bitOf (BitVec.ofNat 32 (256 + n.val)).toNat 8 = true := by decide
  obtain ⟨hentry, hgo⟩ := hword n
  unfold wrThr
  dsimp only
  rw [if_neg (by decide), if_neg (by decide), if_pos (by decide), hbusy, if_neg (by decide), hentry, hgo, when_true]

/-- A write of THR_CTRL: SAFE_FORCE, and the commands whose bits are written. -/
theorem wrThr_ctrl (s : State) (v : Word) :
    wrThr Pg.thresher s R.THR_CTRL.off v =
      (((((s.putB Pg.thresher R.THR_CTRL_SAFE_FORCE (bitOf v.toNat 0)).safeRefresh).when (bitOf v.toNat 1) firstClear).when
        (bitOf v.toNat 2) clearAllFaults).when (bitOf v.toNat 3) fun t =>
          [Pg.thresher, Pg.kinds, Pg.active, Pg.tlog].foldl cntClear t) := by
  rw [wrThr, if_pos ⟨rfl, rfl⟩]

theorem get_eq_b2n (s : State) (p : Nat) {f : Fld} (hw : f.w = 1) : s.get p f = b2n (s.on p f) := by
  have hlt := s.get_lt p f
  rw [hw] at hlt
  rcases (by omega : s.get p f = 0 ∨ s.get p f = 1) with h | h <;> rw [on, h] <;> rfl

/-- A write of SAFE_FORCE alone. -/
theorem wrThr_safeForce (s : State) (force : Bool) :
    wrThr Pg.thresher s R.THR_CTRL.off (BitVec.ofNat 32 (b2n force)) =
      (s.putB Pg.thresher R.THR_CTRL_SAFE_FORCE force).safeRefresh := by
  have hbits : ∀ b, bitOf (BitVec.ofNat 32 (b2n b)).toNat 0 = b ∧ bitOf (BitVec.ofNat 32 (b2n b)).toNat 1 = false ∧
      bitOf (BitVec.ofNat 32 (b2n b)).toNat 2 = false ∧ bitOf (BitVec.ofNat 32 (b2n b)).toNat 3 = false := by decide
  obtain ⟨h0, h1, h2, h3⟩ := hbits force
  rw [wrThr_ctrl, h0, h1, h2, h3, when_false, when_false, when_false]

/-- CLEAR_ALL keeps SAFE_FORCE as it stands. -/
theorem wrThr_clearAll (s : State) (force : Bool) :
    wrThr Pg.thresher s R.THR_CTRL.off (BitVec.ofNat 32 (b2n force + 2 ^ 2)) =
      (s.putB Pg.thresher R.THR_CTRL_SAFE_FORCE force).safeRefresh.clearAllFaults := by
  have hbits : ∀ b, bitOf (BitVec.ofNat 32 (b2n b + 2 ^ 2)).toNat 0 = b ∧
      bitOf (BitVec.ofNat 32 (b2n b + 2 ^ 2)).toNat 1 = false ∧ bitOf (BitVec.ofNat 32 (b2n b + 2 ^ 2)).toNat 2 = true ∧
      bitOf (BitVec.ofNat 32 (b2n b + 2 ^ 2)).toNat 3 = false := by decide
  obtain ⟨h0, h1, h2, h3⟩ := hbits force
  rw [wrThr_ctrl, h0, h1, h2, h3, when_false, when_true, when_false]

/-- FF_CLEAR keeps SAFE_FORCE as it stands. -/
theorem wrThr_firstClear (s : State) (force : Bool) :
    wrThr Pg.thresher s R.THR_CTRL.off (BitVec.ofNat 32 (b2n force + 2 ^ 1)) =
      (s.putB Pg.thresher R.THR_CTRL_SAFE_FORCE force).safeRefresh.firstClear := by
  have hbits : ∀ b, bitOf (BitVec.ofNat 32 (b2n b + 2 ^ 1)).toNat 0 = b ∧
      bitOf (BitVec.ofNat 32 (b2n b + 2 ^ 1)).toNat 1 = true ∧ bitOf (BitVec.ofNat 32 (b2n b + 2 ^ 1)).toNat 2 = false ∧
      bitOf (BitVec.ofNat 32 (b2n b + 2 ^ 1)).toNat 3 = false := by decide
  obtain ⟨h0, h1, h2, h3⟩ := hbits force
  rw [wrThr_ctrl, h0, h1, h2, h3, when_true, when_false, when_false]

theorem clearAllFaults_none (h : s.actUsed = []) :
    s.clearAllFaults =
      (s.put Pg.active R.CLR_ALL_RESULT_CLEARED 0).put Pg.active R.CLR_ALL_RESULT_REFUSED 0 := by
  rw [clearAllFaults, h]
  rfl

theorem persistOne_open {e : ThrEntry} {l : List ThrEntry} (h : s.thr.persist = e :: l) (hopen : s.storeOpen = true) :
    s.persistOne =
      (s.modThr fun x => { x with persist := l, area := (e :: x.area).take 8192 }).count Pg.tlog R.CNT_PERSIST_ENTRIES := by
  simp [persistOne, h, hopen]

end State

end Sys2Proof.Machine
end

section
/-! The settling of the statement on the Thresher's batches, first fault, log and clears. -/

namespace Sys2Proof.Machine

/-- A command of THR_CTRL that passes the check is the end of a step after the write of its register, SAFE_FORCE as it
stands. -/
theorem finishAll_thrCommand {s t : State} {a : Sys2Proof.Agent} {bit : Nat}
    (hok : s.writeCode a Pg.thresher R.THR_CTRL.off = .ok)
    (h : State.wrThr Pg.thresher s R.THR_CTRL.off
      (BitVec.ofNat 32 (b2n (s.on Pg.thresher R.THR_CTRL_SAFE_FORCE) + 2 ^ bit)) = t) :
    finishAll (thrCommand s a bit) = .next t.flushSinks.settle := by
  refine finishAll_of_eq ?_
  rw [thrCommand, s.get_eq_b2n _ rfl, s.poke_ok' a _ _ _ _ (by decide) (by decide) hok, h]

/-- Settles O52: a batch of one message is that message (`faultBatch_one`), a decided clear enters its reason in CLR_CTRL
(`clearDecided_eq`), and the commands are writes of CLR_CTRL and THR_CTRL (`wrThr_clrGo`, `wrThr_ctrl`). That a message which
is not logged is not suppressed either, and that CLEAR_REFUSED comes with reason 1 alone, is the model's choice (log entries
66 and 67). -/
theorem thresherRows : Obligations.ThresherRows := by
  unfold Obligations.ThresherRows
  intro s a n m on p q taken
  refine ⟨fun hqueue hheld hisland => ⟨fun e hentry => ?_, fun hentry hsev hlog hfirst => ?_⟩, fun e l hpersist hopen => ?_,
    fun hok hbusy => ?_, fun hbusy => ⟨fun hvalid => ?_, fun hreason => ?_, fun hreason hkind => ?_⟩,
    fun hok => ⟨⟨fun hused => ?_, ?_⟩, ?_⟩⟩
  -- FAULT_BATCH, PERSIST_WRITE
  · exact finishAll_of_eq ((State.faultBatch_one hqueue hheld hisland).trans (State.faultOne_repeat 0 1 hentry))
  · exact finishAll_of_eq ((State.faultBatch_one hqueue hheld hisland).trans
      (State.faultOne_silent 0 1 hentry hsev hlog hfirst))
  · exact finishAll_of_eq (State.persistOne_open hpersist hopen)
  -- CLR_GO, CLEAR_DECIDED
  · exact finishAll_of_eq ((s.poke_ok' a _ _ _ _ (by decide) (by decide) hok).trans (s.wrThr_clrGo n hbusy))
  · exact finishAll_of_eq (State.clearDecided_eq hbusy (State.clearEntry_invalid hvalid))
  · exact finishAll_of_eq (State.clearDecided_eq hbusy (State.clearEntry_persists hreason))
  · exact finishAll_of_eq (State.clearDecided_eq hbusy (State.clearEntry_accepted hreason hkind))
  -- THR_CLEAR_ALL, FF_CLEAR, SAFE_FORCE
  · exact finishAll_thrCommand hok ((s.wrThr_clearAll _).trans (State.clearAllFaults_none hused))
  · exact finishAll_thrCommand hok (s.wrThr_firstClear _)
  · exact finishAll_of_eq ((s.poke_ok' a _ _ _ _ (by decide) (by decide) hok).trans (s.wrThr_safeForce on))

end Sys2Proof.Machine
end

section
/-! SUPPORT. Configuration epochs and digests (R539 to R555): the commands of EP_CMD, the messages of an epoch, and the words
that the recomputation of the digest stores. -/

namespace Sys2Proof.Machine.State

open Sys2Proof (Word Byte Agent)

variable {s t : State}

/-! ### States that differ in one page -/

theorem SameBut.put {p : Nat} (h : SameBut p s t) {f : Fld} (v : Nat) (hf : f.off < 0x1000000) :
    SameBut p s (t.put p f v) := h.wr s _ hf

theorem SameBut.rd_ne {p q r : Nat} (h : SameBut p s t) (hr : r < 0x1000000) (hq : q ≠ p) : t.rd q r = s.rd q r := by
  obtain ⟨hregs, -⟩ := h
  exact hregs _ (by unfold regKey; omega)

/-- A page above the one that differs reads the same at every offset. -/
theorem SameBut.rd_above {p q : Nat} (h : SameBut p s t) (hq : p < q) (r : Nat) : t.rd q r = s.rd q r := by
  obtain ⟨hregs, -⟩ := h
  exact hregs _ (by unfold regKey; omega)

theorem SameBut.get_ne {p q : Nat} (h : SameBut p s t) {f : Fld} (hf : f.off < 0x1000000) (hq : q ≠ p) :
    t.get q f = s.get q f := by
  rw [get, h.rd_ne hf hq, get]

theorem SameBut.on_ne {p q : Nat} (h : SameBut p s t) {f : Fld} (hf : f.off < 0x1000000) (hq : q ≠ p) :
    t.on q f = s.on q f := by
  rw [on, h.get_ne hf hq, on]

/-- What a request for an epoch asks of the ring and of the clocks stands in other pages than the epoch's. -/
theorem SameBut.request_eq (h : SameBut Pg.epoch s t) :
    t.domainOn 1 = s.domainOn 1 ∧ t.timeValid = s.timeValid ∧ t.now = s.now ∧ t.isMaster = s.isMaster ∧
      t.masterIndex = s.masterIndex ∧ t.nodeValid = s.nodeValid ∧ t.selfIndex = s.selfIndex ∧ t.epoch = s.epoch := by
  have hnow : t.now = s.now ∧ t.epoch = s.epoch := by
    obtain ⟨-, heq⟩ := h
    rw [heq]
    exact ⟨rfl, rfl⟩
  simp (disch := decide) only [domainOn, timeValid, isMaster, masterIndex, nodeValid, selfIndex, node, hubPos, hnow, h.rd_ne,
    h.get_ne, h.on_ne, and_self]

theorem SameBut.ownerReachable_eq (h : SameBut Pg.epoch s t) (i : Nat) : t.ownerReachable i = s.ownerReachable i := by
  have hlink (k : Nat) : Pg.link k ≠ Pg.epoch := by
    show 0x058 + k ≠ 0x00A
    omega
  have hpos : t.hubPos = s.hubPos := h.get_ne (by decide) (by decide)
  have hdomain (d : Nat) : t.domainOn d = s.domainOn d := by simp (disch := decide) only [domainOn, h.rd_ne]
  have hon (p : Nat) : t.pageOn p = s.pageOn p := by simp only [pageOn, hdomain]
  have hroute : t.route i = s.route i := by rw [route, h.rd_above (by decide), route]
  have hlinks (k : Nat) : t.linkActive k = s.linkActive k := by
    rw [linkActive, linkSt, hon, h.get_ne (by decide) (hlink k), linkActive, linkSt]
  have hfallback (k : Nat) :
      t.on (Pg.link k) R.STITCH_CFG_RING_FALLBACK = s.on (Pg.link k) R.STITCH_CFG_RING_FALLBACK :=
    h.on_ne (by decide) (hlink k)
  simp only [ownerReachable, routeUsable, hroute, hpos, hlinks, hfallback]

/-! ### EP_CMD (R539, R543, R549) -/

/-- A write of EP_CMD that discards nothing, or that finds staging open, has its effect. -/
theorem poke_epCmd {a : Agent} (v : Word) (hok : s.writeCode a Pg.epoch R.EP_CMD.off = .ok)
    (hopen : (bitOf v.toNat 2 && s.stagingClosed) = false) :
    s.poke a Pg.epoch R.EP_CMD.off v (wrEpoch Pg.epoch) = wrEpoch Pg.epoch s R.EP_CMD.off v := by
  have htoken : s.tokenRefused a Pg.epoch R.EP_CMD.off v = false := s.tokenRefused_ne a _ _ v (by decide)
  have hstaging : stagingBit Pg.epoch R.EP_CMD.off = some 2 := by decide
  simp only [poke, guardedWrite, guardedAt, htoken, hstaging, hopen, hok, Bool.false_and, Bool.false_eq_true, if_false]

theorem wrEpoch_cmd (s : State) (v : Word) :
    wrEpoch Pg.epoch s R.EP_CMD.off v =
      ((((s.when (bitOf v.toNat 3) fun t => (t.cntClear Pg.epoch).cntClear Pg.digest).when (bitOf v.toNat 2)
        discardStaged).when (bitOf v.toNat 0) epochRequest).when (bitOf v.toNat 1) epochCancel) := by
  rw [wrEpoch, if_pos ⟨rfl, rfl⟩]

theorem wrEpoch_request (s : State) : wrEpoch Pg.epoch s R.EP_CMD.off 1 = s.epochRequest := by
  have h0 : bitOf (1 : Word).toNat 0 = true := by decide
  have h1 : bitOf (1 : Word).toNat 1 = false := by decide
  have h2 : bitOf (1 : Word).toNat 2 = false := by decide
  have h3 : bitOf (1 : Word).toNat 3 = false := by decide
  rw [wrEpoch_cmd, h0, h1, h2, h3, when_false, when_false, when_true, when_false]

theorem wrEpoch_cancel (s : State) : wrEpoch Pg.epoch s R.EP_CMD.off 2 = s.epochCancel := by
  have h0 : bitOf (2 : Word).toNat 0 = false := by decide
  have h1 : bitOf (2 : Word).toNat 1 = true := by decide
  have h2 : bitOf (2 : Word).toNat 2 = false := by decide
  have h3 : bitOf (2 : Word).toNat 3 = false := by decide
  rw [wrEpoch_cmd, h0, h1, h2, h3, when_false, when_false, when_false, when_true]

theorem wrEpoch_discard (s : State) : wrEpoch Pg.epoch s R.EP_CMD.off 4 = s.discardStaged := by
  have h0 : bitOf (4 : Word).toNat 0 = false := by decide
  have h1 : bitOf (4 : Word).toNat 1 = false := by decide
  have h2 : bitOf (4 : Word).toNat 2 = true := by decide
  have h3 : bitOf (4 : Word).toNat 3 = false := by decide
  rw [wrEpoch_cmd, h0, h1, h2, h3, when_false, when_true, when_false, when_false]

theorem discardStaged_some (h : s.staged ≠ []) :
    s.discardStaged = { s with staged := [] }.clrF Pg.digest R.DIG_STATUS_STAGED_CURRENT := by
  have hempty : s.staged.isEmpty = false := List.isEmpty_eq_false_iff.mpr h
  rw [discardStaged, hempty, Bool.not_false, when_true]

/-! ### The requester (R543, R549) -/

/-- EP_REQ_STATUS while a request waits. -/
def reqAsked (s : State) : State :=
  (((s.put Pg.epoch R.EP_REQ_STATUS_REQ_STATE 1).put Pg.epoch R.EP_REQ_STATUS_REQ_TAG
    (s.get Pg.epoch R.EP_REQ_SCOPE_REQ_TAG)).put Pg.epoch R.EP_REQ_STATUS_OUTCOME 0).clrF Pg.epoch
      R.EP_REQ_STATUS_REFUSER_VALID

theorem sameBut_reqAsked (s : State) : SameBut Pg.epoch s s.reqAsked :=
  ((((SameBut.refl s Pg.epoch).put _ (by decide)).put _ (by decide)).put _ (by decide)).put _ (by decide)

/-- The least lead of a request is no field of EP_REQ_STATUS. -/
theorem get_reqAsked_lead (s : State) :
    s.reqAsked.get Pg.epoch R.EP_CFG_LEAD_MIN_US = s.get Pg.epoch R.EP_CFG_LEAD_MIN_US := by
  simp (disch := decide) only [reqAsked, clrF, get_put_apart]

/-- The hubs that EP_REQ_SCOPE and its list name, and the time asked for. -/
def reqList (s : State) : List Nat :=
  let l := (List.range (Nat.min 16 (s.get Pg.epoch R.EP_REQ_SCOPE_COUNT))).map fun j =>
    s.get Pg.epoch (R.EP_LIST_NODE j) * 4 + s.get Pg.epoch (R.EP_LIST_HUB j)
  if !s.on Pg.epoch R.EP_REQ_SCOPE_RING && l.isEmpty then [s.selfIndex] else l

def reqTime (s : State) : Nat :=
  (s.rd Pg.epoch R.EP_REQ_TIME_LO.off).toNat + 2 ^ 32 * (s.rd Pg.epoch R.EP_REQ_TIME_HI.off).toNat

/-- A request ends at once with a reason, where the asking does. The asking is replaced by its name before the match on its
result is looked at: the kernel need not evaluate it then. -/
theorem epochRequest_done {o : Nat} {u : State}
    (h : s.reqAsked.epochAsk s.reqTime (s.on Pg.epoch R.EP_REQ_SCOPE_RING) s.reqList (s.get Pg.epoch R.EP_REQ_SCOPE_REQ_TAG)
      none = (u, some o)) :
    s.epochRequest = s.reqShow (s.get Pg.epoch R.EP_REQ_SCOPE_REQ_TAG) o none := by
  conv_lhs => fun; delta epochRequest
  conv_lhs => zeta
  generalize hask : epochAsk _ _ _ _ _ _ = r
  have hr : r = (u, some o) := hask.symm.trans h
  rw [hr]

/-- A request waits, where the asking gives no reason. -/
theorem epochRequest_waits {u : State}
    (h : s.reqAsked.epochAsk s.reqTime (s.on Pg.epoch R.EP_REQ_SCOPE_RING) s.reqList (s.get Pg.epoch R.EP_REQ_SCOPE_REQ_TAG)
      none = (u, none)) : s.epochRequest = u := by
  conv_lhs => fun; delta epochRequest
  conv_lhs => zeta
  generalize hask : epochAsk _ _ _ _ _ _ = r
  have hr : r = (u, none) := hask.symm.trans h
  rw [hr]

theorem epochAsk_noTime {time tag : Nat} {ring : Bool} {l : List Nat} {k : Option Nat} (h : s.timeValid = false) :
    s.epochAsk time ring l tag k = (s, some 1) := by
  unfold epochAsk
  dsimp only
  rw [h, Bool.and_false, if_pos (by decide)]

theorem epochAsk_early {time tag : Nat} {ring : Bool} {l : List Nat} {k : Option Nat} (hon : s.domainOn 1 = true)
    (hvalid : s.timeValid = true) (h : time < s.now + Nat.max 100 (s.get Pg.epoch R.EP_CFG_LEAD_MIN_US) * 1000) :
    s.epochAsk time ring l tag k = (s, some 2) := by
  unfold epochAsk
  dsimp only
  rw [hon, hvalid, if_neg (by decide), if_pos h]

theorem epochAsk_sent {time tag i : Nat} {ring : Bool} {l : List Nat} {k : Option Nat} (hon : s.domainOn 1 = true)
    (hvalid : s.timeValid = true) (htime : s.now + Nat.max 100 (s.get Pg.epoch R.EP_CFG_LEAD_MIN_US) * 1000 ≤ time)
    (hwait : s.epoch.waiting = none) (hmaster : s.isMaster = false) (hindex : s.masterIndex = some i)
    (hnode : s.nodeValid = true) (hreach : s.ownerReachable i = true) :
    s.epochAsk time ring l tag k =
      (((s.modEpoch fun x => { x with waiting := some tag, thermal := k }).sendOwn
        (epochFrame 1 i false { time := time, ring := ring, list_ := l, by_ := s.selfIndex, tag := tag })).1, none) := by
  unfold epochAsk
  dsimp only
  rw [hon, hvalid, if_neg (by decide), if_neg (Nat.not_lt.mpr htime), hwait, if_neg (by decide), hmaster,
    if_neg (by decide), hindex]
  dsimp only
  rw [hnode, hreach, if_pos (by decide)]

theorem epochRequest_noTime (h : s.timeValid = false) :
    s.epochRequest = s.reqShow (s.get Pg.epoch R.EP_REQ_SCOPE_REQ_TAG) 1 none := by
  obtain ⟨-, htime, -⟩ := s.sameBut_reqAsked.request_eq
  exact epochRequest_done (epochAsk_noTime (htime.trans h))

theorem epochRequest_early (hon : s.domainOn 1 = true) (hvalid : s.timeValid = true)
    (h : s.reqTime < s.now + Nat.max 100 (s.get Pg.epoch R.EP_CFG_LEAD_MIN_US) * 1000) :
    s.epochRequest = s.reqShow (s.get Pg.epoch R.EP_REQ_SCOPE_REQ_TAG) 2 none := by
  obtain ⟨hdomain, htime, hnow, -⟩ := s.sameBut_reqAsked.request_eq
  rw [← hnow, ← get_reqAsked_lead] at h
  exact epochRequest_done (epochAsk_early (hdomain.trans hon) (htime.trans hvalid) h)

/-- A request in time, with no other waiting, goes to the master (R543). -/
theorem epochRequest_sent {i : Nat} (hon : s.domainOn 1 = true) (hvalid : s.timeValid = true)
    (htime : s.now + Nat.max 100 (s.get Pg.epoch R.EP_CFG_LEAD_MIN_US) * 1000 ≤ s.reqTime)
    (hwait : s.epoch.waiting = none) (hmaster : s.isMaster = false) (hindex : s.masterIndex = some i)
    (hnode : s.nodeValid = true) (hreach : s.ownerReachable i = true) :
    s.epochRequest =
      ((s.reqAsked.modEpoch fun x =>
        { x with waiting := some (s.get Pg.epoch R.EP_REQ_SCOPE_REQ_TAG), thermal := none }).sendOwn
          (epochFrame 1 i false
            { time := s.reqTime, ring := s.on Pg.epoch R.EP_REQ_SCOPE_RING, list_ := s.reqList, by_ := s.selfIndex
              tag := s.get Pg.epoch R.EP_REQ_SCOPE_REQ_TAG })).1 := by
  have hsame := s.sameBut_reqAsked
  obtain ⟨hdomain, hvalid', hnow, hmaster', hindex', hnode', hself, hepoch⟩ := hsame.request_eq
  rw [← hnow, ← get_reqAsked_lead] at htime
  rw [epochRequest_waits (epochAsk_sent (hdomain.trans hon) (hvalid'.trans hvalid) htime
    ((congrArg _ hepoch).trans hwait) (hmaster'.trans hmaster) (hindex'.trans hindex) (hnode'.trans hnode)
    ((hsame.ownerReachable_eq i).trans hreach)), hself]

theorem epochCancel_sent {tag i : Nat} (hwait : s.epoch.waiting = some tag) (hthermal : s.epoch.thermal = none)
    (hmaster : s.isMaster = false) (hindex : s.masterIndex = some i) :
    s.epochCancel = (s.sendOwn (epochFrame 7 i false { by_ := s.selfIndex, tag := tag })).1 := by
  simp [epochCancel, hwait, hthermal, hmaster, hindex]

/-! ### The master (R544, R546) -/

theorem epochOn_ready (f : State → State) (h : s.ready Pg.epoch = true) : s.epochOn f = f s := if_pos h

theorem epochIn_message {b : List Byte} {m : EpochMsg} (f : State → EpochMsg → State) (h : s.ready Pg.epoch = true)
    (hm : epochOf b = some m) : s.epochIn b f = f s m := by
  rw [epochIn, epochOn_ready _ h, hm]

theorem requestIn_busy {m : EpochMsg} {r : EpochRun} (hmaster : s.isMaster = true) (hrun : s.epoch.run = some r) :
    s.requestIn m = s.sendResult m 3 none := by
  simp [requestIn, hmaster, hrun]

/-- A request for the requester alone, in time, is prepared (R544). -/
theorem requestIn_prepares {m : EpochMsg} (hmaster : s.isMaster = true) (hrun : s.epoch.run = none)
    (hon : s.domainOn 1 = true) (hvalid : s.timeValid = true) (hring : s.ringState = 4)
    (htime : s.now + Nat.max 100 (s.get Pg.epoch R.EP_CFG_GUARD_US) * 1000 + 2 * (s.rd Pg.master R.LOOP_NS.off).toNat +
      200000 ≤ m.time)
    (hall : m.ring = false) (hlist : m.list_ = []) (hreach : s.ownerReachable m.by_ = true) :
    let n : EpochRun :=
      { num := (Nat.max s.epochNum s.epoch.seen + 1) % 2 ^ 32, time := m.time, all_ := false, list_ := [m.by_]
        by_ := m.by_, tag := m.tag }
    s.requestIn m =
      ((((s.modEpoch fun x => { x with run := some n }).setF Pg.epoch R.EP_STATE_COORDINATING).sendOwn
        (epochFrame 2 0 true (runMsg n))).1.prepareIn (runMsg n)) := by
  simp [requestIn, hmaster, hrun, hon, hvalid, hring, Nat.not_lt.mpr htime, hall, hlist, hreach]

theorem voteIn_refused {src : Nat} {m : EpochMsg} {r : EpochRun} (hrun : s.epoch.run = some r) (hopen : r.decision = none)
    (hnum : m.num = r.num) (hsrc : src ∈ r.list_) (h : m.outcome ≠ 0) :
    s.voteIn src m = s.decide_ r m.outcome (some src) := by
  simp [voteIn, hrun, hopen, hnum, hsrc, h]

/-- A vote for the epoch that leaves others to come is entered. -/
theorem voteIn_counted {src : Nat} {m : EpochMsg} {r : EpochRun} (hrun : s.epoch.run = some r) (hopen : r.decision = none)
    (hnum : m.num = r.num) (hsrc : src ∈ r.list_) (h : m.outcome = 0)
    (hcheck : s.on Pg.digest R.DIG_CFG_CHECK_STAGED = false)
    (hmore : r.list_.all (addNew src r.votes).contains = false) :
    s.voteIn src m = s.modEpoch fun x => { x with run := some { r with votes := addNew src r.votes } } := by
  unfold voteIn
  rw [hrun]
  simp only [hopen, hnum, List.contains_iff_mem.mpr hsrc, h, hcheck, hmore, Option.isSome_none, Bool.false_eq_true,
    Bool.not_true, ne_eq, not_true_eq_false, or_self, false_and, if_false]

theorem cancelIn_taken {m : EpochMsg} {r : EpochRun} (hrun : s.epoch.run = some r) (hopen : r.decision = none)
    (hby : r.by_ = m.by_) (htag : r.tag = m.tag) : s.cancelIn_ m = s.decide_ r 8 none := by
  simp [cancelIn_, hrun, hopen, hby, htag]

theorem guardExpired_decides {r : EpochRun} (hrun : s.epoch.run = some r) (hopen : r.decision = none) :
    s.guardExpired = s.decide_ r 7 ((List.range 1024).find? fun j => r.list_.contains j && !r.votes.contains j) := by
  simp [guardExpired, hrun, hopen]

/-- A decision that has gone out less than twice goes out again, and is not the last. -/
theorem decisionAgain_early {r : EpochRun} (hrun : s.epoch.run = some r) (hdecided : r.decision.isSome = true)
    (hsent : r.sent < 2) : s.decisionAgain = s.decisionOut := by
  have hmore : ¬(r.decision.isNone = true ∨ 3 ≤ r.sent) := by
    rw [Option.isNone_iff_eq_none]
    rintro (h | h)
    · rw [h] at hdecided
      exact absurd hdecided (by decide)
    · omega
  rw [decisionAgain, hrun]
  dsimp only
  rw [if_neg hmore, decide_eq_false (Nat.not_le.mpr hsent), Bool.false_and, when_false]

/-! ### Messages by their code (R542) -/

section
variable {src : Nat} {b : List Byte} {m : EpochMsg}

theorem epochMessage_request (h : s.ready Pg.epoch = true) (hm : epochOf b = some m) :
    s.epochMessage src 1 b = s.requestIn { m with by_ := src } := by
  unfold epochMessage
  rw [epochIn_message _ h hm]
  rfl

theorem epochMessage_vote (h : s.ready Pg.epoch = true) (hm : epochOf b = some m) :
    s.epochMessage src 3 b = s.voteIn src m := by
  unfold epochMessage
  rw [epochIn_message _ h hm]
  rfl

theorem epochMessage_cancel (h : s.ready Pg.epoch = true) (hm : epochOf b = some m) :
    s.epochMessage src 7 b = s.cancelIn_ { m with by_ := src } := by
  unfold epochMessage
  rw [epochIn_message _ h hm]
  rfl

/-- PREPARE, COMMIT_EPOCH and ABORT_EPOCH count from the ring master alone. -/
theorem epochMessage_master (h : s.ready Pg.epoch = true) (hm : epochOf b = some m) (hmaster : s.masterIndex = some src) :
    s.epochMessage src 2 b = s.prepareIn m ∧ s.epochMessage src 4 b = s.commitIn m ∧
      s.epochMessage src 5 b = s.abortIn m := by
  unfold epochMessage
  simp only [epochIn_message _ h hm, if_pos hmaster, and_self]

end

/-! ### Every hub (R545, R547) -/

theorem prepareIn_outside {m : EpochMsg} (hnum : s.epochNum < m.num) (hst : s.epochState ≠ 2) (hscope : s.inScope m = false) :
    s.prepareIn m = s.epochIdle.markPages R.EPOCH_STATE_ABORTED false := by
  unfold prepareIn
  rw [if_neg (not_or.mpr ⟨Nat.not_le.mpr hnum, hst⟩), hscope]
  rfl

theorem commitIn_prepared {m : EpochMsg} (hnum : s.epochNum < m.num) (hst : s.epochState = 1)
    (hpend : s.rd Pg.epoch R.EP_PEND_NUM.off = BitVec.ofNat 32 m.num) :
    s.commitIn m = (s.put Pg.epoch R.EP_STATE_STATE 2).markPages R.EPOCH_STATE_ARMED true := by
  rw [commitIn, if_neg (Nat.not_le.mpr hnum), if_pos ⟨hst, hpend⟩]

theorem abortIn_prepared {m : EpochMsg} (hnum : s.epochNum < m.num) (hst : s.epochState = 1)
    (hpend : s.rd Pg.epoch R.EP_PEND_NUM.off = BitVec.ofNat 32 m.num) : s.abortIn m = s.epochAborted :=
  if_pos ⟨hnum, hst, hpend⟩

/-! ### Digests and beacons (R553 to R555) -/

/-- The recomputation of the digest leaves the vote that may wait for it. -/
theorem digestDone_voteWaits (s : State) : s.digestDone.epoch.voteWaits = s.epoch.voteWaits := by
  have hwords (w : Nat → Word) :
      ((List.range 8).foldl (fun t i => t.wr Pg.digest (R.DIGEST i).off (w i)) s).epoch = s.epoch :=
    (List.foldl_hom epoch (g₁ := fun t i => t.wr Pg.digest (R.DIGEST i).off (w i)) (g₂ := fun e _ => e) fun _ _ => rfl).symm.trans (List.foldl_fixed _)
  have hevent (t : State) (c : Bool) (e : Nat) : (t.when c fun t => t.event Pg.digest e).epoch = t.epoch := by
    rcases t.when_cases c fun t => t.event Pg.digest e with h | h <;> rw [h]
    rfl
  have hmod (t : State) (l : List (Nat × Nat)) :
      (t.modEpoch fun x => { x with pageDigs := l }).epoch.voteWaits = t.epoch.voteWaits := rfl
  have hput (t : State) (f : Fld) (v : Nat) : (t.put Pg.digest f v).epoch = t.epoch := rfl
  rw [digestDone]
  dsimp only
  rw [hevent, hmod, setF, setF, hput, hput, hput, hput, hwords]

theorem digestBeacon_sent {i : Nat} (hring : s.ringState = 4) (hmaster : s.isMaster = false) (hindex : s.masterIndex = some i) :
    s.digestBeacon =
      (s.sendOwn { cls := 2, prio := 6, ftype := 0x32, dstNode := i / 4, dstHub := i % 4
                   payload := leBytes 8 s.activeDigest ++ leBytes 4 s.epochNum ++
        [BitVec.ofNat 8 (s.get Pg.digest R.DIG_STATUS_ACTIVE_CURRENT + 2 * b2n (s.epochState != 0) +
          4 * b2n (usedPages.any fun x => s.pageOn x && s.on x R.PAGE_STATUS_FACTORY) +
          8 * s.get Pg.seed R.SEED_STATUS_SUPPRESSED), 0, 0, 0] }).1 := by
  unfold digestBeacon
  dsimp only
  rw [if_neg fun h => h.1 hring, hmaster, if_neg Bool.false_ne_true, hindex]

theorem beaconCheck_unchecked {i : Nat} {b : List Byte} (h : s.on Pg.digest R.DIG_CFG_COMPARE_EN = false) :
    s.beaconCheck i b =
      (s.modEpoch fun x => { x with seen := Nat.max x.seen (leNat (bytesAt b 8 4)) }).clrF Pg.digest (missingBit i) := by
  unfold beaconCheck
  dsimp only
  rw [if_pos (.inl (by rw [h, Bool.not_false]))]

theorem digestIn_master {src : Nat} {b : List Byte} (h : s.ready Pg.epoch = true) (hmaster : s.isMaster = true)
    (hlen : b.length = 16) : s.digestIn src b = s.beaconCheck src b := by
  rw [digestIn, epochOn_ready _ h, if_pos ⟨hmaster, hlen⟩]

theorem beaconMissing_reported {i : Nat} (hmaster : s.isMaster = true) (hroute : bitOf (s.route i) 10 = true)
    (h : s.on Pg.digest (missingBit i) = false) :
    s.beaconMissing i = (s.setF Pg.digest (missingBit i)).event Pg.digest E.P00B_MISSING := by
  rw [beaconMissing, if_pos ⟨hmaster, hroute⟩, h, Bool.not_false, when_true]

/-- Words written one after another, each in a place of its own, read back. -/
theorem rd_foldl_wr {p : Nat} {off : Nat → Nat} (w : Nat → Word) {n k : Nat} (hk : k < n) (hoff : ∀ i < n, off i < 0x1000000)
    (hinj : ∀ i < n, ∀ j < n, off i = off j → i = j) :
    ((List.range n).foldl (fun t i => t.wr p (off i) (w i)) s).rd p (off k) = w k := by
  induction n with
  | zero => exact absurd hk (Nat.not_lt_zero k)
  | succ n ih =>
    rw [List.range_succ, List.foldl_append, List.foldl_cons, List.foldl_nil]
    rcases Nat.lt_succ_iff_lt_or_eq.mp hk with hlt | rfl
    · have hne : off k ≠ off n := fun h => hlt.ne (hinj k hk n n.lt_succ_self h)
      rw [rd_wr_ne _ _ _ _ _ _ (hoff n n.lt_succ_self) (hoff k hk) (.inr hne)]
      exact ih hlt (fun i hi => hoff i (Nat.lt_succ_of_lt hi)) fun i hi j hj =>
        hinj i (Nat.lt_succ_of_lt hi) j (Nat.lt_succ_of_lt hj)
    · exact rd_wr_same _ _ _ _

/-- The recomputation stores the digest of the active configuration (R553). -/
theorem rd_digestDone (s : State) {n : Nat} (hn : n < 8) :
    s.digestDone.rd Pg.digest (R.DIGEST n).off =
      BitVec.ofNat 32 (leNat (bytesAt ((s.sheaf false).drop (4 * n)) 0 4)) := by
  have hoff (i : Nat) : (R.DIGEST i).off = 0x048 + 0x4 * i := rfl
  have hstored := rd_foldl_wr (s := s) (p := Pg.digest) (off := fun i => (R.DIGEST i).off)
    (fun i => BitVec.ofNat 32 (leNat (bytesAt ((s.sheaf false).drop (4 * i)) 0 4))) hn
    (fun i hi => by have := hoff i; omega) (fun i _ j _ h => by have := hoff i; have := hoff j; omega)
  have hput (t : State) (f : Fld) (v : Nat) (hf : f.off < 0x1000000) (h : (R.DIGEST n).off ≠ f.off) :
      (t.put Pg.digest f v).rd Pg.digest (R.DIGEST n).off = t.rd Pg.digest (R.DIGEST n).off :=
    t.rd_put_ne _ _ _ _ _ hf (by have := hoff n; omega) (.inr h)
  have hlo : (R.DIGEST n).off ≠ R.STAGED_DIG_LO.off := by have : R.STAGED_DIG_LO.off = 0x068 := rfl; have := hoff n; omega
  have hhi : (R.DIGEST n).off ≠ R.STAGED_DIG_HI.off := by have : R.STAGED_DIG_HI.off = 0x06C := rfl; have := hoff n; omega
  have hactive : (R.DIGEST n).off ≠ R.DIG_STATUS_ACTIVE_CURRENT.off := by
    have : R.DIG_STATUS_ACTIVE_CURRENT.off = 0x044 := rfl
    have := hoff n
    omega
  have hstaged : (R.DIGEST n).off ≠ R.DIG_STATUS_STAGED_CURRENT.off := hactive
  have hevent (t : State) (e : Nat) : (t.event Pg.digest e).rd Pg.digest (R.DIGEST n).off = t.rd Pg.digest (R.DIGEST n).off :=
    hput t _ 1 (by decide : 0x010 < 0x1000000) (by
      show (R.DIGEST n).off ≠ 0x010
      have := hoff n
      omega)
  have hmod (t : State) (g : Epoch → Epoch) :
      (t.modEpoch g).rd Pg.digest (R.DIGEST n).off = t.rd Pg.digest (R.DIGEST n).off := rfl
  have hwhen (t : State) (c : Bool) (e : Nat) :
      (t.when c fun t => t.event Pg.digest e).rd Pg.digest (R.DIGEST n).off = t.rd Pg.digest (R.DIGEST n).off := by
    rcases t.when_cases c fun t => t.event Pg.digest e with h | h <;> rw [h]
    exact hevent t e
  rw [digestDone]
  dsimp only
  rw [hwhen, hmod, setF, setF, hput _ _ _ (by decide) hstaged, hput _ _ _ (by decide) hactive, hput _ _ _ (by decide) hhi,
    hput _ _ _ (by decide) hlo]
  exact hstored

end Sys2Proof.Machine.State
end

section
/-! The settling of the statement on epochs and digests. -/

namespace Sys2Proof.Machine

open Sys2Proof (Word Byte Agent)
open State

/-- Settles O53, a command or a message at a time: a write of EP_CMD is one of the requester's three commands, a message
reaches the master's or the hub's own answer by its code. Where REQUEST finds an epoch under way it ends with outcome 3
before the other reasons are looked at, and the hub named as refuser is the one that voted: the order of the model's
log entry 71. -/
theorem epochsAndDigests : Obligations.EpochsAndDigests := by
  unfold Obligations.EpochsAndDigests
  intro s a src b m i tag r
  refine ⟨fun hok => ⟨fun hopen hstaged => ?_, ⟨fun hvalid => ?_, fun hon hvalid htime => ?_,
      fun hon hvalid htime hwait hmaster hindex hnode hreach => ?_⟩, fun hwait hthermal hmaster hindex => ?_⟩,
    fun hready => ⟨fun hm => ⟨fun hmaster => ⟨fun hrun => ?_, fun hrun hon hvalid hring htime hall hlist hreach => ?_⟩,
        fun hindex hnum => ⟨fun hst hscope => ?_, fun hst hpend => ⟨?_, ?_⟩⟩,
        fun hrun hopen => ⟨fun hnum hsrc hout => ?_, fun hnum hsrc hout hcheck hmore => ?_, fun htag hby => ?_⟩⟩,
      fun hrun => ⟨fun hopen => ?_, fun hdecided hsent => ?_⟩, fun hvote => ?_, fun hring hmaster hindex => ?_,
      fun hmaster hlen hcompare => ?_, fun hmaster hroute hmissing => ?_⟩,
    fun n hn => s.rd_digestDone hn⟩
  · exact finishAll_of_eq
      ((poke_epCmd 4 hok (by rw [hopen, Bool.and_false])).trans ((wrEpoch_discard s).trans (discardStaged_some hstaged)))
  · exact finishAll_of_eq ((poke_epCmd 1 hok rfl).trans ((wrEpoch_request s).trans (epochRequest_noTime hvalid)))
  · exact finishAll_of_eq ((poke_epCmd 1 hok rfl).trans ((wrEpoch_request s).trans (epochRequest_early hon hvalid htime)))
  · exact finishAll_of_eq ((poke_epCmd 1 hok rfl).trans ((wrEpoch_request s).trans
      (epochRequest_sent hon hvalid htime hwait hmaster hindex hnode hreach)))
  · exact finishAll_of_eq ((poke_epCmd 2 hok rfl).trans ((wrEpoch_cancel s).trans
      (epochCancel_sent hwait hthermal hmaster hindex)))
  · exact finishAll_of_eq ((epochMessage_request hready hm).trans (requestIn_busy hmaster hrun))
  · exact finishAll_of_eq ((epochMessage_request hready hm).trans
      (requestIn_prepares (m := { m with by_ := src }) hmaster hrun hon hvalid hring htime hall hlist hreach))
  · exact finishAll_of_eq ((epochMessage_master hready hm hindex).1.trans (prepareIn_outside hnum hst hscope))
  · exact finishAll_of_eq ((epochMessage_master hready hm hindex).2.1.trans (commitIn_prepared hnum hst hpend))
  · exact finishAll_of_eq ((epochMessage_master hready hm hindex).2.2.trans (abortIn_prepared hnum hst hpend))
  · exact finishAll_of_eq ((epochMessage_vote hready hm).trans (voteIn_refused hrun hopen hnum hsrc hout))
  · exact finishAll_of_eq ((epochMessage_vote hready hm).trans (voteIn_counted hrun hopen hnum hsrc hout hcheck hmore))
  · exact finishAll_of_eq ((epochMessage_cancel hready hm).trans
      (cancelIn_taken (m := { m with by_ := src }) hrun hopen hby htag.symm))
  · exact finishAll_of_eq ((epochOn_ready _ hready).trans (guardExpired_decides hrun hopen))
  · exact finishAll_of_eq ((epochOn_ready _ hready).trans (decisionAgain_early hrun hdecided hsent))
  · refine finishAll_of_eq ((epochOn_ready _ hready).trans ?_)
    dsimp only
    rw [digestDone_voteWaits, hvote, when_false]
  · exact finishAll_of_eq ((epochOn_ready _ hready).trans (digestBeacon_sent hring hmaster hindex))
  · exact finishAll_of_eq ((digestIn_master hready hmaster hlen).trans (beaconCheck_unchecked hcompare))
  · exact finishAll_of_eq ((epochOn_ready _ hready).trans (beaconMissing_reported hmaster hroute hmissing))

end Sys2Proof.Machine
end

section
/-! SUPPORT. The security block (R583 to R590), the injectors (R591 to R593) and the test port (R594): what a write of each
command register does, and the branches of each command. -/

namespace Sys2Proof.Machine.State

open Sys2Proof (Word Byte Agent)

variable {s : State} {a : Agent}

/-! ### The command registers of page 0x007 -/

theorem poke_security {off : Nat} (v : Word) (hok : s.writeCode a Pg.security off = .ok) :
    s.poke a Pg.security off v (wrSecurity a) = wrSecurity a s off v := by
  have hstage : stagingBit Pg.security off = none := by
    rw [stagingBit, if_neg fun h => absurd h.1 (by decide), if_neg fun h => absurd h.1 (by decide)]
  exact s.poke_ok' a _ off v _ (by decide) hstage hok

/-- A write of OPEN_CTRL, by the bits it sets. -/
theorem wrSecurity_open {v : Word} {nonce key pass close : Bool} (h0 : bitOf v.toNat 0 = nonce) (h1 : bitOf v.toNat 1 = key)
    (h2 : bitOf v.toNat 2 = pass) (h3 : bitOf v.toNat 3 = close) :
    wrSecurity a s R.OPEN_CTRL.off v =
      ((((s.when nonce fun t => t.openNonce a).when key fun t => t.goKey a).when pass fun t => t.goPass a).when close
        closeAccess) := by
  unfold wrSecurity
  dsimp only
  rw [if_pos rfl, h0, h1, h2, h3]

theorem wrSecurity_nonceNew : wrSecurity a s R.OPEN_CTRL.off 1 = s.openNonce a := by
  rw [wrSecurity_open (nonce := true) (key := false) (pass := false) (close := false) (by decide) (by decide) (by decide)
    (by decide), when_true, when_false, when_false, when_false]

theorem wrSecurity_goKey : wrSecurity a s R.OPEN_CTRL.off 2 = s.goKey a := by
  rw [wrSecurity_open (nonce := false) (key := true) (pass := false) (close := false) (by decide) (by decide) (by decide)
    (by decide), when_false, when_true, when_false, when_false]

theorem wrSecurity_goPass : wrSecurity a s R.OPEN_CTRL.off 4 = s.goPass a := by
  rw [wrSecurity_open (nonce := false) (key := false) (pass := true) (close := false) (by decide) (by decide) (by decide)
    (by decide), when_false, when_false, when_true, when_false]

theorem wrSecurity_close : wrSecurity a s R.OPEN_CTRL.off 8 = s.closeAccess := by
  rw [wrSecurity_open (nonce := false) (key := false) (pass := false) (close := true) (by decide) (by decide) (by decide)
    (by decide), when_false, when_false, when_false, when_true]

/-- A write of SEC_LOCK, by what it asks for. -/
theorem wrSecurity_lockBits {v : Word} {unlock lock : Bool} (h2 : (bitOf v.toNat 2 && s.unlocked) = unlock)
    (h1 : bitOf v.toNat 1 = lock) :
    wrSecurity a s R.SEC_LOCK.off v =
      ((s.when unlock fun t => t.putKept Pg.security R.SEC_LOCK_OWNER_LOCK 0).when lock fun t =>
        t.putKept Pg.security R.SEC_LOCK_OWNER_LOCK 1) := by
  unfold wrSecurity
  dsimp only
  rw [if_neg (by decide), if_pos rfl, h2, h1]

theorem wrSecurity_lock : wrSecurity a s R.SEC_LOCK.off 2 = s.putKept Pg.security R.SEC_LOCK_OWNER_LOCK 1 := by
  have hbit : bitOf (2 : Word).toNat 2 = false := by decide
  rw [wrSecurity_lockBits (unlock := false) (lock := true) (by rw [hbit, Bool.false_and]) (by decide), when_false, when_true]

theorem wrSecurity_unlock (h : s.unlocked = true) :
    wrSecurity a s R.SEC_LOCK.off 4 = s.putKept Pg.security R.SEC_LOCK_OWNER_LOCK 0 := by
  have hbit : bitOf (4 : Word).toNat 2 = true := by decide
  rw [wrSecurity_lockBits (unlock := true) (lock := false) (by rw [hbit, h, Bool.true_and]) (by decide), when_true, when_false]

theorem wrSecurity_otp (v : Word) : wrSecurity a s R.OTP_CMD.off v = s.otpCmd v.toNat := by
  unfold wrSecurity
  dsimp only
  rw [if_neg (by decide), if_neg (by decide), if_pos rfl]

theorem wrSecurity_attest : wrSecurity a s R.ATTEST_CTRL.off 1 = s.attestGo := by
  have hbit : bitOf (1 : Word).toNat 0 = true := by decide
  unfold wrSecurity
  dsimp only
  rw [if_neg (by decide), if_neg (by decide), if_neg (by decide), if_pos rfl, hbit, when_true]

/-! ### One-time cells (R583) -/

/-- The words of PROGRAM and REVOKE name their cell and say which of the two they are. -/
theorem otpWord_toNat (sel : Byte) {k : Nat} (hk : k ≤ 512) : (BitVec.ofNat 32 (k + sel.toNat)).toNat = k + sel.toNat := by
  have := sel.isLt
  rw [BitVec.toNat_ofNat, Nat.mod_eq_of_lt (by omega)]

theorem otpWord_sel (sel : Byte) (k : Nat) : (256 * k + sel.toNat) % 256 = sel.toNat := by
  have := sel.isLt
  omega

theorem bitOf_otpWord (sel : Byte) (k j : Nat) : bitOf (256 * k + sel.toNat) (8 + j) = bitOf k j := by
  have h := Nat.testBit_two_pow_mul_add k sel.isLt (8 + j)
  rwa [if_neg (by omega), Nat.add_sub_cancel_left] at h

/-- A one-time command starts. -/
def otpStarted (s : State) (sel : Nat) (program : Bool) : State :=
  ((((s.setF Pg.security R.OTP_STATUS_BUSY).clrF Pg.security R.OTP_STATUS_DONE).clrF Pg.security
    R.OTP_STATUS_REFUSED).put Pg.security R.OTP_STATUS_REASON 0).modSec fun x =>
      { x with job := some (sel, program, s.otpData sel) }

/-- A one-time command while none is in progress is refused with its reason, or starts. -/
theorem otpCmd_idle {v sel : Nat} {program : Bool} (hbusy : s.on Pg.security R.OTP_STATUS_BUSY = false)
    (hsel : v % 256 = sel) (hprogram : bitOf v 8 = program) (hone : (!program && !bitOf v 9) = false) :
    (s.otpRefusal sel program ≠ 0 → s.otpCmd v = s.otpRefused (s.otpRefusal sel program)) ∧
      (s.otpRefusal sel program = 0 → s.otpCmd v = s.otpStarted sel program) := by
  unfold otpCmd
  dsimp only
  rw [hsel, hprogram, hone, hbusy, Bool.false_or, if_neg Bool.false_ne_true]
  exact ⟨fun h => if_pos h, fun h => if_neg fun hne => hne h⟩

theorem otpCmd_program (sel : Byte) (hbusy : s.on Pg.security R.OTP_STATUS_BUSY = false) :
    (s.otpRefusal sel.toNat true ≠ 0 → s.otpCmd (256 + sel.toNat) = s.otpRefused (s.otpRefusal sel.toNat true)) ∧
      (s.otpRefusal sel.toNat true = 0 → s.otpCmd (256 + sel.toNat) = s.otpStarted sel.toNat true) :=
  otpCmd_idle hbusy (otpWord_sel sel 1) (bitOf_otpWord sel 1 0) rfl

theorem otpCmd_revoke (sel : Byte) (hbusy : s.on Pg.security R.OTP_STATUS_BUSY = false) :
    (s.otpRefusal sel.toNat false ≠ 0 → s.otpCmd (512 + sel.toNat) = s.otpRefused (s.otpRefusal sel.toNat false)) ∧
      (s.otpRefusal sel.toNat false = 0 → s.otpCmd (512 + sel.toNat) = s.otpStarted sel.toNat false) := by
  have hbit : bitOf (512 + sel.toNat) 9 = true := bitOf_otpWord sel 2 1
  exact otpCmd_idle hbusy (otpWord_sel sel 2) (bitOf_otpWord sel 2 0) (by rw [hbit]; rfl)

theorem otpDone_programmed {n : Nat} {d : List Byte} (h : s.sec.job = some (n, true, d)) :
    s.otpDone true =
      ((((s.modSec fun x => { x with job := none, otp := x.otp ++ [(n, d)] }).clrF Pg.security R.OTP_STATUS_BUSY).setF
        Pg.security R.OTP_STATUS_DONE).event Pg.security E.P007_OTP_DONE) := by
  unfold otpDone
  rw [h]
  rfl

/-! ### Attestation (R584) -/

theorem attestGo_started (hrandom : s.sec.badRandom = false) (hbusy : s.on Pg.security R.ATTEST_CTRL_BUSY = false) :
    s.attestGo =
      ((((s.setF Pg.security R.ATTEST_CTRL_GO).setF Pg.security R.ATTEST_CTRL_BUSY).clrF Pg.security
        R.ATTEST_CTRL_DONE).modSec fun x => { x with attesting := true }) := by
  unfold attestGo
  dsimp only
  rw [hrandom, if_neg Bool.false_ne_true, hbusy, if_neg Bool.false_ne_true]

theorem attestDone_signed (h : s.sec.attesting = true) :
    let msg := s.sec.nonce ++ leBytes 8 s.uid ++ leBytes 4 s.svnFloor ++ leBytes 4 s.bootedId ++ leBytes 8 s.activeDigest
    let sig := ecdsaSign Config.deviceKey (Config.signNonce s.fresh) msg
    s.attestDone =
      ((((((s.draw.wrWindow Pg.security 0xB40 (beBytes 48 sig.1 ++ beBytes 48 sig.2 ++ List.replicate 32 0)).modSec fun x =>
        { x with attesting := false }).clrF Pg.security R.ATTEST_CTRL_GO).clrF Pg.security R.ATTEST_CTRL_BUSY).setF
          Pg.security R.ATTEST_CTRL_DONE).event Pg.security E.P007_ATTEST_DONE) := by
  unfold attestDone
  dsimp only
  rw [h, if_neg (by decide), uidBytes]

/-! ### Access (R587 to R589) -/

theorem openNonce_failing (h : s.sec.badRandom = true) :
    s.openNonce a = (s.openFailed 5).raise Pg.security K.TRNG_FAIL 0 := by
  unfold openNonce
  dsimp only
  rw [if_pos h]

theorem openNonce_drawn (h : s.sec.badRandom = false) :
    s.openNonce a =
      ((((s.newNonce Pg.security 0x800).modSec fun x => { x with opening := { valid := true, by_ := a } }).clrF Pg.security
        R.OPEN_CTRL_DONE).clrF Pg.security R.OPEN_CTRL_FAIL).put Pg.security R.OPEN_CTRL_REASON 0 := by
  unfold openNonce
  dsimp only
  rw [h, if_neg Bool.false_ne_true]

section
variable (hkey : ownerSels.any s.otpGood = true)

theorem goKey_noKey (h : ownerSels.any s.otpGood = false) :
    s.goKey a = (s.modSec fun x => { x with opening := {} }).openFailed 6 := by
  unfold goKey
  dsimp only
  rw [h, if_pos (by decide)]

include hkey

theorem goKey_noNonce (h : s.sec.opening.valid = false ∨ s.sec.opening.by_ ≠ a) :
    s.goKey a = (s.modSec fun x => { x with opening := {} }).openFailed 2 := by
  unfold goKey
  dsimp only
  rw [hkey, if_neg (by decide), if_pos (h.imp_left fun h => by rw [h, Bool.not_false])]

theorem goKey_opens (hvalid : s.sec.opening.valid = true) (hby : s.sec.opening.by_ = a)
    (h : s.responseHolds 2 (s.rdWindow Pg.security 0x800 8) s.sec.sigOpen = true) :
    s.goKey a = (s.modSec fun x => { x with opening := {} }).openAccess a 2 := by
  have hnonce : ¬((!s.sec.opening.valid) = true ∨ s.sec.opening.by_ ≠ a) := by
    rintro (hinvalid | hother)
    · rw [hvalid] at hinvalid
      exact absurd hinvalid (by decide)
    · exact hother hby
  unfold goKey
  dsimp only
  rw [hkey, if_neg (by decide), if_neg hnonce, if_pos h]

end

theorem goPass_unset (h : s.passInUse = none) :
    s.goPass a = (s.modSec fun x => { x with pass := List.replicate 32 0 }).openFailed 4 := by
  unfold goPass
  dsimp only
  rw [h]

theorem goPass_opens {n : Nat} (hslot : s.passInUse = some n)
    (hstrap : s.on Pg.bringUp R.BRINGUP_STATUS_STRAP_NORESTORE = false) (hfails : s.get Pg.security R.PASS_FAILS % 16 < 8)
    (hwait : s.sec.passUntil ≤ s.ns) (hmin : 8 ≤ s.get Pg.security R.PASS_LEN % 64)
    (hmax : s.get Pg.security R.PASS_LEN % 64 ≤ 32)
    (hpass : s.otpRec n = some (sha384 (leBytes 8 s.uid ++ bytesAt s.sec.pass 0 (s.get Pg.security R.PASS_LEN % 64)))) :
    s.goPass a = (s.modSec fun x => { x with pass := List.replicate 32 0 }).openAccess a 1 := by
  unfold goPass
  dsimp only
  rw [hslot]
  dsimp only
  rw [hstrap, decide_eq_false (Nat.not_le.mpr hfails), decide_eq_false (Nat.not_lt.mpr hwait), if_neg (by decide),
    if_pos ⟨hmin, hmax, hpass⟩]

/-- Closing access does not reach the injectors of a domain that is off. -/
theorem closeAccess_closes (hopen : s.get Pg.security R.SEC_STATUS_ACCESS ≠ 0) (hoff : s.domainOn 0 = false) :
    s.closeAccess = (s.put Pg.security R.SEC_STATUS_ACCESS 0).event Pg.security E.P007_ACCESS_CLOSED := by
  have hdomain : ((s.put Pg.security R.SEC_STATUS_ACCESS 0).event Pg.security E.P007_ACCESS_CLOSED).domainOn 0 = false := by
    rw [domainOn, event, rd_put_ne _ _ _ _ _ _ (by decide) (by decide) (.inl (by decide)),
      rd_put_ne _ _ _ _ _ _ (by decide) (by decide) (.inl (by decide))]
    exact hoff
  unfold closeAccess
  dsimp only
  rw [if_neg hopen, chaffStop, hdomain, if_pos (by decide)]

/-! ### The injectors (R591 to R593) -/

theorem poke_chaff {k off : Nat} (v : Word) (hok : s.writeCode a (Pg.chaff k) off = .ok) :
    s.poke a (Pg.chaff k) off v (wrChaff (Pg.chaff k)) = wrChaff (Pg.chaff k) s off v := by
  have hpage (q : Nat) (hq : q < 0x1C0) : Pg.chaff k ≠ q := by
    show 0x1C0 + k ≠ q
    omega
  have hstage : stagingBit (Pg.chaff k) off = none := by
    rw [stagingBit, if_neg fun h => hpage _ (by decide) h.1, if_neg fun h => hpage _ (by decide) h.1]
  exact s.poke_ok' a _ off v _ (hpage _ (by decide)) hstage hok

/-- A write of CH_CTRL that leaves the bit RUN as it stands leaves RUN. -/
theorem storeWrite_chCtrl_run {v : Word} (hv : bitOf v.toNat 0 = bitOf (s.rd (Pg.chaff 0) R.CH_CTRL.off).toNat 0) :
    (s.storeWrite (Pg.chaff 0) R.CH_CTRL.off v).on (Pg.chaff 0) R.CH_CTRL_RUN = s.on (Pg.chaff 0) R.CH_CTRL_RUN := by
  have hdesc : s.descOf (Pg.chaff 0) R.CH_CTRL.off = some { off := 0x040, wo := 0x2, rwk := 0xFFFF0005, factory := 0x3C0000 } := by
    rw [s.descOf_block _ _ (by decide) (by decide)]
    decide
  have hplace : s.locate (Pg.chaff 0) R.CH_CTRL.off = (Pg.chaff 0, R.CH_CTRL.off) := by
    simp (decide := true) only [locate, if_false]
  obtain ⟨new, hnew, hbits⟩ := s.storeWrite_inPlace v hdesc hplace rfl (by decide) (by decide)
  have hrun : bitOf new.toNat 0 = bitOf (s.rd (Pg.chaff 0) R.CH_CTRL.off).toNat 0 := by
    have hclear : bitOf 0 0 = false := by decide
    rw [hbits 0 (by decide), hv]
    dsimp only
    rw [hclear, Bool.false_and, if_neg Bool.false_ne_true, if_neg Bool.false_ne_true, ite_self]
  have hoff : R.CH_CTRL_RUN.off = R.CH_CTRL.off := rfl
  rw [on_eq_bitOf _ _ rfl, on_eq_bitOf _ _ rfl, hoff, hnew, rd_wrKept_same]
  exact hrun

/-- The word of STOP_ALL sets its own bit and no other. -/
theorem bitOf_stopAll (x : Word) :
    bitOf (BitVec.ofNat 32 (bitsPut x.toNat 1 1 1)).toNat 1 = true ∧
      bitOf (BitVec.ofNat 32 (bitsPut x.toNat 1 1 1)).toNat 0 = bitOf x.toNat 0 := by
  have hbit (i : Nat) (hi : i < 32) : bitOf (BitVec.ofNat 32 (bitsPut x.toNat 1 1 1)).toNat i = bitOf (bitsPut x.toNat 1 1 1) i := by
    rw [BitVec.toNat_ofNat, bitOf, Nat.testBit_mod_two_pow, decide_eq_true hi, Bool.true_and, bitOf]
  rw [hbit 1 (by decide), hbit 0 (by decide), bitOf, bitOf, testBit_bitsPut, testBit_bitsPut, if_pos (by decide),
    if_neg (by decide), bitOf]
  exact ⟨rfl, rfl⟩

theorem wrChaff_ctrl (v : Word) :
    wrChaff (Pg.chaff 0) s R.CH_CTRL.off v =
      let t := s.storeWrite (Pg.chaff 0) R.CH_CTRL.off v
      (if !s.on (Pg.chaff 0) R.CH_CTRL_RUN && t.on (Pg.chaff 0) R.CH_CTRL_RUN then t.chaffGo
        else if s.on (Pg.chaff 0) R.CH_CTRL_RUN && !t.on (Pg.chaff 0) R.CH_CTRL_RUN then t.chaffStop else t).when
          (bitOf v.toNat 1) chaffStop := by
  unfold wrChaff
  dsimp only
  rw [if_pos ⟨rfl, rfl⟩]

/-- A write that sets RUN starts the injectors, at once or at CH_START. -/
theorem wrChaff_runs {v : Word} (hwas : s.on (Pg.chaff 0) R.CH_CTRL_RUN = false)
    (hnow : (s.storeWrite (Pg.chaff 0) R.CH_CTRL.off v).on (Pg.chaff 0) R.CH_CTRL_RUN = true)
    (hstop : bitOf v.toNat 1 = false) :
    wrChaff (Pg.chaff 0) s R.CH_CTRL.off v = (s.storeWrite (Pg.chaff 0) R.CH_CTRL.off v).chaffGo := by
  rw [wrChaff_ctrl]
  dsimp only
  rw [hwas, hnow, hstop, when_false, if_pos (by decide)]

theorem chaffGo_atOnce (h : s.on (Pg.chaff 0) R.CH_CTRL_CH_START_EN = false) : s.chaffGo = s.chaffStart := by
  unfold chaffGo
  dsimp only
  rw [h, Bool.false_and, if_neg Bool.false_ne_true]

theorem chaffGo_waits (h : s.on (Pg.chaff 0) R.CH_CTRL_CH_START_EN = true) (htime : s.timeValid = false) :
    s.chaffGo = { s with chaff := { s.chaff with waiting := true } } := by
  unfold chaffGo
  dsimp only
  rw [h, htime, Bool.and_false, Bool.false_and, if_pos (by decide)]

theorem wrChaff_stopAll :
    wrChaff (Pg.chaff 0) s R.CH_CTRL.off (BitVec.ofNat 32 (bitsPut (s.rd (Pg.chaff 0) R.CH_CTRL.off).toNat 1 1 1)) =
      (s.storeWrite (Pg.chaff 0) R.CH_CTRL.off
        (BitVec.ofNat 32 (bitsPut (s.rd (Pg.chaff 0) R.CH_CTRL.off).toNat 1 1 1))).chaffStop := by
  obtain ⟨hstop, hrun⟩ := bitOf_stopAll (s.rd (Pg.chaff 0) R.CH_CTRL.off)
  rw [wrChaff_ctrl]
  dsimp only
  rw [storeWrite_chCtrl_run hrun, hstop, when_true, Bool.not_and_self, Bool.and_not_self, if_neg Bool.false_ne_true,
    if_neg Bool.false_ne_true]

theorem chaffStop_on (h : s.domainOn 0 = true) :
    s.chaffStop =
      (({ s with chaff := {} }.clrF (Pg.chaff 0) R.CH_CTRL_RUN).put (Pg.chaff 0) ⟨R.CH_STATUS.off, 0, 5⟩ 0).when s.chaffRuns
        fun t => t.event (Pg.chaff 0) E.P1C0_RUN_STOPPED := by
  unfold chaffStop
  dsimp only
  rw [h, if_neg (by decide), chaffShow, if_neg Bool.false_ne_true]

/-- A message of a kind that does not exist is not injected (R593). -/
theorem inject_refused (hruns : s.chaffRuns = true)
    (hkind : kindSeverity (bitsOf (s.rd (Pg.chaff 5) R.FI_MSG_LO.off).toNat 12 8) = none) :
    s.inject = s.event (Pg.chaff 5) E.P1C5_INJECT_REFUSED := by
  unfold inject
  dsimp only
  rw [hruns, if_neg (by decide), if_pos (.inl (by rw [hkind, Option.isNone_none]))]

theorem wrChaff_inject {v : Word} (hopen : s.unlocked = true) (hgo : bitOf v.toNat 5 = true) :
    wrChaff (Pg.chaff 5) s R.FI_CMD.off v =
      (s.storeWrite (Pg.chaff 5) R.FI_CMD.off (BitVec.ofNat 32 (bitsPut v.toNat 5 1 0))).inject := by
  unfold wrChaff
  dsimp only
  rw [if_neg (by decide), if_pos ⟨rfl, rfl⟩, hopen, hgo, Bool.and_self, when_true]

/-! ### JTAG (R594, R595) -/

theorem jtagLoad_takes {n : Nat} (h : n = 0 ∨ n = 4 ∨ n = 5) :
    s.jtagLoad n =
      (((s.modSec fun x => { x with jtag := some n }).emit (.level Pg.security (n + 1))).event Pg.security
        E.P007_JTAG_CONTROL).raise Pg.security K.JTAG_CONTROL n := by
  unfold jtagLoad
  rw [if_pos h, eventFault]

theorem jtagLoad_idle {n : Nat} (h : ¬(n = 0 ∨ n = 4 ∨ n = 5)) (hnone : s.sec.jtag = none) : s.jtagLoad n = s := by
  have hsec : { s.sec with jtag := none } = s.sec := by rw [← hnone]
  unfold jtagLoad
  rw [if_neg h, hnone, Option.isSome_none, when_false, modSec, hsec]

end Sys2Proof.Machine.State
end

section
/-! The settling of the statement on the security rows. -/

namespace Sys2Proof.Machine

open Sys2Proof (Word Byte Agent)
open State

/-- Settles O56, a command at a time: each command register's word picks one command, and the hypotheses of its clause
pick one branch of it. That an opening ends within its command, and the order in which the reasons of a refusal are
tried, are the model's log entry 73. -/
theorem securityRows : Obligations.SecurityRows := by
  unfold Obligations.SecurityRows
  intro s a sel code v
  dsimp only
  refine ⟨fun hok hbusy => ⟨fun h => ?_, fun h => ?_, fun h => ?_, fun h => ?_⟩, fun n d hjob => ?_,
    fun hok hrandom hbusy => ?_, fun hattest => ?_,
    fun hok => ⟨fun h => ?_, fun h => ?_, ⟨fun h => ?_, fun hkey h => ?_, fun hkey hvalid hby h => ?_⟩,
      ⟨fun h => ?_, fun n hslot hstrap hfails hwait hmin hmax hpass => ?_⟩, fun hopen hoff => ?_⟩,
    fun hopen hoff => ?_, fun hok => ⟨?_, fun h => ?_⟩, ?_,
    fun hok => ⟨fun hwas hnow hstop => ⟨fun h => ?_, fun h htime => ?_⟩, ?_⟩, fun hon hrun => ⟨?_, fun hwait => ?_⟩,
    fun hok hopen hgo hruns hkind => ?_, fun hcode => ?_, fun hlow hhigh hnone => ?_⟩
  · exact finishAll_of_eq ((poke_security _ hok).trans ((wrSecurity_otp _).trans
      (by rw [otpWord_toNat sel (by decide)]; exact (otpCmd_program sel hbusy).1 h)))
  · exact finishAll_of_eq ((poke_security _ hok).trans ((wrSecurity_otp _).trans
      (by rw [otpWord_toNat sel (by decide)]; exact (otpCmd_program sel hbusy).2 h)))
  · exact finishAll_of_eq ((poke_security _ hok).trans ((wrSecurity_otp _).trans
      (by rw [otpWord_toNat sel (by decide)]; exact (otpCmd_revoke sel hbusy).1 h)))
  · exact finishAll_of_eq ((poke_security _ hok).trans ((wrSecurity_otp _).trans
      (by rw [otpWord_toNat sel (by decide)]; exact (otpCmd_revoke sel hbusy).2 h)))
  · exact finishAll_of_eq (otpDone_programmed hjob)
  · exact finishAll_of_eq ((poke_security 1 hok).trans (wrSecurity_attest.trans (attestGo_started hrandom hbusy)))
  · exact finishAll_of_eq (attestDone_signed hattest)
  · exact finishAll_of_eq ((poke_security 1 hok).trans (wrSecurity_nonceNew.trans (openNonce_failing h)))
  · exact finishAll_of_eq ((poke_security 1 hok).trans (wrSecurity_nonceNew.trans (openNonce_drawn h)))
  · exact finishAll_of_eq ((poke_security 2 hok).trans (wrSecurity_goKey.trans (goKey_noKey h)))
  · exact finishAll_of_eq ((poke_security 2 hok).trans (wrSecurity_goKey.trans (goKey_noNonce hkey h)))
  · exact finishAll_of_eq ((poke_security 2 hok).trans (wrSecurity_goKey.trans (goKey_opens hkey hvalid hby h)))
  · exact finishAll_of_eq ((poke_security 4 hok).trans (wrSecurity_goPass.trans (goPass_unset h)))
  · exact finishAll_of_eq ((poke_security 4 hok).trans (wrSecurity_goPass.trans
      (goPass_opens hslot hstrap hfails hwait hmin hmax hpass)))
  · exact finishAll_of_eq ((poke_security 8 hok).trans (wrSecurity_close.trans (closeAccess_closes hopen hoff)))
  · exact finishAll_of_eq (closeAccess_closes hopen hoff)
  · exact finishAll_of_eq ((poke_security 2 hok).trans wrSecurity_lock)
  · exact finishAll_of_eq ((poke_security 4 hok).trans (wrSecurity_unlock h))
  · exact finishAll_of_eq (when_true _ _)
  · exact finishAll_of_eq ((poke_chaff v hok).trans ((wrChaff_runs hwas hnow hstop).trans (chaffGo_atOnce h)))
  · exact finishAll_of_eq ((poke_chaff v hok).trans ((wrChaff_runs hwas hnow hstop).trans (chaffGo_waits h htime)))
  · exact finishAll_of_eq ((poke_chaff _ hok).trans wrChaff_stopAll)
  · exact finishAll_of_eq ((s.when_of_true _ (by rw [hon, hrun, Bool.and_self])).trans (chaffStop_on hon))
  · exact finishAll_of_eq (s.when_of_true _ (by rw [hon, hwait, hrun, Bool.and_self, Bool.and_self]))
  · exact finishAll_of_eq ((poke_chaff v hok).trans ((wrChaff_inject hopen hgo).trans (inject_refused hruns hkind)))
  · have hn : code.toNat = 0 ∨ code.toNat = 4 ∨ code.toNat = 5 := by
      rcases hcode with rfl | rfl | rfl <;> decide
    exact finishAll_of_eq (jtagLoad_takes hn)
  · exact finishAll_of_eq (jtagLoad_idle (by omega) hnone)

end Sys2Proof.Machine
end

section
/-! SUPPORT. The commit of an update, its trial and the restart of Ralusk (R534, R568 to R576): what leaves the update's own
data alone, and the branches of each command and message. -/

namespace Sys2Proof.Machine.State

open Sys2Proof (Word Byte Agent)

variable {s : State}

/-! ### What leaves the update's own data alone -/

theorem upd_when {b : Bool} {f : State → State} (h : (f s).upd = s.upd) : (s.when b f).upd = s.upd := by
  rcases s.when_cases b f with hw | hw <;> rw [hw]
  exact h

theorem upd_foldl {α : Type} {f : State → α → State} (h : ∀ t x, (f t x).upd = t.upd) (l : List α) (s : State) :
    (l.foldl f s).upd = s.upd := by
  induction l generalizing s with
  | nil => rfl
  | cons x l ih => rw [List.foldl_cons, ih, h]

theorem upd_raise (s : State) (p kind addr : Nat) : (s.raise p kind addr).upd = s.upd := by
  obtain ⟨r, x, h⟩ := s.raise_eq p kind addr
  rw [h]

theorem upd_count (s : State) (p : Nat) (f : Fld) : (s.count p f).upd = s.upd := by
  obtain ⟨r, h⟩ := s.count_eq p f
  rw [h]

theorem upd_wrAdapt (s : State) (p off : Nat) (v : Word) : (s.wrAdapt p off v).upd = s.upd := by
  obtain ⟨r, hstale⟩ := (s.wr p off v).digestStale_eq p off (s.rd p off) v true
  have hwr : ((s.wr p off v).digestStale p off (s.rd p off) v true).upd = s.upd := by rw [hstale]; rfl
  unfold wrAdapt
  dsimp only
  split_ifs
  · rfl
  · obtain ⟨r', x, y, hjournal⟩ := ((s.wr p off v).digestStale p off (s.rd p off) v true).journal_eq (regKey p off) v
    rw [hjournal]
    exact hwr
  · exact hwr
  · exact hwr

theorem upd_putAdapt (s : State) (p : Nat) (f : Fld) (v : Nat) : (s.putAdapt p f v).upd = s.upd := s.upd_wrAdapt _ _ _

theorem upd_laneToBounds (s : State) (l : Nat) : (s.laneToBounds l).upd = s.upd := by
  unfold laneToBounds
  dsimp only
  split_ifs
  · rw [upd_putAdapt, upd_putAdapt, upd_wrAdapt, upd_wrAdapt, upd_wrAdapt]
  · rw [upd_wrAdapt, upd_wrAdapt, upd_wrAdapt]
  · rfl

theorem upd_threshToBounds (s : State) (p : Nat) : (s.threshToBounds p).upd = s.upd := by
  unfold threshToBounds
  dsimp only
  split_ifs
  · exact s.upd_putAdapt _ _ _
  · rfl

theorem upd_policyEnters (s : State) (p : Nat) : (s.policyEnters p).upd = s.upd := by
  unfold policyEnters
  split_ifs
  · exact upd_foldl (fun t l => upd_when (t.upd_laneToBounds l)) _ s
  · rfl
  · exact upd_foldl upd_threshToBounds _ s
  · exact s.upd_putAdapt _ _ _
  · rfl

theorem upd_raluskTo (s : State) (n : Nat) : (s.raluskTo n).upd = s.upd := by
  unfold raluskTo
  dsimp only
  rw [upd_foldl fun t i => upd_when (t.upd_policyEnters i), put_upd, upd_when (event_upd _ _ _), put_upd]

theorem upd_ralSync (s : State) : s.ralSync.upd = s.upd := by
  unfold ralSync
  split_ifs
  · rfl
  · exact s.upd_raluskTo _
  · exact s.upd_raluskTo _

theorem upd_updTo (s : State) (n : Nat) : (s.updTo n).upd = s.upd := by
  unfold updTo
  dsimp only
  rw [upd_ralSync, upd_when (event_upd _ _ _), upd_when (event_upd _ _ _), put_upd]

theorem upd_commitAll (s : State) : s.commitAll.upd = s.upd := by
  unfold commitAll
  split_ifs <;> rfl

/-- A commit marks the slot and the store, and leaves the update's own data. -/
theorem upd_updCommit (s : State) : s.updCommit.upd = s.upd := by
  unfold updCommit
  dsimp only
  rw [upd_updTo, upd_count, put_upd, modSeed_upd, modSlot, modSeed_upd]
  split
  · rw [setImage, modSeed_upd, upd_commitAll]
  · exact s.upd_commitAll

/-! ### UPD_CMD -/

theorem when_of_false {b : Bool} (f : State → State) (h : b = false) : s.when b f = s := by rw [h, when_false]

theorem poke_updCmd {a : Agent} (v : Word) (hok : s.writeCode a Pg.update R.UPD_CMD.off = .ok) :
    s.poke a Pg.update R.UPD_CMD.off v (wrUpdate Pg.update) = wrUpdate Pg.update s R.UPD_CMD.off v :=
  s.poke_ok' a _ _ v _ (by decide) (by decide) hok

/-- The chain of commands in a write of UPD_CMD, by the bits set. -/
def updCommands (s : State) (bit : Nat → Bool) : State :=
  ((((((s.when (bit 6) fun t => (t.cntClear Pg.update).cntClear Pg.updateData).when (bit 0) updStart).when (bit 1)
    updAbort).when (bit 2) fun t => t.updActivate false).when (bit 3) fun t => t.updActivate true).when (bit 4)
      trialConfirm).when (bit 5) groupBack

theorem updCommand_ok {a : Agent} {n : Nat} (hn : n < 7) (hok : s.writeCode a Pg.update R.UPD_CMD.off = .ok) :
    s.updCommand a n = s.updCommands fun j => j == n := by
  have hbit (j : Nat) : bitOf (BitVec.ofNat 32 (2 ^ n)).toNat j = (j == n) := by
    have hword : (BitVec.ofNat 32 (2 ^ n)).toNat = 2 ^ n := by
      rw [BitVec.toNat_ofNat, Nat.mod_eq_of_lt (Nat.pow_lt_pow_right (by decide) (by omega))]
    rw [hword, bitOf, Nat.testBit_two_pow, beq_eq_decide, decide_eq_decide]
    exact eq_comm
  rw [updCommand, poke_updCmd _ hok]
  unfold wrUpdate
  dsimp only
  rw [if_pos ⟨rfl, rfl⟩]
  simp only [hbit, updCommands]

section
variable {a : Agent} (hok : s.writeCode a Pg.update R.UPD_CMD.off = .ok)
include hok

theorem updCommand_activate : s.updCommand a 2 = s.updActivate false := by
  simp (disch := decide) only [updCommand_ok _ hok, updCommands, when_of_false, when_of_true]

theorem updCommand_arm : s.updCommand a 3 = s.updActivate true := by
  simp (disch := decide) only [updCommand_ok _ hok, updCommands, when_of_false, when_of_true]

theorem updCommand_confirm : s.updCommand a 4 = s.trialConfirm := by
  simp (disch := decide) only [updCommand_ok _ hok, updCommands, when_of_false, when_of_true]

theorem updCommand_reject : s.updCommand a 5 = s.groupBack := by
  simp (disch := decide) only [updCommand_ok _ hok, updCommands, when_of_false, when_of_true]

end

/-! ### Committing (R569, R572) -/

theorem updSendAll_none {aux : Nat} {rest : List Byte} (h : s.upd.peers = []) : s.updSendAll aux rest = s := by
  rw [updSendAll, h, List.foldl_nil]

/-- A commit phase begins: its votes are cleared. -/
def updPhase (s : State) (arm : Bool) : State := s.modUpd fun u => { u with votes := [], arm := arm }

section
variable {arm : Bool} (hstaged : s.updState = 4) (hunarmed : s.upd.arm = false)
include hstaged hunarmed

theorem updActivate_refused (h : s.updCode false ≠ 0) : s.updActivate arm = s.updOutcome (s.updCode false) 0 := by
  unfold updActivate
  dsimp only
  rw [hunarmed, if_neg (by rw [hstaged]; decide), if_pos h]

variable (hcode : s.updCode false = 0) (hpeers : s.upd.peers = [])
include hcode hpeers

/-- Without peers nothing is sent, and the hub decides at once. -/
theorem updActivate_alone :
    s.updActivate arm = ((s.updPhase arm).when (!arm) fun t => t.updTo 5).updDecide.updShow := by
  have hupd : ((s.updPhase arm).when (!arm) fun t => t.updTo 5).upd.peers = [] :=
    (congrArg Update.peers (upd_when (upd_updTo _ 5))).trans hpeers
  unfold updActivate
  dsimp only
  rw [hunarmed, if_neg (by rw [hstaged]; decide), hcode, if_neg fun h => h rfl, hpeers, List.find?_nil]
  dsimp only
  exact congrArg (fun t => updShow (updDecide t)) (updSendAll_none hupd)

theorem updActivate_commits (harm : arm = false) (hfree : ((s.updPhase false).updTo 5).interlockActive = false) :
    s.updActivate arm = ((s.updPhase false).updTo 5).updCommit.updShow := by
  have hupd : ((s.updPhase false).updTo 5).upd = (s.updPhase false).upd := upd_updTo _ 5
  have hpeers' : ((s.updPhase false).updTo 5).upd.peers = [] := (congrArg Update.peers hupd).trans hpeers
  have harm' : ((s.updPhase false).updTo 5).upd.arm = false := congrArg Update.arm hupd
  have hsent := updSendAll_none (aux := 0x05) (rest := leBytes 4 (1000 * Nat.max 1
    (((s.updPhase false).updTo 5).get Pg.update R.UPD_CFG_ACT_DELAY_MS)))
    ((congrArg Update.peers (upd_updCommit ((s.updPhase false).updTo 5))).trans hpeers')
  rw [updActivate_alone hstaged hunarmed hcode hpeers, harm, Bool.not_false, when_true]
  unfold updDecide
  dsimp only
  rw [hpeers', List.all_nil, if_neg (by decide), harm', if_neg (by decide), hfree, if_neg (by decide), hsent]

theorem updActivate_arms (harm : arm = true) : s.updActivate arm = ((s.updPhase true).updTo 6).updShow := by
  have hpeers' : (s.updPhase true).upd.peers = [] := hpeers
  have harm' : (s.updPhase true).upd.arm = true := rfl
  rw [updActivate_alone hstaged hunarmed hcode hpeers, harm, Bool.not_true, when_false]
  unfold updDecide
  rw [hpeers', List.all_nil, if_neg (by decide), harm', if_pos rfl]

end

theorem updPrepare_ready {arm : Bool} (hstaged : s.updState = 4) (hcode : s.updCode false = 0) :
    s.updPrepare arm = (s.updTo (if arm then 6 else 5)).updVote 0 := by
  unfold updPrepare
  dsimp only
  rw [if_pos hstaged, hcode, if_neg fun h => h rfl]

theorem updPrepare_refused {arm : Bool} (hstaged : s.updState = 4) (hcode : s.updCode false ≠ 0) :
    s.updPrepare arm = (s.updOutcome (s.updCode false) 0).updVote (s.updCode false) := by
  have hbeq : (s.updState == 4) = true := beq_iff_eq.mpr hstaged
  unfold updPrepare
  dsimp only
  rw [if_pos hstaged, if_pos hcode, hbeq, when_true]

/-- A lead in its commit phase that lacks the vote of its one peer. -/
theorem updAwaits_one {h : Nat} (hst : s.updState = 5) (hpeers : s.upd.peers = [h]) (hvotes : s.upd.votes = []) :
    s.updAwaits = true := by
  rw [updAwaits, hst, hpeers, hvotes]
  rfl

/-- A commit phase with one peer ends: it hears of it. -/
theorem updBack_one {h : Nat} (hpeers : s.upd.peers = [h]) :
    s.updBack 12 = ((((s.updSend h 0x06 [12]).updPhase false).updTo 4).updOutcome 12 0).updShow := by
  unfold updBack
  rw [updSendAll, hpeers]
  rfl

theorem updVoted_against {h code : Nat} (hst : s.updState = 5) (hpeers : s.upd.peers = [h]) (hvotes : s.upd.votes = [])
    (hcode : code ≠ 0) : s.updVoted h code = s.updBack 12 := by
  have hpeer : s.upd.peers.contains h = true := by rw [hpeers, List.contains_iff_mem]; exact List.mem_singleton_self h
  unfold updVoted
  rw [hpeer, if_neg (by decide), if_neg (by rw [hst]; decide), updAwaits_one hst hpeers hvotes, if_pos rfl, if_pos hcode]

theorem updVotesMissing_one {h : Nat} (hst : s.updState = 5) (hpeers : s.upd.peers = [h]) (hvotes : s.upd.votes = []) :
    s.updVotesMissing = (s.raise Pg.update K.UPDATE_PEER_LOST h).updBack 12 := by
  have hmissing : (s.upd.peers.filter fun h => !s.upd.votes.contains h) = [h] := by rw [hpeers, hvotes]; rfl
  unfold updVotesMissing
  rw [updAwaits_one hst hpeers hvotes, if_pos rfl, hmissing, List.foldl_cons, List.foldl_nil, peerLost]

/-! ### The trial (R574 to R576) -/

section
variable (htrial : s.updState = 8)
include htrial

theorem trialConfirm_early (h : s.groupReady = false) : s.trialConfirm = s.updOutcome 12 0 := by
  rw [trialConfirm, if_neg fun hne => hne htrial, h, if_neg Bool.false_ne_true]

theorem trialConfirm_alone (h : s.groupReady = true) (hpeers : s.trialPeers = []) : s.trialConfirm = s.trialConfirmed := by
  rw [trialConfirm, if_neg fun hne => hne htrial, h, if_pos rfl, hpeers, List.foldl_nil]

theorem groupBack_alone (h : s.trialLead = true) (hpeers : s.trialPeers = []) : s.groupBack = s.rollBack := by
  unfold groupBack
  dsimp only
  rw [if_neg fun hne => hne htrial, h, if_pos rfl, hpeers, List.foldl_nil]

/-- The lead takes the readiness of a peer that runs the slot it runs itself. -/
theorem trialTold_taken {h : Nat} {b : List Byte} (hpeer : s.trialPeers.contains h = true)
    (hslot : leNat (bytesAt b 8 4) = s.bootedId) :
    s.trialTold h b =
      (s.modUpd fun u =>
        { u with ready := if bitOf (b.getD 4 0).toNat 0 then addNew h u.ready else u.ready.filter (· != h) }).updShow := by
  unfold trialTold
  dsimp only
  rw [if_pos ⟨htrial, hpeer⟩, if_neg fun hne => hne hslot]

end

/-! ### Messages by their code (R570) -/

section
variable {k : Nat} {b : List Byte} (hlead : s.updFromLead k b = true)

theorem updMessage_trialReady (hk : 4 ≤ k) (hon : s.domainOn 0 = true) (hpos : s.hubPos = 0) :
    s.updMessage k 7 b = s.trialTold (s.posAt k) b :=
  if_pos ⟨hk, hon, hpos⟩

theorem updMessage_vote (hpeer : s.updFromPeer k b = true) :
    s.updMessage k 4 b = s.updVoted (s.posAt k) (b.getD 4 0).toNat :=
  if_pos hpeer

include hlead

theorem updMessage_prepare : s.updMessage k 3 b = s.updPrepare (bitOf (b.getD 4 0).toNat 0) := if_pos hlead

theorem updMessage_commit (hst : s.updState = 5) :
    s.updMessage k 5 b = if s.interlockActive then s.updHeld else s.updCommit :=
  if_pos (by rw [hlead, hst]; rfl)

theorem updMessage_confirm (hst : s.updState = 8) : s.updMessage k 8 b = s.trialConfirmed :=
  if_pos (by rw [hlead, hst]; rfl)

theorem updMessage_reject (hst : s.updState = 8) : s.updMessage k 9 b = s.rollBack := by
  show s.updRejectIn k b = s.rollBack
  rw [updRejectIn, if_neg fun hne => hne hst, if_pos hlead]

end

/-! ### The epoch switch and the watchdog (R534, R540, R572) -/

theorem epochSwitch_alone (h : s.switchTime.2 = false) : s.epochSwitch = s.switchTime.1.thermalGoesOn := by
  unfold epochSwitch
  dsimp only
  rw [h, Bool.false_and, when_false]

/-- A hub that is not armed before the switch only switches. -/
theorem epochSwitch_unarmed (h : s.updState ≠ 6) : s.epochSwitch = s.switchTime.1.thermalGoesOn := by
  unfold epochSwitch
  dsimp only
  rw [beq_false_of_ne h, Bool.and_false, when_false]

/-- A hub that is armed before the switch, and switches, commits or is held back. -/
theorem epochSwitch_armed (h : s.switchTime.2 = true) (hst : s.updState = 6) :
    s.epochSwitch =
      (if s.switchTime.1.interlockActive then s.switchTime.1.updHeld else s.switchTime.1.updCommit).thermalGoesOn := by
  have hbeq : (s.updState == 6) = true := beq_iff_eq.mpr hst
  unfold epochSwitch
  dsimp only
  rw [h, hbeq, Bool.and_self, when_true]

theorem thermalGoesOn_idle (h : s.ral.rateJobs = []) : s.thermalGoesOn = s := by
  rw [thermalGoesOn, h, List.isEmpty_nil, if_pos rfl]

theorem updState_settle (s : State) : s.settle.updState = s.updState := s.get_settle _ _ (by decide)

section
variable (hon : s.domainOn 0 = true) (hst : s.raluskState ≠ 0) (hlimit : s.ral.limit = false)
include hon hst hlimit

theorem watchdog_seen : ¬((!s.domainOn 0) = true ∨ s.raluskState = 0 ∨ s.ral.limit = true) := by
  rw [hon, hlimit]
  rintro (h | h | h)
  · exact absurd h (by decide)
  · exact hst h
  · exact absurd h (by decide)

theorem watchdogMissed_restarts (h : s.recentRestarts.length < 2) :
    s.watchdogMissed =
      ((s.modRal fun r => { r with restarts := s.recentRestarts ++ [s.ns] }).count Pg.ralusk
        R.CNT_RALUSK_RESTARTS).raluskLoads.raise Pg.ralusk K.RALUSK_RESTART (s.recentRestarts.length + 1) := by
  unfold watchdogMissed
  dsimp only
  rw [if_neg (watchdog_seen hon hst hlimit), if_pos h]

theorem watchdogMissed_halts (h : 2 ≤ s.recentRestarts.length) :
    s.watchdogMissed =
      ((s.modRal fun r => { r with restarts := s.recentRestarts ++ [s.ns], limit := true, haltSeen := false }).raluskTo 3).raise
        Pg.ralusk K.RALUSK_HALTED 0 := by
  unfold watchdogMissed
  dsimp only
  rw [if_neg (watchdog_seen hon hst hlimit), if_neg (Nat.not_lt.mpr h)]

end

end Sys2Proof.Machine.State
end

section
/-! SUPPORT. A hub whose STATE of the update the epoch switch itself overwrites (R540, R572). -/

namespace Sys2Proof.Machine.State

/-- A hub in scope of a committed epoch, IDLE of updates, with a staged word for UPD_STATUS that says ARMED. UPD_STATUS has
no staging copy in the hub: a statement for every state covers this one, though the hub is not meant to be in it. -/
def statusStaged : State :=
  { (State.reset.wr Pg.power R.PD_ON.off 1).put Pg.epoch R.EP_STATE_STATE 2 with
    staged := [(regKey Pg.update R.UPD_STATUS_STATE.off, 6)] }

/-- It is IDLE before the switch, and ARMED after it. -/
theorem switchTime_statusStaged :
    statusStaged.switchTime.2 = true ∧ statusStaged.updState = 0 ∧ statusStaged.switchTime.1.updState = 6 ∧
      statusStaged.switchTime.1.interlockActive = false := by
  decide +kernel

theorem updState_updCommit_statusStaged : statusStaged.switchTime.1.updCommit.updState = 7 := by decide +kernel

/-- Neither the state after the switch nor a commit of it has a rate change to go on with, or a sink that waits. -/
theorem quiet_statusStaged :
    (statusStaged.switchTime.1.ral.rateJobs = [] ∧ statusStaged.switchTime.1.Quiet) ∧
      statusStaged.switchTime.1.updCommit.ral.rateJobs = [] ∧ statusStaged.switchTime.1.updCommit.Quiet := by
  have hengs : statusStaged.switchTime.1.engs = [] := by decide +kernel
  have hengs' : statusStaged.switchTime.1.updCommit.engs = [] := by decide +kernel
  refine ⟨⟨by decide +kernel, by decide +kernel, fun x hx => ?_⟩, by decide +kernel, by decide +kernel, fun x hx => ?_⟩
  · rw [hengs] at hx
    exact absurd hx List.not_mem_nil
  · rw [hengs'] at hx
    exact absurd hx List.not_mem_nil

/-- The end of a step leaves STATE of the update where no sink waits and no rate change goes on. -/
theorem updState_stepEnd {s : State} (h : s.ral.rateJobs = [] ∧ s.Quiet) :
    s.thermalGoesOn.flushSinks.settle.updState = s.updState := by
  obtain ⟨hjobs, hquiet⟩ := h
  rw [thermalGoesOn_idle hjobs, end_quiet _ hquiet, updState_settle]

end Sys2Proof.Machine.State
end

section
/-! The settling of the statement on the commit of an update, its trial and the switch of an epoch, and what stands of it. -/

namespace Sys2Proof.Machine

open Sys2Proof (Word Byte Agent LinkId)
open State

/-- The statement takes STATE of the update from the state after the switch, the model from the one before: a hub that is
not armed before the switch, and reads as armed after it, would commit by the statement. -/
theorem switched_eq_committed (h : Obligations.UpdateCommitAndTrial) {s : State} (hswitch : s.switchTime.2 = true)
    (hbefore : s.updState ≠ 6) (hafter : s.switchTime.1.updState = 6) (hfree : s.switchTime.1.interlockActive = false) :
    s.switchTime.1.thermalGoesOn.flushSinks.settle = s.switchTime.1.updCommit.thermalGoesOn.flushSinks.settle := by
  obtain ⟨-, -, -, -, -, -, ⟨-, harmed⟩, -⟩ := h s 0 0 [] 0 false
  obtain ⟨hcommits, -⟩ := harmed hswitch hafter
  have hexec : exec .epochSwitch s = .next s.switchTime.1.thermalGoesOn.flushSinks.settle :=
    finishAll_of_eq (epochSwitch_unarmed hbefore)
  exact Host.Outcome.next.inj (hexec.symm.trans (hcommits hfree))

/-- Refutes O60 by its clause of R572: in `State.statusStaged` the switch itself writes ARMED into UPD_STATUS of a hub that
was IDLE; the model, which asks for ARMED before the switch, ends in ARMED, and the statement, which asks after it, in
COMMITTED. Where the question is put before the switch the clause holds (`exec_epochSwitch_armed`), and so does every other
clause of O60, in every state (the theorems after this one). -/
theorem not_updateCommitAndTrial : ¬ Obligations.UpdateCommitAndTrial := by
  intro h
  obtain ⟨hswitch, hidle, harmed, hfree⟩ := switchTime_statusStaged
  obtain ⟨hquiet, hquiet'⟩ := quiet_statusStaged
  have heq := congrArg updState (switched_eq_committed h hswitch (by rw [hidle]; decide) harmed hfree)
  rw [updState_stepEnd hquiet, updState_stepEnd hquiet', harmed, updState_updCommit_statusStaged] at heq
  exact absurd heq (by decide)

variable {s : State} {a : Agent} {k : LinkId} {b : List Byte}

/-! ### What stands: ACTIVATE and ARM (R569, R572) -/

section
variable (hok : s.writeCode a Pg.update R.UPD_CMD.off = .ok) (hstaged : s.updState = 4) (hunarmed : s.upd.arm = false)
include hok hstaged hunarmed

theorem exec_activate_refused (h : s.updCode false ≠ 0) :
    exec (.activate a) s = .next (s.updOutcome (s.updCode false) 0).flushSinks.settle :=
  finishAll_of_eq ((updCommand_activate hok).trans (updActivate_refused hstaged hunarmed h))

theorem exec_armUpdate_refused (h : s.updCode false ≠ 0) :
    exec (.armUpdate a) s = .next (s.updOutcome (s.updCode false) 0).flushSinks.settle :=
  finishAll_of_eq ((updCommand_arm hok).trans (updActivate_refused hstaged hunarmed h))

variable (hcode : s.updCode false = 0) (hpeers : s.upd.peers = [])
include hcode hpeers

theorem exec_activate_alone (hfree : ((s.updPhase false).updTo 5).interlockActive = false) :
    exec (.activate a) s = .next ((s.updPhase false).updTo 5).updCommit.updShow.flushSinks.settle :=
  finishAll_of_eq ((updCommand_activate hok).trans (updActivate_commits hstaged hunarmed hcode hpeers rfl hfree))

theorem exec_armUpdate_alone : exec (.armUpdate a) s = .next ((s.updPhase true).updTo 6).updShow.flushSinks.settle :=
  finishAll_of_eq ((updCommand_arm hok).trans (updActivate_arms hstaged hunarmed hcode hpeers rfl))

end

/-! ### What stands: the two phases at a peer and at the lead (R569, R571, R573) -/

section
variable (hlead : s.updFromLead k b = true)
include hlead

theorem exec_updatePrepare_ready (hstaged : s.updState = 4) (hcode : s.updCode false = 0) :
    exec (.updatePrepare k b) s =
      .next ((s.updTo (if bitOf (b.getD 4 0).toNat 0 then 6 else 5)).updVote 0).flushSinks.settle :=
  finishAll_of_eq ((updMessage_prepare hlead).trans (updPrepare_ready hstaged hcode))

theorem exec_updatePrepare_refused (hstaged : s.updState = 4) (hcode : s.updCode false ≠ 0) :
    exec (.updatePrepare k b) s =
      .next ((s.updOutcome (s.updCode false) 0).updVote (s.updCode false)).flushSinks.settle :=
  finishAll_of_eq ((updMessage_prepare hlead).trans (updPrepare_refused hstaged hcode))

/-- An interlock that holds at COMMIT holds the update back: the model's log entry 80. -/
theorem exec_updateCommitReceived (hst : s.updState = 5) :
    exec (.updateCommitReceived k b) s =
      .next (if s.interlockActive then s.updHeld else s.updCommit).flushSinks.settle :=
  finishAll_of_eq (updMessage_commit hlead hst)

theorem exec_updateConfirmReceived (htrial : s.updState = 8) :
    exec (.updateConfirmReceived k b) s = .next s.trialConfirmed.flushSinks.settle :=
  finishAll_of_eq (updMessage_confirm hlead htrial)

theorem exec_updateRejectReceived (htrial : s.updState = 8) :
    exec (.updateRejectReceived k b) s = .next s.rollBack.flushSinks.settle :=
  finishAll_of_eq (updMessage_reject hlead htrial)

end

/-- A commit phase ends without a commit, with an outcome. -/
theorem exec_updateVote_against (hpeer : s.updFromPeer k b = true) (hst : s.updState = 5)
    (hpeers : s.upd.peers = [s.posAt k]) (hvotes : s.upd.votes = []) (hcode : (b.getD 4 0).toNat ≠ 0) :
    exec (.updateVote k b) s =
      .next ((((s.updSend (s.posAt k) 0x06 [12]).updPhase false).updTo 4).updOutcome 12 0).updShow.flushSinks.settle :=
  finishAll_of_eq ((updMessage_vote hpeer).trans ((updVoted_against hst hpeers hvotes hcode).trans (updBack_one hpeers)))

theorem exec_updateVoteTimeout_one {h : Nat} (hst : s.updState = 5) (hpeers : s.upd.peers = [h]) (hvotes : s.upd.votes = []) :
    exec .updateVoteTimeout s =
      .next ((((((s.raise Pg.update K.UPDATE_PEER_LOST h).updSend h 0x06 [12]).updPhase false).updTo 4).updOutcome 12
        0).updShow).flushSinks.settle :=
  finishAll_of_eq ((updVotesMissing_one hst hpeers hvotes).trans
    (updBack_one ((congrArg Update.peers (s.upd_raise _ _ _)).trans hpeers)))

theorem exec_peerPreparedTimeout (hst : s.updState = 5) :
    exec .peerPreparedTimeout s = .next (if s.upd.lead.isSome then s.updTo 4 else s).flushSinks.settle := by
  refine finishAll_of_eq ?_
  by_cases hlead : s.upd.lead.isSome = true
  · rw [if_pos ⟨hst, hlead⟩, if_pos hlead]
  · rw [if_neg fun h => hlead h.2, if_neg hlead]

theorem exec_actDelayExpiry (pos : Fin 4) (norestore : Bool) (hst : s.updState = 7) :
    exec (.actDelayExpiry pos norestore) s = .next (s.aonReset 6 pos norestore).flushSinks.settle :=
  finishAll_of_eq (if_pos hst)

/-! ### What stands: the trial (R575, R576), as the model's log entry 81 has it -/

section
variable (htrial : s.updState = 8)
include htrial

theorem exec_confirm_early (hok : s.writeCode a Pg.update R.UPD_CMD.off = .ok) (h : s.groupReady = false) :
    exec (.confirm a) s = .next (s.updOutcome 12 0).flushSinks.settle :=
  finishAll_of_eq ((updCommand_confirm hok).trans (trialConfirm_early htrial h))

theorem exec_trialReady (hk : 4 ≤ k.val) (hon : s.domainOn 0 = true) (hpos : s.hubPos = 0)
    (hpeer : s.trialPeers.contains (s.posAt k) = true) (hslot : leNat (bytesAt b 8 4) = s.bootedId) :
    exec (.trialReady k b) s =
      .next ((s.modUpd fun u =>
        { u with ready := if bitOf (b.getD 4 0).toNat 0 then addNew (s.posAt k) u.ready
                          else u.ready.filter (· != s.posAt k) }).updShow).flushSinks.settle :=
  finishAll_of_eq ((updMessage_trialReady hk hon hpos).trans (trialTold_taken htrial hpeer hslot))

variable (hpeers : s.trialPeers = [])
include hpeers

theorem exec_confirm_alone (hok : s.writeCode a Pg.update R.UPD_CMD.off = .ok) (h : s.groupReady = true) :
    exec (.confirm a) s = .next s.trialConfirmed.flushSinks.settle :=
  finishAll_of_eq ((updCommand_confirm hok).trans (trialConfirm_alone htrial h hpeers))

theorem exec_autoConfirmExpiry_alone (h : s.groupReady = true) (hauto : s.on Pg.update R.UPD_CFG_AUTO_CONFIRM = true) :
    exec .autoConfirmExpiry s = .next s.trialConfirmed.flushSinks.settle := by
  have hbeq : (s.updState == 8) = true := beq_iff_eq.mpr htrial
  refine finishAll_of_eq ?_
  rw [hauto, hbeq, h, if_pos (by decide)]
  exact trialConfirm_alone htrial h hpeers

theorem exec_reject_alone (hok : s.writeCode a Pg.update R.UPD_CMD.off = .ok) (h : s.trialLead = true) :
    exec (.reject a) s = .next s.rollBack.flushSinks.settle :=
  finishAll_of_eq ((updCommand_reject hok).trans (groupBack_alone htrial h hpeers))

theorem exec_confirmSExpiry_alone (h : s.trialLead = true) : exec .confirmSExpiry s = .next s.rollBack.flushSinks.settle :=
  finishAll_of_eq (groupBack_alone htrial h hpeers)

end

/-! ### What stands: the epoch switch and the watchdog (R534, R540, R572) -/

theorem exec_epochSwitch_alone (h : s.switchTime.2 = false) :
    exec .epochSwitch s = .next s.switchTime.1.thermalGoesOn.flushSinks.settle :=
  finishAll_of_eq (epochSwitch_alone h)

/-- The clause that O60 has for EPOCH_SWITCH, with STATE asked before the switch. -/
theorem exec_epochSwitch_armed (h : s.switchTime.2 = true) (hst : s.updState = 6) :
    exec .epochSwitch s =
      .next (if s.switchTime.1.interlockActive then s.switchTime.1.updHeld
             else s.switchTime.1.updCommit).thermalGoesOn.flushSinks.settle :=
  finishAll_of_eq (epochSwitch_armed h hst)

section
variable (hon : s.domainOn 0 = true) (hst : s.raluskState ≠ 0) (hlimit : s.ral.limit = false)
include hon hst hlimit

theorem exec_watchdogMiss_restarts (h : s.recentRestarts.length < 2) :
    exec .watchdogMiss s =
      .next ((((s.modRal fun r => { r with restarts := s.recentRestarts ++ [s.ns] }).count Pg.ralusk
        R.CNT_RALUSK_RESTARTS).raluskLoads.raise Pg.ralusk K.RALUSK_RESTART
          (s.recentRestarts.length + 1)).trialHalted).flushSinks.settle :=
  finishAll_of_eq (congrArg trialHalted (watchdogMissed_restarts hon hst hlimit h))

theorem exec_watchdogMiss_halts (h : 2 ≤ s.recentRestarts.length) :
    exec .watchdogMiss s =
      .next ((((s.modRal fun r =>
        { r with restarts := s.recentRestarts ++ [s.ns], limit := true, haltSeen := false }).raluskTo 3).raise Pg.ralusk
          K.RALUSK_HALTED 0).trialHalted).flushSinks.settle :=
  finishAll_of_eq (congrArg trialHalted (watchdogMissed_halts hon hst hlimit h))

end

end Sys2Proof.Machine
end
